-- ==== Sys2Proof/Word.lean ====
section
/-! DEFINITION. The word types of the CD-6340 (00 R14, R420): bytes, half words, words, double words. -/

namespace Sys2Proof

/-- One byte. -/
abbrev Byte := BitVec 8

/-- A 16-bit word: opcodes, tags, Q15 fractions and 16-bit turns (R14). -/
abbrev Half := BitVec 16

/-- A 32-bit word: registers and result words. -/
abbrev Word := BitVec 32

/-- A 64-bit word: DTB nanoseconds since the epoch (R534) and EIC registers (R486). -/
abbrev DWord := BitVec 64

/-- A Q15 fraction, read with `BitVec.toInt` in units of 2^-15 (R14). -/
abbrev Q15 := BitVec 16

end Sys2Proof
end

