-- ==== Sys2Proof/Syntax.lean ====
section
/-! DEFINITION. The commands of the block: one constructor of `Instr` per row of spec/opcode_table.json.
A packet row carries the packet as the controller read it from the ring (10 R419, R420); an event row carries the unit
it concerns and the data that comes from outside the device with it. -/

namespace Sys2Proof

/-- A packet as read from a command ring (10 R419, R420, Tables 10-8 and 10-9), without its opcode, which is the
constructor's. `index` and `lap` are the position of its header granule in the ring (Table 10-10, Index). -/
structure Pkt where
  qp        : Fin 16
  flags     : Half
  tag       : Half
  len       : Half
  target    : Half
  barrier   : Half
  resv      : Word
  notBefore : DWord
  params    : List Byte
  payload   : List Byte
  index     : Half
  lap       : Bool
  deriving DecidableEq, Repr

/-- One input of a slot at one input instant (07 R313, R314): a SAR result with its self-check, or the bits of a sinc3
window in order of time. -/
inductive Conv where
  | sar (code : Half) (ok : Bool)
  | dsm (bits : List Bool)
  deriving DecidableEq, Repr

/-- The inputs a slot took in the frame that ends now, the newest first (07 R314); for a modulator with a clock of its own,
how far the first edge of the newest window lies from the frame instant, in 125 ps steps (R313), and its clock period as
received, in 1/256 of a step (R324). -/
structure SlotInput where
  slot  : Fin 48
  convs : List Conv
  edge  : Int := 0
  clock : Nat := 0
  deriving DecidableEq, Repr

/-- What a gate link's uplink delivers as a frame: the link and the code groups received (06 R256 to R258). -/
structure UplinkFrame where
  link : Fin 24
  groups : List (BitVec 5)
  deriving DecidableEq, Repr, Inhabited

/-- A channel of the upset rule (14 Table 14-1): kind and unit number. -/
structure ChanRef where
  kind : Fin 13
  unit : Word
  deriving DecidableEq, Repr

/-- A failing test of a Cones round (14 Table 14-7): its number and the channel whose upset it counts as. -/
structure TestFail where
  test : Fin 9
  chan : Option ChanRef
  deriving DecidableEq, Repr

/-- The commands, in the table's order. -/
inductive Instr where
  /-- ADMIN_NOP (R451). -/
  | adminNop (p : Pkt)
  /-- IDENTIFY (R7). -/
  | identify (p : Pkt)
  /-- ADMIN_PAD (R421). -/
  | adminPad (p : Pkt)
  /-- ADMIN_EVENT_WAIT (R452). -/
  | adminEventWait (p : Pkt)
  /-- ADMIN_ABORT (R454). -/
  | adminAbort (p : Pkt)
  /-- REINSTATE (R585). -/
  | reinstate (p : Pkt)
  /-- FENCE (R440). -/
  | fence (p : Pkt)
  /-- BARRIER (R442). -/
  | barrier (p : Pkt)
  /-- BRIDGE_DEFINE (R19). -/
  | bridgeDefine (p : Pkt)
  /-- BRIDGE_SET_ROLE (R25). -/
  | bridgeSetRole (p : Pkt)
  /-- BRIDGE_BIND (R47). -/
  | bridgeBind (p : Pkt)
  /-- BRIDGE_ARM (R32). -/
  | bridgeArm (p : Pkt)
  /-- BRIDGE_DISARM (R31). -/
  | bridgeDisarm (p : Pkt)
  /-- BRIDGE_PRECHARGE (R36). -/
  | bridgePrecharge (p : Pkt)
  /-- BRIDGE_START (R40). -/
  | bridgeStart (p : Pkt)
  /-- BRIDGE_STOP (R41). -/
  | bridgeStop (p : Pkt)
  /-- BRIDGE_SAFE (R46). -/
  | bridgeSafe (p : Pkt)
  /-- BRIDGE_RECOVER (R43). -/
  | bridgeRecover (p : Pkt)
  /-- BRIDGE_STATUS (R48). -/
  | bridgeStatus (p : Pkt)
  /-- BRIDGE_BIND_IMAGE (R58). -/
  | bridgeBindImage (p : Pkt)
  /-- GF_CONFIG (R98). -/
  | gfConfig (p : Pkt)
  /-- GF_TUNE (R102). -/
  | gfTune (p : Pkt)
  /-- GF_SETPOINT (R112). -/
  | gfSetpoint (p : Pkt)
  /-- GF_SECONDARY (R113). -/
  | gfSecondary (p : Pkt)
  /-- GF_STATUS (R114). -/
  | gfStatus (p : Pkt)
  /-- LOOP_CONFIG (R162). -/
  | loopConfig (p : Pkt)
  /-- LOOP_COEF_LOAD (R168). -/
  | loopCoefLoad (p : Pkt)
  /-- LOOP_COEF_SWAP (R169). -/
  | loopCoefSwap (p : Pkt)
  /-- LOOP_TABLE_LOAD (R176). -/
  | loopTableLoad (p : Pkt)
  /-- LOOP_TABLE_SWAP (R177). -/
  | loopTableSwap (p : Pkt)
  /-- LOOP_STATE_SET (R206). -/
  | loopStateSet (p : Pkt)
  /-- LOOP_SETPOINT (R203). -/
  | loopSetpoint (p : Pkt)
  /-- LOOP_SUBST (R192). -/
  | loopSubst (p : Pkt)
  /-- LOOP_INJECT (R197). -/
  | loopInject (p : Pkt)
  /-- LOOP_INJECT_STOP (R208). -/
  | loopInjectStop (p : Pkt)
  /-- LOOP_STATUS (R210). -/
  | loopStatus (p : Pkt)
  /-- LOOP_UNLOAD (R204). -/
  | loopUnload (p : Pkt)
  /-- PWM_CARRIER (R724). -/
  | pwmCarrier (p : Pkt)
  /-- PWM_EDGES (R225). -/
  | pwmEdges (p : Pkt)
  /-- PWM_PERIOD (R232). -/
  | pwmPeriod (p : Pkt)
  /-- PWM_BOOT (R234). -/
  | pwmBoot (p : Pkt)
  /-- PWM_TRIP_CONFIG (R240). -/
  | pwmTripConfig (p : Pkt)
  /-- PWM_STATUS (R248). -/
  | pwmStatus (p : Pkt)
  /-- GATE_PROFILE (R255). -/
  | gateProfile (p : Pkt)
  /-- GATE_ADAPT (R298). -/
  | gateAdapt (p : Pkt)
  /-- GATE_STATUS (R304). -/
  | gateStatus (p : Pkt)
  /-- GATE_TELEM (R305). -/
  | gateTelem (p : Pkt)
  /-- GATE_BOOSTER_RW (R303). -/
  | gateBoosterRw (p : Pkt)
  /-- PUG_SLOT_CONFIG (R335). -/
  | pugSlotConfig (p : Pkt)
  /-- PUG_FIR_LOAD (R321). -/
  | pugFirLoad (p : Pkt)
  /-- PUG_FIR_SWAP (R322). -/
  | pugFirSwap (p : Pkt)
  /-- PUG_DSM_CLOCK (R309). -/
  | pugDsmClock (p : Pkt)
  /-- PUG_TIMER (R312). -/
  | pugTimer (p : Pkt)
  /-- PUG_POS_CONFIG (R334). -/
  | pugPosConfig (p : Pkt)
  /-- PUG_RECAL (R339). -/
  | pugRecal (p : Pkt)
  /-- PUG_READ (R343). -/
  | pugRead (p : Pkt)
  /-- PUG_STATUS (R344). -/
  | pugStatus (p : Pkt)
  /-- CAP_CONFIG (R362). -/
  | capConfig (p : Pkt)
  /-- CAP_ARM (R365). -/
  | capArm (p : Pkt)
  /-- CAP_DISARM (R366). -/
  | capDisarm (p : Pkt)
  /-- CAP_FORCE (R367). -/
  | capForce (p : Pkt)
  /-- CAP_READ (R369). -/
  | capRead (p : Pkt)
  /-- CAP_STATUS (R372). -/
  | capStatus (p : Pkt)
  /-- CAP_RELEASE (R370). -/
  | capRelease (p : Pkt)
  /-- SAFE_STAGE (R404). -/
  | safeStage (p : Pkt)
  /-- SAFE_CONFIRM (R406). -/
  | safeConfirm (p : Pkt)
  /-- SAFE_STATUS (R413). -/
  | safeStatus (p : Pkt)
  /-- SAFE_OUTPUT (R410). -/
  | safeOutput (p : Pkt)
  /-- SAFE_READ (R414). -/
  | safeRead (p : Pkt)
  /-- SAFE_REQUEST (R409). -/
  | safeRequest (p : Pkt)
  /-- WHEEL_CONFIG (R469). -/
  | wheelConfig (p : Pkt)
  /-- WHEEL_CONTEXT (R478). -/
  | wheelContext (p : Pkt)
  /-- WHEEL_READY (R466). -/
  | wheelReady (p : Pkt)
  /-- WHEEL_DELAY (R470). -/
  | wheelDelay (p : Pkt)
  /-- WHEEL_WAIT (R471). -/
  | wheelWait (p : Pkt)
  /-- WHEEL_CANCEL (R474). -/
  | wheelCancel (p : Pkt)
  /-- WHEEL_SIGNAL (R472). -/
  | wheelSignal (p : Pkt)
  /-- WHEEL_SIGMAP (R473). -/
  | wheelSigmap (p : Pkt)
  /-- WHEEL_STATUS (R480). -/
  | wheelStatus (p : Pkt)
  /-- WHEEL_RELEASE (R461). -/
  | wheelRelease (p : Pkt)
  /-- CYC_CONFIG (R526). -/
  | cycConfig (p : Pkt)
  /-- CYC_LOAD (R516). -/
  | cycLoad (p : Pkt)
  /-- CYC_VERIFY (R517). -/
  | cycVerify (p : Pkt)
  /-- CYC_CHANGE (R518). -/
  | cycChange (p : Pkt)
  /-- CYC_MODE (R508). -/
  | cycMode (p : Pkt)
  /-- CYC_STATION (R500). -/
  | cycStation (p : Pkt)
  /-- CYC_FORCE (R522). -/
  | cycForce (p : Pkt)
  /-- CYC_READ (R524). -/
  | cycRead (p : Pkt)
  /-- CYC_WRITE (R524). -/
  | cycWrite (p : Pkt)
  /-- CYC_DEBUG (R528). -/
  | cycDebug (p : Pkt)
  /-- CYC_STORE (R530). -/
  | cycStore (p : Pkt)
  /-- CYC_DISCARD (R531). -/
  | cycDiscard (p : Pkt)
  /-- CYC_STATUS (R529). -/
  | cycStatus (p : Pkt)
  /-- TIME_ADJ (R538). -/
  | timeAdj (p : Pkt)
  /-- TIME_STEP (R540). -/
  | timeStep (p : Pkt)
  /-- TIME_SOURCE (R576). -/
  | timeSource (p : Pkt)
  /-- TIME_PTP_CONFIG (R543). -/
  | timePtpConfig (p : Pkt)
  /-- TIME_STATUS (R577). -/
  | timeStatus (p : Pkt)
  /-- NET_TX (R549). -/
  | netTx (p : Pkt)
  /-- NET_RX (R548). -/
  | netRx (p : Pkt)
  /-- NET_FILTER (R547). -/
  | netFilter (p : Pkt)
  /-- NET_GCL (R551). -/
  | netGcl (p : Pkt)
  /-- NET_STATUS (R577). -/
  | netStatus (p : Pkt)
  /-- NR_PUBLISH (R576). -/
  | nrPublish (p : Pkt)
  /-- NR_TELEM_READ (R576). -/
  | nrTelemRead (p : Pkt)
  /-- NR_SEND (R570). -/
  | nrSend (p : Pkt)
  /-- NR_RECV (R571). -/
  | nrRecv (p : Pkt)
  /-- NR_STATUS (R577). -/
  | nrStatus (p : Pkt)
  /-- DPX_REPORT (R612). -/
  | dpxReport (p : Pkt)
  /-- DPX_SWITCH (R601). -/
  | dpxSwitch (p : Pkt)
  /-- DPX_HEALTH (R613). -/
  | dpxHealth (p : Pkt)
  /-- FLT_CONFIG (R614). -/
  | fltConfig (p : Pkt)
  /-- FLT_LOG_READ (R615). -/
  | fltLogRead (p : Pkt)
  /-- FLT_STATUS (R616). -/
  | fltStatus (p : Pkt)
  /-- FW_LOAD (R653). -/
  | fwLoad (p : Pkt)
  /-- FW_VERIFY (R654). -/
  | fwVerify (p : Pkt)
  /-- FW_ACTIVATE (R655). -/
  | fwActivate (p : Pkt)
  /-- FW_CONFIRM (R657). -/
  | fwConfirm (p : Pkt)
  /-- FW_STATUS (R671). -/
  | fwStatus (p : Pkt)
  /-- CAL_WRITE (R659). -/
  | calWrite (p : Pkt)
  /-- CAL_READ (R661). -/
  | calRead (p : Pkt)
  /-- CAL_EXPORT (R662). -/
  | calExport (p : Pkt)
  /-- CAL_IMPORT (R663). -/
  | calImport (p : Pkt)
  /-- SVC_LOAD (R664). -/
  | svcLoad (p : Pkt)
  /-- EIC_SUBMIT (R498). -/
  | eicSubmit (r : Fin 5)
  /-- EIC_POLL (R498). -/
  | eicPoll (r : Fin 5)
  /-- EIC_READY (R499). -/
  | eicReady (r : Fin 5)
  /-- EIC_SIGNAL (R499). -/
  | eicSignal (r : Fin 5)
  /-- RDTIME (R490). -/
  | rdtime (r : Fin 5)
  /-- RDCNT (R490). -/
  | rdcnt (r : Fin 5)
  /-- TRACE (R490). -/
  | trace (r : Fin 5)
  /-- THREAD_END (R668). -/
  | threadEnd (c : Fin 4)
  /-- THREAD_READY (R668). -/
  | threadReady (c : Fin 4) (ctx : Word)
  /-- THREAD_SIGNAL (R668). -/
  | threadSignal (c : Fin 4) (mask : Word)
  /-- THREAD_DELAY (R668). -/
  | threadDelay (c : Fin 4) (n : Word)
  /-- THREAD_WAIT (R668). -/
  | threadWait (c : Fin 4) (mask tmo : Word)
  /-- THREAD_SUBMIT (R668). -/
  | threadSubmit (c : Fin 4) (qp : Word) (bytes : List Byte)
  /-- THREAD_POLL (R668). -/
  | threadPoll (c : Fin 4) (qp addr : Word)
  /-- THREAD_TIME (R668). -/
  | threadTime (c : Fin 4)
  /-- THREAD_IMAGE_READ (R668). -/
  | threadImageRead (c : Fin 4) (ofs count addr : Word)
  /-- THREAD_FAULT (R669). -/
  | threadFault (c : Fin 4)
  /-- COMMAND_TAIL_WRITE (R423). -/
  | commandTailWrite (qp : Fin 16) (t : Word)
  /-- COMPLETION_HEAD_WRITE (R429). -/
  | completionHeadWrite (qp : Fin 16) (h : Word)
  /-- QP_RESUME (R448). -/
  | qpResume (qp : Fin 16)
  /-- QP_RESET (R449). -/
  | qpReset (qp : Fin 16)
  /-- SETUP_LOCK (R683). -/
  | setupLock (v : Word)
  /-- SETUP_LOCK_EFFECT (R649). -/
  | setupLockEffect
  /-- PROFILE_SAVE (R684). -/
  | profileSave (ok : Bool)
  /-- REGISTER_WRITE (R13). -/
  | registerWrite (off v : Word)
  /-- TIME_SNAP_READ (R535). -/
  | timeSnapRead
  /-- PWR_AON_LO_READ (R626). -/
  | pwrAonLoRead
  /-- WINDOW_WORD0_READ (R687). -/
  | windowWord0Read (cls : Fin 17) (unit : Fin 128)
  /-- DBG_REQ (R708). -/
  | dbgReq (v : Word)
  /-- DBG_SUBMIT (R709). -/
  | dbgSubmit
  /-- DBG_REVOKE (R710). -/
  | dbgRevoke
  /-- DBG_LOCKOUT_END (R709). -/
  | dbgLockoutEnd
  /-- DBG_ATEST_WRITE (R714). -/
  | dbgAtestWrite (v : Word)
  /-- DBG_AUTH (R716). -/
  | dbgAuth (dr : BitVec 40)
  /-- EXTEST (R717). -/
  | extest
  /-- EXTEST_END (R719). -/
  | extestEnd
  /-- DBG_MBOX (R720). -/
  | dbgMbox (bytes : List Byte) (first last : Bool)
  /-- IDCODE (R715). -/
  | idcode
  /-- BYPASS (R715). -/
  | bypass
  /-- SAMPLE_PRELOAD (R715). -/
  | samplePreload
  /-- PACKET_FETCH (R423). -/
  | packetFetch (qp : Fin 16) (bytes : List Byte)
  /-- NOT_BEFORE_REACHED (R437). -/
  | notBeforeReached (qp : Fin 16) (tag : Half)
  /-- LATE_WINDOW_EXPIRY (R438). -/
  | lateWindowExpiry (qp : Fin 16) (tag : Half)
  /-- IRQ_MOD_TIME (R434). -/
  | irqModTime (qp : Fin 16)
  /-- RING_READ_FAIL (R445). -/
  | ringReadFail (qp : Fin 16) (addr : DWord)
  /-- BARRIER_TIMEOUT (R442). -/
  | barrierTimeout (ident : Fin 8)
  /-- HOST_UNAVAILABLE (R645). -/
  | hostUnavailable (linkUp bme : Bool)
  /-- CARRIER_EVENT (R212). -/
  | carrierEvent (b : Fin 8)
  /-- TRIP_SOURCE_ACTIVE (R242). -/
  | tripSourceActive (src : Fin 16)
  /-- TRIP_BREAK (R264). -/
  | tripBreak (g : Fin 24)
  /-- FAULT_CODE_RECEIVED (R266). -/
  | faultCodeReceived (g : Fin 24) (group : Option (BitVec 5))
  /-- BLANK_WINDOW_CLOSE (R282). -/
  | blankWindowClose (sw : Fin 48)
  /-- ALERT_SYMBOL (R263). -/
  | alertSymbol (g : Fin 24) (group : BitVec 5)
  /-- BOOT_LOW (R292). -/
  | bootLow (g : Fin 24)
  /-- FORCED_REFRESH_END (R293). -/
  | forcedRefreshEnd (g : Fin 24)
  /-- STATUS_FRAME (R261). -/
  | statusFrame (g : Fin 24) (supply temp status : Byte)
  /-- EDGE_FRAME (R262). -/
  | edgeFrame (g : Fin 24) (second off : Bool) (entry exit : BitVec 12)
  /-- READ_DATA_FRAME (R303). -/
  | readDataFrame (g : Fin 24) (addr data : Byte)
  /-- ACK_FRAME (R267). -/
  | ackFrame (g : Fin 24) (result : Byte)
  /-- COMMIT_ACK_TIMEOUT (R267). -/
  | commitAckTimeout (g : Fin 24)
  /-- UPLINK_FRAME_DISCARD (R258). -/
  | uplinkFrameDiscard (f : UplinkFrame)
  /-- STATUS_TIMEOUT (R279). -/
  | statusTimeout (g : Fin 24)
  /-- TRAINING_COMPLETE (R278). -/
  | trainingComplete (g : Fin 24) (ident caps : Byte) (acked : Bool)
  /-- ARM_TIMEOUT (R32). -/
  | armTimeout (b : Fin 8)
  /-- PRECHARGE_DONE (R36). -/
  | prechargeDone (b : Fin 8)
  /-- PRECHARGE_TIMEOUT (R37). -/
  | prechargeTimeout (b : Fin 8)
  /-- PRECHARGE_TIMED_DONE (R39). -/
  | prechargeTimedDone (b : Fin 8)
  /-- STOP_RAMP_END (R41). -/
  | stopRampEnd (b : Fin 8)
  /-- SSL_LOSS (R384). -/
  | sslLoss (b : Fin 8)
  /-- LOOP_SAMPLE (R159). -/
  | loopSample (c : Fin 24)
  /-- COMMIT_DEADLINE_OVERRUN (R186). -/
  | commitDeadlineOverrun (c : Fin 24)
  /-- SUBST_TIMEOUT (R190). -/
  | substTimeout (c : Fin 24)
  /-- INJECTION_END (R201). -/
  | injectionEnd (c : Fin 24)
  /-- GF_OUTER_STEP (R73). -/
  | gfOuterStep (g : Fin 4)
  /-- GF_LIMIT_RELEASE (R84). -/
  | gfLimitRelease (g : Fin 4)
  /-- GF_RT_TIMEOUT (R87). -/
  | gfRtTimeout (g : Fin 4)
  /-- GF_W_FAULT (R74). -/
  | gfWFault (g : Fin 4)
  /-- SEC_EXPIRED (R94). -/
  | secExpired (g : Fin 4)
  /-- DEAD_BUS_SET (R122). -/
  | deadBusSet (g : Fin 4)
  /-- HOLDOFF_END (R130). -/
  | holdoffEnd (g : Fin 4)
  /-- WAIT_LIVE_QUALIFIED (R133). -/
  | waitLiveQualified (g : Fin 4)
  /-- JOIN_WINDOWS_QUALIFIED (R135). -/
  | joinWindowsQualified (g : Fin 4)
  /-- JOIN_FB_RISE (R140). -/
  | joinFbRise (g : Fin 4)
  /-- JOIN_FB_FALL (R139). -/
  | joinFbFall (g : Fin 4)
  /-- CONTACTOR_ASSUMED_CLOSED (R121). -/
  | contactorAssumedClosed (g : Fin 4)
  /-- CONTACTOR_TIMEOUT (R138). -/
  | contactorTimeout (g : Fin 4)
  /-- RETRY_WAIT_END (R138). -/
  | retryWaitEnd (g : Fin 4)
  /-- DETACHMENT (R144). -/
  | detachment (g : Fin 4)
  /-- PUG_FRAME (R313). -/
  | pugFrame (src : Fin 10) (inputs : List SlotInput)
  /-- SLOT_OUTPUT_READY (R325). -/
  | slotOutputReady (slot : Fin 48)
  /-- RESOLVER_PERIOD (R332). -/
  | resolverPeriod (n : Fin 4) (pairs : Vector (Half × Half) 16)
  /-- Z_EDGE (R331). -/
  | zEdge (n : Fin 4)
  /-- MEASUREMENT_UPSET (R336). -/
  | measurementUpset (kind : Fin 3) (unit : Fin 48)
  /-- RETRY_RUN_END (R579). -/
  | retryRunEnd (kind : Fin 13) (unit : Word) (ok : Bool)
  /-- BUCKET_LEAK (R581). -/
  | bucketLeak (kind : Fin 13) (unit : Word)
  /-- ECC_ERROR (R584). -/
  | eccError (page : Word) (corrected retryOk : Bool)
  /-- RECAL_END (R340). -/
  | recalEnd (off gain : Half)
  /-- CAP_SAMPLE_CLOSE (R346). -/
  | capSampleClose (u : Fin 4)
  /-- CAP_EXT_EDGE (R357). -/
  | capExtEdge (n : Fin 2)
  /-- CAPTURE_UPSET (R373). -/
  | captureUpset (u : Fin 4)
  /-- SIN_FILTERED_CHANGE (R376). -/
  | sinFilteredChange (chB : Bool) (sin : Fin 8) (level : Bool)
  /-- DISCREPANCY_LATCH (R394). -/
  | discrepancyLatch (chB : Bool) (f : Fin 4)
  /-- SS1_SAFE_INSTANT (R387). -/
  | ss1SafeInstant (chB : Bool) (f : Fin 4)
  /-- SBC_DELAY_EXPIRY (R392). -/
  | sbcDelayExpiry (chB : Bool) (out : Fin 2)
  /-- SAFE_EN_FALL (R299). -/
  | safeEnFall
  /-- SAFE_EN_TOGGLE (R397). -/
  | safeEnToggle (takenA takenB : Bool) (tripPins : Byte)
  /-- BLOCK_COMMIT (R406). -/
  | blockCommit (ok : Bool)
  /-- CONFIRM_WINDOW_EXPIRY (R406). -/
  | confirmWindowExpiry
  /-- SAG_EXCHANGE (R382). -/
  | sagExchange (received : Bool)
  /-- SAGGAR_INTERNAL_FAULT (R401). -/
  | saggarInternalFault
  /-- LOCKSTEP_MISMATCH (R401). -/
  | lockstepMismatch
  /-- WHEEL_CYCLE (R460). -/
  | wheelCycle
  /-- DELAY_EXPIRY (R470). -/
  | delayExpiry
  /-- WAIT_TIMEOUT (R471). -/
  | waitTimeout (c : Fin 128)
  /-- EVENT_TASK_END (R464). -/
  | eventTaskEnd
  /-- CYCLE_START (R495). -/
  | cycleStart (k : Fin 4)
  /-- CYCLE_END (R495). -/
  | cycleEnd (k : Fin 4)
  /-- OUTPUT_WINDOW (R501). -/
  | outputWindow (k : Fin 4)
  /-- KILN_SITTER_TRIP (R514). -/
  | kilnSitterTrip
  /-- CHANGE_SWITCH (R518). -/
  | changeSwitch
  /-- IMAGE_BOOT_LOAD (R506). -/
  | imageBootLoad
  /-- INCR_CHANGE (R539). -/
  | incrChange
  /-- DURATION_EXPIRY (R538). -/
  | durationExpiry
  /-- TIME_STEP_EFFECT (R540). -/
  | timeStepEffect
  /-- GCL_SWITCH (R551). -/
  | gclSwitch (port : Fin 2)
  /-- ETH_FRAME_RECEIVED (R546). -/
  | ethFrameReceived (port : Fin 2) (bytes : List Byte) (sec : DWord) (ns : Word) (sub : Half)
  /-- FRAME_TRANSMITTED (R455). -/
  | frameTransmitted (port : Fin 2) (sec : DWord) (ns : Word) (sub : Half)
  /-- NET_TX_TIMEOUT (R549). -/
  | netTxTimeout (port : Fin 2)
  /-- ETH_LINK_CHANGE (R544). -/
  | ethLinkChange (port : Fin 2) (up : Bool) (speed : BitVec 2)
  /-- ETH_PORT_UPSET (R574). -/
  | ethPortUpset (port : Fin 2)
  /-- RING_CYCLE (R556). -/
  | ringCycle
  /-- TIME_FRAME (R558). -/
  | timeFrame (nb : Bool) (src hops : BitVec 4) (payload : List Byte)
  /-- DELAY_TIMER (R559). -/
  | delayTimer
  /-- DELAY_FRAME (R559). -/
  | delayFrame (nb : Bool) (response : Bool) (turnaround : BitVec 24)
  /-- HEARTBEAT_FRAME (R560). -/
  | heartbeatFrame (nb : Bool) (src hops : BitVec 4) (payload : List Byte)
  /-- TELEMETRY_FRAME (R561). -/
  | telemetryFrame (nb : Bool) (src hops : BitVec 4) (record : List Byte)
  /-- MIRROR_FRAME (R599). -/
  | mirrorFrame (nb : Bool) (src hops : BitVec 4) (payload : List Byte)
  /-- FRAGMENT_FRAME (R563). -/
  | fragmentFrame (nb : Bool) (src hops : BitVec 4) (payload : List Byte)
  /-- RING_ACK_FRAME (R563). -/
  | ringAckFrame (nb : Bool) (src hops : BitVec 4) (dest msg result : Byte)
  /-- NR_SEND_TIMEOUT (R570). -/
  | nrSendTimeout
  /-- WAKE_FRAME (R564). -/
  | wakeFrame (nb : Bool) (src hops : BitVec 4) (target : Byte)
  /-- RING_FRAME_DISCARD (R557). -/
  | ringFrameDiscard (nb : Bool)
  /-- NODE_LOST (R565). -/
  | nodeLost (node : Fin 16)
  /-- MASTER_ELECTION (R566). -/
  | masterElection
  /-- ALIGNED_CHANGE (R567). -/
  | alignedChange
  /-- RING_PORT_UPSET (R574). -/
  | ringPortUpset (nb : Bool)
  /-- RING_RELAYS_ENERGISE (R572). -/
  | ringRelaysEnergise
  /-- RING_INSERTED (R572). -/
  | ringInserted (closed : Bool)
  /-- RING_INSERT_TIMEOUT (R572). -/
  | ringInsertTimeout
  /-- PAIRING_TIMEOUT (R592). -/
  | pairingTimeout
  /-- STATE_TRANSFER_DONE (R594). -/
  | stateTransferDone
  /-- FORWARD_TIMEOUT (R595). -/
  | forwardTimeout (qp : Fin 16) (tag : Half)
  /-- HANDOVER_COMMIT (R602). -/
  | handoverCommit (b : Fin 8)
  /-- HANDOVER_OWN (R602). -/
  | handoverOwn (b : Fin 8)
  /-- HANDOVER_ABANDON (R604). -/
  | handoverAbandon
  /-- STAND_DOWN (R608). -/
  | standDown (g : Fin 24)
  /-- CONES_ROUND (R589). -/
  | conesRound (failed : List TestFail)
  /-- FEED_OUT_OF_WINDOW (R618). -/
  | feedOutOfWindow (vfb : Bool) (level : Byte)
  /-- FEED_RECONNECT (R619). -/
  | feedReconnect (vfb : Bool) (level : Byte)
  /-- POWER_FAIL (R623). -/
  | powerFail
  /-- POWER_FAIL_END (R623). -/
  | powerFailEnd
  /-- POWER_ON (R647). -/
  | powerOn (vfa vfb vhold vbak : Byte)
  /-- RESET_N_LOW (R646). -/
  | resetNLow
  /-- RESET_N_RISE (R631). -/
  | resetNRise
  /-- BOOT_READY (R647). -/
  | bootReady (selfTestFails : List ChanRef)
  /-- READY_RETURN (R628). -/
  | readyReturn
  /-- SLEEP (R629). -/
  | sleep
  /-- WAKE_PIN (R631). -/
  | wakePin
  /-- WAKE_INTERVAL (R631). -/
  | wakeInterval
  /-- WATCH_CONVERSION (R630). -/
  | watchConversion (code : Half)
  /-- PLL_LOCK_LOSS (R640). -/
  | pllLockLoss (n : Fin 5)
  /-- PLL_RELOCK_START (R640). -/
  | pllRelockStart (n : Fin 5)
  /-- PLL_LOCK_DECLARED (R635). -/
  | pllLockDeclared (n : Fin 5)
  /-- PLL_RELOCK_TIMEOUT (R641). -/
  | pllRelockTimeout (n : Fin 5)
  /-- PLL_HOLDOVER_TIMEOUT (R640). -/
  | pllHoldoverTimeout
  /-- REF_SWITCH_TO_RING (R633). -/
  | refSwitchToRing
  /-- REF_CLOCK_LOSS (R634). -/
  | refClockLoss
  /-- NOR_WRITE_DONE (R651). -/
  | norWriteDone (ok : Bool)
  /-- PCIE_LINK_UP (R448). -/
  | pcieLinkUp (rate : BitVec 3) (width : BitVec 2)
  /-- QUADRATURE_EDGE (R331). -/
  | quadratureEdge (n : Fin 4) (a b : Bool)
  /-- GATE_CONTROL_ENTRY (R550). -/
  | gateControlEntry (port : Fin 2)
  /-- RING_INSERT_RETRY (R572). -/
  | ringInsertRetry
  /-- PTP_SYNC_INTERVAL (R543). -/
  | ptpSyncInterval (kind : Fin 3)
  deriving DecidableEq, Repr

end Sys2Proof
end

