-- ==== Sys2Proof/Config.lean ====
section
/-! DEFINITION. What the spec leaves open: free values, as constants with no body (log 3). A claim holds whatever they
are. The first argument of most tells the place that draws, the second the operands or a counter. -/

namespace Sys2Proof

/-- A free value: the place that draws it, and the draw's number (`State.freeSeed`). -/
opaque Config.free (place draw : Nat) : Nat

/-- The value in which a grid-forming engine, a tracker or a demodulator keeps an exact result; the spec gives no internal
precision (02 R73 to R79, 07 R332, R333). The first argument names the quantity. -/
opaque Config.gfPrec (quantity : Nat) (exact : Rat) : Rat

/-- Which of two neighbouring Q15 values a derived loop-engine value takes where 24 fraction bits do not decide it
(04 R723). -/
opaque Config.loopErr (place : Nat) (operands : List Int) : Nat

/-- What the 40-bit accumulator of a slot holds for a sum beyond its range (07 R319). -/
opaque Config.overflow40 (sum : Int) : Int

/-- Whether an ECDSA P-384 signature over the bytes verifies against a key (16 R654, R663, R664; 19 R708), and the
SHA-384 hash of bytes. -/
opaque Config.verify (key : List Byte) (message signature : List Byte) : Bool
opaque Config.sha384 (bytes : List Byte) : List Byte

/-- Irette's key hashes in the boot ROM (19 R708) and the device's own signature and its check (16 R662, R663). -/
opaque Config.iretteKey (key : List Byte) : Bool
opaque Config.deviceSign (message : List Byte) : List Byte
opaque Config.deviceVerify (message signature : List Byte) : Bool

/-- A cyclic task of a program image (12 Table 12-1, R482): cycle time in µs, entry code offset, and input and output areas
in words. -/
structure EicTask where
  period : Nat
  entry : Nat
  inOfs : Nat
  inLen : Nat
  outOfs : Nat
  outLen : Nat
  deriving DecidableEq, Repr, Inhabited

/-- A variable of a symbol table (12 R485): identity, type code, element count, structure signature and size in bytes of one
element, space, address, and owning task (0 to 3 cyclic, 4 + e event). -/
structure EicSymbol where
  id : Nat
  type : Nat
  count : Nat
  sig : Nat
  size : Nat
  space : Nat
  addr : Nat
  owner : Option Nat
  deriving DecidableEq, Repr, Inhabited

/-- What a program image's tables say, whose byte layout the spec does not give (12 Table 12-1): task table, symbol table,
queue-pair map, initial retain values; and the layout of the verifier's report (12 R517). -/
opaque Config.eicCyclic (image : List Byte) (k : Nat) : EicTask
opaque Config.eicEvent (image : List Byte) (e : Nat) : Nat
opaque Config.eicSymbols (image : List Byte) : List EicSymbol
opaque Config.eicQueue (image : List Byte) (q : Nat) : Option Nat
opaque Config.eicRetain (image : List Byte) : List Byte
opaque Config.eicReport (values : List Nat) : List Byte

/-- Functions of a REAL beyond the correctly rounded ones, and the payload of a NaN result (12 R488, R490). -/
opaque Config.eicReal (op : Nat) (b c : Word) : Word
opaque Config.eicNaN (op : Nat) (b c : Word) : Word

/-- What a message between duplex partners says, whose layout the spec does not give (14 R594, R595, R597): the standby's
status of a forwarded packet, a packet forwarded or replayed, or the partner's health word, safety check value, whether a unit
that a duplexed bridge needs is retired there, and whether its gate links are live. -/
inductive DpxMsg where
  | result (qp tag status : Nat)
  | packet (bytes : List Byte)
  | health (word check : Word) (needs links : Bool)
  deriving DecidableEq, Repr, Inhabited

opaque Config.dpxMessage (message : List Byte) : Option DpxMsg

/-- The header of a firmware image, whose byte layout the spec does not give (16 R652): `FW_VERSION`, `SEC_VER`, and whether
its signature verifies. -/
opaque Config.fwHeader (image : List Byte) : Nat × Nat × Bool

end Sys2Proof
end

