-- ==== Sys2Proof/WellFormed.lean ====
section
/-! DEFINITION. Commands a sender can spell: a packet carries its 40 parameter bytes and as many payload bytes as its
length field says; a register offset is a multiple of 4 inside BAR0; wire frames have the lengths their chapters give. -/

namespace Sys2Proof

/-- A packet as the controller can have read it from a ring (10 R419, R420). -/
def Pkt.wf (p : Pkt) : Bool := decide (p.params.length = 40) && decide (p.payload.length = p.len.toNat)

/-- The packet of a packet command. -/
def Instr.pkt : Instr → Option Pkt
  | .adminNop p => some p
  | .identify p => some p
  | .adminPad p => some p
  | .adminEventWait p => some p
  | .adminAbort p => some p
  | .reinstate p => some p
  | .fence p => some p
  | .barrier p => some p
  | .bridgeDefine p => some p
  | .bridgeSetRole p => some p
  | .bridgeBind p => some p
  | .bridgeArm p => some p
  | .bridgeDisarm p => some p
  | .bridgePrecharge p => some p
  | .bridgeStart p => some p
  | .bridgeStop p => some p
  | .bridgeSafe p => some p
  | .bridgeRecover p => some p
  | .bridgeStatus p => some p
  | .bridgeBindImage p => some p
  | .gfConfig p => some p
  | .gfTune p => some p
  | .gfSetpoint p => some p
  | .gfSecondary p => some p
  | .gfStatus p => some p
  | .loopConfig p => some p
  | .loopCoefLoad p => some p
  | .loopCoefSwap p => some p
  | .loopTableLoad p => some p
  | .loopTableSwap p => some p
  | .loopStateSet p => some p
  | .loopSetpoint p => some p
  | .loopSubst p => some p
  | .loopInject p => some p
  | .loopInjectStop p => some p
  | .loopStatus p => some p
  | .loopUnload p => some p
  | .pwmCarrier p => some p
  | .pwmEdges p => some p
  | .pwmPeriod p => some p
  | .pwmBoot p => some p
  | .pwmTripConfig p => some p
  | .pwmStatus p => some p
  | .gateProfile p => some p
  | .gateAdapt p => some p
  | .gateStatus p => some p
  | .gateTelem p => some p
  | .gateBoosterRw p => some p
  | .pugSlotConfig p => some p
  | .pugFirLoad p => some p
  | .pugFirSwap p => some p
  | .pugDsmClock p => some p
  | .pugTimer p => some p
  | .pugPosConfig p => some p
  | .pugRecal p => some p
  | .pugRead p => some p
  | .pugStatus p => some p
  | .capConfig p => some p
  | .capArm p => some p
  | .capDisarm p => some p
  | .capForce p => some p
  | .capRead p => some p
  | .capStatus p => some p
  | .capRelease p => some p
  | .safeStage p => some p
  | .safeConfirm p => some p
  | .safeStatus p => some p
  | .safeOutput p => some p
  | .safeRead p => some p
  | .safeRequest p => some p
  | .wheelConfig p => some p
  | .wheelContext p => some p
  | .wheelReady p => some p
  | .wheelDelay p => some p
  | .wheelWait p => some p
  | .wheelCancel p => some p
  | .wheelSignal p => some p
  | .wheelSigmap p => some p
  | .wheelStatus p => some p
  | .wheelRelease p => some p
  | .cycConfig p => some p
  | .cycLoad p => some p
  | .cycVerify p => some p
  | .cycChange p => some p
  | .cycMode p => some p
  | .cycStation p => some p
  | .cycForce p => some p
  | .cycRead p => some p
  | .cycWrite p => some p
  | .cycDebug p => some p
  | .cycStore p => some p
  | .cycDiscard p => some p
  | .cycStatus p => some p
  | .timeAdj p => some p
  | .timeStep p => some p
  | .timeSource p => some p
  | .timePtpConfig p => some p
  | .timeStatus p => some p
  | .netTx p => some p
  | .netRx p => some p
  | .netFilter p => some p
  | .netGcl p => some p
  | .netStatus p => some p
  | .nrPublish p => some p
  | .nrTelemRead p => some p
  | .nrSend p => some p
  | .nrRecv p => some p
  | .nrStatus p => some p
  | .dpxReport p => some p
  | .dpxSwitch p => some p
  | .dpxHealth p => some p
  | .fltConfig p => some p
  | .fltLogRead p => some p
  | .fltStatus p => some p
  | .fwLoad p => some p
  | .fwVerify p => some p
  | .fwActivate p => some p
  | .fwConfirm p => some p
  | .fwStatus p => some p
  | .calWrite p => some p
  | .calRead p => some p
  | .calExport p => some p
  | .calImport p => some p
  | .svcLoad p => some p
  | .eicSubmit _ => none
  | .eicPoll _ => none
  | .eicReady _ => none
  | .eicSignal _ => none
  | .rdtime _ => none
  | .rdcnt _ => none
  | .trace _ => none
  | .threadEnd _ => none
  | .threadReady _ _ => none
  | .threadSignal _ _ => none
  | .threadDelay _ _ => none
  | .threadWait _ _ _ => none
  | .threadSubmit _ _ _ => none
  | .threadPoll _ _ _ => none
  | .threadTime _ => none
  | .threadImageRead _ _ _ _ => none
  | .threadFault _ => none
  | .commandTailWrite _ _ => none
  | .completionHeadWrite _ _ => none
  | .qpResume _ => none
  | .qpReset _ => none
  | .setupLock _ => none
  | .setupLockEffect => none
  | .profileSave _ => none
  | .registerWrite _ _ => none
  | .timeSnapRead => none
  | .pwrAonLoRead => none
  | .windowWord0Read _ _ => none
  | .dbgReq _ => none
  | .dbgSubmit => none
  | .dbgRevoke => none
  | .dbgLockoutEnd => none
  | .dbgAtestWrite _ => none
  | .dbgAuth _ => none
  | .extest => none
  | .extestEnd => none
  | .dbgMbox _ _ _ => none
  | .idcode => none
  | .bypass => none
  | .samplePreload => none
  | .packetFetch _ _ => none
  | .notBeforeReached _ _ => none
  | .lateWindowExpiry _ _ => none
  | .irqModTime _ => none
  | .ringReadFail _ _ => none
  | .barrierTimeout _ => none
  | .hostUnavailable _ _ => none
  | .carrierEvent _ => none
  | .tripSourceActive _ => none
  | .tripBreak _ => none
  | .faultCodeReceived _ _ => none
  | .blankWindowClose _ => none
  | .alertSymbol _ _ => none
  | .bootLow _ => none
  | .forcedRefreshEnd _ => none
  | .statusFrame _ _ _ _ => none
  | .edgeFrame _ _ _ _ _ => none
  | .readDataFrame _ _ _ => none
  | .ackFrame _ _ => none
  | .commitAckTimeout _ => none
  | .uplinkFrameDiscard _ => none
  | .statusTimeout _ => none
  | .trainingComplete _ _ _ _ => none
  | .armTimeout _ => none
  | .prechargeDone _ => none
  | .prechargeTimeout _ => none
  | .prechargeTimedDone _ => none
  | .stopRampEnd _ => none
  | .sslLoss _ => none
  | .loopSample _ => none
  | .commitDeadlineOverrun _ => none
  | .substTimeout _ => none
  | .injectionEnd _ => none
  | .gfOuterStep _ => none
  | .gfLimitRelease _ => none
  | .gfRtTimeout _ => none
  | .gfWFault _ => none
  | .secExpired _ => none
  | .deadBusSet _ => none
  | .holdoffEnd _ => none
  | .waitLiveQualified _ => none
  | .joinWindowsQualified _ => none
  | .joinFbRise _ => none
  | .joinFbFall _ => none
  | .contactorAssumedClosed _ => none
  | .contactorTimeout _ => none
  | .retryWaitEnd _ => none
  | .detachment _ => none
  | .pugFrame _ _ => none
  | .slotOutputReady _ => none
  | .resolverPeriod _ _ => none
  | .zEdge _ => none
  | .measurementUpset _ _ => none
  | .retryRunEnd _ _ _ => none
  | .bucketLeak _ _ => none
  | .eccError _ _ _ => none
  | .recalEnd _ _ => none
  | .capSampleClose _ => none
  | .capExtEdge _ => none
  | .captureUpset _ => none
  | .sinFilteredChange _ _ _ => none
  | .discrepancyLatch _ _ => none
  | .ss1SafeInstant _ _ => none
  | .sbcDelayExpiry _ _ => none
  | .safeEnFall => none
  | .safeEnToggle _ _ _ => none
  | .blockCommit _ => none
  | .confirmWindowExpiry => none
  | .sagExchange _ => none
  | .saggarInternalFault => none
  | .lockstepMismatch => none
  | .wheelCycle => none
  | .delayExpiry => none
  | .waitTimeout _ => none
  | .eventTaskEnd => none
  | .cycleStart _ => none
  | .cycleEnd _ => none
  | .outputWindow _ => none
  | .kilnSitterTrip => none
  | .changeSwitch => none
  | .imageBootLoad => none
  | .incrChange => none
  | .durationExpiry => none
  | .timeStepEffect => none
  | .gclSwitch _ => none
  | .ethFrameReceived _ _ _ _ _ => none
  | .frameTransmitted _ _ _ _ => none
  | .netTxTimeout _ => none
  | .ethLinkChange _ _ _ => none
  | .ethPortUpset _ => none
  | .ringCycle => none
  | .timeFrame _ _ _ _ => none
  | .delayTimer => none
  | .delayFrame _ _ _ => none
  | .heartbeatFrame _ _ _ _ => none
  | .telemetryFrame _ _ _ _ => none
  | .mirrorFrame _ _ _ _ => none
  | .fragmentFrame _ _ _ _ => none
  | .ringAckFrame _ _ _ _ _ _ => none
  | .nrSendTimeout => none
  | .wakeFrame _ _ _ _ => none
  | .ringFrameDiscard _ => none
  | .nodeLost _ => none
  | .masterElection => none
  | .alignedChange => none
  | .ringPortUpset _ => none
  | .ringRelaysEnergise => none
  | .ringInserted _ => none
  | .ringInsertTimeout => none
  | .pairingTimeout => none
  | .stateTransferDone => none
  | .forwardTimeout _ _ => none
  | .handoverCommit _ => none
  | .handoverOwn _ => none
  | .handoverAbandon => none
  | .standDown _ => none
  | .conesRound _ => none
  | .feedOutOfWindow _ _ => none
  | .feedReconnect _ _ => none
  | .powerFail => none
  | .powerFailEnd => none
  | .powerOn _ _ _ _ => none
  | .resetNLow => none
  | .resetNRise => none
  | .bootReady _ => none
  | .readyReturn => none
  | .sleep => none
  | .wakePin => none
  | .wakeInterval => none
  | .watchConversion _ => none
  | .pllLockLoss _ => none
  | .pllRelockStart _ => none
  | .pllLockDeclared _ => none
  | .pllRelockTimeout _ => none
  | .pllHoldoverTimeout => none
  | .refSwitchToRing => none
  | .refClockLoss => none
  | .norWriteDone _ => none
  | .pcieLinkUp _ _ => none
  | .quadratureEdge _ _ _ => none
  | .gateControlEntry _ => none
  | .ringInsertRetry => none
  | .ptpSyncInterval _ => none

/-- Whether the operands are well formed. -/
def Instr.wf : Instr → Bool
  | .adminNop p => p.wf
  | .identify p => p.wf
  | .adminPad p => p.wf
  | .adminEventWait p => p.wf
  | .adminAbort p => p.wf
  | .reinstate p => p.wf
  | .fence p => p.wf
  | .barrier p => p.wf
  | .bridgeDefine p => p.wf
  | .bridgeSetRole p => p.wf
  | .bridgeBind p => p.wf
  | .bridgeArm p => p.wf
  | .bridgeDisarm p => p.wf
  | .bridgePrecharge p => p.wf
  | .bridgeStart p => p.wf
  | .bridgeStop p => p.wf
  | .bridgeSafe p => p.wf
  | .bridgeRecover p => p.wf
  | .bridgeStatus p => p.wf
  | .bridgeBindImage p => p.wf
  | .gfConfig p => p.wf
  | .gfTune p => p.wf
  | .gfSetpoint p => p.wf
  | .gfSecondary p => p.wf
  | .gfStatus p => p.wf
  | .loopConfig p => p.wf
  | .loopCoefLoad p => p.wf
  | .loopCoefSwap p => p.wf
  | .loopTableLoad p => p.wf
  | .loopTableSwap p => p.wf
  | .loopStateSet p => p.wf
  | .loopSetpoint p => p.wf
  | .loopSubst p => p.wf
  | .loopInject p => p.wf
  | .loopInjectStop p => p.wf
  | .loopStatus p => p.wf
  | .loopUnload p => p.wf
  | .pwmCarrier p => p.wf
  | .pwmEdges p => p.wf
  | .pwmPeriod p => p.wf
  | .pwmBoot p => p.wf
  | .pwmTripConfig p => p.wf
  | .pwmStatus p => p.wf
  | .gateProfile p => p.wf
  | .gateAdapt p => p.wf
  | .gateStatus p => p.wf
  | .gateTelem p => p.wf
  | .gateBoosterRw p => p.wf
  | .pugSlotConfig p => p.wf
  | .pugFirLoad p => p.wf
  | .pugFirSwap p => p.wf
  | .pugDsmClock p => p.wf
  | .pugTimer p => p.wf
  | .pugPosConfig p => p.wf
  | .pugRecal p => p.wf
  | .pugRead p => p.wf
  | .pugStatus p => p.wf
  | .capConfig p => p.wf
  | .capArm p => p.wf
  | .capDisarm p => p.wf
  | .capForce p => p.wf
  | .capRead p => p.wf
  | .capStatus p => p.wf
  | .capRelease p => p.wf
  | .safeStage p => p.wf
  | .safeConfirm p => p.wf
  | .safeStatus p => p.wf
  | .safeOutput p => p.wf
  | .safeRead p => p.wf
  | .safeRequest p => p.wf
  | .wheelConfig p => p.wf
  | .wheelContext p => p.wf
  | .wheelReady p => p.wf
  | .wheelDelay p => p.wf
  | .wheelWait p => p.wf
  | .wheelCancel p => p.wf
  | .wheelSignal p => p.wf
  | .wheelSigmap p => p.wf
  | .wheelStatus p => p.wf
  | .wheelRelease p => p.wf
  | .cycConfig p => p.wf
  | .cycLoad p => p.wf
  | .cycVerify p => p.wf
  | .cycChange p => p.wf
  | .cycMode p => p.wf
  | .cycStation p => p.wf
  | .cycForce p => p.wf
  | .cycRead p => p.wf
  | .cycWrite p => p.wf
  | .cycDebug p => p.wf
  | .cycStore p => p.wf
  | .cycDiscard p => p.wf
  | .cycStatus p => p.wf
  | .timeAdj p => p.wf
  | .timeStep p => p.wf
  | .timeSource p => p.wf
  | .timePtpConfig p => p.wf
  | .timeStatus p => p.wf
  | .netTx p => p.wf
  | .netRx p => p.wf
  | .netFilter p => p.wf
  | .netGcl p => p.wf
  | .netStatus p => p.wf
  | .nrPublish p => p.wf
  | .nrTelemRead p => p.wf
  | .nrSend p => p.wf
  | .nrRecv p => p.wf
  | .nrStatus p => p.wf
  | .dpxReport p => p.wf
  | .dpxSwitch p => p.wf
  | .dpxHealth p => p.wf
  | .fltConfig p => p.wf
  | .fltLogRead p => p.wf
  | .fltStatus p => p.wf
  | .fwLoad p => p.wf
  | .fwVerify p => p.wf
  | .fwActivate p => p.wf
  | .fwConfirm p => p.wf
  | .fwStatus p => p.wf
  | .calWrite p => p.wf
  | .calRead p => p.wf
  | .calExport p => p.wf
  | .calImport p => p.wf
  | .svcLoad p => p.wf
  | .eicSubmit _ => true
  | .eicPoll _ => true
  | .eicReady _ => true
  | .eicSignal _ => true
  | .rdtime _ => true
  | .rdcnt _ => true
  | .trace _ => true
  | .threadEnd _ => true
  | .threadReady _ _ => true
  | .threadSignal _ _ => true
  | .threadDelay _ _ => true
  | .threadWait _ _ _ => true
  | .threadSubmit _ _ _ => true
  | .threadPoll _ _ _ => true
  | .threadTime _ => true
  | .threadImageRead _ _ _ _ => true
  | .threadFault _ => true
  | .commandTailWrite _ _ => true
  | .completionHeadWrite _ _ => true
  | .qpResume _ => true
  | .qpReset _ => true
  | .setupLock _ => true
  | .setupLockEffect => true
  | .profileSave _ => true
  | .registerWrite off _ => decide (off.toNat % 4 = 0) && decide (off.toNat < 0x100000)
  | .timeSnapRead => true
  | .pwrAonLoRead => true
  | .windowWord0Read _ _ => true
  | .dbgReq _ => true
  | .dbgSubmit => true
  | .dbgRevoke => true
  | .dbgLockoutEnd => true
  | .dbgAtestWrite _ => true
  | .dbgAuth _ => true
  | .extest => true
  | .extestEnd => true
  | .dbgMbox _ _ _ => true
  | .idcode => true
  | .bypass => true
  | .samplePreload => true
  | .packetFetch _ _ => true
  | .notBeforeReached _ _ => true
  | .lateWindowExpiry _ _ => true
  | .irqModTime _ => true
  | .ringReadFail _ _ => true
  | .barrierTimeout _ => true
  | .hostUnavailable _ _ => true
  | .carrierEvent _ => true
  | .tripSourceActive _ => true
  | .tripBreak _ => true
  | .faultCodeReceived _ _ => true
  | .blankWindowClose _ => true
  | .alertSymbol _ _ => true
  | .bootLow _ => true
  | .forcedRefreshEnd _ => true
  | .statusFrame _ _ _ _ => true
  | .edgeFrame _ _ _ _ _ => true
  | .readDataFrame _ _ _ => true
  | .ackFrame _ _ => true
  | .commitAckTimeout _ => true
  | .uplinkFrameDiscard _ => true
  | .statusTimeout _ => true
  | .trainingComplete _ _ _ _ => true
  | .armTimeout _ => true
  | .prechargeDone _ => true
  | .prechargeTimeout _ => true
  | .prechargeTimedDone _ => true
  | .stopRampEnd _ => true
  | .sslLoss _ => true
  | .loopSample _ => true
  | .commitDeadlineOverrun _ => true
  | .substTimeout _ => true
  | .injectionEnd _ => true
  | .gfOuterStep _ => true
  | .gfLimitRelease _ => true
  | .gfRtTimeout _ => true
  | .gfWFault _ => true
  | .secExpired _ => true
  | .deadBusSet _ => true
  | .holdoffEnd _ => true
  | .waitLiveQualified _ => true
  | .joinWindowsQualified _ => true
  | .joinFbRise _ => true
  | .joinFbFall _ => true
  | .contactorAssumedClosed _ => true
  | .contactorTimeout _ => true
  | .retryWaitEnd _ => true
  | .detachment _ => true
  | .pugFrame _ _ => true
  | .slotOutputReady _ => true
  | .resolverPeriod _ _ => true
  | .zEdge _ => true
  | .measurementUpset _ _ => true
  | .retryRunEnd _ _ _ => true
  | .bucketLeak _ _ => true
  | .eccError _ _ _ => true
  | .recalEnd _ _ => true
  | .capSampleClose _ => true
  | .capExtEdge _ => true
  | .captureUpset _ => true
  | .sinFilteredChange _ _ _ => true
  | .discrepancyLatch _ _ => true
  | .ss1SafeInstant _ _ => true
  | .sbcDelayExpiry _ _ => true
  | .safeEnFall => true
  | .safeEnToggle _ _ _ => true
  | .blockCommit _ => true
  | .confirmWindowExpiry => true
  | .sagExchange _ => true
  | .saggarInternalFault => true
  | .lockstepMismatch => true
  | .wheelCycle => true
  | .delayExpiry => true
  | .waitTimeout _ => true
  | .eventTaskEnd => true
  | .cycleStart _ => true
  | .cycleEnd _ => true
  | .outputWindow _ => true
  | .kilnSitterTrip => true
  | .changeSwitch => true
  | .imageBootLoad => true
  | .incrChange => true
  | .durationExpiry => true
  | .timeStepEffect => true
  | .gclSwitch _ => true
  | .ethFrameReceived _ bytes _ ns _ => decide (64 ≤ bytes.length) && decide (bytes.length ≤ 1522) && decide (ns.toNat < 1000000000)
  | .frameTransmitted _ _ ns _ => decide (ns.toNat < 1000000000)
  | .netTxTimeout _ => true
  | .ethLinkChange _ _ _ => true
  | .ethPortUpset _ => true
  | .ringCycle => true
  | .timeFrame _ _ _ payload => decide (payload.length = 24)
  | .delayTimer => true
  | .delayFrame _ _ _ => true
  | .heartbeatFrame _ _ _ payload => decide (payload.length = 6)
  | .telemetryFrame _ _ _ record => decide (record.length = 32)
  | .mirrorFrame _ _ _ payload => decide (payload.length = 640)
  | .fragmentFrame _ _ _ payload => decide (7 ≤ payload.length) && decide (payload.length ≤ 262)
  | .ringAckFrame _ _ _ _ _ _ => true
  | .nrSendTimeout => true
  | .wakeFrame _ _ _ _ => true
  | .ringFrameDiscard _ => true
  | .nodeLost _ => true
  | .masterElection => true
  | .alignedChange => true
  | .ringPortUpset _ => true
  | .ringRelaysEnergise => true
  | .ringInserted _ => true
  | .ringInsertTimeout => true
  | .pairingTimeout => true
  | .stateTransferDone => true
  | .forwardTimeout _ _ => true
  | .handoverCommit _ => true
  | .handoverOwn _ => true
  | .handoverAbandon => true
  | .standDown _ => true
  | .conesRound _ => true
  | .feedOutOfWindow _ _ => true
  | .feedReconnect _ _ => true
  | .powerFail => true
  | .powerFailEnd => true
  | .powerOn _ _ _ _ => true
  | .resetNLow => true
  | .resetNRise => true
  | .bootReady _ => true
  | .readyReturn => true
  | .sleep => true
  | .wakePin => true
  | .wakeInterval => true
  | .watchConversion _ => true
  | .pllLockLoss _ => true
  | .pllRelockStart _ => true
  | .pllLockDeclared _ => true
  | .pllRelockTimeout _ => true
  | .pllHoldoverTimeout => true
  | .refSwitchToRing => true
  | .refClockLoss => true
  | .norWriteDone _ => true
  | .pcieLinkUp _ _ => true
  | .quadratureEdge _ _ _ => true
  | .gateControlEntry _ => true
  | .ringInsertRetry => true
  | .ptpSyncInterval _ => true

end Sys2Proof
end

