-- ==== Sys2Proof/Machine/State.lean ====
section
/-! DEFINITION. The state of the CD-6340 as plain data: every register, table, queue, counter, mode and pin the spec
gives the block, the packets in flight, and the queue of waiting commands. A field's default is its value at reset;
the docstring of a field names the rule, and the assumption log the values the spec does not state. -/

namespace Sys2Proof.Machine

/-- A byte memory or word bank as its listed cells, addresses strictly rising, none equal to the default. -/
abbrev Cells := List (Nat × Nat)

/-- A packet in flight: its queue pair and serial number. -/
structure Ticket where
  qp : Fin 16
  id : Nat
  deriving DecidableEq, Repr, Inhabited

/-! ### 10 Command rings -/

/-- A packet fetched and not yet completed (R426, R437 to R442). -/
structure Flight where
  id : Nat
  cmd : Instr
  pkt : Pkt
  started : Bool
  /-- The opcode of a packet that no row names (R12); `cmd` is then a pad's. -/
  undef : Option Nat := none
  /-- Instant of fetch, in 125 ps steps; the late window of R438 runs from it when the not-before time is 0. -/
  fetched : Nat
  deriving DecidableEq, Repr

/-- The completion status codes (R11, Table 00-5). -/
inductive Status where
  | done | doneNote | badOpcode | badLength | badField | unitAbsent | unitRetired | stateRefused | busyRetry
  | cancelled | timedOut | safetyLocked | authFailed | internalFault
  deriving DecidableEq, Repr, Inhabited

/-- A completion entry written (Table 10-10), with what was written back into the packet's payload area (R432). -/
structure CplEntry where
  tag : Half
  status : Status
  r0 : Word
  r1 : Word
  index : Half
  lap : Bool
  phase : Bool
  sec : DWord
  ns : Word
  extra : Word
  payload : List Byte := []
  deriving DecidableEq, Repr, Inhabited

/-- What a packet ends with. -/
structure Answer where
  status : Status := .done
  r0 : Word := 0
  r1 : Word := 0
  extra : Word := 0
  payload : List Byte := []
  /-- The instant an opcode's rule names in place of the decision instant (R430). -/
  stamp : Option (DWord × Word) := none
  deriving DecidableEq, Repr, Inhabited

/-- `QP_STATUS.STATE` (Table 10-5). -/
inductive QpState where
  | disabled | running | halted | resetting
  deriving DecidableEq, Repr, Inhabited

/-- A queue pair (R416 to R457). Its set-up registers lie in the register file. -/
structure QueuePair where
  state : QpState := .disabled
  cause : Byte := 0
  /-- `QP_HEAD.FETCH` and `QP_HEAD.LAP` (Table 10-6). -/
  fetch : Nat := 0
  lap : Bool := false
  /-- `QP_FAULT_LO`, `QP_FAULT_HI` (Table 10-7). -/
  faultAddr : DWord := 0
  /-- Doorbell registers: the last value written (R422). -/
  tailReg : Word := 0
  headReg : Word := 0
  ctlReg : Word := 0
  /-- Recorded command tail and completion head (R424, R429). -/
  tail : Nat := 0
  head : Nat := 0
  /-- Next completion position and its phase (R427). -/
  cplPos : Nat := 0
  phase : Bool := true
  flights : List Flight := []
  /-- Entries written and not yet returned, oldest first. -/
  cpl : List CplEntry := []
  /-- Counted entries since the last interrupt, and the instant of the first one not covered (R434). -/
  irqCount : Nat := 0
  irqFirst : Option Nat := none
  /-- Interrupts sent, or producer signals of a local ring (R434, R456), since reset. -/
  irqSent : Nat := 0
  /-- A resume written under cause 0x06 and not yet in effect (R448). -/
  resumeWait : Bool := false
  /-- A failed ring read waiting for its repeat: address and instant of the repeat (R445). -/
  readRetry : Option (DWord × Nat) := none
  deriving DecidableEq, Repr, Inhabited

/-- A barrier instance (R442). -/
structure BarrierInst where
  mask : Half
  deadline : Option Nat
  members : List Ticket
  deriving DecidableEq, Repr, Inhabited

/-- An event of R452: class, unit, code and the instant. -/
structure DevEvent where
  cls : Byte
  unit : Half
  code : Half
  sec : DWord
  ns : Word
  deriving DecidableEq, Repr, Inhabited

/-! ### 01 Bridges -/

/-- Bridge states, codes 0 to 6 (Table 01-4). -/
inductive BState where
  | offline | armed | precharge | running | limiting | safe | retired
  deriving DecidableEq, Repr, Inhabited

/-- Roles, codes 0 to 3 (Table 01-3). -/
inductive Role where
  | form | drive | convert | spare
  deriving DecidableEq, Repr, Inhabited

/-- Safe states, codes 0 to 2 (Table 01-2). -/
inductive SafeState where
  | opened | ascLow | ascHigh
  deriving DecidableEq, Repr, Inhabited

/-- A leg (Tables 01-1 and 01-2): type code and gate links. -/
structure Leg where
  kind : Nat
  glA : Nat
  glB : Option Nat
  deriving DecidableEq, Repr, Inhabited

/-- A bridge definition (Table 01-2). -/
structure BridgeDef where
  role : Role
  safe : SafeState
  idleSafe : Bool
  legs : List Leg
  vdcSlot : Option Nat
  preGpio : Option Nat
  preTimeout : Nat
  preLevel : Q15
  stopRamp : Nat
  deriving DecidableEq, Repr, Inhabited

/-- The precharge wait (R36 to R39): start of the 5 ms, time-out instant, and whether it is timed (R39). -/
structure PreWait where
  ticket : Ticket
  since : Option Nat
  deadline : Nat
  timed : Bool
  deriving DecidableEq, Repr, Inhabited

/-- A stop ramp (R41, R387): its start and end and the packets that wait for it. -/
structure StopRamp where
  start : Nat
  finish : Nat
  from_ : Vector Q15 8
  waiters : List Ticket
  deriving DecidableEq, Repr, Inhabited

/-- A wait for fallback acknowledgements (R28, R43) or training (R32): the gate links still awaited. -/
structure AckWait where
  ticket : Ticket
  need : List Nat
  deadline : Nat
  /-- The role, safe state and bindings a `BRIDGE_SET_ROLE` restores when it fails. -/
  old : Option (BridgeDef × Option Nat × Option Nat) := none
  deriving DecidableEq, Repr, Inhabited

/-- A duplexed bridge's part of a handover (R602 to R604). -/
structure Handover where
  td : Nat := 0
  c1 : Nat := 0
  th : Nat := 0
  frozen : Bool := false
  claimed : Bool := false
  deriving DecidableEq, Repr, Inhabited

/-- A bridge (R15 to R63). -/
structure Bridge where
  state : BState := .offline
  defn : Option BridgeDef := none
  /-- Bindings (R47): loop context, grid-forming engine, position input. -/
  lc : Option Nat := none
  gf : Option Nat := none
  pos : Option Nat := none
  /-- Cause of the most recent entry into SAFE or RETIRED (R48). -/
  cause : Half := 0
  /-- `BRIDGE_BIND_IMAGE` (R58): word offsets, 0xFFFF unbound. -/
  spOfs : Vector Half 8 := Vector.replicate 8 0xFFFF
  statusOfs : Half := 0xFFFF
  preGpioOn : Bool := false
  prechargeDone : Bool := false
  pre : Option PreWait := none
  start : Option Ticket := none
  stop : Option StopRamp := none
  arming : Option AckWait := none
  setRole : Option AckWait := none
  recover : Option AckWait := none
  /-- Safe pattern applied (R286) and `SAFE_DEGRADED`. -/
  applied : Option SafeState := none
  degraded : Bool := false
  /-- The first on edge of the safe sequence waits for a code group or a held code (R287). -/
  patternWait : Bool := false
  /-- Gate link whose break put the bridge into SAFE while its code is not known yet (R264, R282). -/
  causeBy : Option Nat := none
  /-- Instant of the entry into ARMED from OFFLINE (R384). -/
  armedAt : Nat := 0
  /-- Stop ramp of an SS1-t function, or release refused by one (R387). -/
  ss1 : Bool := false
  /-- Bridges in the duplex service: handover in progress, and whether this device asserts OWN (R595 to R604). -/
  handover : Option Handover := none
  own : Bool := true
  /-- First instant at which a new duty may take effect after a handover (R602 step 5). -/
  dutyFrom : Nat := 0
  deriving DecidableEq, Repr, Inhabited

/-! ### 02, 03 Grid-forming engines -/

/-- Engine states (Table 02-11). -/
inductive GfState where
  | free | idle | tracking | starting | forming | limiting | held | fault
  deriving DecidableEq, Repr, Inhabited

/-- Start phases (Table 03-2). -/
inductive StartPhase where
  | none | classify | holdoff | closeDead | ramp | waitLive | presync | closeLive | retryWait
  deriving DecidableEq, Repr, Inhabited

/-- A hand-off record (Table 02-4). -/
structure HandOff where
  v1a : Q15
  v1b : Q15
  v2a : Q15
  v2b : Q15
  vha : Q15
  vhb : Q15
  w : Word
  theta : Half
  ihard : Q15
  flags : Half
  seq : Half
  tn : DWord
  deriving DecidableEq, Repr, Inhabited

/-- A plane vector of the stationary or rotor frame. -/
structure Vec2 where
  a : Rat := 0
  b : Rat := 0
  deriving DecidableEq, Repr, Inhabited

/-- A move of an impedance field over 64 outer samples (R105), or a fade of a path (R106). -/
structure Move where
  field : Nat
  start : Rat
  target : Rat
  left : Nat
  deriving DecidableEq, Repr, Inhabited

/-- A second-order tracker (R107, R117, R333): angle in turns and speed in turns per second. -/
structure Tracker where
  angle : Rat := 0
  speed : Rat := 0
  deriving DecidableEq, Repr, Inhabited

/-- A grid-forming engine (R64 to R153). -/
structure GfEngine where
  state : GfState := .free
  /-- The accepted 128-byte block (Table 02-10); a tune changes its bytes. -/
  config : Option (List Byte) := none
  /-- Tunes, set-points and secondary terms received since the previous outer sample (R104). -/
  tunes : List (List Byte × List Byte) := []
  moves : List Move := []
  /-- Rotor speed, 1.0 pu = 0x4000_0000, and the 32-bit angle (R66). -/
  w : Word := 0
  theta : Word := 0
  pf : Rat := 0
  qf : Rat := 0
  pHeld : Rat := 0
  wf : Rat := 0
  pSet : Rat := 0
  xv : Rat := 0
  e : Rat := 0
  vPlus : Rat := 0
  iPk : Q15 := 0
  /-- Extracted components: negative sequence, 5th, 7th, 11th, 13th (R77). -/
  comp : Vector Vec2 5 := Vector.replicate 5 {}
  wClamp : Bool := false
  eClamp : Bool := false
  pClamp : Bool := false
  /-- Since when the speed has stayed at a clamp (R74). -/
  clampSince : Option Nat := none
  /-- Current limiting (R82 to R87). -/
  dR : Rat := 0
  dX : Rat := 0
  dRneg : Rat := 0
  limFrom : GfState := .forming
  limAt : Nat := 0
  belowSince : Option Nat := none
  limEntries : Nat := 0
  limLast : Nat := 0
  late : Nat := 0
  lateInRow : Nat := 0
  /-- The carrier event of the newest outer sample (R68); the model's own. -/
  sampledAt : Nat := 0
  /-- The outer sample instant that has come and waits for its step (R68). -/
  due : Option Nat := none
  /-- Set-points in force and staged, secondary terms (R92 to R94, R104, R113). -/
  sp : Vector Q15 8 := Vector.replicate 8 0
  spNext : List (Nat × Q15) := []
  secNext : Option (Q15 × Q15 × Nat) := none
  dPsec : Rat := 0
  dEsec : Rat := 0
  secUntil : Option Nat := none
  secExpired : Bool := false
  /-- Hand-off latch, newest record first (R89, R90), and the outer sample count. -/
  latch : List HandOff := []
  seq : Half := 0
  /-- Dead-bus test (R122, R123). -/
  deadSince : Option Nat := none
  deadBus : Bool := false
  live : Bool := false
  vBus : Vec2 := {}
  /-- Square of the largest |v_bus| since the previous outer sample (R122). -/
  busPeak : Rat := 0
  vBusPlus : Rat := 0
  wBus : Rat := 0
  thetaBus : Word := 0
  /-- The trackers of 20 Hz on the terminal and on the bus voltage; one and the same without `BUSSLOT` (R107, R117). -/
  termTrk : Tracker := {}
  busTrk : Tracker := {}
  /-- Start sequence (R124 to R142). -/
  phase : StartPhase := .none
  phaseAt : Nat := 0
  joinReq : Bool := false
  joinReqAt : Nat := 0
  joinFb : Bool := false
  /-- The contactor is taken as closed, its feedback not mapped (R121). -/
  taken : Bool := false
  detached : Bool := false
  attempts : Byte := 0
  holdoff : Half := 0
  r : Rat := 0
  okSince : Option Nat := none
  awaySince : Option Nat := none
  deriving DecidableEq, Repr, Inhabited

/-! ### 04 Loop engines -/

/-- Context states (Table 04-11). -/
inductive LcState where
  | empty | loaded | ready | running | held | fault | occupied
  deriving DecidableEq, Repr, Inhabited

/-- A test-signal injection (R197 to R201). -/
structure Injection where
  ticket : Ticket
  kind : Nat
  point : Nat
  entry : Nat
  order : Nat
  ampl : Q15
  chip : Nat
  f0 : Nat
  f1 : Nat
  length : Nat
  lfsr : Nat
  k : Nat
  first : Option DWord
  /-- The header's not-before time in DTB nanoseconds; 0 for none (R201). -/
  from_ : Nat
  deriving DecidableEq, Repr, Inhabited

/-- A sample whose measurement instant has come (R160): the instant on the local clock and the DTB, the position input as it
stood then (R164, R189), and whether it is an outer sample of the bridge's engine (R68). -/
structure DueSample where
  at_ : Nat := 0
  ns : DWord := 0
  theta : Half := 0
  delta : Half := 0
  speed : Q15 := 0
  posOk : Bool := true
  outer : Bool := false
  deriving DecidableEq, Repr, Inhabited

/-- A pending coefficient swap (R169, R170): bumpless or direct, its packet, and whether an update section begun after
its acceptance has ended. -/
structure CoefSwap where
  ticket : Ticket
  bumpless : Bool
  armed : Bool
  deriving DecidableEq, Repr, Inhabited

/-- A loop context (R154 to R211). -/
structure LoopContext where
  state : LcState := .empty
  /-- Its home engine is retired and it held nothing, or no engine qualified (R196). -/
  retired : Bool := false
  /-- No engine qualified for it (R196). -/
  noHost : Bool := false
  /-- Engine now hosting (R195). -/
  host : Nat := 0
  config : List Byte := []
  /-- Coefficient banks as listed words (Table 04-4), the active one, and a completed swap (R166, R167). -/
  bank : Vector Cells 2 := Vector.replicate 2 []
  active : Fin 2 := 0
  swapDone : Bool := false
  coefSwap : Option CoefSwap := none
  /-- Friction and cogging tables, two banks each, active banks (R174 to R177), and a pending swap. -/
  fric : Vector Cells 2 := Vector.replicate 2 []
  cogg : Vector Cells 2 := Vector.replicate 2 []
  fricAct : Fin 2 := 0
  coggAct : Fin 2 := 0
  tabSwap : List (Ticket × Nat) := []
  x0 : Vector Q15 16 := Vector.replicate 16 0
  z0 : Vector Q15 8 := Vector.replicate 8 0
  xh : Vector Q15 16 := Vector.replicate 16 0
  z : Vector Word 8 := Vector.replicate 8 0
  m : Vector Q15 16 := Vector.replicate 16 0
  y : Vector Q15 16 := Vector.replicate 16 0
  eps : Vector Q15 16 := Vector.replicate 16 0
  /-- Set-points in force, and the references of the last sample with their additions (R159). -/
  r : Vector Q15 8 := Vector.replicate 8 0
  rEff : Vector Q15 8 := Vector.replicate 8 0
  /-- States and integrators as the last output section used them (Table 08-1). -/
  xUsed : Vector Q15 16 := Vector.replicate 16 0
  zUsed : Vector Q15 8 := Vector.replicate 8 0
  u : Vector Q15 8 := Vector.replicate 8 0
  uRaw : Vector Q15 8 := Vector.replicate 8 0
  /-- Additive terms of the last sample, per output (R171). -/
  uAdd : Vector Int 8 := Vector.replicate 8 0
  legCmd : Vector Q15 6 := Vector.replicate 6 0
  injVal : Q15 := 0
  spNext : List (Nat × Q15) := []
  /-- `LOOP_SUBST` changes that wait for the next sample boundary (R192). -/
  substNext : List (Nat × Byte) := []
  substMask : Half := 0
  /-- The substitution timer (R190): the instant it started. -/
  substSince : Option Nat := none
  lastVdc : Q15 := 0
  /-- Mechanical angle of the last sample and its change over that sample (R164, R189), and the hand-off angle. -/
  lastAngle : Half := 0
  lastDelta : Half := 0
  /-- Speed of the position input when it was last valid (R189), and the instant of the last latch. -/
  lastSpeed : Q15 := 0
  latchedAt : Nat := 0
  /-- Samples whose measurement instant has come and that have neither run nor been abandoned, oldest first (R160, R161). -/
  due : List DueSample := []
  lastHand : Half := 0
  satCount : Nat := 0
  overruns : Nat := 0
  consec : Nat := 0
  lastOverran : Bool := false
  swapClipped : Bool := false
  modSat : Bool := false
  vdcLow : Bool := false
  clampOn : Bool := false
  iPk : Q15 := 0
  cycLast : Nat := 0
  cycMost : Nat := 0
  /-- Samples run since the start, and the instant of the last one. -/
  samples : Nat := 0
  sampleAt : Nat := 0
  /-- Measurement instant of the last sample in DTB nanoseconds (Table 14-9a). -/
  sampleNs : DWord := 0
  /-- The last sample has committed its leg commands (R186). -/
  committed : Bool := true
  inj : Option Injection := none
  /-- Sequence number of the hand-off record last used (R91). -/
  lastSeq : Option Half := none
  deriving DecidableEq, Repr, Inhabited

/-! ### 05 PWM generators -/

/-- A `PWM_CARRIER` block accepted (Table 05-1). -/
structure Carrier where
  per : Nat
  phase : Nat
  commit : Nat
  tmin : Nat
  legPhase : Vector Nat 6
  deriving DecidableEq, Repr, Inhabited

/-- The shadow group with its marks (R228 to R231). -/
structure Shadow where
  per : Option Nat := none
  cmp : Vector (Option Nat) 12 := Vector.replicate 12 none
  /-- Gate links whose compare was written after `per`. -/
  after : Vector Bool 12 := Vector.replicate 12 false
  requested : Option Nat := none
  deriving DecidableEq, Repr, Inhabited

/-- An edge at a GON ball (R224): instant, gate link by the index of Table 05-3, which switch, and its level from then; it
belongs to a refresh (R297), and to a forced one (R292). -/
structure GonEdge where
  at_ : Nat
  link : Nat
  second : Bool
  on : Bool
  boot : Bool := false
  forced : Bool := false
  deriving DecidableEq, Repr, Inhabited

/-- Where a gate link's leg stands in its carrier (R218, R226, R236): the compare it applies, the switch whose interval it
is in (true: the first), its pulse dropped, by how much the pulse was widened at its end, and its last on edge. -/
structure LegRun where
  cmp : Nat := 0
  side : Option Bool := none
  drop : Bool := false
  grow : Nat := 0
  onAt : Nat := 0
  deriving DecidableEq, Repr, Inhabited

/-- The active group as it stood before a commit (R244): the CK_PWM cycle of the commit, `PER`, compares and settings, the
mismatch count and flag, and the packets that the commit completed, with index and lap, and the instant they report. -/
structure GroupBefore where
  cycle : Nat
  per : Nat
  cmp : Vector Nat 12
  carrier : Option Carrier
  mismatch : Nat
  pdMismatch : Bool
  done : List (Ticket × Half × Bool) := []
  ns : DWord := 0
  deriving DecidableEq, Repr, Inhabited

/-- A PWM generator (R212 to R248, R724). -/
structure PwmGen where
  /-- `PER_CFG` and the settings in force; none before an accepted `PWM_CARRIER` (R220). -/
  carrier : Option Carrier := none
  perCfg : Nat := 0
  running : Bool := false
  /-- Next carrier event: its instant, whether it is a peak; the instant of the last one; events since `BRIDGE_ARM` (R311). -/
  nextAt : Nat := 0
  nextPeak : Bool := true
  lastAt : Nat := 0
  /-- The event before it, which a leg carrier delayed by half a period or more still follows (R218). -/
  prevAt : Option Nat := none
  valleys : Nat := 0
  peaks : Nat := 0
  errSteps : Int := 0
  errLeft : Int := 0
  lock : Bool := false
  activePer : Nat := 0
  activeCmp : Vector Nat 12 := Vector.replicate 12 0
  shadow : Shadow := {}
  /-- A marked `PWM_CARRIER` that waits for its commit point (R724), and `PWM_PERIOD` packets (R232). -/
  carNext : List (Ticket × Carrier) := []
  perNext : List (Ticket × Nat × Bool) := []
  perSync : List (Ticket × Nat) := []
  dt1 : Vector Nat 12 := Vector.replicate 12 64000
  dt2 : Vector Nat 12 := Vector.replicate 12 64000
  fall1 : Vector Nat 12 := Vector.replicate 12 0
  fall2 : Vector Nat 12 := Vector.replicate 12 0
  bootMask : Half := 0
  bootN : Nat := 0
  bootW : Nat := 0
  /-- Peaks of the run counted for refresh (R236). -/
  runPeaks : Nat := 0
  pulses : Nat := 0
  mismatch : Nat := 0
  pdMismatch : Bool := false
  /-- A mismatched commit in force (R231), true once a clamp or R226 has changed a pulse of it: the commit of the present
  carrier event, and the one that the event before it left in force. -/
  misNow : Option Bool := none
  misPrev : Option Bool := none
  /-- The group that the last commit replaced (R244). -/
  undo : Option GroupBefore := none
  clearRefused : Nat := 0
  /-- Latched trip sources (R242). -/
  trips : Half := 0
  disabled : Bool := false
  /-- A duty of the run has been committed (R40, R230): the legs follow their compares; edges placed and still to come. -/
  driving : Bool := false
  legRuns : Vector LegRun 12 := Vector.replicate 12 {}
  edges : List GonEdge := []
  deriving DecidableEq, Repr, Inhabited

/-- A trip source (R239 to R242): settings, comparator count, and the level of a pin. -/
structure TripSource where
  en : Bool := false
  pol : Bool := false
  filt : Nat := 0
  bmask : Byte := 0
  slot : Nat := 0
  hi : Q15 := 0
  lo : Q15 := 0
  count : Nat := 0
  active : Bool := false
  pin : Bool := false
  deriving DecidableEq, Repr, Inhabited

/-! ### 06 Gate links -/

/-- A gate profile (Table 06-2). -/
structure Profile where
  pre : Vector Nat 4 := Vector.replicate 4 0
  mil : Vector Nat 4 := Vector.replicate 4 0
  blank1 : Nat := 50
  blank2 : Nat := 50
  dsfilt : Nat := 10
  bootTh : Nat := 0x80
  telDiv : Nat := 1
  deriving DecidableEq, Repr, Inhabited

/-- What an awaited acknowledgement is for (R267). -/
inductive AckFor where
  | train (b : Fin 8)
  | setRole (b : Fin 8)
  | recover (b : Fin 8)
  | pattern (b : Fin 8)
  | profile (t : Ticket) (p : Profile)
  | write (t : Ticket) (addr data : Byte)
  | read (t : Ticket) (addr : Byte)
  /-- Writes repeated after a commit that failed (Table 06-12, R255). -/
  | again (writes : List (Byte × Byte))
  deriving DecidableEq, Repr, Inhabited

/-- A latest report of a booster (R261): supply, temperature, status byte, arrival, and whether it came after the
falling edge of SAFE_EN (R299). -/
structure BoosterStatus where
  supply : Byte
  temp : Byte
  status : Byte
  at_ : Nat
  afterFall : Bool
  deriving DecidableEq, Repr, Inhabited

/-- `GATE_ADAPT` settings (Table 06-15). -/
structure Adapt where
  en : BitVec 4 := 0
  n : Nat := 1
  tplOn : Nat := 1
  tplOff : Nat := 1
  vref : Q15 := 1
  step : Nat := 1
  milMin : Nat := 0
  milMax : Nat := 0
  deriving DecidableEq, Repr, Inhabited

/-- The latest edge of a switch, on or off, as the controller placed it (R297): its instant, whether it belongs to a
refresh, and whether the switch's next edge came too soon after it. -/
structure EdgeNote where
  at_ : Nat
  boot : Bool
  cut : Bool
  deriving DecidableEq, Repr, Inhabited

/-- Link state of `GATE_STATUS` but for the bridge's share (Table 06-18). -/
inductive LinkState where
  | unassigned | down | training | live | retired
  deriving DecidableEq, Repr, Inhabited

/-- A gate link (R249 to R305). -/
structure GateLink where
  state : LinkState := .unassigned
  profile : Profile := {}
  uplink : Bool := false
  downlink : Bool := false
  frozen : Bool := false
  seqDown : BitVec 2 := 0
  /-- The fallback record downloaded: `FB_ACT`, `FB_D1`, `FB_D2` (R269). -/
  fallback : Byte × Byte × Byte := (0, 0, 0)
  /-- The record a download in progress will leave (R269). -/
  fbNext : Byte × Byte × Byte := (0, 0, 0)
  ident : Byte := 0
  caps : Byte := 0
  /-- Latched codes, bit c for code c (Table 06-18). -/
  codes : Byte := 0
  /-- A DESAT code held while its window is open (R282), per switch. -/
  heldDesat : Vector Bool 2 := Vector.replicate 2 false
  /-- End of the controller's desaturation window per switch. -/
  window : Vector (Option Nat) 2 := Vector.replicate 2 none
  /-- A break latched whose code group has not come (R264). -/
  breakAt : Option Nat := none
  /-- Awaited acknowledgements, oldest first: purpose, deadline, and whether the writes were repeated (Table 06-12). -/
  acks : List (AckFor × Nat × Bool) := []
  blankViol : Bool := false
  weakMiss : Bool := false
  adaptLimit : Bool := false
  discarded : Nat := 0
  refreshes : Nat := 0
  status : Option BoosterStatus := none
  /-- A retry of an upset running (Table 06-12): whether it ends with a STATUS or with any valid frame, and its start. -/
  retry : Option (Bool × Nat) := none
  adapt : Adapt := {}
  /-- Plateau sums: per (switch, edge) the count, the sum in 2 ns steps, the latest entry and the latest mean in 0.5 ns. -/
  plCount : Vector Nat 4 := Vector.replicate 4 0
  plSum : Vector Nat 4 := Vector.replicate 4 0
  plEntry : Vector Nat 4 := Vector.replicate 4 0
  plMean : Vector Nat 4 := Vector.replicate 4 0
  /-- Weak times that take effect at the next commit point (R296). -/
  milNext : Vector (Option Nat) 4 := Vector.replicate 4 none
  /-- Forced refreshes (R292, R293): running until, series length, end of the last one. -/
  refreshEnd : Option Nat := none
  series : Nat := 0
  lastRefresh : Option Nat := none
  /-- Levels of GON of the two switches, the instants of their last off edges, and the levels commanded while a forced
  refresh holds the pins (R292). -/
  gon : Vector Bool 2 := Vector.replicate 2 false
  offAt : Vector Nat 2 := Vector.replicate 2 0
  want : Vector Bool 2 := Vector.replicate 2 false
  /-- GST of the two switches: strong, but weak from the first instant until the second (R251, R252). -/
  gst : Vector (Option (Nat × Nat)) 2 := Vector.replicate 2 none
  /-- Latest edges: first switch on and off, second switch on and off. -/
  notes : Vector (Option EdgeNote) 4 := Vector.replicate 4 none
  /-- Downlink frames sent but for heartbeats (R257 to R259), newest first: type and flags, payload, CRC-8. -/
  tx : List (List Byte) := []
  deriving DecidableEq, Repr, Inhabited

/-! ### 07 Pug -/

/-- Slot states (Table 07-10). -/
inductive SlotState where
  | free | stopped | sampling | recal | claimed | retired
  deriving DecidableEq, Repr, Inhabited

/-- `PUG_SLOT_CONFIG` (Table 07-8). -/
structure SlotCfg where
  src : Nat := 0
  ev : Nat := 0
  div : Nat := 1
  d : Nat := 1
  osr : Nat := 0
  clk : Nat := 0
  edge : Nat := 0
  nclk : Nat := 0
  deriving DecidableEq, Repr, Inhabited

/-- A coefficient bank of a slot: listed words, taps, exponent. -/
structure FirBank where
  h : Cells := [(0, 0x4000)]
  n : Nat := 1
  e : Nat := 1
  deriving DecidableEq, Repr, Inhabited

/-- An output record (Table 07-3). -/
structure SlotOut where
  value : Q15 := 0
  valid : Bool := false
  sat : Bool := false
  slip : Bool := false
  recal : Bool := false
  count : Half := 0
  /-- Stamp in 2^-16 ns since the epoch, and the frame instant. -/
  stamp : Nat := 0
  at_ : Nat := 0
  deriving DecidableEq, Repr, Inhabited

/-- A slot (R306 to R344). -/
structure PugSlot where
  state : SlotState := .free
  cfg : SlotCfg := {}
  bank : Vector FirBank 2 := Vector.replicate 2 {}
  active : Fin 2 := 0
  /-- G of the active bank, 1/256 input steps (R324). -/
  g : Int := 0
  /-- A pending swap: its packet, N, e and G. -/
  swap : Option (Ticket × Nat × Nat × Int) := none
  swapAt : Nat := 0
  /-- T_in in 125 ps steps, fixed when sampling starts (R314). -/
  tIn : Nat := 0
  /-- Inputs, newest first, with whether each is valid and usable (R328). -/
  hist : List (Q15 × Bool) := []
  /-- Outputs that are not ready yet, oldest first, each with its ready instant (R325, R327); the newest record; the values of
  the newest valid outputs, newest first, as far as a comparator counts (Table 05-9). -/
  next : List (SlotOut × Nat) := []
  out : SlotOut := {}
  recent : List Q15 := []
  frameAt : Nat := 0
  /-- The frame before, since sampling started: its instant, and the DTB then, in 125 ps steps (R314, R315). -/
  prev : Option (Nat × Nat) := none
  sat : Bool := false
  slip : Bool := false
  retry : Bool := false
  frames : Nat := 0
  /-- Inputs taken since sampling started or a recalibration ended. -/
  fresh : Nat := 0
  /-- Calibration in force: o and g (R320). -/
  calO : Q15 := 0
  calG : Half := 0x4000
  /-- Writes of the last microsecond: the instant, and o and g before it (Table 16-2). -/
  calWas : List (Nat × Q15 × Half) := []
  deriving DecidableEq, Repr, Inhabited

/-- A group clock (R309, R310): settings, the instant of a rising edge, and how far the edge nearest the last instant of
the alignment source lay from it. -/
structure DsmClock where
  en : Bool := false
  period : Nat := 0
  align : Nat := 0xFF
  edgeAt : Int := 0
  err : Option Int := none
  deriving DecidableEq, Repr, Inhabited

/-- A Pug timer (R312): settings, ticks since it was enabled, and the instant of the next one. -/
structure PugTimer where
  en : Bool := false
  period : Nat := 0
  phase : Nat := 0
  ticks : Nat := 0
  nextAt : Nat := 0
  lastAt : Nat := 0
  deriving DecidableEq, Repr, Inhabited

/-- `PUG_POS_CONFIG` (Table 07-7). -/
structure PosCfg where
  mode : Nat := 0
  dir : Nat := 0
  filt : Nat := 0
  zmode : Nat := 0
  cpr : Nat := 4
  excF : Nat := 2000
  sinSlot : Nat := 32
  cosSlot : Nat := 33
  rphase : Nat := 0
  rspeed : Nat := 1
  ampLo : Q15 := 0
  ampHi : Q15 := 0
  trkBw : Nat := 10
  spdFs : Nat := 1
  zero : Half := 0
  deriving DecidableEq, Repr, Inhabited

/-- A position input (R331 to R334). -/
structure PosInput where
  cfg : PosCfg := {}
  count : Int := 0
  homed : Bool := false
  a : Bool := false
  b : Bool := false
  angle : Half := 0
  speed : Q15 := 0
  valid : Bool := false
  spdSat : Bool := false
  retry : Bool := false
  /-- Periods of the retry passed and good ones in a row (Table 07-9). -/
  retryPeriods : Nat := 0
  goodPeriods : Nat := 0
  /-- The count when a retry started (Table 07-9), and the end of the last excitation period. -/
  retryFrom : Int := 0
  at_ : Nat := 0
  elec : Half := 0
  turns : Int := 0
  /-- A resolver period has given an angle since configuration (R332). -/
  seen : Bool := false
  /-- The tracker of the angle, and the instant it has reached (R333). -/
  trk : Tracker := {}
  trkAt : Nat := 0
  amplitude : Q15 := 0
  zError : Int := 0
  deriving DecidableEq, Repr, Inhabited

/-- The recalibration that runs (R339). -/
structure Recal where
  slot : Nat
  ticket : Ticket
  oldO : Q15
  oldG : Half
  /-- The two points are measured; the output's window must fill before DONE. -/
  measured : Bool := false
  failed : Bool := false
  deriving DecidableEq, Repr, Inhabited

/-! ### 08 Capture units -/

/-- Unit states, codes 0 to 5 (R370). -/
inductive CapState where
  | free | idle | armed | filling | full | retired
  deriving DecidableEq, Repr, Inhabited

/-- One sample of a channel. -/
structure CapSample where
  value : Q15
  valid : Bool
  sat : Bool
  slip : Bool
  late : Bool
  deriving DecidableEq, Repr, Inhabited

/-- Trigger memory of one condition (R356). -/
structure TrigMem where
  /-- A sample at or beyond the arming level has been seen, for a rising and a falling condition. -/
  low : Bool := false
  high : Bool := false
  count : Nat := 0
  prev : Option Q15 := none
  /-- The run of consecutive samples that satisfy the condition: 0 none, 1 rising or other, 2 falling. -/
  run : Nat := 0
  deriving DecidableEq, Repr, Inhabited

/-- A sample instant of a group: its instant, DTB nanoseconds, and per channel the own instant and the sample. -/
structure CapRow where
  at_ : Nat
  ns : DWord
  chans : List (Nat × CapSample)
  deriving DecidableEq, Repr, Inhabited

/-- A segment written: record number, whether it is still filling, and its bytes once closed. -/
structure CapSegment where
  recno : Word
  filling : Bool
  bytes : List Byte
  deriving DecidableEq, Repr, Inhabited

/-- A capture unit (R345 to R374). -/
structure CapUnit where
  state : CapState := .free
  config : List Byte := []
  leader : Nat := 0
  /-- Samples closed since the arm. -/
  samples : Nat := 0
  /-- Sample instants not closed yet, oldest first, and the newest `L` samples closed, newest first. -/
  due : List CapRow := []
  hist : List CapRow := []
  trig : Vector TrigMem 4 := Vector.replicate 4 {}
  /-- The record being filled: cause, firing unit, ignored triggers, samples from the trigger sample on. -/
  cause : Word := 0
  firing : Byte := 0xFF
  ignored : Nat := 0
  filled : Nat := 0
  recno : Word := 0
  seg : Nat := 0
  complete : Nat := 0
  newest : Nat := 0
  newestRec : Word := 0
  /-- Segments withdrawn (R374), and segments written, by number. -/
  withdrawn : List Nat := []
  segs : List (Nat × CapSegment) := []
  /-- Edges of `CAP_EXT0` and `CAP_EXT1` not taken yet (R357). -/
  ext : Vector (Option Nat) 2 := Vector.replicate 2 none
  partialGroup : Bool := false
  deriving DecidableEq, Repr, Inhabited

/-- A `CAP_ARM` that waits for its groups' first samples (R365). -/
structure ArmWait where
  ticket : Ticket
  groups : List Nat
  lowest : Nat
  first : Option DWord
  deriving DecidableEq, Repr, Inhabited

/-- A `CAP_FORCE` that waits for its groups (R367): groups left, instant of execution, result of the lowest group. -/
structure ForceWait where
  ticket : Ticket
  groups : List Nat
  lowest : Nat
  since : Nat
  recno : Word
  seg : Nat
  note : Bool
  deriving DecidableEq, Repr, Inhabited

/-! ### 09 Saggar and channel A -/

/-- Commissioning states (Table 09-6). -/
inductive CommState where
  | uncommissioned | staged | confirmed | commissioned
  deriving DecidableEq, Repr, Inhabited

/-- One safety input function in one channel (R386 to R397). -/
structure SafeFn where
  /-- Filtered state of its two inputs; none while undefined (R376). -/
  inA : Option Bool := none
  inB : Option Bool := none
  demanded : Bool := false
  latch : Bool := false
  disc : Bool := false
  tested : Bool := false
  seenOpen : Bool := false
  /-- The inputs have been open together since the discrepancy latch was set, and closed since (R394). -/
  discOpened : Bool := false
  discClear : Bool := false
  discSince : Option Nat := none
  /-- An SS1-t safe instant that is pending (R387). -/
  safeAt : Option Nat := none
  /-- A safe instant has passed since the latches last cleared. -/
  safePassed : Bool := false
  /-- SBC outputs whose `SBC_DLY` after the safe instant runs, and those past it (R392). -/
  sbcDue : Vector (Option Nat) 2 := Vector.replicate 2 none
  sbcPast : Vector Bool 2 := Vector.replicate 2 false
  request : Bool := false
  deriving DecidableEq, Repr, Inhabited

/-- One channel's view (R375 to R399). -/
structure Channel where
  fn : Vector SafeFn 4 := Vector.replicate 4 {}
  /-- SBC outputs lost `SBC_DLY` after an internal or cross-channel fault, and the instants at which they will be (R392). -/
  sbcLost : Vector Bool 2 := Vector.replicate 2 false
  sbcAt : Vector (Option Nat) 2 := Vector.replicate 2 none
  toggles : Nat := 0
  deriving DecidableEq, Repr, Inhabited

/-- The Saggar, channel A and the commissioning store (R375 to R415). -/
structure Saggar where
  chA : Channel := {}
  chB : Channel := {}
  safeEn : Bool := false
  /-- The last falling edge of SAFE_EN; reset's low level counts as low since then (log 92). -/
  enFell : Nat := 0
  sin : Byte := 0
  comm : CommState := .uncommissioned
  staged : Option (List Byte) := none
  /-- The committed block in force, and the block with its check value in NOR. -/
  block : Option (List Byte) := none
  nor : Option (List Byte × Word) := none
  confirm : Option (Ticket × Nat) := none
  sfault : Bool := false
  xfault : Bool := false
  lockstep : Bool := false
  missed : Nat := 0
  differ : Nat := 0
  sbcReq : BitVec 2 := 0
  /-- Level of each SSL line, whether it toggles, and the last edge. -/
  sslRun : Byte := 0
  ssl : Byte := 0
  sslEdge : Vector Nat 8 := Vector.replicate 8 0
  clrRef : Nat := 0
  deriving DecidableEq, Repr, Inhabited

/-! ### 14 Upset rule, fault log, Cones, duplex -/

/-- Channel states, codes 0 to 2 (R578, R616). -/
inductive ChanState where
  | inService | retrying | retired
  deriving DecidableEq, Repr, Inhabited

/-- A channel of the upset rule (R578 to R583): state, runs of the present retry, bucket, end of its leak period,
upsets since reset. -/
structure Chan where
  state : ChanState := .inService
  runs : Nat := 0
  bucket : Nat := 0
  leakAt : Nat := 0
  upsets : Nat := 0
  deriving DecidableEq, Repr, Inhabited

/-- A fault log entry (Table 14-3). -/
structure LogEntry where
  seq : Word
  stamp : DWord
  kind : Nat
  chanKind : Nat
  unit : Nat
  cause : Nat
  runs : Nat
  bucket : Nat
  detail : Nat
  deriving DecidableEq, Repr, Inhabited

/-- The upset rule's own state (R578 to R589, R614). -/
structure Discipline where
  /-- All channels but DRAM pages, at the places `chanIndex` gives. -/
  chans : Vector Chan 102 := Vector.replicate 102 {}
  pages : List (Nat × Chan) := []
  /-- `N` and `W` per kind (R581, R614). -/
  n : Vector Nat 13 := Vector.replicate 13 8
  w : Vector Nat 13 := Vector.replicate 13 60
  kindUpsets : Vector Nat 13 := Vector.replicate 13 0
  kindRetired : Vector Nat 13 := Vector.replicate 13 0
  /-- Instants of the upsets of the last 60 s (Table 14-4). -/
  recent : List Nat := []
  spares : Nat := 0x0400
  /-- The fault log, newest first, its next sequence number, and the part kept in NOR (R587). -/
  log : List LogEntry := []
  seq : Word := 0
  norLog : List LogEntry := []
  selfTest : Bool := false
  conesRun : Bool := false
  conesFail : Bool := false
  rounds : Nat := 0
  lastFail : Nat := 0
  deriving DecidableEq, Repr, Inhabited

/-- Duplex roles, codes 0 to 4 (Table 14-9). -/
inductive DpxRole where
  | none | pairing | active | standby | relinquished
  deriving DecidableEq, Repr, Inhabited

/-- The duplex service (R590 to R613). -/
structure Duplex where
  role : DpxRole := .none
  noStandby : Bool := false
  heard : Bool := false
  reasons : Byte := 0
  switches : Nat := 0
  lost : Nat := 0
  pairSince : Nat := 0
  outOfStep : Bool := false
  switchBy : Option Ticket := none
  /-- A handover in progress: its decision instant, and the channel whose fault it serves (none for `DPX_SWITCH`). -/
  handover : Option (Nat × Option ChanRef) := none
  claims : Byte := 0
  partnerClaims : Byte := 0
  partnerRole : DpxRole := .none
  partnerHealth : Word := 0
  partnerCheck : Word := 0
  /-- The partner has retired a unit that a duplexed bridge needs; its input-B gate links are live. -/
  partnerNeeds : Bool := false
  partnerLinks : Bool := false
  controlLost : Bool := false
  partnerLost : Bool := false
  /-- Newest mirror record per bridge and its arrival (R598, R599); records sent. -/
  mirror : Vector (List Byte) 8 := Vector.replicate 8 []
  mirrorAt : Option Nat := none
  heardSeq : Vector (Option Half) 8 := Vector.replicate 8 none
  sentSeq : Vector Half 8 := Vector.replicate 8 0
  /-- Records that wait to be sent, oldest first; the rest of one begun in the last mirror frame; and the first half of one
  received (R562). -/
  sent : List (List Byte) := []
  sentRest : List Byte := []
  heardHalf : List Byte := []
  /-- Accepted packets forwarded to the standby (R595) with the status it returned, if any; and the completions that wait for
  one, with the end of the wait. -/
  forwarded : List (Ticket × Option Nat) := []
  held : List (Ticket × Answer × Nat) := []
  takeover : List Nat := []
  takeoverAt : Option Nat := none
  deriving DecidableEq, Repr, Inhabited

/-! ### 11 The Wheel -/

/-- Context states, codes 0 to 6 (Table 11-2). -/
inductive WcState where
  | free | idle | delayed | waiting | ready | running | owned
  deriving DecidableEq, Repr, Inhabited

/-- A place of a program: space 0 to 5, or 6 for a value register of the runner; its address and type. -/
structure EicPlace where
  runner : Nat
  space : Nat
  addr : Nat
  ty : Nat
  deriving DecidableEq, Repr, Inhabited

/-- What learns the outcome of a ready request (R465): a `WHEEL_READY`, a `WHEEL_DELAY`, a `WHEEL_WAIT` with the signals
that satisfied it (none after a time-out), the status operand of an EIC instruction, a READY call of a thread, and a DELAY
or WAIT call with what it returns. -/
inductive ReadyBy where
  | ready (t : Ticket)
  | delay (t : Ticket)
  | wait (t : Ticket) (signals : Option Word)
  | eic (p : EicPlace)
  | call (c : Nat)
  | resume (c : Nat) (result : DWord)
  deriving DecidableEq, Repr, Inhabited

/-- A Wheel context (R458 to R480). -/
structure WheelContext where
  state : WcState := .free
  prio : Nat := 0
  tmode : Nat := 0
  entry : Nat := 0
  /-- What reports the present readiness. -/
  by_ : List ReadyBy := []
  /-- The pending ready flag and what reports it (R466). -/
  pend : Bool := false
  pendBy : List ReadyBy := []
  /-- The packet of a delay or wait; none for a thread call. -/
  timer : Option Ticket := none
  /-- Expiry or time-out in DTB nanoseconds since the epoch. -/
  due : Option Nat := none
  mask : Word := 0
  dispatches : Nat := 0
  deriving DecidableEq, Repr, Inhabited

/-- The Wheel. -/
structure Wheel where
  tick : Nat := 4
  /-- Pending bits, and signals raised since the last Wheel cycle (R472). -/
  pending : Word := 0
  raised : Word := 0
  /-- Mapping of each signal: class and unit, none for any unit (R473). -/
  map : Vector (Option (Byte × Option Half)) 32 := Vector.replicate 32 none
  /-- Cancels and ready requests that reached the Wheel since the last Wheel cycle, in order of arrival (R460). -/
  cancels : List (Ticket × Nat) := []
  readies : List (Nat × ReadyBy) := []
  /-- Number of the last Wheel cycle that was run, in 40 ns since the epoch. -/
  lastCycle : Option Nat := none
  cancelPre : Nat := 0
  cancelRdy : Nat := 0
  coalesced : Nat := 0
  waitTos : Nat := 0
  dispB : Nat := 0
  dispL : Nat := 0
  longest : Nat := 0
  ctx : Vector WheelContext 128 := Vector.ofFn fun i => if i.val < 4 then { state := .owned, prio := i.val } else {}
  /-- Contexts running on pair B and on the event lane. -/
  pairB : Option Nat := none
  lane : Option Nat := none
  /-- Instant of the last dispatch on each, which a TMX pin can show (19 Table 19-4). -/
  dispAt : Vector (Option Nat) 2 := Vector.replicate 2 none
  deriving DecidableEq, Repr, Inhabited

/-! ### 12 The cycle engine -/

/-- Engine states, codes 0 to 4 (R506). -/
inductive CycState where
  | empty | stop | run | hold | retired
  deriving DecidableEq, Repr, Inhabited

/-- A call in progress: where it returns to, v16 to v31, and the loops open before it. -/
structure EicFrame where
  ret : Nat
  saved : List DWord
  loops : List (Nat × Nat)
  deriving DecidableEq, Repr, Inhabited

/-- A run of a task (R495): runners 0 to 3 are the cyclic tasks, runner 4 the event lane. -/
structure EicRun where
  active : Bool := false
  /-- Task number: 0 to 3 cyclic, 4 + e event. -/
  task : Nat := 0
  pc : Nat := 0
  v : Vector DWord 32 := Vector.replicate 32 0
  frames : List EicFrame := []
  /-- Open loops, innermost first: code offset of BEGIN and passes left. -/
  loops : List (Nat × Nat) := []
  /-- Start instant of the cycle, and the first start instant of the task since RUN, in DTB nanoseconds since the epoch. -/
  start : Nat := 0
  firstStart : Nat := 0
  /-- The last start instant whose input phase has run, or that was skipped. -/
  phaseAt : Option Nat := none
  /-- Consecutive overruns, skips and cycles since reset. -/
  overruns : Nat := 0
  skips : Nat := 0
  cycles : Nat := 0
  /-- Input image and output image as the input phase left them; own writes to the output image and the retain space, by
  byte (no entry: not written). -/
  inp : Cells := []
  out : Cells := []
  outWrites : Cells := []
  retWrites : Cells := []
  deriving DecidableEq, Repr, Inhabited

/-- A copy of the retain area (R511). -/
structure RetainCopy where
  seq : Nat := 0
  imageId : Word := 0
  crcOk : Bool := false
  bytes : Cells := []
  deriving DecidableEq, Repr, Inhabited

/-- A force (R522): its variable, the value, and whether it has taken effect. -/
structure Force where
  sym : EicSymbol
  value : DWord
  active : Bool
  /-- Whether the force has been asked to go at the next start of its owner. -/
  removing : Bool
  deriving DecidableEq, Repr, Inhabited

/-- A `CYC_FORCE` that is resolved against a new image (R523), a `CYC_READ` or a `CYC_WRITE` that waits for its task (R524). -/
structure VarWait where
  ticket : Ticket
  sym : EicSymbol
  first : Nat
  count : Nat
  value : List Byte
  deriving DecidableEq, Repr, Inhabited

/-- A pending change (R518, R520): its packet, `STORE`, the switch instant in DTB nanoseconds, moves so far, payload length. -/
structure CycChange where
  ticket : Ticket
  store : Bool
  at_ : Nat
  moves : Nat
  room : Nat
  deriving DecidableEq, Repr, Inhabited

/-- `CYC_STATION` settings (Table 12-6) with the substitute blocks. -/
structure StationCfg where
  port : Nat
  task : Nat
  mac : List Byte
  inLen : Nat
  outLen : Nat
  inOfs : Nat
  outOfs : Nat
  statOfs : Nat
  hold : Nat
  missMax : Nat
  rejoin : Bool
  stopOut : Bool
  en : Bool
  inSub : List Byte
  outSub : List Byte
  deriving DecidableEq, Repr, Inhabited

/-- A valid input frame: its receive stamp in DTB nanoseconds, cycle field and data. -/
structure StationFrame where
  stamp : Nat
  cycle : Nat
  data : List Byte
  deriving DecidableEq, Repr, Inhabited

/-- A remote station (R500 to R505). -/
structure Station where
  cfg : Option StationCfg := none
  present : Bool := false
  /-- The station has become ABSENT; one that is neither waits for its first valid frame (R500). -/
  absent : Bool := false
  /-- Consecutive input phases without and with a valid frame. -/
  missed : Nat := 0
  good : Nat := 0
  quality : Nat := 1
  absences : Nat := 0
  /-- Last GOOD values, and valid frames not yet taken, newest first. -/
  held : List Byte := []
  frames : List StationFrame := []
  deriving DecidableEq, Repr, Inhabited

/-- The cycle engine (R481 to R531). -/
structure Cycle where
  state : CycState := .empty
  restart : Nat := 0
  autoRun : Bool := false
  ksLimit : Nat := 2
  outOfs : Vector Nat 4 := Vector.replicate 4 10
  image : List Byte := []
  /-- Data, input and output images by byte; the retain copies and the one in use. -/
  data : Cells := []
  inp : Cells := []
  out : Cells := []
  retain : Vector RetainCopy 2 := Vector.replicate 2 {}
  retUse : Fin 2 := 0
  /-- The staging area and whether it is verified (R516, R517). -/
  staged : Option (List Byte) := none
  verified : Bool := false
  change : Option CycChange := none
  /-- The program image and `CYC_CONFIG` kept in NOR (R530). -/
  nor : Option (List Byte × List Byte) := none
  forces : List Force := []
  /-- Forces whose first start is the switch instant (R523), reads and writes that wait for their task. -/
  forceWaits : List VarWait := []
  reads : List VarWait := []
  writes : List VarWait := []
  /-- Trace ring, newest first: stamp and value (R490). -/
  trace : List (DWord × DWord) := []
  breaks : List Nat := []
  cause : Half := 0
  div0 : Bool := false
  bound : Bool := false
  coldNote : Bool := false
  runs : Vector EicRun 5 := Vector.replicate 5 {}
  /-- DTB nanoseconds of the last call of each timer instance, by space and address (R490). -/
  timerAt : List (Nat × Nat) := []
  /-- `CYC_MODE` RUN packets that wait for the first start, or STOP packets that wait for the last cycle (R507, R509). -/
  modeWait : List Ticket := []
  stopping : Bool := false
  stations : Vector Station 32 := Vector.replicate 32 {}
  /-- Station frames sent, newest first: port and frame. -/
  sent : List (Nat × List Byte) := []
  deriving DecidableEq, Repr, Inhabited

/-! ### 16 Service -/

/-- Bank states, codes 0 to 5 (R671). -/
inductive BankState where
  | empty | loading | verified | trial | good | invalid
  deriving DecidableEq, Repr, Inhabited

/-- A firmware bank (R652). -/
structure FwBank where
  state : BankState := .empty
  image : List Byte := []
  /-- A TRIAL bank has been booted once since it was activated (R656). -/
  booted : Bool := false
  deriving DecidableEq, Repr, Inhabited

/-- A NOR write that a packet waits for, the commit of a safety block (R406) or the profile (R651). -/
inductive NorWrite where
  | fwLoad (t : Ticket) (bank off : Nat) (bytes : List Byte)
  | fwActivate (t : Ticket) (bank : Nat) (reset : Bool)
  | fwConfirm (t : Ticket)
  | cal (t : Ticket) (first : Nat) (entries : List Half)
  | svc (t : Ticket) (slot off : Nat) (bytes : List Byte) (last : Bool)
  | cycStore (t : Ticket) (image config : List Byte) (r0 : Word) (note : Option Nat) (list : List Byte) (stamp : Option Nat)
  | profile
  | block
  deriving DecidableEq, Repr, Inhabited

/-- A slot of the service threads (R664): the bytes loaded and whether a whole image is installed. -/
structure SvcSlot where
  bytes : List Byte := []
  installed : Bool := false
  deriving DecidableEq, Repr, Inhabited

/-- A user thread, WC4 to WC7 (R667 to R669): what thread calls wrote into its memory, the result register, whether it
starts at ENTRY at its next dispatch, when the present run began, and whether a READY call waits for its outcome. -/
structure Thread where
  mem : Cells := []
  result : DWord := 0
  fresh : Bool := true
  runSince : Option Nat := none
  waits : Bool := false
  deriving DecidableEq, Repr, Inhabited

/-- What NOR holds for service (R650 to R671). -/
structure Service where
  banks : Vector FwBank 2 := Vector.ofFn fun i => if i.val = 0 then { state := .good } else {}
  running : Fin 2 := 0
  /-- The running firmware came up from a TRIAL bank that waits for its confirmation. -/
  trial : Bool := false
  secCounter : Nat := 0
  /-- Calibration entries but for the slots' (Table 16-2), which stand in the slots, and those stored (log 4). -/
  cal : Cells := []
  calBad : Bool := false
  svc : Vector SvcSlot 4 := Vector.replicate 4 {}
  threads : Vector Thread 4 := Vector.replicate 4 {}
  /-- NOR writes accepted, oldest first. -/
  norQueue : List NorWrite := []
  /-- The set-up profile stored in NOR (R684). -/
  profile : Option (List (Nat × Nat)) := none
  deriving DecidableEq, Repr, Inhabited

/-! ### 13 Time, networks, ring -/

/-- A change of the DTB that waits for its tick (R539, R540): an `INCR` with a duration and what follows it, an offset, or a
new value. -/
inductive TimeMove where
  | incr (v : DWord) (duration : Nat) (after : DWord)
  | offset (ns : DWord)
  | set (sec : DWord) (ns : Word)
  deriving DecidableEq, Repr, Inhabited

structure TimeChange where
  ticket : Ticket
  move : TimeMove
  at_ : Nat
  deriving DecidableEq, Repr, Inhabited

/-- The time base but for the DTB and `INCR` (R532 to R543). -/
structure TimeBase where
  src : Nat := 0
  valid : Bool := false
  locked : Bool := false
  snapSec : DWord := 0
  snapNs : Word := 0
  snapSub : Half := 0
  /-- Last measured offset from the source in ns (R577). -/
  offset : Int := 0
  changes : List TimeChange := []
  /-- A running `DURATION`: its end and `INCR_AFTER`. -/
  duration : Option (Nat × DWord) := none
  /-- `TIME_PTP_CONFIG` in force; Sync messages in a row within 100 ns; messages sent per kind (Sync, Announce, request). -/
  ptp : Option (List Byte) := none
  ptpInRow : Nat := 0
  ptpSent : Vector Nat 3 := Vector.replicate 3 0
  ptpNext : Vector Nat 3 := Vector.replicate 3 0
  deriving DecidableEq, Repr, Inhabited

/-- A frame that waits to leave a port (R549). -/
structure TxWait where
  ticket : Ticket
  cls : Nat
  stamp : Bool
  length : Nat
  bytes : List Byte
  deadline : Nat
  deriving DecidableEq, Repr, Inhabited

/-- A posted `NET_RX` (R548): its packet, port (2 either), filter (0xFF any) and buffer length. -/
structure RxWait where
  ticket : Ticket
  port : Nat
  filter : Nat
  room : Nat
  deriving DecidableEq, Repr, Inhabited

/-- A gate-control list (R550): base time in DTB nanoseconds, entries (mask, interval). -/
structure Gcl where
  base : Nat
  entries : List (Nat × Nat)
  deriving DecidableEq, Repr, Inhabited

/-- An Ethernet port (R544 to R552). Its set-up registers lie in the register file. -/
structure EthPort where
  link : Bool := false
  speed : BitVec 2 := 0
  discarded : Nat := 0
  badFcs : Nat := 0
  gcl : Option Gcl := none
  /-- A list that waits: its packet, the list, the instant in DTB nanoseconds. -/
  gclNext : Option (Ticket × Gcl × Nat) := none
  /-- Entry in force and the end of its interval in DTB nanoseconds; open gates of classes 0 to 6. -/
  entry : Nat := 0
  entryEnd : Nat := 0
  gates : BitVec 7 := 0x7F
  txq : List TxWait := []
  /-- The last frame of a `NET_TX` that left, with its FCS (R549). -/
  sent : List Byte := []
  deriving DecidableEq, Repr, Inhabited

/-- A filter (R547). -/
structure NetFilter where
  en : Bool := false
  ports : Nat := 0
  addr : List Byte := List.replicate 6 0
  mask : List Byte := List.replicate 6 0
  etype : Nat := 0
  deriving DecidableEq, Repr, Inhabited

/-- A message under assembly (R563): number, fragment count, length, fragments by index. -/
structure Assembly where
  number : Nat
  count : Nat
  length : Nat
  parts : List (Nat × List Byte)
  deriving DecidableEq, Repr, Inhabited

/-- Another node as this node hears it (R560, R565, R569). -/
structure RingNode where
  heard : Bool := false
  known : Bool := false
  lastAt : Nat := 0
  beat : List Byte := []
  hopsA : Option Nat := none
  hopsB : Option Nat := none
  record : List Byte := List.replicate 32 0
  parts : Option Assembly := none
  deriving DecidableEq, Repr, Inhabited

/-- An `NR_SEND` under way (R563, R570): destination (0xFF all), message number, bytes, fragments sent, deadline, and the
packet while no answer has come. -/
structure RingSend where
  ticket : Ticket
  dest : Nat
  number : Nat
  bytes : List Byte
  next : Nat
  deadline : Option Nat
  deriving DecidableEq, Repr, Inhabited

/-- Ring states, codes 0 to 3 (Table 13-17). -/
inductive RingState where
  | off | loopback | line | ring
  deriving DecidableEq, Repr, Inhabited

/-- The Nimor ring (R555 to R574). -/
structure Ring where
  state : RingState := .off
  aligned : Bool := false
  master : Bool := false
  split : Bool := false
  masterId : Nat := 0
  nodes : Vector RingNode 16 := Vector.replicate 16 {}
  /-- Link delays of NA and NB in 125 ps steps, and the instants at which their requests left (R559). -/
  delay : Vector Nat 2 := Vector.replicate 2 0
  reqAt : Vector (Option Nat) 2 := Vector.replicate 2 none
  reqDue : Nat := 0
  /-- Ring cycle count last run (R560). -/
  cycle : Nat := 0
  /-- `NR_PUBLISH` data and its sequence count. -/
  data : List Byte := List.replicate 22 0
  seq : Half := 0
  msgNo : Byte := 0
  sends : List RingSend := []
  recvs : List Ticket := []
  /-- Owed: ACK frames (sender, number, result) and WAKE frames (target, cycles left). -/
  acks : List (Nat × Nat × Nat) := []
  wakes : List (Nat × Nat) := []
  discards : Nat := 0
  /-- Since when the offset has stayed within 4 ns (R567), and the last offset in 2^-16 ns. -/
  inSince : Option Nat := none
  offset : Int := 0
  /-- Both bypass relays energised; instants of the insertion deadline and of the retry (R572). -/
  relays : Bool := false
  insertBy : Option Nat := none
  retryAt : Option Nat := none
  /-- Since when no better candidate has been heard (R566). -/
  noBetter : Option Nat := none
  /-- Frames sent in the last ring cycle: direction NA, NB, header and payload. -/
  sent : List (Bool × List Byte) := []
  /-- The ring was closed at insertion, and ports that retrain after an upset (R574). -/
  closed : Bool := false
  retrain : Vector Bool 2 := Vector.replicate 2 false
  deriving DecidableEq, Repr, Inhabited

/-! ### 15 Power, clocks, boot; 17 set-up and windows -/

/-- Power states, codes 0 to 4 (Table 15-2). -/
inductive PwrState where
  | backup | keep | watch | ready | run
  deriving DecidableEq, Repr, Inhabited

/-- A feed (R617 to R619): level in 0.125 V steps, in its window, ideal diode closed. -/
structure Feed where
  level : Byte := 0
  ok : Bool := false
  on : Bool := false
  deriving DecidableEq, Repr, Inhabited

/-- A PLL (R635 to R641): the instants of the loss of lock and of the start of a re-lock run. -/
structure Pll where
  locked : Bool := false
  holdover : Bool := false
  relock : Bool := false
  losses : Nat := 0
  lossAt : Option Nat := none
  relockAt : Option Nat := none
  deriving DecidableEq, Repr, Inhabited

/-- Power, clocks and boot (R617 to R649). -/
structure Power where
  state : PwrState := .ready
  feeds : Vector Feed 2 := Vector.replicate 2 {}
  vhold : Byte := 0
  vbak : Byte := 0
  rstCause : BitVec 3 := 0
  wakeCause : BitVec 3 := 0
  /-- Always-on count at the model's instant 0, and the upper half as latched (R626). -/
  aon : Nat := 0
  aonHi : Half := 0
  /-- When the last need of RUN ended, since when the sleep conditions hold, when it went to sleep (R628 to R631). -/
  needEnd : Option Nat := none
  sleepSince : Option Nat := none
  asleepAt : Nat := 0
  watchCount : Nat := 0
  /-- GON and GST pads as a reset found them, held until an instant (R692). -/
  padHold : Option (Nat × Vector (Vector (Bool × Bool) 2) 24) := none
  /-- The CK_AON cycle in which a wake source fired last (R631). -/
  wokeAt : Option Nat := none
  /-- A power-fail sequence that runs, with its start (R623), and the newest power-fail record in NOR: the DTB. -/
  failing : Option Nat := none
  failRecord : Option (DWord × Word) := none
  /-- No firmware bank passed its check at the last reset (R656). -/
  noBank : Bool := false
  /-- `BOOT_STATUS` (Table 15-13) but for `BANK`. -/
  stage : Nat := 0
  ready : Bool := false
  profile : Bool := false
  auto : Bool := false
  fail : Nat := 0
  selfTested : Bool := false
  /-- `CLK_REF` (Table 15-10). -/
  refRing : Bool := false
  xtalOk : Bool := false
  aonXtal : Bool := false
  plls : Vector Pll 5 := Vector.replicate 5 {}
  /-- `GEN_STATUS.SAVE_BUSY` and `SAVE_FAIL` (Table 17-5). -/
  saveBusy : Bool := false
  saveFail : Bool := false
  /-- Words 1 to 15 of the window records as latched, by class and unit (R687). -/
  latched : List (Nat × List Word) := []
  deriving DecidableEq, Repr, Inhabited

/-! ### 19 Debug -/

/-- The debug block and the JTAG port (R707 to R720). `DBG_CTRL.REQ` and the TMX registers lie in the register file. -/
structure Debug where
  level : Nat := 0
  /-- The challenge, whether a submission may still use it, and the response words written. -/
  chal : Vector Word 4 := Vector.replicate 4 0
  live : Bool := false
  resp : Cells := []
  /-- Failed submissions in a row, and the end of the lockout. -/
  fails : Nat := 0
  lockout : Option Nat := none
  extRefused : Bool := false
  atestRefused : Bool := false
  extest : Bool := false
  /-- `DBG_ATEST`: `SRC` in bits [3:0], `AIN` in bits [11:8]. -/
  atest : Nat := 0
  /-- Instruction register of the port, data register of `DBG_AUTH`, image under load in the mailbox. -/
  ir : BitVec 5 := 1
  dr : BitVec 40 := 0
  mbox : List Byte := []
  deriving DecidableEq, Repr, Inhabited

/-- Variants (Table 00-1). -/
inductive Variant where
  | cd6340 | cd6320 | cd6310
  deriving DecidableEq, Repr, Inhabited

/-- The state of the block. -/
structure State where
  /-- Waiting commands, first in first out (the model's own). -/
  pending : List Instr := []
  /-- The instant in 125 ps steps since reset (the model's own). -/
  now : Nat := 0
  nextId : Nat := 0
  /-- Free values drawn so far (the model's own; DESIGN CHOICE, log 3). -/
  freeSeed : Nat := 0
  /-- Data of the last register read (the model's own). -/
  lastRead : Word := 0
  /-- The variant and the fixed data of the part (Tables 00-1, 17-2, 17-3). -/
  variant : Variant := .cd6340
  serial : DWord := 0
  stepping : Half := 0
  /-- DTB in 2^-32 ns since the epoch (R532, R533), and its correction (R535 to R541). -/
  dtb : Nat := 0
  incr : DWord := 0x4_0000_0000
  /-- Registers of BAR0 that differ from their reset value, as written and as in force (R13, R682). -/
  regs : Cells := []
  inForce : Cells := []
  lockWritten : Bool := false
  locked : Bool := false
  gpioErr : Word := 0
  gpioLevel : Word := 0
  linkUp : Bool := false
  linkRate : Nat := 0
  linkWidth : Nat := 0
  busMaster : Bool := false
  qps : Vector QueuePair 16 := Vector.replicate 16 {}
  /-- MSI-X messages sent per vector and the pending-bit array (R433, R434). -/
  vectors : Vector Nat 32 := Vector.replicate 32 0
  pba : Word := 0
  barriers : Vector (Option BarrierInst) 8 := Vector.replicate 8 none
  waits : List (Ticket × Word) := []
  events : List DevEvent := []
  lostEvents : Nat := 0
  /-- `REINSTATE` packets whose retry action runs: packet, kind, unit (R585). -/
  reinst : List (Ticket × Nat × Nat) := []
  bridges : Vector Bridge 8 := Vector.replicate 8 {}
  gfes : Vector GfEngine 4 := Vector.replicate 4 {}
  lcs : Vector LoopContext 24 := Vector.ofFn fun i => { host := i.val / 4 }
  pwms : Vector PwmGen 8 := Vector.replicate 8 {}
  trips : Vector TripSource 16 := Vector.replicate 16 {}
  links : Vector GateLink 24 := Vector.replicate 24 {}
  slots : Vector PugSlot 48 := Vector.replicate 48 {}
  dsm : Vector DsmClock 4 := Vector.replicate 4 {}
  pugTimers : Vector PugTimer 2 := Vector.replicate 2 {}
  poss : Vector PosInput 4 := Vector.replicate 4 {}
  recal : Option Recal := none
  caps : Vector CapUnit 4 := Vector.replicate 4 {}
  armWaits : List ArmWait := []
  forceWaits : List ForceWait := []
  sag : Saggar := {}
  /-- Level of the RESET_N pin. -/
  resetN : Bool := true
  flt : Discipline := {}
  dpx : Duplex := {}
  wheel : Wheel := {}
  cyc : Cycle := {}
  svcs : Service := {}
  time : TimeBase := {}
  ports : Vector EthPort 2 := Vector.replicate 2 {}
  netRx : List RxWait := []
  filters : Vector NetFilter 16 := Vector.replicate 16 {}
  ring : Ring := {}
  dbg : Debug := {}
  pwr : Power := {}
  /-- Bytes of the local command rings (R456), per queue pair, from the ring's base. -/
  localRing : Vector Cells 16 := Vector.replicate 16 []
  deriving DecidableEq, Repr, Inhabited

/-- The machine right after reset: every field at its default above, which is the value the spec states for reset or,
where it states none, the value the assumption log names (log 4). -/
def State.reset : State := {}

/-- Stops that are faults. -/
inductive Fault where
  /-- A memory list of the state is not in canonical form. No command raises it (safe). -/
  | badMemory
  deriving DecidableEq, Repr

/-- Commands that are turned away by name. -/
inductive Refusal where
  /-- The command has no meaning in the model yet (safe). -/
  | notModelled (mnemonic : String)
  /-- The operands are none a sender can spell, for example a packet without its 40 parameter bytes (safe). -/
  | illFormed
  deriving DecidableEq, Repr

end Sys2Proof.Machine
end

