-- ==== Sys2Proof/Machine/Bits.lean ====
section
/-! DEFINITION. Bytes, check values, saturation and rounding, canonical cell lists and fixed unit sets. -/

namespace Sys2Proof.Machine

/-! ### Fixed unit sets -/

/-- Unit k of a set, the default beyond it. -/
def vget {α : Type} {n : Nat} [Inhabited α] (v : Vector α n) (k : Nat) : α := if h : k < n then v[k] else default

/-- The set with unit k replaced; unchanged when there is no unit k. -/
def vset {α : Type} {n : Nat} (v : Vector α n) (k : Nat) (x : α) : Vector α n := if h : k < n then v.set k x else v

/-- The set with unit k changed. -/
def vmod {α : Type} {n : Nat} [Inhabited α] (v : Vector α n) (k : Nat) (f : α → α) : Vector α n :=
  vset v k (f (vget v k))

/-- The numbers below n that meet a test, ascending. -/
def numbers (n : Nat) (p : Nat → Bool) : List Nat := (List.range n).filter p

/-- The numbers of the bits set in a mask below n. -/
def bitsOf (n mask : Nat) : List Nat := numbers n mask.testBit

/-! ### Bytes -/

/-- Byte k of a list, 0 beyond its end. -/
def byteAt (bs : List Byte) (k : Nat) : Nat := (bs.getD k 0).toNat

/-- Little-endian value of n bytes at an offset (R420). -/
def le (bs : List Byte) (off : Nat) : Nat → Nat
  | 0 => 0
  | n + 1 => byteAt bs off + 256 * le bs (off + 1) n

/-- A value read as two's complement of `bits` bits. -/
def signed (bits v : Nat) : Int := if v % 2 ^ bits < 2 ^ (bits - 1) then (v % 2 ^ bits : Nat) else (v % 2 ^ bits : Nat) - (2 ^ bits : Nat)

/-- The n little-endian bytes of a value. -/
def bytesOf : Nat → Nat → List Byte
  | 0, _ => []
  | n + 1, v => BitVec.ofNat 8 v :: bytesOf n (v / 256)

/-- The bytes of a value of two's complement. -/
def bytesOfInt (n : Nat) (v : Int) : List Byte := bytesOf n (v % (2 ^ (8 * n) : Nat)).toNat

/-- n bytes from an offset, zeros beyond the end. -/
def slice (bs : List Byte) (off n : Nat) : List Byte := (List.range n).map fun k => bs.getD (off + k) 0

/-- A list with the bytes `new` written at an offset inside it. -/
def overlay (bs : List Byte) (off : Nat) (new : List Byte) : List Byte :=
  (List.range bs.length).map fun k => if off ≤ k ∧ k < off + new.length then new.getD (k - off) 0 else bs.getD k 0

/-- A Q15 fraction at an offset. -/
def q15At (bs : List Byte) (off : Nat) : Q15 := BitVec.ofNat 16 (le bs off 2)

/-- All bytes of a range are 0. -/
def zeros (bs : List Byte) (off n : Nat) : Bool := (slice bs off n).all (· == 0)

/-- A length rounded up to whole 64-byte granules (R419). -/
def pad64 (n : Nat) : Nat := (n + 63) / 64 * 64

/-- Bits [hi:lo] of a value. -/
def field (v hi lo : Nat) : Nat := v / 2 ^ lo % 2 ^ (hi + 1 - lo)

/-- A status word from its fields, each a value with the place of its lowest bit. -/
def word (fs : List (Nat × Nat)) : Word := BitVec.ofNat 32 (fs.foldl (fun a f => a + f.1 * 2 ^ f.2) 0)

def bit (b : Bool) : Nat := if b then 1 else 0

/-! ### Check values -/

/-- One step of a reflected CRC over eight bits. -/
def crcBits (poly : Nat) : Nat → Nat → Nat
  | 0, c => c
  | k + 1, c => crcBits poly k (if c % 2 = 1 then (c / 2) ^^^ poly else c / 2)

/-- CRC-32C of bytes (the Castagnoli polynomial; PRESUMED, log 8). -/
def crc32c (bs : List Byte) : Nat :=
  (bs.foldl (fun c b => crcBits 0x82F63B78 8 (c ^^^ b.toNat)) 0xFFFFFFFF) ^^^ 0xFFFFFFFF

/-- One step of the CRC-8 of R257 over eight bits, most significant first. -/
def crc8Bits : Nat → Nat → Nat
  | 0, c => c
  | k + 1, c => crc8Bits k (if c ≥ 128 then ((c * 2) % 256) ^^^ 0x2F else c * 2)

/-- CRC-8 of R257. -/
def crc8 (bs : List Byte) : Nat := (bs.foldl (fun c b => crc8Bits 8 (c ^^^ b.toNat)) 0xFF) ^^^ 0xFF

/-! ### Saturation and rounding -/

/-- A count that stops at a top value. -/
def satTo (top n : Nat) : Nat := if n ≤ top then n else top

def sat8 (n : Nat) : Nat := satTo 0xFF n
def satCount (n : Nat) : Nat := satTo 0xFFFF n
def sat32 (n : Nat) : Nat := satTo 0xFFFFFFFF n

/-- A value limited to a range. -/
def limitI (v lo hi : Int) : Int := if v < lo then lo else if hi < v then hi else v
def limitR (v lo hi : Rat) : Rat := if v < lo then lo else if hi < v then hi else v

/-- `sat16` of R156. -/
def sat16 (v : Int) : Int := limitI v (-32768) 32767

/-- Whether `sat16` changes a value. -/
def saturates (v : Int) : Bool := v < -32768 || 32767 < v

def ofQ (v : Int) : Q15 := BitVec.ofInt 16 v

/-- The unsaturated write-back of R156: floor((a * 2^e + 2^14) / 2^15). -/
def writeBack (a : Int) (e : Nat) : Int := (a * (2 ^ e : Nat) + 0x4000) / 0x8000

/-- Division rounded to nearest, ties toward plus infinity. -/
def roundDiv (p q : Int) : Int := (2 * p + q) / (2 * q)

/-- A rational rounded to nearest, ties toward plus infinity. -/
def roundR (x : Rat) : Int := roundDiv x.num x.den

/-- Division rounded toward zero. -/
def towardZero (p : Int) (q : Nat) : Int := Int.tdiv p q

/-- Division rounded up. -/
def divUp (p q : Nat) : Nat := (p + q - 1) / q

/-! ### Cell lists: addresses strictly rising, nothing listed that equals what an unlisted address reads as -/

/-- The value at an address; `d` where nothing is listed. -/
def cellGet (d : Nat) (a : Nat) : Cells → Nat
  | [] => d
  | (k, v) :: m => if a = k then v else if a < k then d else cellGet d a m

/-- The list with a value at an address. -/
def cellPut (d : Nat) (a v : Nat) : Cells → Cells
  | [] => if v = d then [] else [(a, v)]
  | (k, w) :: m =>
    if a < k then (if v = d then (k, w) :: m else (a, v) :: (k, w) :: m)
    else if a = k then (if v = d then m else (a, v) :: m)
    else (k, w) :: cellPut d a v m

/-- Addresses rise from `lo` on and no cell holds the default. -/
def cellsFrom (d lo : Nat) : Cells → Bool
  | [] => true
  | (k, v) :: m => decide (lo ≤ k) && decide (v ≠ d) && cellsFrom d (k + 1) m

/-- The canonical form. -/
def Memory.wf (d : Nat) (m : Cells) : Bool := cellsFrom d 0 m

/-- Values written at consecutive addresses. -/
def cellsWrite (d a : Nat) (vs : List Nat) (m : Cells) : Cells :=
  (vs.foldl (fun (p : Nat × Cells) v => (p.1 + 1, cellPut d p.1 v p.2)) (a, m)).2

/-- n values from consecutive addresses. -/
def cellsRead (d a n : Nat) (m : Cells) : List Nat := (List.range n).map fun k => cellGet d (a + k) m

/-- The words of a byte list. -/
def wordsOf (bs : List Byte) (n : Nat) : List Nat := (List.range n).map fun k => le bs (2 * k) 2

/-! ### Association lists -/

def assocGet {α : Type} (k : Nat) : List (Nat × α) → Option α
  | [] => none
  | (j, x) :: m => if j = k then some x else assocGet k m

def assocPut {α : Type} (k : Nat) (x : α) (m : List (Nat × α)) : List (Nat × α) :=
  (m.filter fun p => p.1 < k) ++ [(k, x)] ++ (m.filter fun p => k < p.1)

end Sys2Proof.Machine
end

