-- ==== Sys2Proof/Machine/Regs.lean ====
section
/-! DEFINITION. The registers of BAR0 that software writes: offsets, access masks and reset values (13 R535, 14 R590,
15, 17, 19), and the values in force since the lock (R682). -/

namespace Sys2Proof.Machine

/-- A register that software writes: the bits that are RWL and RW, and its reset value. -/
structure RegSpec where
  rwl : Nat
  rw : Nat
  reset : Nat
  deriving DecidableEq, Repr

/-- Registers of a queue pair block (Tables 10-1 to 10-4). -/
def qpSpec (off : Nat) : Option RegSpec :=
  match off with
  | 0x00 => some ⟨0xFFFFF000, 0, 0⟩
  | 0x04 => some ⟨0xFFFFFFFF, 0, 0⟩
  | 0x08 => some ⟨0xFFFFF000, 0, 0⟩
  | 0x0C => some ⟨0xFFFFFFFF, 0, 0⟩
  | 0x10 => some ⟨0x00001F1F, 0, 0x0407⟩
  | 0x14 => some ⟨0xFFFF03FF, 0, 0x00010000⟩
  | _ => none

/-- The register at an aligned offset of BAR0, if software writes one there. -/
def regSpec (off : Nat) : Option RegSpec :=
  if off = 0x10 then some ⟨0x7, 0, 0⟩
  else if off = 0x18 then some ⟨0x3, 0, 0⟩
  else if 0x40 ≤ off ∧ off ≤ 0x6C then some ⟨0xFFFFFFFF, 0, 0⟩
  else if 0x100 ≤ off ∧ off ≤ 0x17C then some ⟨0x1FF, 0, 0⟩
  else if off = 0x1000 then some ⟨0x0FFFFF03, 0, 0x0A00⟩
  else if off = 0x1004 then some ⟨0x00FFFFFF, 0, 0x00080CCD⟩
  else if off = 0x2000 then some ⟨0x1, 0, 0⟩
  else if 0x2010 ≤ off ∧ off ≤ 0x2030 ∧ off % 8 = 0 then some ⟨0x3F, 0, 0⟩
  else if off = 0x4000 then some ⟨0xF, 0, 0x4⟩
  else if 0x6000 ≤ off ∧ off ≤ 0x61FC then
    (if off % 16 = 12 then some ⟨0, 0x1, 0x1⟩ else if off % 16 = 0 then some ⟨0, 0xFFFFFFFC, 0⟩ else some ⟨0, 0xFFFFFFFF, 0⟩)
  else if 0x8000 ≤ off ∧ off < 0x9000 then qpSpec (off % 0x100)
  else if off = 0x10000 then some ⟨0xFFFFFFFF, 0, 0⟩
  else if off = 0x10004 then some ⟨0xFFFFFFFF, 0, 4⟩
  else if off = 0x10008 then some ⟨0x3, 0, 0⟩
  else if off = 0x11000 ∨ off = 0x11020 then some ⟨0x3, 0, 0⟩
  else if off = 0x11004 ∨ off = 0x11024 then some ⟨0xFFFFFFFF, 0, 0⟩
  else if off = 0x11008 ∨ off = 0x11028 then some ⟨0xFFFF, 0, 0⟩
  else if off = 0x1100C ∨ off = 0x1102C then some ⟨0xFFFFFFFF, 0, 0⟩
  else if off = 0x12000 then some ⟨0x1FFF, 0, 0x1FE0⟩
  else if off = 0x13000 then some ⟨0x00FFFF3F, 0, 0⟩
  else if off = 0x16004 then some ⟨0, 0x3, 0⟩
  else if 0x16080 ≤ off ∧ off ≤ 0x1608C then some ⟨0, 0x1FFFF, 0⟩
  else none

/-- The reset value of a register. -/
def regReset (off : Nat) : Nat := match regSpec off with | some r => r.reset | none => 0

/-- The canonical form of a register list: offsets rise from `lo` on and no register is listed at its reset value. -/
def regsFrom (lo : Nat) : Cells → Bool
  | [] => true
  | (k, v) :: m => decide (lo ≤ k) && decide (v ≠ regReset k) && regsFrom (k + 1) m

/-- A register as last written. -/
def State.reg (s : State) (off : Nat) : Nat := cellGet (regReset off) off s.regs

/-- A register as in force since the lock took effect (R682). -/
def State.inUse (s : State) (off : Nat) : Nat := cellGet (regReset off) off s.inForce

/-- A register with a value stored. -/
def State.regPut (s : State) (off v : Nat) : State := { s with regs := cellPut (regReset off) off v s.regs }

/-- A register of queue pair q as in force. -/
def State.qpReg (s : State) (q off : Nat) : Nat := s.inUse (0x8000 + 0x100 * q + off)

/-- Granules of the command ring and entries of the completion ring (Table 10-3). -/
def State.cmdSize (s : State) (q : Nat) : Nat := 2 ^ field (s.qpReg q 0x10) 4 0
def State.cplSize (s : State) (q : Nat) : Nat := 2 ^ field (s.qpReg q 0x10) 12 8

/-- Fields of `QP_CTRL` (Table 10-4). -/
def State.qpEn (s : State) (q : Nat) : Bool := (s.qpReg q 0x14).testBit 0
def State.qpLocal (s : State) (q : Nat) : Bool := (s.qpReg q 0x14).testBit 1
def State.qpProd (s : State) (q : Nat) : Nat := field (s.qpReg q 0x14) 3 2
def State.qpVec (s : State) (q : Nat) : Nat := field (s.qpReg q 0x14) 8 4
def State.qpIrqEn (s : State) (q : Nat) : Bool := (s.qpReg q 0x14).testBit 9
def State.qpModCnt (s : State) (q : Nat) : Nat := max 1 (field (s.qpReg q 0x14) 23 16)
def State.qpModTime (s : State) (q : Nat) : Nat := field (s.qpReg q 0x14) 31 24

/-! ### What is fitted (Tables 00-1 and 00-2) -/

/-- `GEN_UNIT_MAP`. -/
def unitMap : Variant → Word
  | .cd6340 => 0x08FFFFFF
  | .cd6320 => 0x044CC70F
  | .cd6310 => 0x04044303

/-- The variant number in binary-coded decimal (R7). -/
def variantNumber : Variant → Word
  | .cd6340 => 0x00006340
  | .cd6320 => 0x00006320
  | .cd6310 => 0x00006310

def State.fitBridges (s : State) : Nat := match s.variant with | .cd6340 => 8 | .cd6320 => 4 | .cd6310 => 2
def State.fitEngines (s : State) : Nat := match s.variant with | .cd6340 => 6 | .cd6320 => 3 | .cd6310 => 2
def State.fitGfes (s : State) : Nat := match s.variant with | .cd6340 => 4 | .cd6320 => 2 | .cd6310 => 1
def State.fitCaps (s : State) : Nat := match s.variant with | .cd6340 => 4 | .cd6320 => 2 | .cd6310 => 1
def State.hasCycle (s : State) : Bool := match s.variant with | .cd6310 => false | _ => true
def State.hasDuplex (s : State) : Bool := match s.variant with | .cd6340 => true | _ => false
def State.fitLinks (s : State) : Nat := 3 * s.fitBridges
def State.fitLcs (s : State) : Nat := 4 * s.fitEngines
def State.fitContexts (s : State) : Nat := if s.hasCycle then 128 else 8

/-- The capture, staging and rings-and-logs partitions in MB of 2^20 bytes (Table 17-7). -/
def State.partitions (s : State) : Nat × Nat × Nat :=
  let big := match s.variant with | .cd6340 => true | _ => false
  match field (s.inUse 0x18) 1 0 with
  | 1 => (if big then 4096 else 1536, if big then 3072 else 1536, 512)
  | 2 => (if big then 5120 else 1024, 1024, 1536)
  | _ => (if big then 6144 else 2048, 1024, 512)

/-- Size of the local ring partition in bytes (R677). -/
def State.localRingBytes (s : State) : Nat := (s.partitions.2.2 - 64) * 2 ^ 20

end Sys2Proof.Machine
end

