-- ==== Sys2Proof/Machine/Ops.lean ====
section
/-! DEFINITION. The named operations every chapter uses: unit updates, the clock and the DTB, free values, events, the
fault log, interrupts and completion entries. -/

namespace Sys2Proof.Machine

/-! ### Unit updates -/

def State.modQp (s : State) (k : Nat) (f : QueuePair → QueuePair) : State := { s with qps := vmod s.qps k f }
def State.modB (s : State) (k : Nat) (f : Bridge → Bridge) : State := { s with bridges := vmod s.bridges k f }
def State.modGf (s : State) (k : Nat) (f : GfEngine → GfEngine) : State := { s with gfes := vmod s.gfes k f }
def State.modLc (s : State) (k : Nat) (f : LoopContext → LoopContext) : State := { s with lcs := vmod s.lcs k f }
def State.modPwm (s : State) (k : Nat) (f : PwmGen → PwmGen) : State := { s with pwms := vmod s.pwms k f }
def State.modTrip (s : State) (k : Nat) (f : TripSource → TripSource) : State := { s with trips := vmod s.trips k f }
def State.modLink (s : State) (k : Nat) (f : GateLink → GateLink) : State := { s with links := vmod s.links k f }
def State.modSlot (s : State) (k : Nat) (f : PugSlot → PugSlot) : State := { s with slots := vmod s.slots k f }
def State.modPos (s : State) (k : Nat) (f : PosInput → PosInput) : State := { s with poss := vmod s.poss k f }
def State.modCap (s : State) (k : Nat) (f : CapUnit → CapUnit) : State := { s with caps := vmod s.caps k f }

def State.modSvc (s : State) (f : Service → Service) : State := { s with svcs := f s.svcs }

/-- A write joins those that NOR has accepted (R651). -/
def State.queueNor (s : State) (w : NorWrite) : State := s.modSvc fun v => { v with norQueue := v.norQueue ++ [w] }

def State.qp (s : State) (k : Nat) : QueuePair := vget s.qps k
def State.bridge (s : State) (k : Nat) : Bridge := vget s.bridges k
def State.gf (s : State) (k : Nat) : GfEngine := vget s.gfes k
def State.lc (s : State) (k : Nat) : LoopContext := vget s.lcs k
def State.pwm (s : State) (k : Nat) : PwmGen := vget s.pwms k
def State.trip (s : State) (k : Nat) : TripSource := vget s.trips k
def State.link (s : State) (k : Nat) : GateLink := vget s.links k
def State.slot (s : State) (k : Nat) : PugSlot := vget s.slots k
def State.position (s : State) (k : Nat) : PosInput := vget s.poss k
def State.cap (s : State) (k : Nat) : CapUnit := vget s.caps k

/-- A state changed for each unit of a list. -/
def State.forEach (s : State) (ks : List Nat) (f : State → Nat → State) : State := ks.foldl f s

/-! ### Clock (R212, R532 to R534) -/

/-- 125 ps steps. -/
def usSteps (n : Nat) : Nat := n * 8000
def msSteps (n : Nat) : Nat := n * 8000000
def secSteps (n : Nat) : Nat := n * 8000000000

/-- The largest DTB value plus one: 2^64 seconds. -/
def dtbModulus : Nat := 2 ^ 64 * 1000000000 * 2 ^ 32

/-- Since when PLL_PWM re-locks: the ticks of CK_REF / 2, 80 ns apart, then stand for 20 of CK_PWM each (R638, R642). -/
def State.slowFrom (s : State) : Option Nat :=
  let p := vget s.pwr.plls 2
  if p.relock then p.relockAt else none

/-- Ticks of 4 ns that the DTB has counted up to an instant (R533, R642). The ticks of a re-lock are counted from its start
(DEDUCED, log 96). -/
def State.tickAt (s : State) (t : Nat) : Nat :=
  match s.slowFrom with
  | some a => if t < a then t / 32 else a / 32 + 20 * ((t - a) / 640)
  | none => t / 32

/-- The clock moved on to an instant that is not in the past; the DTB adds `INCR` for every tick (R533). -/
def State.advanceTo (s : State) (t : Nat) : State :=
  { s with now := max s.now t,
           dtb := (s.dtb + (s.tickAt (max s.now t) - s.tickAt s.now) * s.incr.toNat) % dtbModulus }

/-- Time since the last tick the DTB has counted. -/
def State.sinceTick (s : State) : Nat := s.now - 32 * s.tickAt s.now

/-- A re-lock of PLL_PWM ends: the DTB has kept its rate (R642). -/
def State.catchUp (s : State) : State :=
  { s with dtb := (s.dtb + (s.now / 32 - s.tickAt s.now) * s.incr.toNat) % dtbModulus }

/-- DTB seconds, nanoseconds and 16-bit sub-nanoseconds (R532). -/
def State.dtbSec (s : State) : DWord := BitVec.ofNat 64 (s.dtb / 2 ^ 32 / 1000000000)
def State.dtbNano (s : State) : Word := BitVec.ofNat 32 (s.dtb / 2 ^ 32 % 1000000000)
def State.dtbSub (s : State) : Half := BitVec.ofNat 16 (s.dtb / 2 ^ 16 % 2 ^ 16)

/-- The low 64 bits of DTB nanoseconds since the epoch (R534). -/
def State.dtbNs (s : State) : DWord := BitVec.ofNat 64 (s.dtb / 2 ^ 32)

/-- The DTB in 125 ps steps since the epoch, on which carriers and ticks are placed (R214). Between two ticks of the
counter it runs on at the rate of `INCR` (DEDUCED, log 62). -/
def State.dtbSteps (s : State) : Nat := (s.dtb + s.sinceTick * s.incr.toNat / 32) / 2 ^ 29

/-- DTB nanoseconds since the epoch, not reduced. -/
def State.ns (s : State) : Nat := s.dtb / 2 ^ 32

/-- The DTB at the present instant, in 2^-16 ns, also between two ticks of the counter (DEDUCED, log 62), and the low 64 bits
of its nanoseconds: the instants of carrier events and frames lie on the 125 ps grid (R212, R324). -/
def State.dtbFine (s : State) : Nat := (s.dtb + s.sinceTick * s.incr.toNat / 32) / 2 ^ 16
def State.fineNs (s : State) : DWord := BitVec.ofNat 64 (s.dtbFine / 2 ^ 16)

/-- The clock moved on to the first tick at which the DTB has reached an instant in nanoseconds. -/
def State.advanceToNs (s : State) (t : Nat) : State :=
  let k := s.tickAt s.now + divUp (t * 2 ^ 32 - s.dtb) (max 1 s.incr.toNat)
  match s.slowFrom with
  | some a => s.advanceTo (a + 640 * divUp (k - a / 32) 20)
  | none => s.advanceTo (k * 32)

/-- DTB nanoseconds of an instant that has passed, at the present `INCR`. -/
def State.dtbNsAt (s : State) (t : Nat) : DWord :=
  BitVec.ofNat 64 ((s.dtb - (s.tickAt s.now - s.tickAt t) * s.incr.toNat) / 2 ^ 32)

/-- A DTB instant in nanoseconds as a stamp. -/
def stampOf (t : Nat) : DWord × Word := (BitVec.ofNat 64 (t / 1000000000), BitVec.ofNat 32 (t % 1000000000))

def lo32 (x : DWord) : Word := x.setWidth 32
def hi32 (x : DWord) : Word := (x >>> 32).setWidth 32

/-! ### Free values (log 3) -/

/-- A free value below n, and the state with the draw counted. -/
def State.draw (s : State) (place n : Nat) : Nat × State :=
  (Config.free place s.freeSeed % n, { s with freeSeed := s.freeSeed + 1 })

/-! ### Interrupts (R433, R434, R456) -/

/-- A vector sent, or its pending bit set while it is masked. -/
def State.sendVector (s : State) (v : Nat) : State :=
  if (s.reg (0x6000 + 16 * v + 12)).testBit 0 then { s with pba := s.pba ||| BitVec.ofNat 32 (2 ^ v) }
  else { s with vectors := vmod s.vectors v (· + 1) }

/-- The interrupt of a queue pair: an MSI-X message, or the signal to its producer. -/
def State.interrupt (s : State) (q : Nat) : State :=
  let s := s.modQp q fun p => { p with irqCount := 0, irqFirst := none, irqSent := p.irqSent + 1 }
  if s.qpLocal q then s else s.sendVector (s.qpVec q)

/-- An entry written: it counts, and sends the interrupt when R434 says so. -/
def State.countEntry (s : State) (q : Nat) (counted urgent : Bool) : State :=
  let s := if counted then s.modQp q fun p =>
      { p with irqCount := p.irqCount + 1, irqFirst := some (p.irqFirst.getD s.now) } else s
  if s.qpIrqEn q ∧ (urgent ∨ counted ∧ s.qpModCnt q ≤ (s.qp q).irqCount) then s.interrupt q else s

/-! ### Completion entries (R426 to R432) -/

/-- The status codes (Table 00-5). -/
def Status.code : Status → Nat
  | .done => 0x00 | .doneNote => 0x01 | .badOpcode => 0x10 | .badLength => 0x11 | .badField => 0x12 | .unitAbsent => 0x20
  | .unitRetired => 0x21 | .stateRefused => 0x30 | .busyRetry => 0x31 | .cancelled => 0x40 | .timedOut => 0x41
  | .safetyLocked => 0x50 | .authFailed => 0x60 | .internalFault => 0x70

/-- The 32 bytes of an entry (Table 10-10). -/
def CplEntry.bytes (e : CplEntry) : List Byte :=
  bytesOf 2 e.tag.toNat ++ bytesOf 2 e.status.code ++ bytesOf 4 e.r0.toNat ++ bytesOf 4 e.r1.toNat
    ++ bytesOf 4 (e.index.toNat + 0x10000 * bit e.lap + 0x80000000 * bit e.phase) ++ bytesOf 8 e.sec.toNat
    ++ bytesOf 4 e.ns.toNat ++ bytesOf 4 e.extra.toNat

/-- An entry placed at the next completion position with the phase of its lap (R427). -/
def State.putEntry (s : State) (q : Nat) (e : CplEntry) (counted : Bool) : State :=
  let p := s.qp q
  let wrap := p.cplPos + 1 = s.cplSize q
  let s := s.modQp q fun p =>
    { p with cpl := p.cpl ++ [{ e with phase := p.phase }],
             cplPos := if wrap then 0 else p.cplPos + 1,
             phase := if wrap then !p.phase else p.phase }
  s.countEntry q counted (e.status = .internalFault)

/-- A queue pair whose RESETTING has waited for its last packet starts afresh (R449 steps 3 and 4). -/
def State.endReset (s : State) (q : Nat) : State :=
  if (s.qp q).state = .resetting ∧ (s.qp q).flights = [] then
    s.modQp q fun p => { p with state := .running, cause := 0, fetch := 0, lap := false, tail := 0, head := 0,
                                cplPos := 0, phase := true, cpl := [] }
  else s

/-- Bulk data that a packet returns goes into its own payload area, in a local ring's memory (R425, R432, R456). For a ring in
host memory the entry carries it. -/
def State.writeBack (s : State) (q index : Nat) (bs : List Byte) : State :=
  if s.qpLocal q ∧ bs ≠ [] then
    { s with localRing := vmod s.localRing q fun m => cellsWrite 0 (64 * (index + 1)) (bs.map fun (b : Byte) => b.toNat) m }
  else s

/-- A packet completes: it leaves the packets in flight and its entry is written; under cause 0x06 the entry and the
write-back are discarded (R446). A ticket that is no longer in flight changes nothing. -/
def State.answerNow (s : State) (t : Ticket) (a : Answer) : State :=
  match (s.qp t.qp).flights.find? (·.id = t.id) with
  | none => s
  | some f =>
    let s := s.modQp t.qp fun p => { p with flights := p.flights.filter (·.id ≠ t.id) }
    let s :=
      if (s.qp t.qp).state = .halted ∧ (s.qp t.qp).cause = 6 then s
      else
        (s.writeBack t.qp f.pkt.index.toNat a.payload).putEntry t.qp
          { tag := f.pkt.tag, status := a.status, r0 := a.r0, r1 := a.r1, index := f.pkt.index, lap := f.pkt.lap,
            phase := false, sec := (a.stamp.getD (s.dtbSec, s.dtbNano)).1,
            ns := (a.stamp.getD (s.dtbSec, s.dtbNano)).2, extra := a.extra, payload := a.payload }
          (!f.pkt.flags.getLsbD 1)
    s.endReset t.qp

/-- A packet's status is decided: it completes, unless the active still waits for the standby's status of a packet it has
forwarded, for at most 1 ms; a different status sets reason bit 6 (R595). -/
def State.answer (s : State) (t : Ticket) (a : Answer) : State :=
  match s.dpx.forwarded.find? fun p => p.1 = t with
  | none => s.answerNow t a
  | some (_, none) => { s with dpx := { s.dpx with held := s.dpx.held ++ [(t, a, s.now + msSteps 1)] } }
  | some (_, some c) =>
    let s := { s with dpx := { s.dpx with
      forwarded := s.dpx.forwarded.filter fun p => p.1 ≠ t,
      outOfStep := s.dpx.outOfStep || decide (c ≠ a.status.code) } }
    s.answerNow t a

/-- Completion with a bare status. -/
def State.ends (s : State) (t : Ticket) (st : Status) : State := s.answer t { status := st }

/-- Completion with DONE and an instant in result words 0 and 1. -/
def State.doneAt (s : State) (t : Ticket) (ns : DWord) : State := s.answer t { r0 := lo32 ns, r1 := hi32 ns }

/-- Completion of every packet of a list with one status. -/
def State.endAll (s : State) (ts : List Ticket) (st : Status) : State := ts.foldl (fun s t => s.ends t st) s

/-! ### Events (R452, R453) and the fault log (R587) -/

/-- The signals that `WHEEL_SIGMAP` maps an event to are raised (R473). -/
def State.raiseMapped (s : State) (cls unit : Nat) : State :=
  let hit (k : Nat) : Bool := match vget s.wheel.map k with
    | some (c, u) => decide (c.toNat = cls) && (match u with | some n => decide (n.toNat = unit % 65536) | none => true)
    | none => false
  { s with wheel := { s.wheel with
      raised := (numbers 32 hit).foldl (fun (w : Word) k => w ||| BitVec.ofNat 32 (2 ^ k)) s.wheel.raised } }

/-- An event goes to the oldest wait whose mask selects it, else into the queue of 32, else it is lost; it raises the
signals mapped to it. -/
def State.report (s : State) (cls unit code : Nat) : State :=
  let s := s.raiseMapped cls unit
  match s.waits.find? (fun w => w.2.getLsbD cls) with
  | some (t, _) =>
    let s1 := { s with waits := s.waits.filter (·.1 ≠ t), lostEvents := 0 }
    s1.answer t { r0 := word [(cls % 256, 0), (unit % 65536, 16)], r1 := word [(code, 0)],
                  extra := word [(sat32 s.lostEvents, 0)] }
  | none =>
    if s.events.length < 32 then
      { s with events := s.events ++ [{ cls := BitVec.ofNat 8 cls, unit := BitVec.ofNat 16 unit,
                                        code := BitVec.ofNat 16 code, sec := s.dtbSec, ns := s.dtbNano }] }
    else { s with lostEvents := s.lostEvents + 1 }

/-- A fault log entry: the newest overwrites the oldest of 65,536; kinds 2, 5, 6 and 7 are kept in NOR, the newest 256. -/
def State.logEntry (s : State) (kind chanKind unit cause runs bucket detail : Nat) : State :=
  let e : LogEntry := { seq := s.flt.seq, stamp := s.dtbNs, kind, chanKind, unit, cause, runs, bucket, detail }
  { s with flt := { s.flt with
      seq := s.flt.seq + 1, log := (e :: s.flt.log).take 65536,
      norLog := if kind = 2 ∨ kind = 5 ∨ kind = 6 ∨ kind = 7 then (e :: s.flt.norLog).take 256 else s.flt.norLog } }

/-! ### Channels of the upset rule (Table 14-1) -/

/-- Place of a channel among the fixed ones: kind and unit number. -/
def chanIndex (kind unit : Nat) : Option Nat :=
  match kind with
  | 0 => if unit < 32 then some unit else none
  | 1 => if 32 ≤ unit ∧ unit < 48 then some unit else none
  | 2 => if unit < 4 then some (48 + unit) else none
  | 3 => if unit < 24 then some (52 + unit) else none
  | 4 => if unit < 2 then some (76 + unit) else none
  | 5 => if unit < 2 then some (78 + unit) else none
  | 7 => if unit < 6 then some (80 + unit) else none
  | 8 => if unit < 4 then some (86 + unit) else none
  | 9 => if unit < 4 then some (90 + unit) else none
  | 10 => if unit < 2 then some (94 + unit) else none
  | 11 => if unit < 5 then some (96 + unit) else none
  | 12 => if unit < 1 then some 101 else none
  | _ => none

def State.chan (s : State) (kind unit : Nat) : Chan :=
  match chanIndex kind unit with
  | some k => vget s.flt.chans k
  | none => if kind = 6 then (assocGet unit s.flt.pages).getD {} else {}

def State.modChan (s : State) (kind unit : Nat) (f : Chan → Chan) : State :=
  match chanIndex kind unit with
  | some k => { s with flt := { s.flt with chans := vmod s.flt.chans k f } }
  | none =>
    if kind = 6 then { s with flt := { s.flt with pages := assocPut unit (f (s.chan 6 unit)) s.flt.pages } } else s

def State.isRetired (s : State) (kind unit : Nat) : Bool := (s.chan kind unit).state = .retired

/-- The channel kind of a slot. -/
def slotKind (n : Nat) : Nat := if n < 32 then 0 else 1

def State.slotRetired (s : State) (n : Nat) : Bool := s.isRetired (slotKind n) n
def State.linkRetired (s : State) (g : Nat) : Bool := s.isRetired 3 g

/-! ### GPIO pins (R679 to R681) -/

/-- Function and inversion of a pin in force; an entry in error counts as none. -/
def State.gpioFunc (s : State) (n : Nat) : Nat :=
  if s.locked ∧ !s.gpioErr.getLsbD n then field (s.inUse (0x100 + 4 * n)) 7 0 else 0
def State.gpioInv (s : State) (n : Nat) : Bool := (s.inUse (0x100 + 4 * n)).testBit 8

/-- Whether some pin holds a function. -/
def State.gpioMapped (s : State) (f : Nat) : Bool := (List.range 32).any fun n => s.gpioFunc n = f

/-- Little helpers over the bridges: those that meet a test. -/
def State.bridgesWhere (s : State) (p : Bridge → Bool) : List Nat := numbers 8 fun b => p (s.bridge b)

/-- Beyond OFFLINE and beyond ARMED (R721). -/
def BState.beyondOffline (x : BState) : Bool := x ≠ .offline
def BState.beyondArmed (x : BState) : Bool := x = .precharge || x = .running || x = .limiting
def BState.switching (x : BState) : Bool := x = .running || x = .limiting

/-- Gate links of a definition in the order of Table 05-3: GL_A before GL_B within a leg. -/
def BridgeDef.links (d : BridgeDef) : List Nat :=
  d.legs.flatMap fun l => l.glA :: (match l.glB with | some g => [g] | none => [])

def State.linksOf (s : State) (b : Nat) : List Nat := match (s.bridge b).defn with | some d => d.links | none => []

/-- The bridge that owns a gate link (R18). -/
def State.ownerOf (s : State) (g : Nat) : Option Nat := (List.range 8).find? fun b => (s.linksOf b).contains g

/-- Index of a gate link among its bridge's (Table 05-3). -/
def State.linkIndex (s : State) (b g : Nat) : Nat := (s.linksOf b).idxOf g

/-- The leg of a gate link. -/
def State.legOf (s : State) (b g : Nat) : Option Leg :=
  match (s.bridge b).defn with
  | some d => d.legs.find? fun l => l.glA = g || l.glB = some g
  | none => none

/-- A bridge holds a context or an engine that it names, and until a `BRIDGE_SET_ROLE` in progress ends, the ones it named
before (R29, R55). -/
def Bridge.holdsLc (b : Bridge) (c : Nat) : Bool :=
  decide (b.lc = some c) || decide (((b.setRole.bind (·.old)).bind (·.2.1)) = some c)
def Bridge.holdsGf (b : Bridge) (g : Nat) : Bool :=
  decide (b.gf = some g) || decide (((b.setRole.bind (·.old)).bind (·.2.2)) = some g)

/-- The bridge a loop context or an engine is bound to (R55). -/
def State.bridgeOfLc (s : State) (c : Nat) : Option Nat := (List.range 8).find? fun b => (s.bridge b).holdsLc c
def State.bridgeOfGf (s : State) (g : Nat) : Option Nat := (List.range 8).find? fun b => (s.bridge b).holdsGf g

def State.role (s : State) (b : Nat) : Option Role := (s.bridge b).defn.map (·.role)

end Sys2Proof.Machine
end

