-- ==== Sys2Proof/Machine/Operands.lean ====
section
/-! DEFINITION. Operands of packets: parameter and payload fields, and the range tables of the configuration blocks. -/

namespace Sys2Proof.Machine

/-- Parameter bytes (Table 10-8). -/
def prm (p : Pkt) (k : Nat) : Nat := byteAt p.params k
def prm16 (p : Pkt) (k : Nat) : Nat := le p.params k 2
def prm32 (p : Pkt) (k : Nat) : Nat := le p.params k 4
def prm64 (p : Pkt) (k : Nat) : Nat := le p.params k 8
def prmQ (p : Pkt) (k : Nat) : Q15 := q15At p.params k

/-- The n parameter bytes from k on, which a packet does not define, are 0 (who judges them: DEDUCED, log 93). -/
def prmZero (p : Pkt) (k n : Nat) : Bool := zeros p.params k n

/-- A field of a configuration block: place, width in bytes, two's complement or not, and range (R99, R165, R219). -/
structure FieldSpec where
  off : Nat
  len : Nat
  neg : Bool := false
  lo : Int
  hi : Int
  deriving DecidableEq, Repr

/-- The value of a field. -/
def FieldSpec.get (f : FieldSpec) (bs : List Byte) : Int :=
  if f.neg then signed (8 * f.len) (le bs f.off f.len) else (le bs f.off f.len : Nat)

/-- The field is in range. -/
def FieldSpec.ok (bs : List Byte) (f : FieldSpec) : Bool := decide (f.lo ≤ f.get bs) && decide (f.get bs ≤ f.hi)

/-- Every field of a table is in range. -/
def inRanges (bs : List Byte) (fs : List FieldSpec) : Bool := fs.all (FieldSpec.ok bs)

/-- Number k of a none-coded byte (0xFF none) or half word (0xFFFF none). -/
def opt8 (v : Nat) : Option Nat := if v = 0xFF then none else some v
def opt16 (v : Nat) : Option Nat := if v = 0xFFFF then none else some v

/-- A code below n, or none-coded. -/
def below (n : Nat) (v : Option Nat) : Bool := match v with | some k => decide (k < n) | none => true

end Sys2Proof.Machine
end

