-- ==== Sys2Proof/Machine/EicCode.lean ====
section
/-! DEFINITION. Program images of the cycle engine (12): header, instruction words, costs, and the checks of the verifier
with worst-case and response times. -/

namespace Sys2Proof.Machine

/-! ### Header (Table 12-1) -/

/-- Sections: 0 code, 1 constants, 2 initial data, 3 retain map, 4 symbols, 5 tasks, 6 queue pairs, 7 reserved. -/
def imgOfs (img : List Byte) (k : Nat) : Nat := le img (32 + 8 * k) 4
def imgLen (img : List Byte) (k : Nat) : Nat := le img (36 + 8 * k) 4
def imgNcyc (img : List Byte) : Nat := byteAt img 6
def imgNevt (img : List Byte) : Nat := le img 8 2
def imgEvMax (img : List Byte) : Nat := le img 10 2
def imgId (img : List Byte) : Nat := le img 12 4
def imgLength (img : List Byte) : Nat := le img 16 4

/-- Byte size of a value of a type (Table 12-2). -/
def eicSize (ty : Nat) : Nat := match ty with | 0 => 1 | 1 => 1 | 2 => 2 | 3 => 4 | 4 => 8 | 5 => 4 | _ => 8

/-- Size of a space in bytes (R484, R497). -/
def spaceSize (img : List Byte) (sp : Nat) : Nat :=
  match sp with | 0 => 8 * 2 ^ 20 | 1 => 65536 | 2 => 131070 | 3 => 131070 | 4 => imgLen img 1 | _ => 2 ^ 29

/-! ### Instruction words (R486, R487) -/

/-- An operand: form, register, and its extension words. -/
structure EicOp where
  form : Nat
  reg : Nat
  ext : List Nat
  deriving DecidableEq, Repr, Inhabited

/-- An instruction: code offset, length in words, class, operation, type, operands, and the byte count of class BLOCK. -/
structure EicIns where
  off : Nat
  words : Nat
  cls : Nat
  op : Nat
  ty : Nat
  a : EicOp
  b : EicOp
  c : EicOp
  n : Nat
  deriving DecidableEq, Repr, Inhabited

/-- Extension words of an operand form. -/
def extWords (form ty : Nat) : Nat :=
  match form with | 0 => 0 | 1 => if ty = 4 ∨ ty = 6 then 2 else 1 | 2 => 1 | _ => 2

/-- A word of the code section. -/
def codeWord (img : List Byte) (off : Nat) : Nat := le img (imgOfs img 0 + off) 4

/-- The instruction at a code offset. -/
def eicDecode (img : List Byte) (off : Nat) : EicIns :=
  let w := codeWord img off
  let cls := field w 31 28
  let ty := field w 23 21
  let fa := field w 20 19
  let fb := field w 13 12
  let fc := field w 6 5
  let na := extWords fa ty
  let nb := extWords fb ty
  let nc := extWords fc ty
  let ext (first n : Nat) := (List.range n).map fun k => codeWord img (off + 4 * (first + k))
  { off := off, words := 1 + na + nb + nc + bit (cls = 9), cls := cls, op := field w 27 24, ty := ty,
    a := ⟨fa, field w 18 14, ext 1 na⟩, b := ⟨fb, field w 11 7, ext (1 + na) nb⟩, c := ⟨fc, field w 4 0, ext (1 + na + nb) nc⟩,
    n := if cls = 9 then codeWord img (off + 4 * (1 + na + nb + nc)) else 0 }

/-- Space and base address of a direct or indexed operand, and its element bound. -/
def EicOp.space (o : EicOp) : Nat := field (o.ext.headD 0) 31 29
def EicOp.base (o : EicOp) : Nat := field (o.ext.headD 0) 28 0
def EicOp.bound (o : EicOp) : Nat := if o.form = 3 then o.ext.getD 1 0 else 1
def EicOp.mem (o : EicOp) : Bool := o.form = 2 || o.form = 3
/-- The value of an immediate. -/
def EicOp.imm (o : EicOp) : Nat := o.ext.headD 0 + 2 ^ 32 * o.ext.getD 1 0

/-- The instruction after this one. -/
def EicIns.next (i : EicIns) : Nat := i.off + 4 * i.words

/-- Operation codes of a class (Table 12-4a). -/
def opCount (cls : Nat) : Nat :=
  match cls with
  | 0 => 7 | 1 => 15 | 2 => 14 | 3 => 10 | 4 => 10 | 5 => 3 | 6 => 3 | 7 => 2 | 8 => 7 | 9 => 3 | 10 => 2 | 11 => 2 | 12 => 3
  | _ => 0

/-- Types a class takes (R490). -/
def typeOk (cls ty : Nat) : Bool :=
  decide (ty < 7) && match cls with
  | 1 => decide ((1 ≤ ty ∧ ty ≤ 4) ∨ ty = 6)
  | 2 => decide (ty = 5)
  | 5 => decide (ty = 3)
  | _ => true

/-- Operand A is written. -/
def EicIns.writesA (i : EicIns) : Bool :=
  decide (i.cls ≤ 4) || i.cls = 8 || i.cls = 9 || i.cls = 10 || (i.cls = 11 && i.op = 0) || (i.cls = 12 && i.op ≠ 2)

/-- Item 2 of R491 for one instruction: nothing reserved. -/
def EicIns.decodes (i : EicIns) : Bool :=
  decide (i.op < opCount i.cls) && typeOk i.cls i.ty && !(i.writesA && i.a.form = 1) &&
    [i.a, i.b, i.c].all (fun o => (!o.mem || decide (o.space < 6)) && (o.form = 0 || o.form = 3 || decide (o.reg = 0))) &&
    (!(i.cls = 0 && (i.op = 5 || i.op = 6)) || (decide (i.c.form = 1) && (i.c.imm = 8 || i.c.imm = 16 || i.c.imm = 32))) &&
    (!(i.cls = 5) || decide (i.b.form = 1 ∧ i.a.form = 0 ∧ i.a.reg = 0)) &&
    (!(i.cls = 6 && i.op = 0) || decide (i.b.form = 1)) &&
    (!(i.cls = 7 && i.op = 0) || decide (i.b.form = 1 ∧ i.c.form = 1 ∧ i.c.imm ≤ 16)) &&
    (!(i.cls = 8) || (i.a.mem && decide (i.a.space < 2))) &&
    (!(i.cls = 9) || (decide (1 ≤ i.n ∧ i.n ≤ 65535) && (decide (i.op = 2) || i.a.mem) && (decide (i.op = 1) || i.b.mem)
      && (decide (i.op ≠ 2) || i.c.mem))) &&
    (!(i.cls = 10) || (i.b.mem && decide (i.c.form = 1))) &&
    (!(i.cls = 11 && i.op = 0) || decide (i.c.form = 1))

/-- Base cost in lane cycles (Table 12-4); a submitted packet counts at its greatest length. -/
def EicIns.baseCost (i : EicIns) : Nat :=
  match i.cls with
  | 0 => if 2 ≤ i.op ∧ i.op ≤ 4 then 2 else 1
  | 1 => if i.op = 10 then (if i.ty = 4 ∨ i.ty = 6 then 4 else 2)
         else if 11 ≤ i.op then (if i.ty = 4 ∨ i.ty = 6 then 20 else 10) else 1
  | 2 => if i.op ≤ 6 then 2 else if i.op = 7 then 8 else if i.op = 8 then 10 else if i.op ≤ 10 then 20 else 24
  | 3 => 1 | 4 => 1 | 5 => 2
  | 6 => if i.op = 0 then 3 else 2
  | 7 => if i.op = 0 then 5 + i.c.imm else 3
  | 8 => 6
  | 9 => 4 + divUp i.n 16
  | 10 => if i.op = 0 then 24 + 256 else 8
  | 11 => 8
  | _ => if i.op = 2 then 4 else 6

/-- Cost of an instruction (R489). -/
def EicIns.cost (i : EicIns) : Nat :=
  i.baseCost + (i.words - 1) +
    ([i.a, i.b, i.c].map fun (o : EicOp) => if o.mem then (if o.space = 5 then 6 else if o.form = 2 then 2 else 4) else 0).sum

/-- Bytes an operand covers from its base: element by element, a block, an instance, or 32 bytes of a poll. -/
def EicIns.span (i : EicIns) (k : Nat) : Nat :=
  let o := if k = 0 then i.a else if k = 1 then i.b else i.c
  if i.cls = 9 ∧ ¬ (i.op = 2 ∧ k = 0) ∧ ¬ (i.op = 1 ∧ k = 1) then (o.bound - 1) * eicSize i.ty + i.n
  else if i.cls = 8 ∧ k = 0 then 24
  else if i.cls = 10 ∧ k = 1 then (if i.op = 1 then 32 else 64)
  else o.bound * eicSize i.ty

/-- Operands that an instruction writes in memory: space, first byte, length. -/
def EicIns.writes (i : EicIns) : List (Nat × Nat × Nat) :=
  (if i.writesA ∧ i.a.mem then [(i.a.space, i.a.base, i.span 0)] else []) ++
    (if i.cls = 10 ∧ i.op = 1 then [(i.b.space, i.b.base, 32)] else [])

/-! ### The code as a list of instructions, and its functions -/

/-- Instructions from an offset on. -/
def eicFrom (img : List Byte) : Nat → Nat → List EicIns
  | 0, _ => []
  | n + 1, off =>
    if off < imgLen img 0 then
      let i := eicDecode img off
      i :: eicFrom img n i.next
    else []

def eicAll (img : List Byte) : List EicIns := eicFrom img (imgLen img 0 / 4) 0

/-- Entry offsets: of the tasks and of every call. -/
def eicEntries (img : List Byte) : List Nat :=
  ((List.range (imgNcyc img)).map fun k => (Config.eicCyclic img k).entry) ++ ((List.range (imgNevt img)).map (Config.eicEvent img)) ++
    ((eicAll img).filter fun i => i.cls = 7 && i.op = 0).map fun (i : EicIns) => i.b.imm

/-- The function a code offset lies in: the greatest entry at or below it. -/
def eicFunction (img : List Byte) (off : Nat) : Nat := (eicEntries img).foldl (fun a e => if e ≤ off ∧ a < e then e else a) 0

/-- Instructions of the function that begins at an entry. -/
def eicBody (img : List Byte) (entry : Nat) : List EicIns := (eicAll img).filter fun i => eicFunction img i.off = entry

/-- The stack of open loops before each instruction of a function, innermost first, by the offset of their BEGIN. -/
def eicNests (body : List EicIns) : List (EicIns × List Nat) :=
  (body.foldl (fun (a : List Nat × List (EicIns × List Nat)) i =>
    let st := a.1
    (if i.cls = 6 ∧ i.op = 0 then i.off :: st else if i.cls = 6 ∧ i.op = 1 then st.drop 1 else st, a.2 ++ [(i, st)])) ([], [])).2

/-- Targets of a branch. -/
def EicIns.target (i : EicIns) : Nat := i.next + 4 * i.b.imm

/-! ### Checks 1 to 7, 9 and 10 of R491: the code offset at fault, if any -/

/-- Item 1. -/
def imgHeaderOk (img : List Byte) : Bool :=
  decide (256 ≤ img.length ∧ le img 0 4 = 0x31434945 ∧ le img 4 2 = 1 ∧ 1 ≤ imgNcyc img ∧ imgNcyc img ≤ 4 ∧ byteAt img 7 = 0
      ∧ imgNevt img ≤ 120 ∧ 1 ≤ imgEvMax img ∧ imgEvMax img ≤ 1000 ∧ imgLength img ≤ 16 * 2 ^ 20 ∧ imgLength img ≤ img.length)
    && zeros img 24 8 && zeros img 96 160 && decide (le img 20 4 = crc32c (slice img 32 (imgLength img - 32)))
    && ((List.range 8).all fun k => decide (imgOfs img k + imgLen img k ≤ imgLength img))
    && decide (imgLen img 0 ≤ 4 * 2 ^ 20 ∧ imgLen img 1 ≤ 2 * 2 ^ 20 ∧ imgLen img 2 ≤ 8 * 2 ^ 20
        ∧ (Config.eicSymbols img).length ≤ 65536)

def firstBad (is : List EicIns) (ok : EicIns → Bool) : Option Nat := (is.find? fun i => !ok i).map fun (i : EicIns) => i.off

/-- Item 2. -/
def eicItem2 (img : List Byte) : Option Nat := firstBad (eicAll img) EicIns.decodes

/-- Item 3: branches go forward to an instruction of the same function and enter no loop. -/
def eicItem3 (img : List Byte) : Option Nat :=
  let is := eicAll img
  firstBad is fun i => i.cls ≠ 5 ||
    (is.any fun j => j.off = i.target && eicFunction img j.off = eicFunction img i.off &&
      (let body := eicNests (eicBody img (eicFunction img i.off))
       let nest (o : Nat) : List Nat := ((body.find? fun (p : EicIns × List Nat) => p.1.off = o).map fun (p : EicIns × List Nat) => p.2).getD []
       (nest j.off).all fun l => (nest i.off).contains l))

/-- Item 4: pass counts, loops closed in their function, at most 8 deep. -/
def eicItem4 (img : List Byte) : Option Nat :=
  let entries := (eicEntries img).eraseDups
  entries.findSome? fun e =>
    let body := eicNests (eicBody img e)
    let depth := body.foldl (fun (a : Int) (p : EicIns × List Nat) =>
      if p.1.cls = 6 ∧ p.1.op = 0 then a + 1 else if p.1.cls = 6 ∧ p.1.op = 1 then a - 1 else a) 0
    match body.find? fun p => p.1.cls = 6 &&
        ((p.1.op = 0 && (decide (p.1.b.imm = 0 ∨ 16777216 < p.1.b.imm) || decide (8 ≤ p.2.length))) || (p.1.op ≠ 0 && p.2.isEmpty)) with
    | some p => some p.1.off
    | none => if depth ≠ 0 then some e else none

/-- Functions a function calls. -/
def eicCallees (img : List Byte) (e : Nat) : List Nat :=
  (((eicBody img e).filter fun i => i.cls = 7 && i.op = 0).map fun (i : EicIns) => i.b.imm).eraseDups

/-- A function's calls end within a depth. -/
def eicDepthOk (img : List Byte) : Nat → Nat → Bool
  | 0, _ => false
  | n + 1, e => (eicCallees img e).all (eicDepthOk img n)

/-- Item 5: every call names an instruction, no cycle, depth at most 32. -/
def eicItem5 (img : List Byte) : Option Nat :=
  let is := eicAll img
  match firstBad is fun i => !(i.cls = 7 && i.op = 0) || is.any fun j => j.off = i.b.imm with
  | some o => some o
  | none => (eicEntries img).find? fun e => !eicDepthOk img 33 e

/-- Item 6: operands inside their space and aligned. -/
def eicItem6 (img : List Byte) : Option Nat :=
  firstBad (eicAll img) fun i => (List.range 3).all fun k =>
    let o := if k = 0 then i.a else if k = 1 then i.b else i.c
    !o.mem || (decide (o.base + i.span k ≤ spaceSize img o.space) &&
      (if i.cls = 8 ∧ k = 0 then decide (o.base % 3 = 0) else if i.cls = 9 ∨ i.cls = 10 then true else decide (o.base % eicSize i.ty = 0)))

/-- Item 7: no write to the input image, constants or system space. -/
def eicItem7 (img : List Byte) : Option Nat :=
  firstBad (eicAll img) fun i => i.writes.all fun w => decide (w.1 ≤ 1 ∨ w.1 = 3)

/-- Functions reachable from an entry. -/
def eicReach (img : List Byte) : Nat → Nat → List Nat
  | 0, e => [e]
  | n + 1, e => e :: (eicCallees img e).flatMap (eicReach img n)

/-- Entry of task k: cyclic 0 to 3, event 4 + e. -/
def eicEntryOf (img : List Byte) (k : Nat) : Nat := if k < 4 then (Config.eicCyclic img k).entry else Config.eicEvent img (k - 4)

/-- Numbers of the tasks of an image. -/
def eicTasks (img : List Byte) : List Nat := List.range (imgNcyc img) ++ (List.range (imgNevt img)).map (· + 4)

/-- Instructions of a task. -/
def eicTaskCode (img : List Byte) (k : Nat) : List EicIns :=
  ((eicReach img 32 (eicEntryOf img k)).eraseDups).flatMap (eicBody img)

/-- Writes of a task to a space. -/
def eicTaskWrites (img : List Byte) (k sp : Nat) : List (Nat × Nat) :=
  ((eicTaskCode img k).flatMap EicIns.writes).filterMap fun w => if w.1 = sp then some w.2 else none

/-- Two byte ranges share a word of the output image, or a byte of the retain space. -/
def rangesMeet (g : Nat) (x y : Nat × Nat) : Bool :=
  decide (x.1 / g ≤ (y.1 + y.2 - 1) / g) && decide (y.1 / g ≤ (x.1 + x.2 - 1) / g)

/-- Item 8. -/
def eicItem8 (img : List Byte) : Bool :=
  ((eicTasks img).all fun j => (eicTasks img).all fun k => decide (j ≥ k) ||
    (!((eicTaskWrites img j 3).any fun x => (eicTaskWrites img k 3).any (rangesMeet 2 x)) &&
     !((eicTaskWrites img j 1).any fun x => (eicTaskWrites img k 1).any (rangesMeet 1 x)))) &&
  (List.range (imgNcyc img)).all fun k =>
    let t := Config.eicCyclic img k
    (eicTaskWrites img k 3).all fun x => decide (2 * t.outOfs ≤ x.1) && decide (x.1 + x.2 ≤ 2 * (t.outOfs + t.outLen))

/-- Item 9: a queue pair of a packet instruction is assigned to the task, with `PROD` 2. -/
def eicItem9 (img : List Byte) (prod : Nat → Nat) : Option Nat :=
  (eicTasks img).findSome? fun k => firstBad (eicTaskCode img k) fun i =>
    i.cls ≠ 10 || (decide (Config.eicQueue img i.c.imm = some k) && decide (prod i.c.imm = 2))

/-- Item 10. -/
def eicItem10 (img : List Byte) : Option Nat :=
  firstBad (eicAll img) fun i => !(i.cls = 11 && i.op = 0) || decide (4 ≤ i.c.imm ∧ i.c.imm ≤ 127)

/-! ### Worst-case times (R492 to R494) -/

/-- Longest costs from a place: to the END of each open loop, innermost first, and last to the return; none where no path
leads there. -/
abbrev Paths := List (Option Nat)

def optMax : Option Nat → Option Nat → Option Nat
  | some a, some b => some (max a b)
  | some a, none => some a
  | none, b => b

def pathsMax (x y : Paths) : Paths := (List.range (max x.length y.length)).map fun k => optMax (x.getD k none) (y.getD k none)
def pathsAdd (n : Nat) (x : Paths) : Paths := x.map fun v => v.map (· + n)

/-- A loop of n passes whose body has given paths, before what follows it. -/
def loopPaths (n : Nat) (body after : Paths) : Paths :=
  (List.range after.length).map fun k =>
    optMax ((match body.headD none, after.getD k none with | some b, some a => some (3 + n * b + a) | _, _ => none))
      (match body.getD (k + 1) none with | some x => some (3 + (n - 1) * ((body.headD none).getD 0) + x) | none => none)

/-- Paths from every instruction of a function, last first; `callee` gives the worst case of a called function. -/
def eicPaths (callee : Nat → Nat) (body : List (EicIns × List Nat)) : List (Nat × Paths) :=
  body.foldr (fun p acc =>
    let i := p.1
    let depth := p.2.length
    let here (o : Nat) : Paths := (assocGet o acc).getD (List.replicate (depth + 1) none)
    let cut (x : Paths) : Paths := List.replicate (depth + 1 - x.length) none ++ x
    let next := here i.next
    let v : Paths :=
      if i.cls = 5 then pathsAdd i.cost (if i.op = 0 then cut (here i.target) else pathsMax next (cut (here i.target)))
      else if i.cls = 6 ∧ i.op = 0 then
        let close := (body.find? fun q => q.1.cls = 6 && q.1.op = 1 && decide (q.2.head? = some i.off)).map fun q => q.1.next
        loopPaths i.b.imm next (here (close.getD i.next))
      else if i.cls = 6 ∧ i.op = 1 then some i.cost :: List.replicate depth none
      else if i.cls = 6 then
        let close := (body.find? fun q => q.1.cls = 6 && q.1.op = 1 && decide (q.2 = p.2)).map fun q => q.1.next
        pathsAdd i.cost (pathsMax next (none :: here (close.getD i.next)))
      else if i.cls = 7 ∧ i.op = 1 then List.replicate depth none ++ [some i.cost]
      else if i.cls = 7 then pathsAdd (i.cost + callee i.b.imm) next
      else pathsAdd i.cost next
    (i.off, v) :: acc) []

/-- Worst-case time of a function in lane cycles; calls nest at most 32 deep. -/
def eicWorst (img : List Byte) : Nat → Nat → Nat
  | 0, _ => 0
  | n + 1, e => (((assocGet e (eicPaths (eicWorst img n) (eicNests (eicBody img e)))).getD []).getLast?.getD none).getD 0

/-- C of task k. -/
def eicC (img : List Byte) (k : Nat) : Nat := eicWorst img 33 (eicEntryOf img k)

/-- Lane term of the response time: the least t of R494, from a start value. -/
def laneTerm (own : Nat) (others : List (Nat × Nat)) (top : Nat) : Nat → Nat → Nat
  | 0, t => t
  | n + 1, t =>
    let u := own + (others.map fun (o : Nat × Nat) => divUp t o.1 * o.2).sum
    if u ≤ t ∨ top < u then u else laneTerm own others top n u

/-- Response time of cyclic task k in half nanoseconds (R494). -/
def eicResponse (img : List Byte) (k : Nat) : Nat :=
  let t := Config.eicCyclic img k
  let shorter := (List.range (imgNcyc img)).filter fun j => (Config.eicCyclic img j).period < t.period
  let lane := laneTerm (eicC img k + 60) (shorter.map fun j => ((Config.eicCyclic img j).period * 400, eicC img j + 60)) (t.period * 400)
    100000 (eicC img k + 60)
  (2000 + 2 * t.inLen) + 5 * lane + (2000 + 2 * t.outLen)

/-- Budget sum in lane cycles per second, rounded up once (R493): over the longest cycle time, which the others divide (R482). -/
def eicBudget (img : List Byte) : Nat :=
  let ks := List.range (imgNcyc img)
  let long := ks.foldl (fun a k => max a (Config.eicCyclic img k).period) 1
  divUp ((ks.map fun k => (eicC img k + 60) * 1000000 * (long / max 1 (Config.eicCyclic img k).period)).sum) long

/-- Cycle times are whole multiples of 250 µs to 1 s, harmonic and different (R482). -/
def eicPeriodsOk (img : List Byte) : Bool :=
  let ps := (List.range (imgNcyc img)).map fun k => (Config.eicCyclic img k).period
  (ps.all fun p => decide (250 ≤ p ∧ p ≤ 1000000 ∧ p % 250 = 0)) && decide ps.Nodup &&
    ps.all fun p => ps.all fun q => decide (q ≤ p) || decide (q % p = 0)

/-- Item 11. -/
def eicItem11 (img : List Byte) : Bool := (List.range (imgNevt img)).all fun e => decide (eicC img (4 + e) ≤ imgEvMax img * 400)

/-- Item 12 with the output offsets of `CYC_CONFIG` (R493, R501, R526). -/
def eicItem12 (img : List Byte) (outOfs : Nat → Nat) : Bool :=
  decide (eicBudget img ≤ 360000000) && eicPeriodsOk img &&
    (List.range (imgNcyc img)).all fun k =>
      decide (eicResponse img k ≤ outOfs k * 2000) && decide (outOfs k < (Config.eicCyclic img k).period)

/-- The first item of R491 an image fails, with the code offset at fault where the item has one. -/
def eicVerify (img : List Byte) (prod outOfs : Nat → Nat) : Option (Nat × Option Nat) :=
  let code (n : Nat) (r : Option Nat) : Option (Nat × Option Nat) := r.map fun o => (n, some o)
  let flat (n : Nat) (ok : Bool) : Option (Nat × Option Nat) := if ok then none else some (n, none)
  (flat 1 (imgHeaderOk img)).orElse fun _ => (code 2 (eicItem2 img)).orElse fun _ => (code 3 (eicItem3 img)).orElse fun _ =>
    (code 4 (eicItem4 img)).orElse fun _ => (code 5 (eicItem5 img)).orElse fun _ => (code 6 (eicItem6 img)).orElse fun _ =>
    (code 7 (eicItem7 img)).orElse fun _ => (flat 8 (eicItem8 img)).orElse fun _ => (code 9 (eicItem9 img prod)).orElse fun _ =>
    (code 10 (eicItem10 img)).orElse fun _ => (flat 11 (eicItem11 img)).orElse fun _ => flat 12 (eicItem12 img outOfs)

/-! ### Areas of the images (R482, R496) -/

/-- A word lies in the input area of a task, and in its output area. -/
def inInput (img : List Byte) (k w : Nat) : Bool :=
  let t := Config.eicCyclic img k
  decide (t.inOfs ≤ w) && decide (w < t.inOfs + t.inLen)
def inOutput (img : List Byte) (k w : Nat) : Bool :=
  let t := Config.eicCyclic img k
  decide (t.outOfs ≤ w) && decide (w < t.outOfs + t.outLen)

/-- The bound words of a bridge lie in the output area of one task (R496). -/
def spWordsOk (img : List Byte) (ws : List (Nat × Nat)) : Bool :=
  ws.isEmpty || (List.range (imgNcyc img)).any fun k => ws.all fun (w : Nat × Nat) => inOutput img k w.2

/-! ### Variables and their carry-over (R485, R519) -/

def symBytes (v : EicSymbol) : Nat := v.count * v.size

/-- Same identity and same type. -/
def symSame (v w : EicSymbol) : Bool := v.id = w.id && v.type = w.type && v.count = w.count && v.sig = w.sig

/-- Variables of the new image that have a match in the old one, with it, that a task owns; those of no cyclic task go with
the longest. -/
def carried (old new : List Byte) : List (EicSymbol × EicSymbol) :=
  (Config.eicSymbols new).filterMap fun w =>
    ((Config.eicSymbols old).find? fun v => symSame v w && decide (w.space ≤ 1) && decide (v.space ≤ 1)).map fun v => (v, w)

def longestTask (img : List Byte) : Nat :=
  (List.range (imgNcyc img)).foldl (fun a k => if (Config.eicCyclic img a).period < (Config.eicCyclic img k).period then k else a) 0

/-- Carry-over time of task k in ns. -/
def carryTime (old new : List Byte) (k : Nat) : Nat :=
  1000 + (((carried old new).filter fun p => p.1.owner = some k ||
    (k = longestTask old && match p.1.owner with | some o => decide (4 ≤ o) | none => true)).map fun (p : EicSymbol × EicSymbol) => symBytes p.1).sum

end Sys2Proof.Machine
end

