-- ==== Sys2Proof/Machine/Kiln.lean ====
section
/-! DEFINITION. Updates of the Wheel and the cycle engine that other chapters need: the end of a context's run (11 R466), the
retain commit (12 R511), and the stop of the cycle engine (12 R514, R515). -/

namespace Sys2Proof.Machine

def State.modWheel (s : State) (f : Wheel → Wheel) : State := { s with wheel := f s.wheel }
def State.wc (s : State) (c : Nat) : WheelContext := vget s.wheel.ctx c
def State.modWc (s : State) (c : Nat) (f : WheelContext → WheelContext) : State :=
  s.modWheel fun w => { w with ctx := vmod w.ctx c f }
def State.modCyc (s : State) (f : Cycle → Cycle) : State := { s with cyc := f s.cyc }
def State.run (s : State) (r : Nat) : EicRun := vget s.cyc.runs r
def State.modRun (s : State) (r : Nat) (f : EicRun → EicRun) : State := s.modCyc fun c => { c with runs := vmod c.runs r f }

/-- A context's task or run ends: READY if a ready is pending, else IDLE (R466). -/
def State.endContext (s : State) (c : Nat) : State :=
  s.modWc c fun x =>
    if x.pend then { x with state := .ready, by_ := x.pendBy, pend := false, pendBy := [] } else { x with state := .idle }

/-- The event lane becomes free. -/
def State.freeLane (s : State) : State :=
  match s.wheel.lane with
  | some c => (s.modWheel fun w => { w with lane := none }).endContext c
  | none => s

/-- The retain copy in use. -/
def Cycle.retainCopy (c : Cycle) : RetainCopy := vget c.retain c.retUse

/-- Bytes of the retain space written into the older copy, which becomes the newer (R511). -/
def State.commitRetain (s : State) (imageId : Word) (bytes : Cells) : State :=
  s.modCyc fun c =>
    let other : Fin 2 := if c.retUse = 0 then 1 else 0
    let x : RetainCopy := { seq := c.retainCopy.seq + 1, imageId := imageId, crcOk := true, bytes := bytes }
    { c with retain := vset c.retain other x, retUse := other }

/-- Running cycles and event tasks are abandoned without publishing. -/
def State.abandonRuns (s : State) : State :=
  (s.modCyc fun c => { c with runs := c.runs.map fun (x : EicRun) => { x with active := false, retWrites := [], outWrites := [] } }).freeLane

/-- Packets that wait for a cycle of an engine that has retired end (R527). -/
def State.endCycleWaits (s : State) : State :=
  let ws := s.cyc.reads ++ s.cyc.writes ++ s.cyc.forceWaits
  (s.modCyc fun c => { c with reads := [], writes := [], forceWaits := [] }).endAll (ws.map fun (w : VarWait) => w.ticket) .unitRetired

/-- The engine stops as a Kiln sitter trip does (R514): a pending change and a RUN that waits for its start are cancelled, a
STOP that waits is reached. -/
def State.stopEngine (s : State) (cause : Nat) (next : CycState) : State :=
  let waits := s.cyc.modeWait
  let st : Status := if s.cyc.stopping then .done else .cancelled
  let change := s.cyc.change
  let s := s.abandonRuns
  let s := s.modCyc fun c => { c with
    state := next, cause := BitVec.ofNat 16 cause, change := none, modeWait := [], stopping := false }
  let s := s.endAll waits st
  let s := match change with | some c => s.ends c.ticket .cancelled | none => s
  if next = .retired then s.endCycleWaits else s

/-! ### Stations and ports (12 R502, 13 R574) -/

def State.modStation (s : State) (n : Nat) (f : Station → Station) : State :=
  s.modCyc fun c => { c with stations := vmod c.stations n f }

/-- A station becomes ABSENT. -/
def Station.drop (x : Station) : Station :=
  if x.absent then x else { x with present := false, absent := true, good := 0, absences := sat8 (x.absences + 1) }

/-- An Ethernet port that can carry frames. -/
def State.portUp (s : State) (n : Nat) : Bool := (vget s.ports n).link && !s.isRetired 5 n

/-- The ports a station uses. -/
def StationCfg.ports (c : StationCfg) : List Nat := if c.port = 2 then [0, 1] else [c.port]

/-- Stations all of whose ports are down become ABSENT (R502). -/
def State.dropStations (s : State) : State :=
  s.forEach (List.range 32) fun s n =>
    match (vget s.cyc.stations n).cfg with
    | some c => if c.en ∧ ¬ c.ports.any s.portUp then s.modStation n Station.drop else s
    | none => s

/-- The bypass relays are released (R572). -/
def State.dropRelays (s : State) : State :=
  { s with ring := { s.ring with relays := false, insertBy := none, state := .loopback } }

/-- The ring is off once both its ports are retired (Table 13-17). -/
def State.ringPortRetired (s : State) : State :=
  if s.isRetired 4 0 ∧ s.isRetired 4 1 then
    let s := s.dropRelays
    { s with ring := { s.ring with state := .off, retryAt := none } }
  else if s.ring.state = .ring then { s with ring := { s.ring with state := .line } } else s

end Sys2Proof.Machine
end

