-- ==== Sys2Proof/Machine/Frames.lean ====
section
/-! DEFINITION. The serial side of a gate link (06 R256 to R259): code groups, frames and their check. -/

namespace Sys2Proof.Machine

/-! ### Code groups (Table 06-3) -/

/-- The groups of the nibbles 0x0 to 0xF. -/
def dataGroups : List (BitVec 5) :=
  [0b01010, 0b00101, 0b01101, 0b01001, 0b01011, 0b00110, 0b00100, 0b01100]
    ++ [0b10101, 0b11010, 0b10010, 0b10110, 0b10100, 0b11001, 0b11011, 0b10011]

def sofGroup : BitVec 5 := 0b01110
def idleGroup : BitVec 5 := 0b10001
def tripGroup : BitVec 5 := 0b11111
def alertGroup : BitVec 5 := 0b00000

/-- The group of a nibble. -/
def groupOf (n : Nat) : BitVec 5 := dataGroups.getD n idleGroup

/-- The nibble of a data group; none for a control group and for an undefined one. -/
def nibbleOf (g : BitVec 5) : Option Nat := dataGroups.findIdx? (· = g)

/-- A byte as its groups, high nibble first (R257). -/
def byteGroups (b : Byte) : List (BitVec 5) := [groupOf (b.toNat / 16), groupOf (b.toNat % 16)]

/-- The bytes of a run of data groups, high nibbles first; none where a group is no data group or a nibble is missing. -/
def groupBytes : List (BitVec 5) → Option (List Byte)
  | [] => some []
  | [_] => none
  | h :: l :: gs =>
    match nibbleOf h, nibbleOf l, groupBytes gs with
    | some a, some b, some bs => some (BitVec.ofNat 8 (16 * a + b) :: bs)
    | _, _, _ => none

/-! ### Frames (R257 to R259, Tables 06-4 and 06-5) -/

/-- The bytes of a frame after SOF: type and flags, payload, CRC-8 over both. -/
def frameBytes (type flags : Nat) (payload : List Byte) : List Byte :=
  let body := BitVec.ofNat 8 (16 * type + flags) :: payload
  body ++ [BitVec.ofNat 8 (crc8 body)]

/-- A frame as the groups that are sent. -/
def frameGroups (bytes : List Byte) : List (BitVec 5) := sofGroup :: bytes.flatMap byteGroups

/-- Payload bytes of an uplink frame by its type: STATUS, EDGE, READ_DATA, ACK. -/
def uplinkLength (type : Nat) : Option Nat :=
  match type with | 0 => some 3 | 1 => some 3 | 2 => some 2 | 3 => some 1 | _ => none

/-- An uplink frame that R258 does not discard: type, flags and payload. -/
def uplinkFrame (gs : List (BitVec 5)) : Option (Nat × Nat × List Byte) :=
  match gs with
  | [] => none
  | g :: rest =>
    match groupBytes rest with
    | some (b :: bs) =>
      let body := b :: bs.dropLast
      if g = sofGroup ∧ uplinkLength (b.toNat / 16) = some bs.dropLast.length ∧ bs.getLast? = some (BitVec.ofNat 8 (crc8 body)) then
        some (b.toNat / 16, b.toNat % 16, bs.dropLast)
      else none
    | _ => none

/-- Downlink frame types (Table 06-4). -/
def heartbeatType : Nat := 0
def writeType : Nat := 1
def readType : Nat := 2
def clearType : Nat := 3
def statreqType : Nat := 4

/-- A downlink frame leaves the link with its flags and the next sequence count (R259). -/
def GateLink.send (l : GateLink) (own : Bool) (type : Nat) (payload : List Byte) : GateLink :=
  { l with tx := frameBytes type (8 * bit own + 4 * bit l.frozen + l.seqDown.toNat) payload :: l.tx, seqDown := l.seqDown + 1 }

/-- WRITE frames and then the write to `COMMIT` (R267). -/
def GateLink.sendWrites (l : GateLink) (own : Bool) (ws : List (Byte × Byte)) : GateLink :=
  (ws ++ [(0x3F, 0xA5)]).foldl (fun (l : GateLink) (w : Byte × Byte) => l.send own writeType [w.1, w.2]) l

/-- Writes of a fallback record and of the booster fields of a profile (Table 06-8). -/
def fallbackWrites (r : Byte × Byte × Byte) : List (Byte × Byte) := [(0x02, r.1), (0x03, r.2.1), (0x04, r.2.2)]
def Profile.writes (p : Profile) : List (Byte × Byte) :=
  [(0x05, BitVec.ofNat 8 p.blank1), (0x06, BitVec.ofNat 8 p.blank2), (0x07, BitVec.ofNat 8 p.dsfilt),
   (0x08, BitVec.ofNat 8 p.bootTh), (0x09, BitVec.ofNat 8 p.telDiv)]

end Sys2Proof.Machine
end

