-- ==== Sys2Proof/Machine/LoopCore.lean ====
section
/-! DEFINITION. Loop contexts (04): configuration and coefficient access, the cycle budget (R184, R185), and swaps and
injections that end at once (R170 to R172, R201, R205). -/

namespace Sys2Proof.Machine

/-! ### Configuration block (Table 04-2) -/

def LoopContext.nx (c : LoopContext) : Nat := byteAt c.config 0
def LoopContext.ny (c : LoopContext) : Nat := byteAt c.config 1
def LoopContext.nu (c : LoopContext) : Nat := byteAt c.config 2
def LoopContext.ni (c : LoopContext) : Nat := byteAt c.config 3
def LoopContext.nr (c : LoopContext) : Nat := byteAt c.config 4
def LoopContext.nm (c : LoopContext) : Nat := byteAt c.config 5
def LoopContext.prio (c : LoopContext) : Nat := byteAt c.config 6
def LoopContext.ovrLimit (c : LoopContext) : Nat := byteAt c.config 7
def LoopContext.fs (c : LoopContext) : Nat := le c.config 8 4
def LoopContext.sampleEv (c : LoopContext) : Nat := byteAt c.config 12
def LoopContext.sampleDiv (c : LoopContext) : Nat := byteAt c.config 13
def LoopContext.substTime (c : LoopContext) : Nat := le c.config 14 2
def LoopContext.msrc (c : LoopContext) (i : Nat) : Nat := byteAt c.config (16 + i)
def LoopContext.trf (c : LoopContext) (t k : Nat) : Nat := byteAt c.config (32 + 4 * t + k)
def LoopContext.ymap (c : LoopContext) (i : Nat) : Nat := byteAt c.config (48 + i)
/-- Reference, y and output index of integrator j. -/
def LoopContext.intA (c : LoopContext) (j : Nat) : Nat := byteAt c.config (64 + 3 * j)
def LoopContext.intB (c : LoopContext) (j : Nat) : Nat := byteAt c.config (65 + 3 * j)
def LoopContext.intO (c : LoopContext) (j : Nat) : Nat := byteAt c.config (66 + 3 * j)
def LoopContext.modMode (c : LoopContext) : Nat := byteAt c.config 88
def LoopContext.modVdc (c : LoopContext) : Nat := byteAt c.config 89
def LoopContext.modSrc (c : LoopContext) : Nat := byteAt c.config 90
def LoopContext.modLegs (c : LoopContext) : Nat := byteAt c.config 91
def LoopContext.modK (c : LoopContext) : Nat := le c.config 92 2
def LoopContext.clampEn (c : LoopContext) : Bool := byteAt c.config 94 = 1
def LoopContext.clampI (c : LoopContext) : Nat := byteAt c.config 95
def LoopContext.clampV (c : LoopContext) : Nat := byteAt c.config 96
def LoopContext.clampU (c : LoopContext) : Nat := byteAt c.config 97
def LoopContext.iClamp (c : LoopContext) : Q15 := q15At c.config 98
def LoopContext.rCl (c : LoopContext) : Q15 := q15At c.config 100
def LoopContext.tabEn (c : LoopContext) (t : Nat) : Bool := (byteAt c.config 102).testBit t
def LoopContext.tabElec (c : LoopContext) (t : Nat) : Bool := (byteAt c.config 103).testBit t
def LoopContext.tabTgt (c : LoopContext) (t : Nat) : Nat := byteAt c.config (104 + t)
def LoopContext.fricDb (c : LoopContext) : Q15 := q15At c.config 106
def LoopContext.polePairs (c : LoopContext) : Nat := byteAt c.config 108
def LoopContext.adv (c : LoopContext) : Nat := byteAt c.config 109
def LoopContext.thetaOfs (c : LoopContext) : Nat := le c.config 110 2
def LoopContext.injEn (c : LoopContext) : Bool := byteAt c.config 112 = 1

/-- Configured: it holds a place on its engine. -/
def LoopContext.resident (c : LoopContext) : Bool := c.state ≠ .empty && c.state ≠ .occupied

/-- A transform takes angle source 1, or a table is enabled: a position input is needed (R167). -/
def LoopContext.needsPos (c : LoopContext) : Bool :=
  c.tabEn 0 || c.tabEn 1 || (List.range 4).any fun t => c.trf t 0 ≠ 0 ∧ c.trf t 1 = 1

/-! ### Coefficient banks (Table 04-4) -/

/-- A word of a bank. -/
def LoopContext.wordOf (c : LoopContext) (b : Nat) (k : Nat) : Nat := cellGet 0 k (vget c.bank b)
/-- A Q15 entry of a bank. -/
def LoopContext.coef (c : LoopContext) (b k : Nat) : Int := signed 16 (c.wordOf b k)
/-- Block exponents of A, B, L, C and G (R155): matrices 0 to 4. -/
def LoopContext.expo (c : LoopContext) (b m : Nat) : Nat := field (c.wordOf b (0x500 + m)) 3 0
def LoopContext.zmin (c : LoopContext) (b j : Nat) : Int := c.coef b (0x518 + j)
def LoopContext.zmax (c : LoopContext) (b j : Nat) : Int := c.coef b (0x520 + j)
def LoopContext.umin (c : LoopContext) (b j : Nat) : Int := c.coef b (0x528 + j)
def LoopContext.umax (c : LoopContext) (b j : Nat) : Int := c.coef b (0x530 + j)
/-- Entry of the law matrix G, row o, column n. -/
def LoopContext.g (c : LoopContext) (b o n : Nat) : Int := c.coef b (0x380 + 48 * o + n)

/-- The other bank. -/
def other (b : Fin 2) : Fin 2 := if b = 0 then 1 else 0

/-- CRC-32C of a bank's words. -/
def bankCrc (words : Nat) (m : Cells) : Nat := crc32c ((cellsRead 0 0 words m).flatMap (bytesOf 2))

/-! ### Integrators -/

def LoopContext.zAt (c : LoopContext) (j : Nat) : Int := (vget c.z j).toInt
def setZ (v : Vector Word 8) (j : Nat) (x : Int) : Vector Word 8 := vset v j (BitVec.ofInt 32 x)
/-- The Q15 view of an integrator (R158). -/
def LoopContext.zView (c : LoopContext) (j : Nat) : Int := sat16 (writeBack (c.zAt j) 0)

/-- Every integrator clamped to a bank's limits, and whether a clamp bit (R172). -/
def LoopContext.clampZ (c : LoopContext) (b : Nat) : LoopContext × Bool :=
  (List.range c.ni).foldl (fun (p : LoopContext × Bool) j =>
    let v := limitI (p.1.zAt j) (c.zmin b j * 0x8000) (c.zmax b j * 0x8000)
    ({ p.1 with z := setZ p.1.z j v }, p.2 || v ≠ p.1.zAt j)) (c, false)

/-- The rest s_j of law row o in units of 2^-30 times 2^e: all but column 32 + j, with innovation 0 (R171). -/
def LoopContext.rowRest (c : LoopContext) (b o j : Nat) : Int :=
  let sum (n : Nat) (f : Nat → Int) := (List.range n).foldl (fun a k => a + f k) 0
  (sum c.nx fun k => c.g b o k * (vget c.xh k).toInt)
    + (sum c.ni fun k => if k = j then 0 else c.g b o (32 + k) * c.zView k)
    + (sum c.nr fun k => c.g b o (40 + k) * (vget c.rEff k).toInt)

/-- The bumpless recomputation of the integrators, in ascending order (R171). -/
def LoopContext.bumpless (c : LoopContext) (b : Nat) : LoopContext :=
  (List.range c.ni).foldl (fun (p : LoopContext) j =>
    let o := c.intO j
    let gz := c.g b o (32 + j)
    if gz = 0 then p
    else
      let e := c.expo b 4
      let rest := p.rowRest b o j * (2 ^ e : Nat) + vget c.uAdd o * 0x8000
      let num := (vget c.u o).toInt * 0x8000 - rest
      let d := gz * (2 ^ e : Nat)
      let q := if d < 0 then roundDiv (-(num * 0x8000)) (-d) else roundDiv (num * 0x8000) d
      { p with z := setZ p.z j (limitI q (-0x80000000) 0x7FFFFFFF) }) c

/-- A coefficient swap takes effect: the other bank is active, the integrators are clamped to it (R170 to R172). -/
def State.swapCoef (s : State) (k : Nat) (bumpless : Bool) : State :=
  let c := s.lc k
  let nb := other c.active
  let (c1, clipped) := (if bumpless then c.bumpless nb else c).clampZ nb
  s.modLc k fun _ => { c1 with active := nb, swapDone := true, swapClipped := c.swapClipped || clipped, coefSwap := none }

/-- Whether a swap to the other bank would clip, the extra bit of its completion (R170). -/
def LoopContext.clips (c : LoopContext) (bumpless : Bool) : Bool :=
  ((if bumpless then c.bumpless (other c.active) else c).clampZ (other c.active)).2

/-- A coefficient swap takes effect and its packet completes with an instant (R170). -/
def State.finishCoef (s : State) (k : Nat) (t : Ticket) (bumpless : Bool) (ns : DWord) : State :=
  (s.swapCoef k bumpless).answer t
    { r0 := lo32 ns, r1 := hi32 ns, extra := word [(bit ((s.lc k).clips bumpless), 0)] }

/-- Table swaps take effect: bit 0 friction, bit 1 cogging (R177). -/
def State.swapTables (s : State) (k mask : Nat) : State :=
  s.modLc k fun c => { c with
    fricAct := if mask.testBit 0 then other c.fricAct else c.fricAct,
    coggAct := if mask.testBit 1 then other c.coggAct else c.coggAct }

/-- Pending table swaps take effect and complete (R177). -/
def State.finishTables (s : State) (k : Nat) (ns : DWord) : State :=
  let ts := (s.lc k).tabSwap
  let s := s.modLc k fun c => { c with tabSwap := [] }
  ts.foldl (fun s t => (s.swapTables k t.2).doneAt t.1 ns) s

/-- `LOOP_SUBST` changes take effect: sources replaced in the block in force (R192). -/
def State.applySubst (s : State) (k : Nat) : State :=
  s.modLc k fun c => { c with
    config := c.substNext.foldl (fun bs p => overlay bs (16 + p.1) [p.2]) c.config, substNext := [] }

/-- A context leaves RUNNING: pending swaps and source changes take effect in direct mode, an injection is cancelled
(R201, R205), and samples that were due no longer run. -/
def State.leaveRunning (s : State) (k : Nat) : State :=
  let s := match (s.lc k).coefSwap with | some w => s.finishCoef k w.ticket false s.dtbNs | none => s
  let s := ((s.finishTables k s.dtbNs).applySubst k).modLc k fun c => { c with due := [] }
  match (s.lc k).inj with
  | some j => (s.modLc k fun c => { c with inj := none, injVal := 0 }).ends j.ticket .cancelled
  | none => s

/-! ### Cycle budget (Table 04-6, R185) -/

/-- Cost of a product. -/
def prodCost (r c : Nat) : Nat := divUp (r * c) 64 + r + 16

/-- Cycles of the output section; `form` for a context bound to a FORM bridge, `three` its three-level legs. -/
def LoopContext.outCycles (c : LoopContext) (form : Bool) (three : Nat) : Nat :=
  12 + 2 * c.nm + 14 * (numbers 4 fun t => c.trf t 0 ≠ 0).length + prodCost c.ny c.nx + 4 * c.ni
    + prodCost c.nu (c.nx + c.ny + c.ni + c.nr) + 24 * (bit (c.tabEn 0) + bit (c.tabEn 1))
    + 20 * bit c.injEn + 40 * bit form + 16 * bit c.clampEn + 3 * c.nu + 12 + 6 * c.modLegs + 6 * three + 8

/-- Cycles of one sample, the context switch included. -/
def LoopContext.cycles (c : LoopContext) (form : Bool) (three : Nat) : Nat :=
  28 + c.outCycles form three + prodCost c.nx c.nx + prodCost c.nx c.nu + prodCost c.nx c.ny + 2 * c.nx + 6 * c.ni + 24

/-- Whether a context counts the hand-off, and how many of its legs are three-level: of its bridge; none while it is
unbound (DEDUCED, log 12). -/
def State.lcShape (s : State) (k : Nat) : Bool × Nat :=
  match s.bridgeOfLc k with
  | some b =>
    match (s.bridge b).defn with
    | some d => (d.role = .form, (d.legs.filter fun l => l.kind ≠ 0).length)
    | none => (false, 0)
  | none => (false, 0)

/-- Load of a context in cycles per second. -/
def State.lcLoad (s : State) (k : Nat) (c : LoopContext) : Nat :=
  c.cycles (s.lcShape k).1 (s.lcShape k).2 * c.fs

/-- Budget sum of an engine over its resident contexts, but for one. -/
def State.engineLoad (s : State) (e : Nat) (but : Option Nat) : Nat :=
  (List.range 24).foldl (fun a k =>
    if (s.lc k).resident ∧ (s.lc k).host = e ∧ some k ≠ but then a + s.lcLoad k (s.lc k) else a) 0

/-- The budget rule, 540 M cycles/s (R185). -/
def loopBudget : Nat := 540000000

end Sys2Proof.Machine
end

