-- ==== Sys2Proof/Machine/Protect.lean ====
section
/-! DEFINITION. What changes a bridge's state and outputs: the Saggar's and channel A's release (09 R390 to R392), safe
patterns and fallback records (05 R243, 06 R269, R284 to R290), slots that start and stop with a frame source
(07 R316, R341), and the transitions of Table 01-5 with those of the bound engine and context. -/

namespace Sys2Proof.Machine

/-! ### Safety parameter block (Table 09-5) -/

def fnType (blk : List Byte) (n : Nat) : Nat := byteAt blk (16 + 16 * n)
def fnMode (blk : List Byte) (n : Nat) : Nat := byteAt blk (17 + 16 * n)
def fnBmask (blk : List Byte) (n : Nat) : Nat := byteAt blk (18 + 16 * n)
def fnSbc (blk : List Byte) (n : Nat) : Nat := byteAt blk (19 + 16 * n)
def fnSdc (blk : List Byte) (n : Nat) : Nat := byteAt blk (20 + 16 * n)
def fnFilt (blk : List Byte) (n : Nat) : Nat := le blk (22 + 16 * n) 2
def fnDisc (blk : List Byte) (n : Nat) : Nat := le blk (24 + 16 * n) 2
def fnTss1 (blk : List Byte) (n : Nat) : Nat := le blk (26 + 16 * n) 2
def blkRoles (blk : List Byte) (b : Nat) : Nat := byteAt blk (80 + 4 * b)
def blkSdcOut (blk : List Byte) (b : Nat) : Nat := byteAt blk (81 + 4 * b)
def blkSbcDly (blk : List Byte) (n : Nat) : Nat := le blk (112 + 4 * n) 2

/-- Bit of `ROLES` for a role and safe state. -/
def rolesBit : Role → SafeState → Nat
  | .form, _ => 0
  | .drive, .ascHigh => 2
  | .drive, _ => 1
  | .convert, _ => 3
  | .spare, _ => 4

/-- The committed block, all zeros while there is none. -/
def State.blk (s : State) : List Byte := s.sag.block.getD []

/-- The first three conditions of R390, which R392 shares. -/
def State.sagUp (s : State) : Bool :=
  s.resetN && decide (s.sag.comm = .commissioned) && !s.sag.sfault && !s.sag.xfault

/-- One function withholds no release: tested, no discrepancy latch, and no demand or demand latch, except that an SS1-t
demand withholds only from its safe instant on (R390); `early` for channel A, which refuses from the demand on (R387). -/
def SafeFn.quiet (f : SafeFn) (type : Nat) (early : Bool) : Bool :=
  type = 0 || (f.tested && !f.disc &&
    (!(f.demanded || f.latch) || (decide (type = 2) && !early && !f.safePassed)))

/-- Release of bridge b in one channel's view (R390). -/
def State.released (s : State) (c : Channel) (early : Bool) (b : Nat) : Bool :=
  s.sagUp && decide (b < s.fitBridges) &&
    (List.range 4).all fun n => !(fnBmask s.blk n).testBit b || (vget c.fn n).quiet (fnType s.blk n) early

/-- The bridge's role and safe state lie within its `ROLES` set (R27, R391). -/
def State.roleAllowed (s : State) (b : Nat) (r : Role) (x : SafeState) : Bool :=
  (blkRoles s.blk b).testBit (rolesBit r x)

/-- Channel A permits release of bridge b (R391). -/
def State.chanAPermits (s : State) (b : Nat) : Bool :=
  !s.sag.lockstep && s.released s.sag.chA true b &&
    match (s.bridge b).defn with | some d => s.roleAllowed b d.role d.safe | none => false

/-- A line whose release is withdrawn holds the level that its square wave then has, which is free (R378, log 92). -/
def State.holdSsl (s : State) (b : Nat) : State :=
  let d := s.draw 78 2
  { d.2 with sag := { d.2.sag with
      ssl := (d.2.sag.ssl &&& ~~~ BitVec.ofNat 8 (2 ^ b)) ||| BitVec.ofNat 8 (d.1 * 2 ^ b), sslEdge := vset d.2.sag.sslEdge b d.2.now } }

/-- The SSL lines follow the Saggar's release (R378, R390). -/
def State.refreshSsl (s : State) : State :=
  let run := (List.range 8).foldl (fun a b => if s.released s.sag.chB false b then a + 2 ^ b else a) 0
  let s := s.forEach (numbers 8 fun b => s.sag.sslRun.getLsbD b && !run.testBit b) State.holdSsl
  { s with sag := { s.sag with sslRun := BitVec.ofNat 8 run } }

/-- Bridge b's SSL line toggles. -/
def State.sslToggling (s : State) (b : Nat) : Bool := s.sag.sslRun.getLsbD b

/-- A channel permits an output, SBCn or SDCn (R392): no function that names it holds a latch past its de-energising
instant. -/
def State.outPermit (s : State) (c : Channel) (sbc : Bool) (n : Nat) : Bool :=
  s.resetN && decide (s.sag.comm = .commissioned) &&
    (if sbc then !(vget c.sbcLost n) else !s.sag.sfault && !s.sag.xfault) &&
    (List.range 4).all fun k =>
      let f := vget c.fn k
      fnType s.blk k = 0 || !((if sbc then fnSbc s.blk k else fnSdc s.blk k).testBit n) || !(f.latch || f.disc)
        || !(if sbc then vget f.sbcPast n else f.safePassed)

/-- `SBC_ON` and `SDC_ON` (Table 09-8, R379, R380). A lockstep mismatch takes them through the cross-channel fault (R401). -/
def State.sbcOn (s : State) (n : Nat) : Bool :=
  s.outPermit s.sag.chA true n && s.outPermit s.sag.chB true n && s.sag.sbcReq.getLsbD n
def State.sdcOn (s : State) (n : Nat) : Bool := s.outPermit s.sag.chA false n && s.outPermit s.sag.chB false n

/-- A link holds a protection fault: a latched code, a break whose code has not come, or a DESAT code held by an open
window (R266, R282). -/
def GateLink.latched (l : GateLink) : Bool :=
  decide (l.codes ≠ 0) || l.breakAt.isSome || vget l.heldDesat 0 || vget l.heldDesat 1

/-- A protection fault of the bridge is latched: a trip source or a gate-link fault (R34, R242, R266). -/
def State.faultLatched (s : State) (b : Nat) : Bool :=
  (s.pwm b).trips ≠ 0 || (s.linksOf b).any fun g => (s.link g).latched

/-- The conditions of R34. -/
def State.startAllowed (s : State) (b : Nat) : Bool :=
  decide (s.sag.comm = .commissioned) && s.sslToggling b && !s.faultLatched b && s.chanAPermits b

/-- The conditions of R43. -/
def State.recoverAllowed (s : State) (b : Nat) : Bool :=
  !s.faultLatched b && s.sslToggling b && s.chanAPermits b

/-! ### Safe patterns -/

/-- Switch levels of a pattern: first and second switch of every gate link (R285). -/
def patternLevels : SafeState → Bool × Bool
  | .opened => (false, false)
  | .ascLow => (false, true)
  | .ascHigh => (true, false)

/-- A switch's edge at the ball. An on edge opens the controller's desaturation window (R282). GST is strong for the
pre-charge time, weak for the weak time, then strong; a profile that is not finished ends there (R251, R252). The edge
before it counts as closely followed within `PRE` + `MIL` + 100 ns (R297). -/
def GateLink.drive (l : GateLink) (k : Nat) (on : Bool) (at_ : Nat) (boot : Bool) : GateLink :=
  if vget l.gon k = on then l
  else
    let e := 2 * k + bit (!on)
    let o := 2 * k + bit on
    let weak := at_ + 16 * vget l.profile.pre e
    let mil := vget l.profile.mil e
    let notes := vmod l.notes o fun n => n.map fun (x : EdgeNote) =>
      { x with cut := x.cut || decide (at_ < x.at_ + 16 * (vget l.profile.pre o + vget l.profile.mil o) + 800) }
    { l with
      gon := vset l.gon k on, offAt := if on then l.offAt else vset l.offAt k at_,
      window := if on then vset l.window k (some (at_ + 320 * (if k = 0 then l.profile.blank1 else l.profile.blank2))) else l.window,
      gst := vset l.gst k (if mil = 0 then none else some (weak, weak + 16 * mil)),
      notes := vset notes e (some { at_, boot, cut := false }) }

/-- GST of a switch is strong at an instant (R250, R251). -/
def GateLink.strong (l : GateLink) (k now : Nat) : Bool :=
  match vget l.gst k with | some (a, b) => decide (now < a) || decide (b ≤ now) | none => true

/-- A placed edge whose instant has come. While a forced refresh holds the link it changes only the level commanded
(R292). An on edge waits for `DT` after the partner's actual off edge and is dropped while the partner is on (R224). -/
def GateLink.edge (l : GateLink) (e : GonEdge) (dt : Nat) : GateLink × Option GonEdge :=
  let k := if e.second then 1 else 0
  let l := if e.forced then l else { l with want := vset l.want k e.on }
  if !l.downlink ∨ (l.refreshEnd.isSome ∧ !e.forced) then (l, none)
  else if e.on ∧ vget l.gon (1 - k) then (l, none)
  else if e.on ∧ !vget l.gon k ∧ e.at_ < vget l.offAt (1 - k) + dt then (l, some { e with at_ := vget l.offAt (1 - k) + dt })
  else (l.drive k e.on e.at_ e.boot, none)

/-- A forced refresh ends: the second switch stays on while its commanded pulse lasts, else it goes off and the first
follows its command `DT1` later (R292). -/
def GateLink.endRefresh (l : GateLink) (i t dt1 : Nat) : GateLink × List GonEdge :=
  let l := { l with refreshEnd := none, lastRefresh := some t }
  if vget l.want 1 then (l, [])
  else (l.drive 1 false t true, if vget l.want 0 then [{ at_ := t + dt1, link := i, second := false, on := true, boot := true }] else [])

/-- The earliest of placed edges; the first placed among edges of one instant. -/
def earliest (es : List GonEdge) : Option GonEdge :=
  es.foldl (fun (a : Option GonEdge) e => match a with | some m => if e.at_ < m.at_ then some e else a | none => some e) none

/-- A placed edge is carried out. -/
def State.takeEdge (s : State) (b : Nat) (e : GonEdge) : State :=
  let s := s.modPwm b fun w => { w with edges := w.edges.erase e }
  match (s.linksOf b)[e.link]? with
  | some g =>
    let dt := if e.second then vget (s.pwm b).dt2 e.link else vget (s.pwm b).dt1 e.link
    let r := (s.link g).edge e dt
    let s := s.modLink g fun _ => r.1
    match r.2 with | some e => s.modPwm b fun w => { w with edges := w.edges ++ [e] } | none => s
  | none => s

/-- The link of a bridge whose forced refresh ends first, by now. -/
def State.dueRefresh (s : State) (b : Nat) : Option (Nat × Nat) :=
  (s.linksOf b).foldl (fun (a : Option (Nat × Nat)) g =>
    match (s.link g).refreshEnd with
    | some t => if t ≤ s.now ∧ (match a with | some x => decide (t < x.1) | none => true) = true then some (t, g) else a
    | none => a) none

/-- A forced refresh of a link ends at t. -/
def State.finishRefresh (s : State) (b g t : Nat) : State :=
  let i := s.linkIndex b g
  let r := (s.link g).endRefresh i t (vget (s.pwm b).dt1 i)
  (s.modLink g fun _ => r.1).modPwm b fun w => { w with edges := w.edges ++ r.2 }

/-- What comes next at the bridge's balls, if its instant has come: a placed edge or the end of a forced refresh. -/
def State.nextEdge (s : State) (b : Nat) : Option State :=
  match earliest ((s.pwm b).edges.filter fun (e : GonEdge) => decide (e.at_ ≤ s.now)), s.dueRefresh b with
  | none, none => none
  | some e, none => some (s.takeEdge b e)
  | none, some (t, g) => some (s.finishRefresh b g t)
  | some e, some (t, g) => some (if t < e.at_ then s.finishRefresh b g t else s.takeEdge b e)

/-- At most n of them. -/
def State.nextEdges (b : Nat) : Nat → State → State
  | 0, s => s
  | n + 1, s => match s.nextEdge b with | some s1 => State.nextEdges b n s1 | none => s

/-- Everything placed whose instant has come reaches its ball, in the order of the instants (R224, R282, R292). An edge is
put off once at most, so that the count suffices. -/
def State.applyEdges (s : State) (b : Nat) : State := s.nextEdges b (2 * (s.pwm b).edges.length + 64)

/-- The legs no longer follow their compares. -/
def State.dropEdges (s : State) (b : Nat) : State :=
  s.modPwm b fun w => { w with driving := false, edges := [], legRuns := Vector.replicate 12 {} }

/-! ### Safe sequences (Table 05-11) -/

/-- What a safe sequence is planned from: its start, whether on edges wait (R287), the bridge's links with their dead times
and falling delays, and the edges placed before it. -/
structure SeqPlan where
  t0 : Nat
  hold : Bool
  links : List GateLink
  dt : Nat → Nat → Nat
  fall : Nat → Nat → Nat
  edges : List GonEdge

/-- The instant of an off edge of switch k of link i that is due at t: an off edge placed earlier stands. -/
def SeqPlan.offInstant (p : SeqPlan) (i k t : Nat) : Nat :=
  ((p.edges.filter fun (e : GonEdge) => e.link = i ∧ e.second = decide (k = 1) ∧ e.on = false).map (·.at_)).foldl min t

/-- Switch k of link i goes off from an instant on, after its `FALL`, if it is on: since when it is off, and the edge.
Where the step it follows waits, so does it. -/
def SeqPlan.off (p : SeqPlan) (i k : Nat) (t : Option Nat) : Option Nat × List GonEdge :=
  match p.links[i]?, t with
  | some l, some t =>
    if vget l.gon k then
      let x := p.offInstant i k (max t (p.t0 + p.fall i k))
      (some x, [{ at_ := x, link := i, second := decide (k = 1), on := false }])
    else (some (vget l.offAt k), [])
  | some l, none => (if vget l.gon k then none else some (vget l.offAt k), [])
  | none, _ => (t, [])

/-- Switch k of link i goes on `DT` after its partner's off edge, if it is not on: since when it is on, and the edge. -/
def SeqPlan.on (p : SeqPlan) (i k : Nat) (off : Option Nat) : Option Nat × List GonEdge :=
  match p.links[i]?, off with
  | some l, some t =>
    if vget l.gon k then (some p.t0, [])
    else if p.hold then (none, [])
    else
      let x := max p.t0 (t + p.dt i k)
      (some x, [{ at_ := x, link := i, second := decide (k = 1), on := true }])
  | some l, none => (if vget l.gon k then some p.t0 else none, [])
  | none, _ => (off, [])

/-- A two-level leg's link. -/
def SeqPlan.twoLevel (p : SeqPlan) (i : Nat) (x : SafeState) : List GonEdge :=
  let t0 := some p.t0
  match x with
  | .opened => (p.off i 0 t0).2 ++ (p.off i 1 t0).2
  | .ascLow => let s0 := p.off i 0 t0; s0.2 ++ (p.on i 1 s0.1).2
  | .ascHigh => let s1 := p.off i 1 t0; s1.2 ++ (p.on i 0 s1.1).2

/-- A three-level leg of links a and c: an outer switch off, the inner one of its link on, the other inner one off at that
instant, the other outer one on; `OPEN` keeps the inner switches of an NPC leg on for the larger of their dead times. -/
def SeqPlan.threeLevel (p : SeqPlan) (npc : Bool) (a c : Nat) (x : SafeState) : List GonEdge :=
  let t0 := some p.t0
  match x with
  | .opened =>
    let late := if npc then p.t0 + max (p.dt a 1) (p.dt c 0) else p.t0
    (p.off a 0 t0).2 ++ (p.off c 1 t0).2 ++ (p.off c 0 (some (late + p.fall c 0))).2
      ++ (p.off a 1 (some (late + p.fall a 1))).2
  | .ascLow =>
    let s1 := p.off a 0 t0
    let s3 := p.on a 1 s1.1
    let s2 := p.off c 0 s3.1
    s1.2 ++ s3.2 ++ s2.2 ++ (p.on c 1 s2.1).2
  | .ascHigh =>
    let s4 := p.off c 1 t0
    let s2 := p.on c 0 s4.1
    let s3 := p.off a 1 s2.1
    s4.2 ++ s2.2 ++ s3.2 ++ (p.on a 0 s3.1).2

/-- Instant at which the off commands of a SAFE entry reach the balls, before `FALL`: 28 ns after the latch (Tables 05-10,
06-6; taken for every entry, DESIGN CHOICE, log 77). -/
def safeLag : Nat := 224

/-- The edges of a bridge's sequence to a pattern, from an instant. -/
def State.patternEdges (s : State) (b : Nat) (x : SafeState) (hold : Bool) (t0 : Nat) : List GonEdge :=
  match (s.bridge b).defn with
  | none => []
  | some d =>
    let w := s.pwm b
    let p : SeqPlan :=
      { t0, hold, links := d.links.map s.link, dt := fun i k => vget (if k = 0 then w.dt1 else w.dt2) i,
        fall := fun i k => vget (if k = 0 then w.fall1 else w.fall2) i, edges := w.edges }
    d.legs.flatMap fun l =>
      let a := d.links.idxOf l.glA
      match l.glB with
      | none => p.twoLevel a x
      | some g => p.threeLevel (decide (l.kind = 1)) a (d.links.idxOf g) x

/-- The bridge's links go to a pattern by its sequence (R243, R288): off edges at once or after `FALL`, on edges after their
dead times; with `hold` the first on edge waits, and what follows one waits with it (R287). A link without a downlink is off. -/
def State.drivePattern (s : State) (b : Nat) (x : SafeState) (hold : Bool) (lag : Nat) : State :=
  let s := s.applyEdges b
  let es := s.patternEdges b x hold (s.now + lag)
  let s := (s.dropEdges b).modPwm b fun w => { w with edges := es }
  let s := s.forEach (s.linksOf b) fun s g => s.modLink g fun l => if l.downlink then l else { l with gon := Vector.replicate 2 false }
  s.applyEdges b

/-- Switch k (0 first, 1 second) of a link counts as faulted (R284). -/
def GateLink.faulted (l : GateLink) (k : Nat) : Bool :=
  l.codes.getLsbD k || l.codes.getLsbD (2 + k) || l.codes.getLsbD 5 || l.codes.getLsbD 6 || l.codes.getLsbD 7

/-- A side of the bridge has a faulted switch: 0 high, 1 low (R285). -/
def State.sideFaulted (s : State) (b k : Nat) : Bool := (s.linksOf b).any fun g => (s.link g).faulted k

/-- The pattern of Table 06-13 and `SAFE_DEGRADED` for a configured safe state. -/
def safePattern (cfg : SafeState) (high low : Bool) : SafeState × Bool :=
  match cfg with
  | .opened => (.opened, false)
  | .ascLow => if !low then (.ascLow, false) else if !high then (.ascHigh, false) else (.opened, true)
  | .ascHigh => if !high then (.ascHigh, false) else if !low then (.ascLow, false) else (.opened, true)

/-- A delay of 125 ps steps in whole 100 ns steps, rounded up, at least 2 (R269). -/
def fbDelay (steps : Nat) : Nat := max 2 (divUp steps 800)

/-- Index of a gate link's dead times. -/
def State.dtOf (s : State) (b g k : Nat) : Nat :=
  if k = 0 then vget (s.pwm b).dt1 (s.linkIndex b g) else vget (s.pwm b).dt2 (s.linkIndex b g)

/-- The fallback record of Table 06-9: `FB_ACT`, `FB_D1`, `FB_D2`. -/
def State.fbRecord (s : State) (b g : Nat) (x : SafeState) : Byte × Byte × Byte :=
  let r (act d1 d2 : Nat) : Byte × Byte × Byte := (BitVec.ofNat 8 act, BitVec.ofNat 8 d1, BitVec.ofNat 8 d2)
  match s.legOf b g with
  | none => r 0 0 0
  | some l =>
    let a := l.glA
    let n := l.glB.getD a
    let d (j k : Nat) := fbDelay (s.dtOf b j k)
    match l.kind, x with
    | 0, .opened => r 0 0 0
    | 0, .ascLow => r 2 0 (d g 1)
    | 0, .ascHigh => r 1 (d g 0) 0
    | 1, .opened =>
      let m := divUp (max (s.dtOf b a 1) (s.dtOf b n 0)) 800
      if g = a then r 0 0 m else r 0 m 0
    | _, .opened => r 0 0 0
    | _, .ascLow => if g = a then r 2 0 (d a 1) else r 2 (divUp (s.dtOf b a 1) 800) (d n 1)
    | _, .ascHigh => if g = a then r 2 (divUp (s.dtOf b n 0) 800) (d a 0) else r 1 (d n 0) 0

/-- What the controller asserts as `OWN` on a gate link (R259, R593). -/
def State.ownOf (s : State) (g : Nat) : Bool := match s.ownerOf g with | some b => (s.bridge b).own | none => true

/-- A downlink frame to the booster of a gate link. -/
def State.sendDown (s : State) (g type : Nat) (payload : List Byte) : State :=
  s.modLink g fun l => l.send (s.ownOf g) type payload

/-- Writes and a commit to the booster of a gate link; its acknowledgement is awaited for 1 ms (R267). -/
def State.commitTo (s : State) (g : Nat) (ws : List (Byte × Byte)) (why : AckFor) (again : Bool) : State :=
  s.modLink g fun l =>
    let l := l.sendWrites (s.ownOf g) ws
    { l with acks := l.acks ++ [(why, s.now + msSteps 1, again)] }

/-- A download of a fallback record to every booster of a bridge (R24, R289). -/
def State.download (s : State) (b : Nat) (x : SafeState) (why : Fin 8 → AckFor) : State :=
  if h : b < 8 then
    s.forEach (s.linksOf b) fun s' g =>
      (s'.modLink g fun l => { l with fbNext := s.fbRecord b g x }).commitTo g (fallbackWrites (s.fbRecord b g x)) (why ⟨b, h⟩) false
  else s

/-- Awaited acknowledgements of one purpose are given up. -/
def State.dropAcks (s : State) (b : Nat) (p : AckFor → Bool) : State :=
  s.forEach (s.linksOf b) fun s g => s.modLink g fun l => { l with acks := l.acks.filter fun a => !p a.1 }

def AckFor.isSetRole : AckFor → Bool | .setRole _ => true | _ => false
def AckFor.isRecover : AckFor → Bool | .recover _ => true | _ => false
/-- It ends a packet of the gate link's own, which completes even when the link stops (R255, R303). -/
def AckFor.isPacket : AckFor → Bool | .profile _ _ => true | .write _ _ _ => true | .read _ _ => true | _ => false
def AckFor.isTrain : AckFor → Bool | .train _ => true | _ => false

/-- The pattern of a bridge in SAFE, recomputed; a change is driven, after `lag`, and downloaded (R286, R288, R289). -/
def State.repattern (s : State) (b lag : Nat) : State :=
  match (s.bridge b).defn with
  | none => s
  | some d =>
    let (x, deg) := safePattern d.safe (s.sideFaulted b 0) (s.sideFaulted b 1)
    let hold := (s.bridge b).patternWait
    let before := (s.bridge b).applied.getD d.safe
    let s := s.modB b fun br => { br with applied := some x, degraded := deg }
    let s := s.drivePattern b x hold lag
    if x = before then s else s.download b x .pattern

/-! ### Slots of a frame source -/

/-- Period T of a bridge's carrier in 125 ps steps, at `PER_CFG` (R212, R213). -/
def State.carrierT (s : State) (b : Nat) : Nat := 2 * (s.pwm b).perCfg

/-- Spacing of events of a kind, taken at every `div`-th (R311): 0 valley, 1 peak, 2 both. -/
def eventSpacing (t ev div : Nat) : Nat := (if ev = 2 then t / 2 else t) * div

/-- Nominal frame period of a source in 125 ps steps; 0 while it has none (R311). -/
def State.framePeriod (s : State) (src ev div : Nat) : Nat :=
  if src < 8 then eventSpacing (s.carrierT src) ev div else (vget s.pugTimers (src - 8)).period

/-- The source produces frames (R316). -/
def State.srcRuns (s : State) (src : Nat) : Bool :=
  (if src < 8 then (s.pwm src).running else (vget s.pugTimers (src - 8)).en) && !(vget s.pwr.plls 1).relock

/-- A pending FIR swap takes effect and completes with an instant (R322, R341). -/
def State.finishFir (s : State) (n : Nat) (ns : DWord) : State :=
  match (s.slot n).swap with
  | none => s
  | some (t, taps, e, g) =>
    let s := s.modSlot n fun c =>
      { c with active := other c.active, swap := none, g := g,
               bank := vmod c.bank (other c.active) fun k => { k with n := taps, e := e } }
    s.answer t { r0 := lo32 ns, r1 := hi32 ns, extra := word [((g % 65536).toNat, 0)] }

/-- A slot starts sampling: T_in is fixed and the window starts empty (R314, R328). -/
def State.startSlot (s : State) (n : Nat) : State :=
  let c := (s.slot n).cfg
  s.modSlot n fun x => { x with
    state := .sampling, tIn := (roundDiv (s.framePeriod c.src c.ev c.div) c.d).toNat, fresh := 0, hist := [], prev := none }

/-- A slot stops: its output loses `VALID`, a pending swap takes effect (R316, R341). -/
def State.stopSlot (s : State) (n : Nat) : State :=
  (s.modSlot n fun x => { x with state := .stopped, out := { x.out with valid := false }, next := [] }).finishFir n s.dtbNs

/-- Slots framed by a source start or stop with it. -/
def State.slotsStart (s : State) (src : Nat) : State :=
  s.forEach (numbers 48 fun n => (s.slot n).cfg.src = src ∧ (s.slot n).state = .stopped ∧ ¬ (vget s.pwr.plls 1).relock) State.startSlot
def State.slotsStop (s : State) (src : Nat) : State :=
  s.forEach (numbers 48 fun n => (s.slot n).cfg.src = src ∧ ((s.slot n).state = .sampling ∨ (s.slot n).state = .recal))
    State.stopSlot

/-! ### The carrier -/

/-- Placement offset φ of a bridge's carrier in 125 ps steps (R214). -/
def phaseSteps (phase t : Nat) : Nat := (roundDiv (phase * t) 65536).toNat

/-- Steps from an instant of the DTB to the next placement instant at or after it (R214). -/
def toPlacement (dtb phi t : Nat) : Nat := if t = 0 then 0 else (t - (dtb + t - phi % t) % t) % t

/-- A distance on the DTB in 125 ps steps as steps of the local clock, at the present `INCR` (R533). -/
def State.localSteps (s : State) (d : Nat) : Nat := (roundDiv ((d * 2 ^ 34 : Nat) : Int) (max 1 s.incr.toNat : Nat)).toNat

/-- The carrier starts at its first placement instant (R215). -/
def State.startCarrier (s : State) (b : Nat) : State :=
  let p := s.pwm b
  let t := s.carrierT b
  let phi := phaseSteps ((p.carrier.map (·.phase)).getD 0) t
  (s.modPwm b fun p => { p with
    running := true, nextAt := s.now + s.localSteps (toPlacement s.dtbSteps phi t), nextPeak := false, valleys := 0, peaks := 0,
    errSteps := 0, errLeft := 0, lock := true, activePer := p.perCfg, activeCmp := Vector.replicate 12 0,
    shadow := {}, disabled := false }).slotsStart b

/-- The carrier stops (R215). -/
def State.stopCarrier (s : State) (b : Nat) : State :=
  (s.modPwm b fun p => { p with running := false, lock := false, shadow := {} }).slotsStop b

/-- Pending commits cease: waiting `PWM_PERIOD` and `PWM_CARRIER` packets are cancelled (R232, R243, R52). -/
def State.dropCommits (s : State) (b : Nat) : State :=
  let p := s.pwm b
  let s := s.modPwm b fun p => { p with shadow := {}, carNext := [], perNext := [], perSync := [] }
  let s := s.endAll (p.perNext.map (·.1)) .cancelled
  let s := s.endAll (p.perSync.map (·.1)) .cancelled
  s.endAll (p.carNext.map (·.1)) .cancelled

/-- Forced refreshes of the bridge's links end (R294). -/
def State.endRefreshes (s : State) (b : Nat) : State :=
  s.forEach (s.linksOf b) fun s g => s.modLink g fun l =>
    { l with refreshEnd := none, lastRefresh := if l.refreshEnd.isSome then some s.now else l.lastRefresh }

/-- The active group is again as it stood before a commit (R244). -/
def PwmGen.discardCommit (w : PwmGen) (u : GroupBefore) : PwmGen :=
  { w with activePer := u.per, activeCmp := u.cmp, carrier := u.carrier, nextAt := w.nextAt + u.per - w.activePer, undo := none,
           misNow := w.misPrev, mismatch := u.mismatch, pdMismatch := u.pdMismatch }

/-- The completion entry of a packet whose commit is discarded, known by its place and by the instant it reports, reads
CANCELLED (R232, R244). -/
def GroupBefore.amend (u : GroupBefore) (index : Half) (lap : Bool) (e : CplEntry) : CplEntry :=
  if e.index = index ∧ e.lap = lap ∧ e.r0 = lo32 u.ns ∧ e.r1 = hi32 u.ns then { e with status := .cancelled, r0 := 0, r1 := 0 }
  else e

/-- The packets that a discarded commit completed end as those end whose commit does not come (R232, R244). -/
def State.takeBack (s : State) (u : GroupBefore) : State :=
  let s := u.done.foldl (fun s d => s.modQp d.1.qp fun p => { p with cpl := p.cpl.map (u.amend d.2.1 d.2.2) }) s
  let held (h : Ticket × Answer × Nat) : Ticket × Answer × Nat :=
    if u.done.any (·.1 = h.1) then (h.1, { h.2.1 with status := .cancelled, r0 := 0, r1 := 0 }, h.2.2) else h
  { s with dpx := { s.dpx with held := s.dpx.held.map held } }

/-- A commit of this CK_PWM cycle is discarded (R244). -/
def State.discardCommit (s : State) (b : Nat) : State :=
  match (s.pwm b).undo with
  | some u => if u.cycle = s.now / 32 then (s.modPwm b fun w => w.discardCommit u).takeBack u else s
  | none => s

/-! ### Engine and context follow their bridge (Tables 02-12 and 04-12) -/

/-- `JOIN_REQn` is withdrawn and the start phase ends (R120, R141); the dead-bus timer, which runs in TRACKING and STARTING
alone, stops (R122). -/
def GfEngine.endStart (e : GfEngine) : GfEngine :=
  { e with joinReq := false, taken := false, phase := .none, okSince := none, awaySince := none, deadSince := none, due := none }

/-- A LIMITING episode ends: its duration is kept (Table 02-15). -/
def GfEngine.endLimit (e : GfEngine) (now : Nat) : GfEngine :=
  if e.state = .limiting then { e with limLast := sat32 ((now - e.limAt) / 8000), belowSince := none } else e

/-- The engine after the bridge has entered ARMED, by start, stop or recovery. -/
def GfEngine.toTracking (e : GfEngine) (now : Nat) : GfEngine :=
  { (e.endLimit now).endStart with state := .tracking, dR := 0, dX := 0, dRneg := 0, clampSince := none, lateInRow := 0, latch := [] }

/-- An engine follows its bridge into a state; a retired one enters none (R110). -/
def State.turnGf (s : State) (g : Nat) (f : GfEngine → GfEngine) : State := if s.isRetired 8 g then s else s.modGf g f

/-- The context after the bridge has entered ARMED: from RUNNING, or by recovery from HELD and FAULT (Table 04-12). -/
def State.ctxToReady (s : State) (b : Nat) (recovery : Bool) : State :=
  match (s.bridge b).lc with
  | none => s
  | some k =>
    let x := (s.lc k).state
    let s := if x = .running then s.leaveRunning k else s
    if x = .running ∨ (recovery ∧ (x = .held ∨ x = .fault)) then
      s.modLc k fun c => { c with state := .ready, substMask := 0, substSince := none }
    else s

def State.gfToTracking (s : State) (b : Nat) : State :=
  match (s.bridge b).gf with | none => s | some g => s.turnGf g fun e => e.toTracking s.now

/-- Context and engine when the bridge enters SAFE with a cause: in the unit whose fault it is, FAULT, else HELD
(R108, R204). A retired engine withdraws `JOIN_REQn` and enters no state (R110, R120). -/
def State.ctxToHeld (s : State) (b cause : Nat) : State :=
  match (s.bridge b).lc with
  | none => s
  | some k =>
    let s := if (s.lc k).state = .running then s.leaveRunning k else s
    match (s.lc k).state with
    | .ready => s.modLc k fun c => { c with state := if cause / 256 = 3 then .fault else .held }
    | .running => s.modLc k fun c => { c with state := if cause / 256 = 3 then .fault else .held }
    | _ => s

def State.gfToHeld (s : State) (b cause : Nat) : State :=
  match (s.bridge b).gf with
  | none => s
  | some g =>
    (s.modGf g fun e => (e.endLimit s.now).endStart).turnGf g fun e =>
      match e.state with
      | .free | .idle | .held | .fault => e
      | .tracking => { e with state := .held }
      | _ => { e with state := if cause / 256 = 2 then .fault else .held }

/-- Units a bridge no longer names are released (R29, R108, R204). -/
def State.releaseLc (s : State) (k : Nat) : State :=
  let s := if (s.lc k).state = .running then s.leaveRunning k else s
  s.modLc k fun c => match c.state with
    | .ready | .running | .held | .fault => { c with state := .loaded }
    | _ => c
def State.releaseGf (s : State) (g : Nat) : State :=
  (s.modGf g GfEngine.endStart).turnGf g fun e => { e with state := .free }

/-! ### Lasting actions end (R28, R42, R52) -/

/-- `BRIDGE_SET_ROLE` ends without effect: role, safe state and bindings are restored and downloaded again (R28). -/
def State.undoSetRole (s : State) (b : Nat) (st : Status) : State :=
  match (s.bridge b).setRole with
  | none => s
  | some w =>
    let s := s.dropAcks b AckFor.isSetRole
    let s := s.modB b fun br => match w.old with
      | some (d, lc, gf) => { br with setRole := none, defn := some d, lc := lc, gf := gf }
      | none => { br with setRole := none }
    let safe := match w.old with | some (d, _, _) => d.safe | none => .opened
    let s := s.download b ((s.bridge b).applied.getD safe) .pattern
    s.ends w.ticket st

/-- Every action in progress completes with CANCELLED. -/
def State.cancelActions (s : State) (b : Nat) : State :=
  let br := s.bridge b
  let s := s.modB b fun br => { br with pre := none, start := none, stop := none, recover := none }
  let s := match br.pre with | some w => s.ends w.ticket .cancelled | none => s
  let s := match br.start with | some t => s.ends t .cancelled | none => s
  let s := match br.stop with | some w => s.endAll w.waiters .cancelled | none => s
  let s := match br.recover with | some w => (s.dropAcks b AckFor.isRecover).ends w.ticket .cancelled | none => s
  s.undoSetRole b .cancelled

/-! ### Transitions of Table 01-5 -/

/-- Entry into SAFE (R31, R721): nothing on a bridge that is OFFLINE, SAFE or RETIRED. `report` is false while the cause
is not known yet (R264). -/
def State.enterSafeWith (s : State) (b cause : Nat) (report : Bool) : State :=
  match (s.bridge b).state with
  | .offline | .safe | .retired => s
  | _ =>
    let s := s.modB b fun br => { br with
      state := .safe, cause := if report then BitVec.ofNat 16 cause else br.cause, preGpioOn := false,
      prechargeDone := false, applied := none, degraded := false, ss1 := false }
    let s := (s.discardCommit b).modPwm b fun p => { p with disabled := true }
    let s := (((s.cancelActions b).ctxToHeld b cause).gfToHeld b cause)
    let s := ((s.dropCommits b).endRefreshes b).repattern b safeLag
    if report then s.report 1 b cause else s

def State.enterSafe (s : State) (b cause : Nat) : State := s.enterSafeWith b cause true

/-- Every bridge beyond OFFLINE enters SAFE. -/
def State.allSafe (s : State) (cause : Nat) : State := s.forEach (List.range 8) fun s b => s.enterSafe b cause

/-- The `IDLE` pattern (Table 01-2). -/
def State.driveIdle (s : State) (b : Nat) : State :=
  match (s.bridge b).defn with
  | some d => s.drivePattern b (if d.idleSafe then d.safe else .opened) false 0
  | none => s

/-- Entry into ARMED from PRECHARGE, RUNNING or LIMITING (R31, R41). -/
def State.stopToArmed (s : State) (b : Nat) : State :=
  let s := s.modB b fun br => { br with
    state := .armed, preGpioOn := false, prechargeDone := false, stop := none, ss1 := false }
  ((s.ctxToReady b false).gfToTracking b).driveIdle b

/-- Entry into ARMED from SAFE by recovery (R43). -/
def State.recovered (s : State) (b : Nat) : State :=
  let s := s.modB b fun br => { br with state := .armed, applied := none, degraded := false, recover := none }
  let s := s.modPwm b fun p => { p with disabled := false }
  ((s.ctxToReady b true).gfToTracking b).driveIdle b

/-- Downlinks of a bridge's links stop and their switches go off (R250). -/
def State.stopLinks (s : State) (b : Nat) : State :=
  s.forEach (s.linksOf b) fun s g => s.modLink g fun l =>
    if l.state = .retired then l
    else { l with state := .down, downlink := false, uplink := false, gon := Vector.replicate 2 false,
                  gst := Vector.replicate 2 none, want := Vector.replicate 2 false, acks := l.acks.filter (·.1.isPacket),
                  window := Vector.replicate 2 none }

/-- Entry into OFFLINE (R31, R215, R316). -/
def State.toOffline (s : State) (b : Nat) : State :=
  let s := (s.dropCommits b).cancelActions b
  let s := s.modB b fun br => { br with state := .offline }
  let s := ((s.dropEdges b).stopLinks b).stopCarrier b
  let s := match (s.bridge b).lc with
    | some k => s.modLc k fun c => if c.state = LcState.ready then { c with state := .loaded } else c
    | none => s
  match (s.bridge b).gf with
  | some g => s.turnGf g fun e => if e.state = GfState.tracking then { e with state := .idle, deadSince := none } else e
  | none => s

/-- Entry into RETIRED (R31, R48, R281): through SAFE, with the cause of the retired link; bindings are released. -/
def State.enterRetired (s : State) (b g : Nat) : State :=
  match (s.bridge b).state with
  | .offline | .retired => s
  | _ =>
    let s := (s.enterSafe b (0x05E0 + g)).cancelActions b
    let s := match (s.bridge b).lc with | some k => s.releaseLc k | none => s
    let s := match (s.bridge b).gf with | some e => s.releaseGf e | none => s
    (s.modB b fun br => { br with state := .retired, cause := BitVec.ofNat 16 (0x05E0 + g), lc := none, gf := none, causeBy := none })
      |>.report 1 b (0x05E0 + g)

/-- The condition of Table 05-9 of an enabled source, as it stands. -/
def State.tripMet (s : State) (k : Nat) : Bool :=
  let t := s.trip k
  if k < 8 then t.pin == t.pol else s.slotRetired t.slot || decide (t.filt ≤ t.count)

/-- A trip source latches on a bridge (R242). -/
def State.latchTrip (s : State) (b src : Nat) : State :=
  match (s.bridge b).state with
  | .offline | .retired => s
  | _ => (s.modPwm b fun p => { p with trips := p.trips ||| BitVec.ofNat 16 (2 ^ src) }).enterSafe b (0x0400 + src)

end Sys2Proof.Machine
end

