-- ==== Sys2Proof/Machine/Retire.lean ====
section
/-! DEFINITION. The upset rule (14 R578 to R584): upsets counted in leaky buckets, retirement and what it reconfigures
(04 R194 to R196, 06 R281, 07 R337, 08 R374, 02 R110), and the freeze that precedes a handover (R601, R602, R606). -/

namespace Sys2Proof.Machine

/-! ### Duplex: what the active sends and freezes -/

def State.dpxCfg (s : State) : Nat := s.inUse 0x13000
/-- Bridge b is duplexed and the duplex service is in force (R591). -/
def State.duplexed (s : State) (b : Nat) : Bool := decide (s.dpx.role ≠ .none) && (s.dpxCfg / 256).testBit b
def State.duplexedBridges (s : State) : List Nat := numbers 8 s.duplexed

/-- The active has frozen bridge b for a handover (R602 step 1). -/
def State.frozenBridge (s : State) (b : Nat) : Bool := match (s.bridge b).handover with | some h => h.frozen | none => false

/-- A per-unit quantity in per-unit Q15 (R65), and a speed with 1.0 pu = 0x4000_0000 (R66). -/
def toPu (x : Rat) : Int := sat16 (roundR (x * 0x4000))
def toSpeed (x : Rat) : Nat := (limitI (roundR (x * 0x40000000)) 0 0xFFFFFFFF).toNat
def ofPu (v : Q15) : Rat := (v.toInt : Rat) / 0x4000

/-- The 32 bytes of a hand-off record (Table 02-4). -/
def HandOff.bytes (h : HandOff) : List Byte :=
  let w (v : Half) := bytesOf 2 v.toNat
  w h.v1a ++ w h.v1b ++ w h.v2a ++ w h.v2b ++ w h.vha ++ w h.vhb ++ bytesOf 4 h.w.toNat ++ w h.theta ++ w h.ihard
    ++ w h.flags ++ w h.seq ++ bytesOf 8 h.tn.toNat

def startPhaseCode : StartPhase → Nat
  | .none => 0 | .classify => 1 | .holdoff => 2 | .closeDead => 3 | .ramp => 4 | .waitLive => 5 | .presync => 6
  | .closeLive => 7 | .retryWait => 8

def BState.code : BState → Nat
  | .offline => 0 | .armed => 1 | .precharge => 2 | .running => 3 | .limiting => 4 | .safe => 5 | .retired => 6

/-- The engine part of a mirror record (Table 14-9a, bytes 192 to 223). -/
def GfEngine.mirror (e : GfEngine) (now : Nat) : List Byte :=
  let q (x : Rat) := bytesOfInt 2 (toPu x)
  bytesOf 4 e.w.toNat ++ bytesOf 4 (toSpeed e.wf) ++ bytesOf 4 e.theta.toNat ++ q e.e ++ q e.xv ++ q e.pf ++ q e.qf
    ++ q e.dR ++ q e.dX ++ q e.dRneg ++ q e.r ++ q e.pSet
    ++ bytesOf 2 (startPhaseCode e.phase * 0x1000 + bit (e.state = .limiting) * 0x800
        + (if e.state = .limiting then satTo 0x7FF ((now - e.limAt) / msSteps 10) else 0))

/-- SAR slots a bridge's context and engine read, ascending. -/
def State.sarSlots (s : State) (b : Nat) : List Nat :=
  let ctx := match (s.bridge b).lc with | some k => (List.range 16).map (s.lc k).msrc | none => []
  let eng := match (s.bridge b).gf with
    | some g => (slice ((s.gf g).config.getD []) 12 11).map BitVec.toNat
    | none => []
  numbers 48 fun n => 32 ≤ n ∧ (n ∈ ctx ∨ n ∈ eng)

/-- A mirror record of a bridge (R598, Table 14-9a). -/
def State.mirrorRecord (s : State) (b : Nat) (frozen final : Bool) : List Byte :=
  let p := s.pwm b
  let br := s.bridge b
  let c : LoopContext := match br.lc with | some k => s.lc k | none => {}
  let form := s.role b = some .form
  let e : Option GfEngine := if form then br.gf.map s.gf else none
  [BitVec.ofNat 8 (b + 64 * bit frozen + 128 * bit final), BitVec.ofNat 8 br.state.code]
    ++ bytesOf 2 (vget s.dpx.sentSeq b).toNat ++ bytesOf 8 c.sampleNs.toNat
    ++ (p.activeCmp.toList.flatMap (bytesOf 4)) ++ bytesOf 4 p.activePer
    ++ (c.xh.toList.flatMap fun v => bytesOf 2 v.toNat) ++ (c.z.toList.flatMap fun v => bytesOf 4 v.toNat)
    ++ (c.rEff.toList.flatMap fun v => bytesOf 2 v.toNat) ++ (c.u.toList.flatMap fun v => bytesOf 2 v.toNat)
    ++ (match e with | some g => (match g.latch with | h :: _ => h.bytes | [] => bytesOf 32 0) | none => bytesOf 32 0)
    ++ (match e with | some g => g.mirror s.now | none => bytesOf 32 0)
    ++ slice ((s.sarSlots b).flatMap fun n => bytesOf 2 (s.slot n).out.value.toNat) 0 32

/-- A mirror record is sent in the mirror stream. -/
def State.sendMirror (s : State) (b : Nat) (frozen final : Bool) : State :=
  { s with dpx := { s.dpx with
      sent := s.dpx.sent ++ [s.mirrorRecord b frozen final],
      sentSeq := vmod s.dpx.sentSeq b (· + 1) } }

/-- Spacing of a bridge's commit points (R217). -/
def PwmGen.commitSpacing (p : PwmGen) : Nat :=
  match p.carrier with
  | some c => if c.commit = 2 then p.activePer else 2 * p.activePer
  | none => 2 * p.activePer

/-- The next carrier event is a commit point (R217). -/
def PwmGen.nextCommits (p : PwmGen) : Bool :=
  match p.carrier with
  | some c => c.commit = 2 || (c.commit = 1 && p.nextPeak) || (c.commit = 0 && !p.nextPeak)
  | none => false

/-- The first commit point of a bridge at or after an instant. -/
def PwmGen.commitAfter (p : PwmGen) (t : Nat) : Nat :=
  let first := if p.nextCommits then p.nextAt else p.nextAt + p.activePer
  if t ≤ first then first else first + divUp (t - first) (max 1 p.commitSpacing) * p.commitSpacing

/-- A handover starts: every duplexed bridge is frozen and its final record sent (R602 steps 1 and 2, R260). -/
def State.startHandover (s : State) (why : Option ChanRef) : State :=
  let s := s.forEach s.duplexedBridges fun s b =>
    let c1 := (s.pwm b).commitAfter (s.now + usSteps 8)
    let s := s.modB b fun br => { br with
      handover := some (Handover.mk s.now c1 (c1 + usSteps 8) true false) }
    let s := s.forEach (s.linksOf b) fun s g => s.modLink g fun l => { l with frozen := true }
    s.sendMirror b true true
  { s with dpx := { s.dpx with handover := some (s.now, why), partnerClaims := 0 } }

/-- OWN withdrawn from every duplexed bridge. -/
def State.dropOwn (s : State) : State := s.forEach s.duplexedBridges fun s b => s.modB b fun br => { br with own := false }

/-- The active yields (R606). -/
def State.yieldControl (s : State) : State :=
  let s := s.dropOwn
  let s := { s with dpx := { s.dpx with controlLost := true } }
  s.forEach s.duplexedBridges fun s b => s.enterSafe b 0x0E04

/-! ### Comparators that a retired slot makes active (R239, R337) -/

/-- A trip source becomes active on its bridges (R242). -/
def State.tripActive (s : State) (src : Nat) : State :=
  let t := s.trip src
  if t.en then
    (s.modTrip src fun t => { t with active := true }).forEach
      (numbers 8 fun b => t.bmask.getLsbD b ∧ b < s.fitBridges) fun s b => s.latchTrip b src
  else s

/-- Comparators on a retired slot become active. -/
def State.compRetired (s : State) (n : Nat) : State :=
  s.forEach (numbers 16 fun k => 8 ≤ k ∧ (s.trip k).en ∧ (s.trip k).slot = n) State.tripActive

/-! ### Migration of loop contexts (R194 to R196) -/

/-- Engines that can take a context of a load: fitted, unretired, with an EMPTY place, within the budget. -/
def State.hosts (s : State) (k : Nat) : List Nat :=
  numbers s.fitEngines fun e =>
    !s.isRetired 7 e && ((List.range 4).any fun j => (s.lc (4 * e + j)).state = .empty ∧ ¬ (s.lc (4 * e + j)).retired)
      && decide (s.engineLoad e (some k) + s.lcLoad k (s.lc k) ≤ loopBudget)

/-- The host with the smallest budget sum, the lower number on a tie. -/
def State.bestHost (s : State) (k : Nat) : Option Nat :=
  (s.hosts k).foldl (fun best e =>
    match best with
    | none => some e
    | some b => if s.engineLoad e none < s.engineLoad b none then some e else some b) none

/-- One context moves, or faults when no engine qualifies. -/
def State.moveContext (s : State) (k : Nat) : State :=
  match s.bestHost k with
  | some e =>
    let place := (List.range 4).find? fun j => (s.lc (4 * e + j)).state = .empty ∧ ¬ (s.lc (4 * e + j)).retired
    let s := s.modLc k fun c => { c with host := e }
    match place with
    | some j => s.modLc (4 * e + j) fun c => { c with state := .occupied }
    | none => s
  | none =>
    let s := if (s.lc k).state = .running then s.leaveRunning k else s
    let s := s.modLc k fun c => { c with state := .fault, retired := true, noHost := true }
    match s.bridgeOfLc k with
    | some b => if (s.bridge b).state.beyondArmed then s.enterSafe b 0x0303 else s
    | none => s

/-- The contexts of a retired engine, by `PRIO` and then number, move; its empty places are closed. -/
def State.migrate (s : State) (e : Nat) : State :=
  let here := numbers 24 fun k => (s.lc k).resident ∧ (s.lc k).host = e
  let sorted := (List.range 4).flatMap fun p => here.filter fun k => (s.lc k).prio = p
  let s := s.forEach (numbers 24 fun k => k / 4 = e ∧ (s.lc k).state = .empty) fun s k =>
    s.modLc k fun c => { c with retired := true }
  s.forEach sorted State.moveContext

/-! ### Retirement -/

/-- Class and unit number of the retirement event (Table 14-1a). -/
def retireEvent (kind unit : Nat) : Nat × Nat :=
  match kind with
  | 0 => (0x06, unit) | 1 => (0x06, unit) | 2 => (0x06, 0x80 + unit) | 3 => (0x05, unit) | 4 => (0x0D, unit)
  | 5 => (0x0C, unit) | 6 => (0x0E, 0x06FF) | 7 => (0x03, 0x0100 + unit) | 8 => (0x02, unit) | 9 => (0x07, unit)
  | 10 => (0x0E, 0x0A00 + unit) | 11 => (0x0E, 0x0B00 + unit) | _ => (0x0A, 0)

/-- Kinds that return only by a power cycle (Table 14-1). -/
def internalKind (kind : Nat) : Bool :=
  kind = 1 || kind = 6 || kind = 7 || kind = 8 || kind = 9 || kind = 11 || kind = 12

/-- A slot is retired (R337, R341). -/
def State.retireSlot (s : State) (n : Nat) : State :=
  let s := match s.recal with
    | some r => if r.slot = n then { s with recal := none }.ends r.ticket .unitRetired else s
    | none => s
  let s := s.stopSlot n
  (s.modSlot n fun x => { x with state := .retired, retry := false }).compRetired n

/-- A capture unit is retired: its group's later records are partial (R374). -/
def State.retireCap (s : State) (u : Nat) : State :=
  let l := (s.cap u).leader
  (s.modCap u fun c => { c with state := .retired }).forEach (numbers 4 fun v => v ≠ u ∧ (s.cap v).leader = l) fun s v =>
    s.modCap v fun c => { c with partialGroup := true }

/-- A gate link is retired (R281, R721). -/
def State.retireLink (s : State) (g : Nat) : State :=
  let s := s.modLink g fun l => { l with
    state := .retired, downlink := false, uplink := false, gon := Vector.replicate 2 false, gst := Vector.replicate 2 none,
    refreshEnd := none, series := 0, retry := none }
  match s.ownerOf g with
  | some b => s.enterRetired b g
  | none => s

/-- A retired PLL (Table 14-2): an active with a healthy standby yields, or has handed over; otherwise every bridge beyond
OFFLINE enters SAFE. An active yields on PLL_SYS, PLL_PWM and PLL_IO whatever its standby (R606). Without PLL_SYS pair A sends no
exchange any more, so that the Saggar acts by R383 (R401; DEDUCED, log 42). -/
def State.pllRetired (s : State) (unit : Nat) : State :=
  let active := decide (s.dpx.role = .active)
  let yields : Bool := unit = 0 || unit = 2 || unit = 4
  let served := active && !s.dpx.noStandby && (yields || s.dpx.handover.isSome)
  let s := if unit = 0 then { s with sag := { s.sag with lockstep := true } } else s
  let s := if active && yields then s.yieldControl else s
  if served then s else s.allSafe 0x0E04

/-- The reconfiguration of Table 14-1. -/
def State.reconfigure (s : State) (kind unit : Nat) : State :=
  match kind with
  | 0 => s.retireSlot unit
  | 1 => s.retireSlot unit
  | 2 => s.modPos unit fun p => { p with valid := false, retry := false }
  | 3 => s.retireLink unit
  | 4 => s.ringPortRetired
  | 5 => s.dropStations
  | 6 => { s with flt := { s.flt with spares := s.flt.spares - 1 } }
  | 10 => { s with pwr := { s.pwr with feeds := vmod s.pwr.feeds unit fun f => { f with on := false } } }
  | 7 => s.migrate unit
  | 8 => match s.bridgeOfGf unit with | some b => s.enterSafe b 0x0204 | none => s
  | 9 => s.retireCap unit
  | 11 => s.pllRetired unit
  | 12 => s.stopEngine 0x0A04 .retired
  | _ => s

/-- A channel is set to RETIRED, with its event and its log entry (R583). -/
def State.markRetired (s : State) (kind unit : Nat) : State :=
  let c := s.chan kind unit
  let s := s.modChan kind unit fun c => { c with state := .retired, runs := 0 }
  let s := { s with flt := { s.flt with kindRetired := vmod s.flt.kindRetired kind (fun n => satCount (n + 1)) } }
  let s := s.report (retireEvent kind unit).1 (retireEvent kind unit).2 0x0021
  s.logEntry 2 kind (if kind = 6 then 0xFFFF else unit) 0 c.runs c.bucket (if kind = 6 then unit else 0)

/-- Retirement in one step (R583). A retired channel is not retired again. -/
def State.retire (s : State) (kind unit : Nat) : State :=
  if s.isRetired kind unit then s else (s.markRetired kind unit).reconfigure kind unit

/-- The unit whose fault a handover served is retired after the role change (R601); for a PLL the handover was the reaction
(Table 14-2). -/
def State.retireServed (s : State) (why : Option ChanRef) : State :=
  match why with
  | some c =>
    if c.kind = 11 then (if s.isRetired 11 c.unit.toNat then s else s.markRetired 11 c.unit.toNat) else s.retire c.kind c.unit.toNat
  | none => s

/-- The fault of a channel is one for which the active hands over (R601). -/
def State.handoverUnit (s : State) (kind unit : Nat) : Bool :=
  match kind with
  | 7 => s.duplexedBridges.any fun b => match (s.bridge b).lc with | some k => decide ((s.lc k).host = unit) | none => false
  | 8 => s.duplexedBridges.any fun b => (s.bridge b).gf = some unit
  | 1 => s.duplexedBridges.any fun b => (s.sarSlots b).contains unit
  | 11 => unit = 1 || unit = 3
  | 12 => s.duplexedBridges.any fun b => (s.bridge b).spOfs.toList.any (· ≠ 0xFFFF)
  | _ => false

/-- A permanent fault is decided: a handover comes before the reconfiguration where R601 says so; a unit of R601 that
cannot be handed over is retired and the active yields (R606). -/
def State.permanent (s : State) (kind unit : Nat) : State :=
  if s.dpx.role = .active ∧ s.handoverUnit kind unit then
    if s.dpx.noStandby then (s.retire kind unit).yieldControl
    else if s.dpx.handover.isSome then s.retire kind unit
    else
      if h : kind < 13 then s.startHandover (some { kind := ⟨kind, h⟩, unit := BitVec.ofNat 32 unit }) else s
  else s.retire kind unit

/-! ### Upsets (R579 to R582) -/

/-- An upset is counted: one unit enters the bucket; at `N` units the channel is permanently faulty (R580, R581). -/
def State.countUpset (s : State) (kind unit : Nat) : State :=
  let c := s.chan kind unit
  let n := vget s.flt.n kind
  let s := s.modChan kind unit fun c => { c with
    state := .inService, runs := 0, bucket := c.bucket + 1, upsets := sat32 (c.upsets + 1),
    leakAt := if c.bucket = 0 then s.now + secSteps (vget s.flt.w kind) / max 1 n else c.leakAt }
  let s := { s with flt := { s.flt with
    kindUpsets := vmod s.flt.kindUpsets kind (fun k => satCount (k + 1)), recent := s.now :: s.flt.recent } }
  let s := s.logEntry 0 kind (if kind = 6 then 0xFFFF else unit) 0 (c.runs + 1) (c.bucket + 1) (if kind = 6 then unit else 0)
  if n ≤ c.bucket + 1 then s.permanent kind unit else s

/-- A detection fires: the channel enters RETRYING; while it is RETRYING it belongs to the same upset (R579). -/
def State.detect (s : State) (kind unit : Nat) : State :=
  if (s.chan kind unit).state = .inService then s.modChan kind unit fun c => { c with state := .retrying, runs := 0 } else s

/-- A retry run fails: the third ends in retirement (R579, R580). -/
def State.runFailed (s : State) (kind unit : Nat) : State :=
  let c := s.chan kind unit
  let s := s.logEntry 1 kind (if kind = 6 then 0xFFFF else unit) 0 (c.runs + 1) c.bucket (if kind = 6 then unit else 0)
  if 3 ≤ c.runs + 1 then s.permanent kind unit
  else s.modChan kind unit fun c => { c with runs := c.runs + 1 }

/-- A bucket loses one unit at the end of its leak period (R581). -/
def State.leak (s : State) (kind unit : Nat) : State :=
  s.modChan kind unit fun c =>
    { c with bucket := c.bucket - 1, leakAt := s.now + secSteps (vget s.flt.w kind) / max 1 (vget s.flt.n kind) }

end Sys2Proof.Machine
end

