-- ==== Sys2Proof/Machine/Rings.lean ====
section
/-! DEFINITION. Queue pairs (10): halts, doorbells, set-up at the lock, barriers, and the packets of classes ADMIN and
ORDER. -/

namespace Sys2Proof.Machine

/-! ### Packets that have not started (R444) -/

/-- A barrier member or an event wait counts as not started although it was accepted (R444 step 2). -/
def Flight.parked (f : Flight) : Bool :=
  match f.cmd with | .barrier _ => true | .adminEventWait _ => true | _ => false

def Flight.unstarted (f : Flight) : Bool := !f.started || f.parked

/-- A packet that has not started is cancelled; a cancelled barrier member closes its instance (R442). -/
def State.cancelFlight (s : State) (t : Ticket) : State :=
  let s := { s with waits := s.waits.filter (·.1 ≠ t) }
  let insts := (List.range 8).filter fun k => match vget s.barriers k with
    | some i => i.members.contains t | none => false
  let s := s.ends t .cancelled
  s.forEach insts fun s k =>
    match vget s.barriers k with
    | some i => ({ s with barriers := vset s.barriers k none }).endAll (i.members.filter (· ≠ t)) .cancelled
    | none => s

/-- Every packet of a queue pair that has not started is cancelled. -/
def State.cancelUnstarted (s : State) (q : Fin 16) : State :=
  ((s.qp q).flights.filter Flight.unstarted).foldl (fun s f => s.cancelFlight ⟨q, f.id⟩) s

/-- A halt (R444): fetching stops, unstarted packets are cancelled, the halt entry is written, the event is reported. -/
def State.haltQp (s : State) (q : Fin 16) (cause : Nat) : State :=
  if (s.qp q).state = .running then
    let s := s.modQp q fun p => { p with state := .halted, cause := BitVec.ofNat 8 cause, readRetry := none }
    let s := s.cancelUnstarted q
    let p := s.qp q
    let s := if cause = 6 then s else
      s.putEntry q { tag := 0xFFFF, status := .internalFault, r0 := word [(cause, 0)], r1 := word [(p.fetch, 0)],
                     index := BitVec.ofNat 16 p.fetch, lap := p.lap, phase := false, sec := s.dtbSec, ns := s.dtbNano,
                     extra := 0xFFFFFFFF } false
    s.report 0x00 q cause
  else s

/-! ### Doorbells (R422 to R424, R429, R448, R449) -/

/-- Distance forward in a ring. -/
def ringDist (size a b : Nat) : Nat := (b + size - a % size) % size

/-- Whether a tail write is out of range (R424). -/
def State.badTail (s : State) (q : Nat) (t : Nat) : Bool :=
  let p := s.qp q
  let size := s.cmdSize q
  let stop := match p.flights with | f :: _ => f.pkt.index.toNat | [] => p.fetch
  let room := if ringDist size p.tail stop = 0 then size else ringDist size p.tail stop
  decide (size ≤ t) || decide (room ≤ ringDist size p.tail t)

/-- A write of the command tail (R423, R424). -/
def State.writeTail (s : State) (q : Fin 16) (v : Word) : State :=
  match (s.qp q).state with
  | .disabled => s
  | st =>
    let s1 := s.modQp q fun p => { p with tailReg := v }
    if s.badTail q v.toNat then (if st = .running then s1.haltQp q 4 else s1)
    else s1.modQp q fun p => { p with tail := v.toNat }

/-- A write of the completion head (R429); one that is out of range while HALTED is ignored (R424). -/
def State.writeHead (s : State) (q : Fin 16) (v : Word) : State :=
  match (s.qp q).state with
  | .disabled => s
  | st =>
    let h := v.toNat % 65536
    let s1 := s.modQp q fun p => { p with headReg := v }
    let d := ringDist (s.cplSize q) (s.qp q).head h
    if s.cplSize q ≤ h ∨ (s.qp q).cpl.length < d then (if st = .running then s1.haltQp q 5 else s1)
    else s1.modQp q fun p => { p with head := h, cpl := p.cpl.drop d }

/-- Host rings can be reached: link up and Bus Master Enable set (R448). -/
def State.hostUp (s : State) : Bool := s.linkUp && s.busMaster

/-- A HALTED queue pair resumes; under cause 0x06 only once the host is back (R448). -/
def State.resumeQp (s : State) (q : Nat) : State :=
  let p := s.qp q
  if p.state = .halted then
    if p.cause = 6 ∧ ¬ s.hostUp then s.modQp q fun p => { p with resumeWait := true }
    else s.modQp q fun p => { p with state := .running, resumeWait := false }
  else s

/-- The control word (R448, R449): 0x1 resumes, 0x2 resets, other values are ignored. -/
def State.writeControl (s : State) (q : Fin 16) (v : Word) : State :=
  match (s.qp q).state with
  | .disabled => s
  | st =>
    let s := s.modQp q fun p => { p with ctlReg := v }
    if v = 1 then s.resumeQp q
    else if v = 2 ∧ (st = .running ∨ st = .halted) then
      ((s.modQp q fun p => { p with state := .resetting, resumeWait := false, readRetry := none }).cancelUnstarted q).endReset q
    else s

/-- Waiting resumes take effect when the host is back. -/
def State.resumeWaiting (s : State) : State :=
  if s.hostUp then s.forEach (numbers 16 fun q => (s.qp q).resumeWait) State.resumeQp else s

/-! ### Set-up at the lock (R418, R457) -/

/-- The set-up of a queue pair is invalid (R418). -/
def State.badSetup (s : State) (q : Nat) : Bool :=
  let base := s.qpReg q 0x00 + 2 ^ 32 * s.qpReg q 0x04
  let cbase := s.qpReg q 0x08 + 2 ^ 32 * s.qpReg q 0x0C
  let cl := field (s.qpReg q 0x10) 4 0
  let el := field (s.qpReg q 0x10) 12 8
  let cb := 64 * 2 ^ cl
  let eb := 32 * 2 ^ el
  decide (cl < 7 ∨ 16 < cl ∨ el < 4 ∨ 16 < el) ||
    (if s.qpLocal q then decide (s.qpProd q ≠ 1 ∧ s.qpProd q ≠ 2) else decide (s.qpProd q ≠ 0)) ||
    (decide (s.qpProd q = 2) && !s.hasCycle) ||
    (s.qpLocal q && decide (s.localRingBytes < base + cb ∨ s.localRingBytes < cbase + eb)) ||
    decide (base < cbase + eb ∧ cbase < base + cb)

/-- Every queue pair starts as its set-up says (R418, R457). -/
def State.startQps (s : State) : State :=
  s.forEach (List.range 16) fun s q => s.modQp q fun _ =>
    if ¬ s.qpEn q then { state := .disabled }
    else if s.badSetup q then { state := .disabled, cause := 8 }
    else if ¬ s.qpLocal q ∧ ¬ s.linkUp then { state := .halted, cause := 6 }
    else { state := .running }

/-! ### Classes ADMIN and ORDER -/

/-- ADMIN_NOP (R451). -/
def effAdminNop (t : Ticket) (_ : Pkt) (s : State) : State := s.ends t .done

/-- IDENTIFY (R7). -/
def effIdentify (t : Ticket) (_ : Pkt) (s : State) : State :=
  s.answer t { r0 := unitMap s.variant, r1 := variantNumber s.variant }

/-- ADMIN_EVENT_WAIT (R452): a queued event answers it at once; at most four wait. -/
def effAdminEventWait (t : Ticket) (p : Pkt) (s : State) : State :=
  let mask : Word := BitVec.ofNat 32 (prm32 p 0)
  match s.events.find? (fun e => mask.getLsbD e.cls.toNat) with
  | some e =>
    ({ s with events := s.events.erase e, lostEvents := 0 }).answer t
      { r0 := word [(e.cls.toNat, 0), (e.unit.toNat, 16)], r1 := word [(e.code.toNat, 0)],
        extra := word [(sat32 s.lostEvents, 0)], stamp := some (e.sec, e.ns) }
  | none => if 4 ≤ s.waits.length then s.ends t .busyRetry else { s with waits := s.waits ++ [(t, mask)] }

/-- ADMIN_ABORT (R454). -/
def effAdminAbort (t : Ticket) (p : Pkt) (s : State) : State :=
  if h : prm16 p 0 < 16 then
    let q : Fin 16 := ⟨prm16 p 0, h⟩
    match (s.qp q).flights.find? (fun f => f.unstarted ∧ f.pkt.tag.toNat = prm16 p 2 ∧ (⟨q, f.id⟩ : Ticket) ≠ t) with
    | some f => (s.cancelFlight ⟨q, f.id⟩).answer t { r0 := word [(f.pkt.index.toNat, 0)] }
    | none => s.answer t { status := .doneNote, extra := 1 }
  else s.ends t .badField

/-- FENCE (R440): it has waited for every earlier packet. -/
def effFence (t : Ticket) (_ : Pkt) (s : State) : State := s.ends t .done

/-- All named queue pairs have joined: every member completes with the mask (R442). -/
def State.barrierMet (s : State) (k : Nat) : State :=
  match vget s.barriers k with
  | some i =>
    if (bitsOf 16 i.mask.toNat).all fun q => i.members.any fun m => m.qp.val = q then
      i.members.foldl (fun s m => s.answer m { r0 := word [(i.mask.toNat, 0)] }) { s with barriers := vset s.barriers k none }
    else s
  | none => s

/-- BARRIER (R441, R442). -/
def effBarrier (t : Ticket) (p : Pkt) (s : State) : State :=
  let mask := prm16 p 0
  let tmo := prm32 p 4
  let k := p.barrier.toNat
  if ¬ mask.testBit t.qp.val ∨ (bitsOf 16 mask).length < 2 ∨ 10000000 < tmo then s.ends t .badField
  else
    match vget s.barriers k with
    | none => { s with barriers := vset s.barriers k (some
        { mask := BitVec.ofNat 16 mask, deadline := if tmo = 0 then none else some (s.now + usSteps tmo), members := [t] }) }
    | some i =>
      if i.mask.toNat ≠ mask then s.ends t .badField
      else ({ s with barriers := vset s.barriers k (some { i with members := i.members ++ [t] }) }).barrierMet k

/-! ### Events of the queue pairs -/

/-- BARRIER_TIMEOUT (R442). -/
def evBarrierTimeout (k : Fin 8) (s : State) : State :=
  match vget s.barriers k with
  | some i =>
    match i.deadline with
    | some d => (({ s with barriers := vset s.barriers k none }).advanceTo d).endAll i.members .timedOut
    | none => s
  | none => s

/-- IRQ_MOD_TIME (R434). -/
def evIrqModTime (q : Fin 16) (s : State) : State :=
  match (s.qp q).irqFirst with
  | some first =>
    if s.qpIrqEn q ∧ s.qpModTime q ≠ 0 then (s.advanceTo (first + usSteps (4 * s.qpModTime q))).interrupt q else s
  | none => s

/-- RING_READ_FAIL (R445, R450): the first failure is repeated 10 µs later, the second halts the queue pair. -/
def evRingReadFail (q : Fin 16) (addr : DWord) (s : State) : State :=
  if (s.qp q).state ≠ .running ∨ s.qpLocal q then s
  else
    match (s.qp q).readRetry with
    | none => s.modQp q fun p => { p with readRetry := some (addr, s.now + usSteps 10) }
    | some (_, at_) => ((s.advanceTo at_).modQp q fun p => { p with faultAddr := addr, readRetry := none }).haltQp q 1

/-- HOST_UNAVAILABLE (R444 cause 0x06, R645): every running queue pair of a host ring halts. -/
def evHostUnavailable (up bme : Bool) (s : State) : State :=
  let s := { s with linkUp := up, busMaster := bme }
  (List.finRange 16).foldl (fun s (q : Fin 16) => if ¬ s.qpLocal q then s.haltQp q 6 else s) s

/-- PCIE_LINK_UP (R448): the link trains, at `PCIE_CTRL.MAX_RATE` at most, and Bus Master Enable is set; waiting resumes take
effect. -/
def evPcieLinkUp (rate : BitVec 3) (width : BitVec 2) (s : State) : State :=
  ({ s with linkUp := true, busMaster := true, linkRate := min rate.toNat (field (s.reg 0x4000) 2 0), linkWidth := width.toNat }).resumeWaiting

end Sys2Proof.Machine
end

