-- ==== Sys2Proof/Machine/PugCore.lean ====
section
/-! DEFINITION. The Pug's checks that other chapters share: the budget rule (07 R329, R330), the input interval and the
sinc3 window (R335), and slots in use (R338). -/

namespace Sys2Proof.Machine

/-- A sum of fractions of positive denominators, as numerator and denominator. -/
def fracSum (fs : List (Nat × Nat)) : Nat × Nat :=
  fs.foldl (fun a f => if f.2 = 0 then a else (a.1 * f.2 + f.1 * a.2, a.2 * f.2)) (0, 1)

/-- The sum is at most a bound. -/
def fracLe (f : Nat × Nat) (top : Nat) : Bool := decide (f.1 ≤ top * f.2)

/-- The bank of a slot that is in force. -/
def PugSlot.fir (x : PugSlot) : FirBank := vget x.bank x.active

/-- A slot counts in the budget: not FREE, and not CLAIMED, since a claimed slot leaves frame processing and draws on the
reserve (R329, R332, Table 07-5). -/
def PugSlot.counts (x : PugSlot) : Bool := x.state ≠ .free && x.state ≠ .claimed

/-- Nominal frame period T_s of a slot. -/
def State.slotPeriod (s : State) (n : Nat) : Nat := s.framePeriod (s.slot n).cfg.src (s.slot n).cfg.ev (s.slot n).cfg.div

/-- Taps that a slot may need: those in force, or those of a pending swap where they are more, so that the rule holds before
and after the swap (R322, R329; DEDUCED, log 80). -/
def PugSlot.taps (x : PugSlot) : Nat := match x.swap with | some (_, n, _, _) => max x.fir.n n | none => x.fir.n

/-- The sum of R329 in MMAC/s, as a fraction: N times the frame rate of every slot that has a period. -/
def State.pugLoad (s : State) : Nat × Nat :=
  fracSum ((numbers 48 fun n => (s.slot n).counts).map fun n => ((s.slot n).taps * 8000, s.slotPeriod n))

/-- The budget rule holds. -/
def State.pugFits (s : State) : Bool := fracLe s.pugLoad 12000

/-- Result word 0 of a packet that would break the rule. -/
def State.pugNeed (s : State) : Word := word [(sat32 (divUp s.pugLoad.1 s.pugLoad.2), 0)]

/-- Modulator clock period of a slot in 125 ps steps, as a fraction: the group clock's, or the nominal own clock's (R308). -/
def State.modClock (s : State) (n : Nat) (c : SlotCfg) : Nat × Nat :=
  if c.clk = 0 then ((vget s.dsm (n / 8)).period, 1) else (800000, max 1 c.nclk)

/-- Bits of a sinc3 window (R318). -/
def SlotCfg.window (c : SlotCfg) : Nat := 3 * c.osr - 2

/-- The checks of R335 that need T_s. -/
def State.slotTimesOk (s : State) (n : Nat) (c : SlotCfg) : Bool :=
  let ts := s.framePeriod c.src c.ev c.div
  let tin := (roundDiv ts c.d).toNat
  let clk := s.modClock n c
  decide (ts = 0) ||
    (if n < 32 then decide (c.osr * clk.1 ≤ tin * clk.2) && decide (2 * (c.window * clk.1) ≤ ts * clk.2)
     else decide (2000 ≤ tin))

/-- The group clock of a group-mode slot runs (R335). -/
def State.slotClockOk (s : State) (n : Nat) (c : SlotCfg) : Bool :=
  decide (32 ≤ n) || decide (c.clk ≠ 0) || (vget s.dsm (n / 8)).en

/-- Configured slots of a frame source. -/
def State.slotsOf (s : State) (src : Nat) : List Nat :=
  numbers 48 fun n => (s.slot n).counts && (s.slot n).state ≠ .retired && decide ((s.slot n).cfg.src = src)

/-- Every slot of a source keeps R335. -/
def State.sourceOk (s : State) (src : Nat) : Bool :=
  (s.slotsOf src).all fun n => s.slotTimesOk n (s.slot n).cfg && s.slotClockOk n (s.slot n).cfg

/-- A bound context or engine of a bridge reads a slot, or it is its `VDC_SLOT`. -/
def State.bridgeReads (s : State) (b n : Nat) : Bool :=
  (match (s.bridge b).lc with
    | some k => (List.range 16).any fun i => (s.lc k).msrc i = n
    | none => false) ||
  (match (s.bridge b).gf with
    | some g => (slice ((s.gf g).config.getD []) 12 11).any fun v => v.toNat = n
    | none => false) ||
  (match (s.bridge b).defn with | some d => decide (d.vdcSlot = some n) | none => false)

/-- A slot is in use (R338). -/
def State.slotInUse (s : State) (n : Nat) : Bool :=
  (s.bridgesWhere fun x => x.state.beyondArmed).any (fun b => s.bridgeReads b n) ||
    (List.range 16).any fun k => decide (8 ≤ k) && (s.trip k).en && decide ((s.trip k).slot = n)

end Sys2Proof.Machine
end

