-- ==== Sys2Proof/Machine/Trig.lean ====
section
/-! DEFINITION. Real functions that the spec's expressions name (02, 03, 04, 07): sine and cosine of turns, arc tangent, square
root, exponential and logarithm, evaluated in fixed point with 96 fraction bits. The error stays below 2^-80, far inside the
precision of every quantity they enter. -/

namespace Sys2Proof.Machine

def fixOne : Int := 2 ^ 96
def toFix (x : Rat) : Int := roundR (x * (fixOne : Rat))
def ofFix (n : Int) : Rat := (n : Rat) / (fixOne : Rat)
def fixMul (a b : Int) : Int := a * b / fixOne

/-- 2π. -/
def twoPi : Int := 497805226624462170461043889244

/-- The terms of a series: each is the one before times x over a divisor. -/
def seriesSum (x : Int) (div : Nat → Int) : Nat → Nat → Int → Int
  | 0, _, _ => 0
  | n + 1, k, term => term + seriesSum x div n (k + 1) (fixMul term x / div k)

/-- sin θ of an angle of at most half a turn. -/
def sinFix (th : Int) : Int := seriesSum (-(fixMul th th)) (fun k => ((2 * k + 2) * (2 * k + 3) : Nat)) 26 0 th

/-- Sine and cosine of an angle in turns. -/
def turnSin (x : Rat) : Rat := ofFix (sinFix (fixMul (toFix (x - roundR x)) twoPi))
def turnCos (x : Rat) : Rat := turnSin (x + 1 / 4)

/-- Square root of a number that is not negative. -/
def sqrtFix (a : Int) : Int := (Nat.sqrt ((a * fixOne).toNat) : Nat)
def ratSqrt (x : Rat) : Rat := ofFix (sqrtFix (toFix x))

/-- Arc tangent, in radians, of t from 0 to 1: the angle halved three times, then its series. -/
def atanFix (t : Int) : Int :=
  let half (t : Int) : Int := t * fixOne / (fixOne + sqrtFix (fixOne + fixMul t t))
  let u := half (half (half t))
  let v := -(fixMul u u)
  8 * ((List.range 20).foldl (fun (a : Int × Int) k => (a.1 + a.2 / ((2 * k + 1 : Nat) : Int), fixMul a.2 v)) (0, u)).1

/-- The angle in turns, from 0 to 1, of a vector (x, y); 0 for the zero vector. -/
def turnAtan2 (y x : Rat) : Rat :=
  let ax := if x < 0 then -x else x
  let ay := if y < 0 then -y else y
  if ax = 0 ∧ ay = 0 then 0
  else
    let first : Rat :=
      if ay ≤ ax then ofFix (atanFix (toFix (ay / ax)) * fixOne / twoPi) else 1 / 4 - ofFix (atanFix (toFix (ax / ay)) * fixOne / twoPi)
    let upper := if x < 0 then 1 / 2 - first else first
    if y < 0 then (if upper = 0 then 0 else 1 - upper) else upper

/-- e^z of a value in fixed point: the series of z/2^10, squared ten times. -/
def expFix (z : Int) : Int :=
  (List.range 10).foldl (fun (a : Int) _ => fixMul a a) (seriesSum (z / 1024) (fun k => (k + 1 : Nat)) 16 0 fixOne)

/-- e^x, and e^(2πx). -/
def ratExp (x : Rat) : Rat := ofFix (expFix (toFix x))
def expTurn (x : Rat) : Rat := ofFix (expFix (fixMul (toFix x) twoPi))

/-- ln x of a positive number: the series of its root of order 2^10. -/
def ratLn (x : Rat) : Rat :=
  let r := (List.range 10).foldl (fun (a : Int) _ => sqrtFix a) (toFix x)
  let u := (r - fixOne) * fixOne / (r + fixOne)
  let v := fixMul u u
  ofFix (2048 * ((List.range 16).foldl (fun (a : Int × Int) k => (a.1 + a.2 / ((2 * k + 1 : Nat) : Int), fixMul a.2 v)) (0, u)).1)

/-- 2π as a number. -/
def tau : Rat := ofFix twoPi

end Sys2Proof.Machine
end

