-- ==== Sys2Proof/Machine/Measure.lean ====
section
/-! DEFINITION. What a grid-forming engine reads: the fields of its block, its bases and measured vectors (02 R64 to R72,
03 R116), the contactor (03 R118, R121), and the largest bus voltage of an outer period (03 R122). -/

namespace Sys2Proof.Machine

/-! ### Fields of the block -/

def GfEngine.c8 (e : GfEngine) (k : Nat) : Nat := byteAt (e.config.getD []) k
def GfEngine.c16 (e : GfEngine) (k : Nat) : Nat := le (e.config.getD []) k 2
def GfEngine.pu (e : GfEngine) (k : Nat) : Rat := ofPu (q15At (e.config.getD []) k)
def GfEngine.spPu (e : GfEngine) (c : Nat) : Rat := ofPu (vget e.sp c)

/-- `BUSSLOT` is given (R116). -/
def GfEngine.hasBus (e : GfEngine) : Bool := byteAt (e.config.getD []) 21 ≠ 0xFF

/-! ### Plane vectors -/

def Vec2.add (x y : Vec2) : Vec2 := { a := x.a + y.a, b := x.b + y.b }
def Vec2.sub (x y : Vec2) : Vec2 := { a := x.a - y.a, b := x.b - y.b }
def Vec2.scale (k : Rat) (x : Vec2) : Vec2 := { a := k * x.a, b := k * x.b }
/-- The product of complex numbers. -/
def Vec2.mul (x y : Vec2) : Vec2 := { a := x.a * y.a - x.b * y.b, b := x.a * y.b + x.b * y.a }
def Vec2.norm2 (x : Vec2) : Rat := x.a * x.a + x.b * x.b
/-- The unit vector of an angle in turns. -/
def unitVec (turns : Rat) : Vec2 := { a := turnCos turns, b := turnSin turns }
def Vec2.stored (q : Nat) (x : Vec2) : Vec2 := { a := Config.gfPrec q x.a, b := Config.gfPrec (q + 1) x.b }

/-! ### Measurements (R64, R69 to R72, R116) -/

/-- Newest value of a slot as a fraction of its full scale. -/
def State.slotRat (s : State) (n : Nat) : Rat := ((s.slot n).out.value.toInt : Rat) / 32768

/-- Stationary frame of three phase values (R70, R71): phases b and c exchanged with `SEQ` 1. -/
def clarke (seq : Bool) (a b c : Rat) : Vec2 :=
  let (b, c) := if seq then (c, b) else (b, c)
  { a := (2 * a - b - c) / 3, b := (b - c) / ratSqrt 3 }

/-- Stationary frame of two line-to-line voltages (R70). -/
def clarkeLine (seq : Bool) (ab bc : Rat) : Vec2 :=
  if seq then
    -- with phases b and c exchanged, v_ab becomes v_ac and v_bc becomes v_cb
    { a := (2 * (ab + bc) - bc) / 3, b := -bc / ratSqrt 3 }
  else { a := (2 * ab + bc) / 3, b := bc / ratSqrt 3 }

/-- A triple of slots from byte k; a third slot of 0xFF is minus the sum of the others (R69). -/
def State.triple (s : State) (e : GfEngine) (k : Nat) : Vec2 :=
  let a := s.slotRat (e.c8 k)
  let b := s.slotRat (e.c8 (k + 1))
  let c := if e.c8 (k + 2) = 0xFF then -(a + b) else s.slotRat (e.c8 (k + 2))
  clarke (e.c8 11 = 1) a b c

/-- Base voltage, and base current (Table 02-1). -/
def GfEngine.vBase (e : GfEngine) : Rat := ratSqrt (2 / 3) * e.c16 4
def GfEngine.iBase (e : GfEngine) : Rat := 2 * (1000 * (le (e.config.getD []) 0 4 : Nat) : Rat) / (3 * e.vBase)

/-- Per unit per slot fraction, for voltages and currents. -/
def GfEngine.vScale (e : GfEngine) : Rat := (le (e.config.getD []) 24 4 : Nat) / (10 * e.vBase)
def GfEngine.iScale (e : GfEngine) : Rat := (le (e.config.getD []) 28 4 : Nat) / (10 * e.iBase)

/-- Terminal voltage, converter current and bus voltage in per unit. -/
def State.gfVolt (s : State) (e : GfEngine) : Vec2 :=
  if e.c8 10 = 1 then (clarkeLine (e.c8 11 = 1) (s.slotRat (e.c8 12)) (s.slotRat (e.c8 13))).scale e.vScale
  else (s.triple e 12).scale e.vScale
def State.gfCurr (s : State) (e : GfEngine) : Vec2 := (s.triple e 15).scale e.iScale
def State.gfBus (s : State) (e : GfEngine) : Vec2 :=
  if e.hasBus then (clarkeLine (e.c8 11 = 1) (s.slotRat (e.c8 21)) (s.slotRat (e.c8 22))).scale e.vScale else s.gfVolt e

/-- The current that counts for power and the virtual impedances (R69, R72). -/
def State.gfGrid (s : State) (e : GfEngine) : Vec2 :=
  if e.c8 18 = 0xFF then s.gfCurr e else (s.triple e 18).scale e.iScale

/-- The slots of the bus voltage (R116). -/
def GfEngine.busSlots (e : GfEngine) : List Nat := (if e.hasBus then [e.c8 21, e.c8 22] else [e.c8 12, e.c8 13, e.c8 14]).filter (· < 48)

/-- A slot has delivered an output: where it is the last of an engine's bus-voltage slots to be ready (07 R325), the bus
voltage of that frame joins the largest of the outer period (R122). -/
def State.notePeak (s : State) (n : Nat) : State :=
  s.forEach (numbers 4 fun g => (s.gf g).config.isSome ∧ n ∈ (s.gf g).busSlots ∧ (s.gf g).busSlots.foldl max 0 = n) fun s g =>
    s.modGf g fun e => { e with busPeak := max e.busPeak (s.gfBus e).norm2 }

/-! ### The voltage law -/

/-- E of the droop law (R75) but for the trim, within `E_MIN` to `E_MAX` (R76). -/
def GfEngine.droop (e : GfEngine) : Rat := 1 + e.spPu 2 + e.dEsec - (e.c16 54 : Nat) / 10000 * (e.qf - e.spPu 1)
def GfEngine.formed (e : GfEngine) : Rat := limitR (if e.c8 56 = 1 then e.droop + e.xv else e.droop) (e.pu 62) (e.pu 64)

/-! ### The contactor -/

/-- `JOIN_FBn` is mapped to a pin (R118, Table 17-10). -/
def State.fbMapped (s : State) (g : Nat) : Bool := s.gpioMapped (0x14 + g)

/-- The bridge counts as closed onto its bus: always without `BUSSLOT`, else as `JOIN_FBn` reads or as R121 takes it. -/
def State.gfClosed (s : State) (g : Nat) : Bool :=
  let e := s.gf g
  !e.hasBus || (if s.fbMapped g then e.joinFb else e.taken)

end Sys2Proof.Machine
end

