-- ==== Sys2Proof/Machine/Bridge.lean ====
section
/-! DEFINITION. Class BRIDGE (01): definition, roles and bindings, arming, precharge, start, stop, safe entry and
recovery, and the bridge's own events. -/

namespace Sys2Proof.Machine

/-! ### Codes -/

def roleOf (v : Nat) : Option Role :=
  match v with | 0 => some .form | 1 => some .drive | 2 => some .convert | 3 => some .spare | _ => none
def Role.code : Role → Nat | .form => 0 | .drive => 1 | .convert => 2 | .spare => 3
def safeOf (v : Nat) : Option SafeState :=
  match v with | 0 => some .opened | 1 => some .ascLow | 2 => some .ascHigh | _ => none
def SafeState.code : SafeState → Nat | .opened => 0 | .ascLow => 1 | .ascHigh => 2

/-- The combinations of R20: OPEN exactly with the roles other than DRIVE, `IDLE` 1 only with DRIVE. -/
def comboOk (r : Role) (x : SafeState) (idle : Bool) : Bool :=
  if r = .drive then x ≠ .opened else x = .opened && !idle

/-- Role, safe state and `IDLE` from three bytes, if R20 allows them. -/
def parseRole (r x i : Nat) : Option (Role × SafeState × Bool) :=
  match roleOf r, safeOf x with
  | some r, some x => if i ≤ 1 ∧ comboOk r x (i = 1) then some (r, x, i = 1) else none
  | _, _ => none

/-! ### Definition (Table 01-2) -/

/-- One leg entry of three bytes. -/
def parseLeg (bs : List Byte) (k : Nat) : Option Leg :=
  let ty := byteAt bs (4 + 3 * k)
  let a := byteAt bs (5 + 3 * k)
  let b := byteAt bs (6 + 3 * k)
  if a < 24 ∧ ty = 0 ∧ b = 0xFF then some ⟨0, a, none⟩
  else if a < 24 ∧ (ty = 1 ∨ ty = 2) ∧ b < 24 then some ⟨ty, a, some b⟩
  else none

/-- The first n leg entries, if every one is legal. -/
def parseLegs (bs : List Byte) : Nat → Option (List Leg)
  | 0 => some []
  | n + 1 => match parseLegs bs n, parseLeg bs n with | some ls, some l => some (ls ++ [l]) | _, _ => none

/-- A `BRIDGE_DEFINE` payload, if every field is in range (R19, R20). -/
def parseDef (bs : List Byte) : Option BridgeDef :=
  let n := byteAt bs 3
  match parseRole (byteAt bs 0) (byteAt bs 1) (byteAt bs 2), parseLegs bs n with
  | some (r, x, i), some legs =>
    if 1 ≤ n ∧ n ≤ 6 ∧ ((slice bs (4 + 3 * n) (18 - 3 * n)).all (· == 0xFF)) ∧ below 48 (opt16 (le bs 22 2))
        ∧ below 32 (opt8 (byteAt bs 24)) ∧ byteAt bs 25 = 0 ∧ 1 ≤ le bs 26 2 ∧ le bs 26 2 ≤ 10000
        ∧ 1 ≤ le bs 28 2 ∧ le bs 28 2 ≤ 0x7FFF ∧ le bs 30 2 ≤ 60000 ∧ zeros bs 32 32 then
      some { role := r, safe := x, idleSafe := i, legs := legs, vdcSlot := opt16 (le bs 22 2),
             preGpio := opt8 (byteAt bs 24), preTimeout := le bs 26 2, preLevel := q15At bs 28, stopRamp := le bs 30 2 }
    else none
  | _, _ => none

/-- BRIDGE_DEFINE (R19 to R22, R220). -/
def effBridgeDefine (t : Ticket) (p : Pkt) (s : State) : State :=
  let b := p.target.toNat
  match parseDef p.payload with
  | none => s.ends t .badField
  | some d =>
    if ¬ d.links.Nodup ∨ (d.links.any fun g => match s.ownerOf g with | some o => o ≠ b | none => false) then s.ends t .badField
    else if d.links.any fun g => s.fitLinks ≤ g then s.ends t .unitAbsent
    else if d.links.any s.linkRetired then s.ends t .unitRetired
    else
      let s := s.forEach (s.linksOf b) fun s g => s.modLink g fun l =>
        if l.state = .retired then l else { l with state := .unassigned }
      let s := s.modB b fun br => { br with defn := some d }
      let s := s.forEach d.links fun s g => s.modLink g fun l => { l with state := .down }
      (s.modPwm b fun w => { w with
        carrier := none, perCfg := 0, dt1 := Vector.replicate 12 64000, dt2 := Vector.replicate 12 64000,
        fall1 := Vector.replicate 12 0, fall2 := Vector.replicate 12 0, bootMask := 0, bootN := 0, bootW := 0 }).ends t .done

/-! ### Bindings (R23, R167) -/

/-- A loop context suits a bridge in a role (R167): legs, rate, position input, a completed swap, and for FORM the
references and the clamp. -/
def State.ctxSuits (s : State) (b k : Nat) (r : Role) (legs : Nat) (pos : Option Nat) : Bool :=
  let c := s.lc k
  c.resident && decide (c.modLegs = legs)
    && decide (c.fs * eventSpacing (s.carrierT b) c.sampleEv c.sampleDiv = 8000000000)
    && !(c.needsPos && pos.isNone) && c.swapDone && (r ≠ .form || (decide (2 ≤ c.nr) && c.clampEn))

/-- The bindings match the required ones of Table 01-3. -/
def State.bindingsOk (s : State) (b : Nat) (r : Role) (legs : Nat) (lc gf pos : Option Nat) : Bool :=
  match r with
  | .form => gf.isSome && (match lc with | some k => s.ctxSuits b k r legs pos | none => false)
  | .spare => gf.isNone
  | _ => gf.isNone && (match lc with | some k => s.ctxSuits b k r legs pos | none => false)

/-- An engine is configured and the context's rate is M times its outer rate, M from 1 to 8 (R68, R101). -/
def State.engineSuits (s : State) (lc gf : Option Nat) : Bool :=
  match gf, lc with
  | some g, some k =>
    match (s.gf g).config with
    | some bs => let o := le bs 8 2; decide (o ≠ 0 ∧ (s.lc k).fs % o = 0 ∧ 1 ≤ (s.lc k).fs / o ∧ (s.lc k).fs / o ≤ 8)
    | none => false
  | _, _ => false

/-- A unit is bound to another bridge (R47, R55). -/
def State.boundElsewhere (s : State) (b : Nat) (lc gf : Option Nat) : Bool :=
  (match lc with | some k => (match s.bridgeOfLc k with | some o => o ≠ b | none => false) | none => false) ||
  (match gf with | some g => (match s.bridgeOfGf g with | some o => o ≠ b | none => false) | none => false)

/-- A named context, engine or position input is not fitted. -/
def State.bindAbsent (s : State) (lc gf : Option Nat) : Bool := !(below s.fitLcs lc) || !(below s.fitGfes gf)

/-- Context and engine enter the state of a bridge that names them (Tables 02-12, 04-12). -/
def State.bindUnits (s : State) (b : Nat) : State :=
  let armed := (s.bridge b).state = .armed
  let s := match (s.bridge b).lc with
    | some k => s.modLc k fun c => if c.state = LcState.loaded ∧ armed then { c with state := .ready } else c
    | none => s
  match (s.bridge b).gf with
  | some g => s.turnGf g fun e =>
      if e.state = GfState.free then (if armed then e.toTracking s.now else { e with state := .idle }) else e
  | none => s

/-- Units that a bridge named before and no longer names are released (R29). -/
def State.releaseOld (s : State) (b : Nat) (lc gf : Option Nat) : State :=
  let s := match lc with | some k => if (s.bridge b).lc = some k then s else s.releaseLc k | none => s
  match gf with | some g => if (s.bridge b).gf = some g then s else s.releaseGf g | none => s

/-- Every awaited booster has acknowledged a `BRIDGE_SET_ROLE` (R28, R29). -/
def State.doneSetRole (s : State) (b : Nat) : State :=
  match (s.bridge b).setRole with
  | some w =>
    let s := s.modB b fun br => { br with setRole := none }
    let s := match w.old with | some (_, lc, gf) => s.releaseOld b lc gf | none => s
    ((s.bindUnits b).driveIdle b).ends w.ticket .done
  | none => s

/-- The bindings present are those of Table 01-3, whatever units they name (R23, R26). -/
def bindingsShape (r : Role) (lc gf : Option Nat) : Bool :=
  match r with
  | .form => lc.isSome && gf.isSome
  | .spare => gf.isNone
  | _ => lc.isSome && gf.isNone

/-- BRIDGE_SET_ROLE (R25 to R29, R101), its checks in the order of those rules. A unit that is not fitted, or that another
bridge holds, ends it as R47 ends a `BRIDGE_BIND` (DESIGN CHOICE, log 75). -/
def effBridgeSetRole (t : Ticket) (p : Pkt) (s : State) : State :=
  let b := p.target.toNat
  let br := s.bridge b
  match br.defn, parseRole (prm p 0) (prm p 1) (prm p 2) with
  | some d, some (r, x, i) =>
    let lc := opt16 (prm16 p 4)
    let gf := opt8 (prm p 6)
    if prm p 3 ≠ 0 ∨ ¬ prmZero p 7 33 ∨ ¬ below 24 lc ∨ ¬ below 4 gf ∨ ¬ bindingsShape r lc gf then s.ends t .badField
    else if s.bindAbsent lc gf then s.ends t .unitAbsent
    else if ¬ s.bindingsOk b r d.legs.length lc gf br.pos then s.ends t .badField
    else if ¬ s.roleAllowed b r x then s.ends t .safetyLocked
    else if br.setRole.isSome then s.ends t .busyRetry
    else if s.boundElsewhere b lc gf then s.ends t .stateRefused
    else if r = .form ∧ ¬ s.engineSuits lc gf then s.ends t .stateRefused
    else
      let s := s.modB b fun br => { br with
        defn := some { d with role := r, safe := x, idleSafe := i }, lc := lc, gf := gf,
        setRole := some { ticket := t, need := d.links, deadline := s.now + msSteps 1, old := some (d, br.lc, br.gf) } }
      s.download b x .setRole
  | _, _ => s.ends t .badField

/-- BRIDGE_BIND (R47). -/
def effBridgeBind (t : Ticket) (p : Pkt) (s : State) : State :=
  let b := p.target.toNat
  let lc := opt16 (prm16 p 4)
  let gf := opt8 (prm p 6)
  let pos := opt8 (prm p 7)
  if ¬ prmZero p 0 4 ∨ ¬ prmZero p 8 32 ∨ ¬ below 24 lc ∨ ¬ below 4 gf ∨ ¬ below 4 pos then s.ends t .badField
  else if s.bindAbsent lc gf then s.ends t .unitAbsent
  else if s.boundElsewhere b lc gf then s.ends t .stateRefused
  else
    let old := s.bridge b
    let s := s.modB b fun br => { br with lc := lc, gf := gf, pos := pos }
    ((s.releaseOld b old.lc old.gf).bindUnits b).ends t .done

/-! ### Arming (R32, R33, R167, R220, R317, R600) -/

/-- The slots of another bridge that a bridge's context and engine read have frame instants that coincide with its samples
(R317). -/
def State.framesSuit (s : State) (b : Nat) : Bool :=
  let br := s.bridge b
  let ctx := match br.lc with | some k => (List.range 16).map (s.lc k).msrc | none => []
  let eng := match br.gf with | some g => (slice ((s.gf g).config.getD []) 12 11).map BitVec.toNat | none => []
  let (ev, dv) := match br.lc with | some k => ((s.lc k).sampleEv, (s.lc k).sampleDiv) | none => (2, 1)
  (ctx ++ eng).all fun n =>
    decide (48 ≤ n) || (s.slot n).state = .free || (s.slot n).state = .claimed ||
      (let c := (s.slot n).cfg
       decide (c.src = b) ||
        (decide (c.src < 8 ∧ c.ev = ev ∧ c.div = dv) && decide ((s.pwm c.src).perCfg = (s.pwm b).perCfg) &&
          decide ((s.pwm c.src).carrier.map (·.phase) = (s.pwm b).carrier.map (·.phase))))

/-- Mirror load of the duplexed bridges in bytes per second stays within 128 MB/s, at `PER_CFG` (R600). -/
def State.mirrorFits (s : State) : Bool :=
  fracLe (fracSum ((s.duplexedBridges.filter fun k => (s.pwm k).perCfg ≠ 0).map fun k => (256 * 8000000000, 2 * (s.pwm k).perCfg)))
    128000000

/-- BRIDGE_ARM (R32, R33): checks, those of R317, R335 and R600 among them, then training of every gate link within 2 ms
(06 R278). -/
def effBridgeArm (t : Ticket) (p : Pkt) (s : State) : State :=
  let b := p.target.toNat
  let br := s.bridge b
  match br.defn with
  | none => s.ends t .stateRefused
  | some d =>
    if ¬ s.bindingsOk b d.role d.legs.length br.lc br.gf br.pos ∨ (s.pwm b).carrier.isNone
        ∨ (d.role = .form ∧ ¬ s.engineSuits br.lc br.gf) ∨ ¬ s.framesSuit b ∨ ¬ s.mirrorFits ∨ ¬ s.sourceOk b then
      s.ends t .stateRefused
    else if d.links.any s.linkRetired then s.ends t .unitRetired
    else
      let s := s.modB b fun br => { br with
        arming := some { ticket := t, need := d.links, deadline := s.now + msSteps 2 } }
      let s := s.forEach d.links fun s g => s.modLink g fun l => { l with state := .training, fbNext := s.fbRecord b g d.safe }
      s

/-- Arming ends without success: the bridge stays OFFLINE and its heartbeats stop (R32). -/
def State.failArm (s : State) (b : Nat) : State :=
  match (s.bridge b).arming with
  | some w => ((s.modB b fun br => { br with arming := none }).stopLinks b).ends w.ticket .timedOut
  | none => s

/-- Every link is trained: the bridge enters ARMED, its carrier starts, active trip sources latch (R31, R215, R242). -/
def State.doneArm (s : State) (b : Nat) : State :=
  match (s.bridge b).arming with
  | some w =>
    let s := s.modB b fun br => { br with arming := none, state := .armed, armedAt := s.now, own := !s.duplexed b || decide (s.dpx.role = .active) }
    let s := (s.startCarrier b).bindUnits b
    let s := match (s.bridge b).gf with | some g => s.turnGf g fun e => if e.state = GfState.idle then e.toTracking s.now else e | none => s
    let s := (s.driveIdle b).ends w.ticket .done
    s.forEach (numbers 16 fun k => (s.trip k).en ∧ s.tripMet k ∧ (s.trip k).bmask.getLsbD b) fun s k => s.latchTrip b k
  | none => s

/-- BRIDGE_DISARM (R31). -/
def effBridgeDisarm (t : Ticket) (p : Pkt) (s : State) : State := (s.toOffline p.target.toNat).ends t .done

/-! ### Precharge and start (R34 to R40) -/

/-- The newest valid output of the bridge's `VDC_SLOT` is at or above `PRE_LEVEL`; a later invalid one does not hide it
(R36). -/
def State.vdcReached (s : State) (b : Nat) : Bool :=
  match (s.bridge b).defn with
  | some d =>
    match d.vdcSlot with
    | some n => (match (s.slot n).recent.head? with | some v => decide (d.preLevel.toInt ≤ v.toInt) | none => false)
    | none => false
  | none => false

/-- BRIDGE_PRECHARGE (R34 to R39). The bridge leaves ARMED, so that a `BRIDGE_SET_ROLE` that still waits ends with CANCELLED
(R28, R52). -/
def effBridgePrecharge (t : Ticket) (p : Pkt) (s : State) : State :=
  let b := p.target.toNat
  match (s.bridge b).defn with
  | none => s.ends t .stateRefused
  | some d =>
    if ¬ s.startAllowed b then s.ends t .safetyLocked
    else if d.role = .spare then s.ends t .stateRefused
    else
      let s := s.undoSetRole b .cancelled
      let s := s.modB b fun br => { br with state := .precharge, preGpioOn := d.preGpio.isSome, prechargeDone := false }
      if d.preGpio.isNone ∧ d.vdcSlot.isNone then (s.modB b fun br => { br with prechargeDone := true }).ends t .done
      else
        let since := if s.vdcReached b then some s.now else none
        s.modB b fun br => { br with pre := some (PreWait.mk t since (s.now + msSteps d.preTimeout) d.vdcSlot.isNone) }

/-- The precharge condition is met (R36, R39). -/
def State.prechargeMet (s : State) (b : Nat) : State :=
  match (s.bridge b).pre with
  | some w => (s.modB b fun br => { br with pre := none, prechargeDone := true }).ends w.ticket .done
  | none => s

/-- A valid output of the `VDC_SLOT` judged for the 5 ms of R36. -/
def State.judgePrecharge (s : State) (b : Nat) : State :=
  match (s.bridge b).pre with
  | some w =>
    if w.timed then s
    else if s.vdcReached b then
      match w.since with
      | none => s.modB b fun br => { br with pre := some { w with since := some s.now } }
      | some t0 => if t0 + msSteps 5 ≤ s.now then s.prechargeMet b else s
    else s.modB b fun br => { br with pre := some { w with since := none } }
  | none => s

/-- The path a start takes, by `START_MODE` and the bus (Table 03-1); the black-start path draws its holdoff in
`enterPhase` of the engine's own chapter. -/
def GfEngine.startPath (e : GfEngine) : StartPhase :=
  match byteAt (e.config.getD []) 112 with
  | 0 => .waitLive
  | 1 => if e.live then .waitLive else if e.deadBus then .holdoff else .classify
  | _ => .closeDead

/-- Attempt count and holdoff (R128): CRC-32C of the serial number and the attempt count plus the engine's number. -/
def State.drawHoldoff (s : State) (g : Nat) : State :=
  let a : Byte := (s.gf g).attempts + 1
  let h := crc32c (bytesOf 8 s.serial.toNat ++ [a + BitVec.ofNat 8 g]) % 65536
  s.modGf g fun e => { e with attempts := a, holdoff := BitVec.ofNat 16 (h * 64000 / 65536) }

/-- An engine enters a start phase: HOLDOFF draws its holdoff, the closing phases assert `JOIN_REQn` when `BUSSLOT` is
given (R121, R128, R130, R135), RAMP starts as R131 says. -/
def State.enterPhase (s : State) (g : Nat) (ph : StartPhase) : State :=
  let s := if ph = .holdoff then s.drawHoldoff g else s
  s.modGf g fun e =>
    let e := { e with phase := ph, phaseAt := s.now, okSince := none }
    match ph with
    | .closeDead => if e.hasBus then { e with joinReq := true, joinReqAt := s.now } else e
    | .closeLive => if e.hasBus then { e with joinReq := true, joinReqAt := s.now } else e
    | .retryWait => { e with joinReq := false, taken := false }
    | .presync => { e with r := 0, w := BitVec.ofNat 32 (toSpeed e.wBus), theta := e.thetaBus }
    | _ => e

/-- RAMP entered from the dead side (R131): the bus's angle and magnitude where it is at 0.01 pu or more. E leaves the
value of the shadow phase for the one that R75 and R76 form, so that r·E is the bus's magnitude (DEDUCED, log 86). -/
def State.rampFromDead (s : State) (g : Nat) : State :=
  let s := s.enterPhase g .ramp
  s.modGf g fun e =>
    let e := { e with e := e.formed }
    if 1 / 100 ≤ e.vBusPlus then
      { e with w := BitVec.ofNat 32 (toSpeed e.wBus), theta := e.thetaBus, r := min 1 (Config.gfPrec 20 (e.vBusPlus / e.formed)) }
    else { e with r := 0 }

/-- The contactor closes in CLOSE_LIVE, or counts as closed: RAMP with the present r (R136). RAMP is left for FORMING at once
when r is 1.0, in STARTING (R132); an engine in LIMITING is released first (R84, Table 02-12). -/
def State.rampFromLive (s : State) (g : Nat) : State :=
  (s.enterPhase g .ramp).modGf g fun e =>
    if 1 ≤ e.r ∧ e.state = .starting then { e with r := 1, state := .forming, phase := .none, deadSince := none } else e

/-- CLOSE_DEAD is entered; a contactor that is closed already ends it at once (R130, R131, Table 03-2). -/
def State.closeDead (s : State) (g : Nat) : State :=
  let s := s.enterPhase g .closeDead
  if s.gfClosed g then s.rampFromDead g else s

/-- CLOSE_LIVE is entered; with a contactor that is closed already R136 applies at once (R135, Table 03-2). -/
def State.closeLive (s : State) (g : Nat) : State :=
  let s := s.enterPhase g .closeLive
  if s.gfClosed g then s.rampFromLive g else s

/-- The path of Table 03-1 taken (R124, R138). -/
def State.takePath (s : State) (g : Nat) : State :=
  if (s.gf g).startPath = .closeDead then s.closeDead g else s.enterPhase g (s.gf g).startPath

/-- An engine enters STARTING and takes its path (R124); a retired one enters no state (R110). -/
def State.enterStarting (s : State) (g : Nat) : State :=
  if s.isRetired 8 g then s
  else (s.modGf g fun e => { e with state := .starting, detached := false, r := 0 }).takePath g

/-- BRIDGE_START (R34, R40): a context in READY runs from its next sample (Table 04-12); DONE comes with the first committed
duty. -/
def effBridgeStart (t : Ticket) (p : Pkt) (s : State) : State :=
  let b := p.target.toNat
  if ¬ s.startAllowed b then s.ends t .safetyLocked
  else if ¬ (s.bridge b).prechargeDone then s.ends t .stateRefused
  else
    let s := s.modB b fun br => { br with state := .running, preGpioOn := false, prechargeDone := false, start := some t }
    let s := s.modPwm b fun w => { w with runPeaks := 0 }
    let s := match (s.bridge b).lc with
      | some k => s.modLc k fun c =>
          if c.state = LcState.ready then { c with
            state := .running, samples := 0, sampleAt := (s.pwm b).lastAt, consec := 0, committed := true, lastSeq := none,
            substMask := 0, substSince := none, due := [], xh := c.x0,
            z := c.z0.map fun (q : Q15) => BitVec.ofInt 32 (q.toInt * 0x8000) }
          else c
      | none => s
    match (s.bridge b).gf with | some g => s.enterStarting g | none => s

/-! ### Stop, safe entry, recovery (R41 to R46) -/

/-- Every set-point of a bridge is zero, those in force and those staged: the end of a stop ramp (R41, R57, R202). -/
def State.zeroSetpoints (s : State) (b : Nat) : State :=
  match s.role b, (s.bridge b).gf, (s.bridge b).lc with
  | some .form, some g, _ => s.modGf g fun e => { e with sp := Vector.replicate 8 0, spNext := [] }
  | _, _, some k => s.modLc k fun c => { c with r := Vector.replicate 8 0, spNext := [] }
  | _, _, none => s

/-- A stop ramp ends: the set-points have reached zero, the bridge enters ARMED and every waiting packet completes (R41). -/
def State.rampDone (s : State) (b : Nat) : State :=
  let ws := match (s.bridge b).stop with | some w => w.waiters | none => []
  let s := s.zeroSetpoints b
  let start := (s.bridge b).start
  let s := s.modB b fun br => { br with start := none }
  let s := (s.stopToArmed b).endAll ws .done
  match start with | some t => s.ends t .cancelled | none => s

/-- The set-points of a bridge (R57): the engine's in role FORM, else the references of its context. -/
def State.setpoints (s : State) (b : Nat) : Vector Q15 8 :=
  match s.role b, (s.bridge b).gf, (s.bridge b).lc with
  | some .form, some g, _ => (s.gf g).sp
  | _, _, some k => (s.lc k).r
  | _, _, none => Vector.replicate 8 0

/-- The set-points of a bridge while a stop ramp runs: each on its line to zero (R41). -/
def StopRamp.at_ (r : StopRamp) (now : Nat) : Vector Q15 8 :=
  r.from_.map fun (q : Q15) => ofQ (roundDiv (q.toInt * ((r.finish - now : Nat) : Int)) (max 1 (r.finish - r.start) : Nat))

/-- A stop ramp starts, or a packet joins the one that runs (R41, R387). -/
def State.startRamp (s : State) (b : Nat) (w : List Ticket) : State :=
  match (s.bridge b).stop with
  | some r => s.modB b fun br => { br with stop := some { r with waiters := r.waiters ++ w } }
  | none =>
    let ms := match (s.bridge b).defn with | some d => d.stopRamp | none => 0
    let s := s.modB b fun br => { br with stop := some (StopRamp.mk s.now (s.now + msSteps ms) (s.setpoints b) w) }
    if ms = 0 then s.rampDone b else s

/-- BRIDGE_STOP ends any start phase of the bridge's engine, also while a stop ramp runs on (R141). -/
def State.endStartPhase (s : State) (b : Nat) : State :=
  match (s.bridge b).gf with
  | some g => s.modGf g fun e => if e.phase = StartPhase.none then e else { e.endStart with deadSince := e.deadSince, due := e.due }
  | none => s

/-- BRIDGE_STOP (R41, R31, R141). -/
def effBridgeStop (t : Ticket) (p : Pkt) (s : State) : State :=
  let b := p.target.toNat
  if (s.bridge b).state = .precharge then
    let pre := (s.bridge b).pre
    let s := (s.modB b fun br => { br with pre := none }).stopToArmed b
    let s := match pre with | some w => s.ends w.ticket .cancelled | none => s
    s.ends t .done
  else (s.endStartPhase b).startRamp b [t]

/-- BRIDGE_SAFE (R45, R46). -/
def effBridgeSafe (t : Ticket) (p : Pkt) (s : State) : State := (s.enterSafe p.target.toNat 0x0100).ends t .done

/-- BRIDGE_RECOVER (R43). -/
def effBridgeRecover (t : Ticket) (p : Pkt) (s : State) : State :=
  let b := p.target.toNat
  match (s.bridge b).defn with
  | none => s.ends t .stateRefused
  | some d =>
    if ¬ s.recoverAllowed b then s.ends t .safetyLocked
    else if (s.bridge b).recover.isSome then s.ends t .busyRetry
    else
      let s := s.modB b fun br => { br with
        recover := some { ticket := t, need := d.links, deadline := s.now + msSteps 1 } }
      s.download b d.safe .recover

/-- Every booster has acknowledged a recovery (R43). -/
def State.doneRecover (s : State) (b : Nat) : State :=
  match (s.bridge b).recover with
  | some w => (s.recovered b).ends w.ticket .done
  | none => s

/-- A recovery fails: the bridge stays in SAFE and the record of its pattern is downloaded again (R43). -/
def State.failRecover (s : State) (b : Nat) : State :=
  match (s.bridge b).recover, (s.bridge b).defn with
  | some w, some d =>
    let s := (s.modB b fun br => { br with recover := none }).dropAcks b AckFor.isRecover
    (s.download b ((s.bridge b).applied.getD d.safe) .pattern).ends w.ticket .timedOut
  | _, _ => s

/-! ### Status and image binding (R48, R58, R62, R63) -/

/-- Gate links of the bridge's definition that are retired. -/
def State.retiredLinks (s : State) (b : Nat) : Nat := ((s.linksOf b).filter s.linkRetired).length

/-- Result word 0 of `BRIDGE_STATUS`. The role and the safe state of a bridge without a definition read 0 (DESIGN CHOICE,
log 76). -/
def State.bridgeWord (s : State) (b : Nat) : Word :=
  let br := s.bridge b
  let (r, x) := match br.defn with | some d => (d.role.code, d.safe.code) | none => (0, 0)
  word [(br.state.code, 0), (r, 4), (x, 6), (s.retiredLinks b, 8)]

/-- BRIDGE_STATUS (R48). -/
def effBridgeStatus (t : Ticket) (p : Pkt) (s : State) : State :=
  let b := p.target.toNat
  s.answer t { r0 := s.bridgeWord b, r1 := word [((s.bridge b).cause.toNat, 0)] }

/-- BRIDGE_BIND_IMAGE (R58, R63, R496): word offsets into the output and the input image. No rule limits the
status offset: words of the block at which no image word lies are not written (log 63). -/
def effBridgeBindImage (t : Ticket) (p : Pkt) (s : State) : State :=
  let b := p.target.toNat
  let st := prm16 p 16
  let ws := ((List.range 8).map fun k => (k, prm16 p (2 * k))).filter fun (w : Nat × Nat) => decide (w.2 ≠ 0xFFFF)
  if ¬ s.hasCycle then s.ends t .unitAbsent
  else if ¬ prmZero p 18 22 ∨ (s.cyc.image ≠ [] ∧ ¬ spWordsOk s.cyc.image ws) then s.ends t .badField
  else
    (s.modB b fun br => { br with
      spOfs := Vector.ofFn fun k => BitVec.ofNat 16 (prm16 p (2 * k.val)), statusOfs := BitVec.ofNat 16 st }).ends t .done

/-- The 16-byte status block of a bridge (R62). The role of a bridge without a definition and the voltage of one without a
`VDC_SLOT` are 0 (DESIGN CHOICE, log 76). -/
def State.statusBlock (s : State) (b : Nat) : List Byte :=
  let br := s.bridge b
  let (r, v) := match br.defn with
    | some d => (d.role.code, match d.vdcSlot with | some n => (s.slot n).out.value.toNat | none => 0)
    | none => (0, 0)
  bytesOf 1 br.state.code ++ bytesOf 1 r ++ bytesOf 2 br.cause.toNat ++ bytesOf 1 (s.retiredLinks b) ++ bytesOf 3 0
    ++ bytesOf 2 v ++ bytesOf 6 0

/-! ### Events -/

/-- ARM_TIMEOUT (R32). -/
def evArmTimeout (b : Fin 8) (s : State) : State :=
  match (s.bridge b).arming with | some w => (s.advanceTo w.deadline).failArm b | none => s

/-- PRECHARGE_TIMEOUT (R37). -/
def evPrechargeTimeout (b : Fin 8) (s : State) : State :=
  match (s.bridge b).pre with
  | some w =>
    if w.timed then s
    else ((((s.advanceTo w.deadline).modB b fun br => { br with pre := none }).stopToArmed b)).ends w.ticket .timedOut
  | none => s

/-- PRECHARGE_TIMED_DONE (R39). -/
def evPrechargeTimedDone (b : Fin 8) (s : State) : State :=
  match (s.bridge b).pre with
  | some w => if w.timed then (s.advanceTo w.deadline).prechargeMet b else s
  | none => s

/-- STOP_RAMP_END (R41, R387). -/
def evStopRampEnd (b : Fin 8) (s : State) : State :=
  match (s.bridge b).stop with | some w => (s.advanceTo w.finish).rampDone b | none => s

/-- SSL_LOSS (R384): the line of a bridge beyond OFFLINE has been static for 60 µs since the later of its last edge and
the bridge's entry into ARMED from OFFLINE. -/
def evSslLoss (b : Fin 8) (s : State) : State :=
  if s.sslToggling b then s
  else
    match (s.bridge b).state with
    | .offline | .safe | .retired => s
    | _ => (s.advanceTo (max (vget s.sag.sslEdge b) (s.bridge b).armedAt + usSteps 60)).enterSafe b 0x0810

end Sys2Proof.Machine
end

