-- ==== Sys2Proof/Machine/Gate.lean ====
section
/-! DEFINITION. Gate links (06): frames and fault symbols from the boosters, downloads and their acknowledgements,
bootstrap refresh, adaptation of the weak phase, the clearing of latches, and the packets of class GATE. -/

namespace Sys2Proof.Machine

/-! ### Latches (R264 to R266, R282 to R287) -/

/-- Cause code of a latched code on a gate link (Table 06-7). -/
def codeCause (bitNo g : Nat) : Nat := 0x0500 + 0x20 * min bitNo 6 + g

/-- Some link of the bridge still waits for a code group or holds a code (R287). -/
def State.codesPending (s : State) (b : Nat) : Bool :=
  (s.linksOf b).any fun g => (s.link g).breakAt.isSome || vget (s.link g).heldDesat 0 || vget (s.link g).heldDesat 1

/-- A code takes effect: its latch, its faulted switch, the cause of an entry that its break made, and the pattern. While
the link holds a DESAT code, that code is the one whose break made the entry (R282). -/
def State.latchCode (s : State) (g bitNo : Nat) : State :=
  let s := s.modLink g fun l => { l with codes := l.codes ||| BitVec.ofNat 8 (2 ^ bitNo) }
  match s.ownerOf g with
  | none => s
  | some b =>
    let mine := (s.bridge b).causeBy = some g ∧ ¬ (vget (s.link g).heldDesat 0 ∨ vget (s.link g).heldDesat 1)
    let wait := s.codesPending b
    let s := s.modB b fun br => { br with
      patternWait := wait, causeBy := if mine then none else br.causeBy,
      cause := if mine then BitVec.ofNat 16 (codeCause bitNo g) else br.cause }
    let s := if (s.bridge b).state = .safe then s.repattern b 0 else s
    if mine then s.report 1 b (codeCause bitNo g) else s

/-- TRIP_BREAK (R264, R266, R287): the break trips the bridge at once; its cause is known with its code. A bridge that is
in SAFE already goes to OPEN until the code says which switches are faulted (DEDUCED from Table 06-14, log 78). -/
def evTripBreak (g : Fin 24) (s : State) : State :=
  match s.ownerOf g with
  | none => s
  | some b =>
    match (s.bridge b).state with
    | .offline => s
    | x =>
      let s := s.modLink g fun l => { l with breakAt := some s.now }
      let s := s.modB b fun br => { br with
        patternWait := true, causeBy := if x ≠ .safe ∧ x ≠ .retired then some g.val else br.causeBy }
      if x = .safe then s.drivePattern b .opened true safeLag else s.enterSafeWith b 0 false

/-- The fault code of the group that follows a TRIP break (Table 06-7): 0x7 where no valid code follows. -/
def tripCode (group : Option (BitVec 5)) : Nat :=
  match group.bind nibbleOf with | some n => if n < 8 then n else 7 | none => 7

/-- The edges due by now at a gate link's balls are carried out. -/
def State.linkNow (s : State) (g : Nat) : State := match s.ownerOf g with | some b => s.applyEdges b | none => s

/-- FAULT_CODE_RECEIVED (R264, R266, R282, R287): the group after a break, 100 ns after it, or none by 120 ns; a DESAT code
into an open window is held and counts as an upset at once (R279). -/
def evFaultCodeReceived (g : Fin 24) (group : Option (BitVec 5)) (s : State) : State :=
  match (s.link g).breakAt with
  | none => s
  | some t =>
    let s := (s.advanceTo (t + if group.isSome then 800 else 960)).linkNow g
    let s := s.modLink g fun l => { l with breakAt := none }
    let n := tripCode group
    let open_ : Bool := match vget (s.link g).window n with | some w => decide (s.now < w) | none => false
    if n < 2 ∧ open_ = true then
      (s.modLink g fun l => { l with heldDesat := vset l.heldDesat n true, blankViol := true }).countUpset 3 g
    else s.latchCode g n

/-- BLANK_WINDOW_CLOSE (R282). -/
def evBlankWindowClose (sw : Fin 48) (s : State) : State :=
  let g := sw.val / 2
  let k := sw.val % 2
  match vget (s.link g).window k with
  | some w =>
    let held := vget (s.link g).heldDesat k
    let s := ((s.advanceTo w).linkNow g).modLink g fun l => { l with
      window := vset l.window k none, heldDesat := vset l.heldDesat k false }
    if held then s.latchCode g k else s
  | none => s

/-! ### Bootstrap supplies (R292 to R294) -/

/-- A series of forced refreshes runs: a refresh is under way, or the 50 µs for a repeat have not passed (R293, R304). -/
def GateLink.inSeries (l : GateLink) (now : Nat) : Bool :=
  decide (l.series ≠ 0) && (l.refreshEnd.isSome || match l.lastRefresh with | some e => decide (now ≤ e + usSteps 50) | none => false)

/-- A series that ended without a repeat counts as one upset (R293). -/
def State.closeSeries (s : State) (g : Nat) : State :=
  if (s.link g).series ≠ 0 ∧ ¬ (s.link g).inSeries s.now then (s.modLink g fun l => { l with series := 0 }).countUpset 3 g else s

/-- The fault log entry of an alert (R265, Table 14-3). -/
def State.logAlert (s : State) (g code : Nat) : State := s.logEntry 9 3 g 0 0 0 code

/-- A forced refresh starts on link i of a bridge (R292): the first switch off 28 ns and its `FALL` after the latch, the
second on `DT2` later, for `BOOT_W`. -/
def State.forceRefresh (s : State) (b g i : Nat) : State :=
  let w := s.pwm b
  let off := s.now + safeLag + vget w.fall1 i
  let on := off + vget w.dt2 i
  let s := s.modLink g fun l => { l with
    refreshEnd := some (on + w.bootW), series := l.series + 1, refreshes := satCount (l.refreshes + 1), want := l.gon }
  s.modPwm b fun w => { w with
    edges := w.edges ++ [{ at_ := off, link := i, second := false, on := false, boot := true, forced := true },
                         { at_ := on, link := i, second := true, on := true, boot := true, forced := true }] }

/-- BOOT_LOW (R292 to R294): a forced refresh on a selected link of a switching bridge; a repeat after the third of a
series retires the link. -/
def evBootLow (g : Fin 24) (s : State) : State :=
  let s := (s.linkNow g).closeSeries g
  match s.ownerOf g with
  | none => s.logAlert g 8
  | some b =>
    let i := s.linkIndex b g
    if (s.bridge b).state.switching ∧ (s.pwm b).bootMask.getLsbD i then
      if (s.link g).refreshEnd.isSome then s
      else if 3 ≤ (s.link g).series then s.permanent 3 g
      else s.forceRefresh b g i
    else s.logAlert g 8

/-- FORCED_REFRESH_END (R293): the 50 µs after a forced refresh end without a repeat. -/
def evForcedRefreshEnd (g : Fin 24) (s : State) : State :=
  let l := s.link g
  match (match l.refreshEnd with | some e => some e | none => l.lastRefresh) with
  | some e =>
    if l.series = 0 then s
    else (((s.advanceTo (e + usSteps 50)).linkNow g).modLink g fun l => { l with series := 0 }).countUpset 3 g
  | none => s

/-- ALERT_SYMBOL (R263, R265, Table 06-7): the group after an ALERT break. -/
def evAlertSymbol (g : Fin 24) (group : BitVec 5) (s : State) : State :=
  match nibbleOf group with
  | some 8 => evBootLow g s
  | some n => if 9 ≤ n ∧ n ≤ 11 then s.logAlert g n else s
  | none => s

/-! ### Uplink frames (R258 to R262, R279) -/

/-- A valid frame within 20 µs ends a retry that waits for one; after a missing STATUS it takes a STATUS, which shows the
uplink live again (Table 06-12). -/
def State.frameOk (s : State) (g : Nat) (isStatus : Bool) : State :=
  let ends : Bool := match (s.link g).retry with
    | some (needsStatus, t) => (isStatus || !needsStatus) && decide (s.now ≤ t + usSteps 20)
    | none => false
  let s := s.modLink g fun l => if l.state = .retired then l else
    { l with uplink := l.uplink || isStatus, retry := if ends then none else l.retry }
  if ends ∧ (s.chan 3 g).state = .retrying then s.countUpset 3 g else s

/-- UPLINK_FRAME_DISCARD (R258, R279): the groups of a frame, from SOF to its end or to the break that cuts it; groups that
make a valid frame are no discard. -/
def evUplinkFrameDiscard (f : UplinkFrame) (s : State) : State :=
  let g := f.link.val
  if (s.link g).state = .retired ∨ (uplinkFrame f.groups).isSome then s
  else
    (s.modLink g fun l => { l with
      discarded := satCount (l.discarded + 1), retry := some ((l.retry.getD (false, 0)).1, s.now) }).detect 3 g

/-- STATUS_TIMEOUT (R279): no valid STATUS for 200 µs; the receiver is reset and STATREQ sent. -/
def evStatusTimeout (g : Fin 24) (s : State) : State :=
  if (s.link g).state = .live then
    ((s.modLink g fun l => { l with uplink := false, retry := some (true, s.now) }).sendDown g statreqType []).detect 3 g
  else s

/-- STATUS_FRAME (R261). -/
def evStatusFrame (g : Fin 24) (supply temp status : Byte) (s : State) : State :=
  let s := s.frameOk g true
  let s := s.modLink g fun l => { l with
    status := some { supply := supply, temp := temp, status := status, at_ := s.now, afterFall := true } }
  s.closeSeries g

/-! ### Adaptation (R295 to R297) -/

/-- Target plateau of an edge in 2 ns steps (R295). -/
def State.plateauTarget (s : State) (g : Nat) (off : Bool) : Rat :=
  let a := (s.link g).adapt
  let tpl : Rat := if off then a.tplOff else a.tplOn
  let v : Option Q15 := match s.ownerOf g with
    | some b => match (s.bridge b).defn with
      | some d => d.vdcSlot.map fun n => (s.slot n).out.value
      | none => none
    | none => none
  match v with
  | some x => tpl * (x.toInt : Rat) / (a.vref.toInt : Rat)
  | none => tpl

/-- The weak time after an update (R296): the new time and whether the outer clamp bit. -/
def adaptStep (mil : Nat) (target mean : Rat) (step lo hi : Nat) : Nat × Bool :=
  let want : Int := (mil : Int) + limitI (roundR ((target - mean) / 2)) (-(step : Int)) step
  let got := limitI want lo hi
  (got.toNat, got ≠ want)

/-- The edge that a report is about may not enter the mean (R297): it is part of a refresh, or the switch's next edge came
too soon. A report is about the latest edge of its kind (DESIGN CHOICE, log 79). -/
def GateLink.edgeUnfit (l : GateLink) (k : Nat) : Bool :=
  l.refreshEnd.isSome || match vget l.notes k with | some n => n.boot || n.cut | none => false

/-- EDGE_FRAME (R262, R296, R297). -/
def evEdgeFrame (g : Fin 24) (second off : Bool) (entry exit : BitVec 12) (s : State) : State :=
  let s := (s.frameOk g false).linkNow g
  let k := 2 * bit second + bit off
  let l := s.link g
  let s := s.modLink g fun l => { l with plEntry := vset l.plEntry k entry.toNat }
  let running : Bool := match s.ownerOf g with | some b => (s.bridge b).state.switching | none => false
  if ¬ l.adapt.en.getLsbD k ∨ running = false ∨ entry = 0xFFF ∨ exit = 0xFFF ∨ l.edgeUnfit k then s
  else
    let n := vget l.plCount k + 1
    let sum := vget l.plSum k + (exit.toNat - entry.toNat)
    let miss := vget l.profile.pre k + vget l.profile.mil k < entry.toNat
    let s := s.modLink g fun l => { l with weakMiss := l.weakMiss || miss }
    if n < l.adapt.n then s.modLink g fun l => { l with plCount := vset l.plCount k n, plSum := vset l.plSum k sum }
    else
      let (mil, hit) := adaptStep (vget l.profile.mil k) (s.plateauTarget g off) ((sum : Rat) / n)
        l.adapt.step l.adapt.milMin l.adapt.milMax
      s.modLink g fun l => { l with
        plCount := vset l.plCount k 0, plSum := vset l.plSum k 0, plMean := vset l.plMean k (roundDiv (4 * sum) n).toNat,
        milNext := vset l.milNext k (some mil), adaptLimit := l.adaptLimit || hit }

/-! ### Acknowledgements (R267, R279) -/

/-- The downloaded record is in force in the booster. -/
def State.commitRecord (s : State) (g : Nat) : State := s.modLink g fun l => { l with fallback := l.fbNext }

/-- A commit is acknowledged: every staged register is in force (R267). -/
def State.ackDone (s : State) (g : Nat) (why : AckFor) : State :=
  let s := s.commitRecord g
  match why with
  | .train _ => s
  | .pattern _ => s
  | .again _ => s
  | .profile t p => (s.modLink g fun l => { l with profile := p, milNext := Vector.replicate 4 none }).ends t .done
  | .write t _ _ => s.ends t .done
  | .read _ _ => s
  | .setRole b =>
    let s := s.modB b fun br => { br with setRole := br.setRole.map fun w => { w with need := w.need.filter (· ≠ g) } }
    match (s.bridge b).setRole with | some w => if w.need = [] then s.doneSetRole b else s | none => s
  | .recover b =>
    let s := s.modB b fun br => { br with recover := br.recover.map fun w => { w with need := w.need.filter (· ≠ g) } }
    match (s.bridge b).recover with | some w => if w.need = [] then s.doneRecover b else s | none => s

/-- What waited for a commit that is refused or not acknowledged in time ends (R28, R43, R255, R303). -/
def State.ackFailed (s : State) (why : AckFor) : State :=
  match why with
  | .profile t _ => s.ends t .timedOut
  | .write t _ _ => s.ends t .timedOut
  | .read t _ => s.ends t .timedOut
  | .setRole b => s.undoSetRole b .timedOut
  | .recover b => s.failRecover b
  | _ => s

def AckFor.isRead : AckFor → Bool | .read _ _ => true | _ => false
def AckFor.isPattern : AckFor → Bool | .pattern _ => true | _ => false

/-- The writes that a failed commit's retry repeats (Table 06-12): for `GATE_PROFILE` the previous values (R255). -/
def GateLink.retryWrites (l : GateLink) (why : AckFor) : List (Byte × Byte) :=
  match why with
  | .profile _ _ => l.profile.writes
  | .write _ a d => [(a, d)]
  | .again ws => ws
  | _ => fallbackWrites l.fbNext

/-- A commit was refused or not acknowledged (R267, R279): an upset whose retry repeats the writes and the commit; the retry
of an upset that runs has failed. A download that the outcome itself repeats is that retry. -/
def State.commitFailed (s : State) (g : Nat) (a : AckFor × Nat × Bool) : State :=
  let s := if a.2.2 then s.runFailed 3 g else s.detect 3 g
  let l := s.link g
  let s := s.ackFailed a.1
  if (s.link g).state = .retired ∨ s.ownerOf g = none ∨ ((s.link g).state ≠ .live ∧ (s.link g).state ≠ .training) then s
  else if (s.link g).acks.any fun x => x.1.isPattern ∧ ¬ l.acks.contains x then
    s.modLink g fun l => { l with acks := l.acks.map fun x => if x.1.isPattern then (x.1, x.2.1, true) else x }
  else
    let ws := l.retryWrites a.1
    s.commitTo g ws (match a.1 with | .pattern b => .pattern b | _ => .again ws) true

/-- ACK_FRAME (R267): result 0x00 committed, anything else refused; it answers the oldest commit. -/
def evAckFrame (g : Fin 24) (result : Byte) (s : State) : State :=
  let s := s.frameOk g false
  match (s.link g).acks.find? (fun a => !a.1.isRead) with
  | none => s
  | some a =>
    let s := s.modLink g fun l => { l with acks := l.acks.erase a }
    if result = 0 then
      let s := if a.2.2 ∧ (s.chan 3 g).state = .retrying then s.countUpset 3 g else s
      s.ackDone g a.1
    else s.commitFailed g a

/-- COMMIT_ACK_TIMEOUT (R267, R279, R303): the oldest awaited answer is given up. -/
def evCommitAckTimeout (g : Fin 24) (s : State) : State :=
  match (s.link g).acks with
  | [] => s
  | a :: _ =>
    let s := (s.advanceTo a.2.1).modLink g fun l => { l with acks := l.acks.erase a }
    if a.1.isRead then s.ackFailed a.1 else s.commitFailed g a

/-- READ_DATA_FRAME (R303). -/
def evReadDataFrame (g : Fin 24) (addr data : Byte) (s : State) : State :=
  let s := s.frameOk g false
  match (s.link g).acks.find? (fun a => match a.1 with | .read _ x => x = addr | _ => false) with
  | some (why, rest) =>
    let s := s.modLink g fun l => { l with acks := l.acks.erase (why, rest) }
    match why with
    | .read t _ => s.answer t { r0 := word [(data.toNat, 0)] }
    | _ => s
  | none => s

/-- The frames of a training (R278 steps 3 and 4): the reads of `ID` and `CAPS`, then, for a booster of class 1, the fallback
record, the five booster fields and the commit. -/
def State.trainFrames (s : State) (g : Nat) (ident : Byte) : State :=
  let s := (s.sendDown g readType [0x00]).sendDown g readType [0x01]
  if ident.toNat / 16 = 1 then
    s.modLink g fun l => l.sendWrites (s.ownOf g) (fallbackWrites l.fbNext ++ l.profile.writes)
  else s

/-- TRAINING_COMPLETE (R278): training succeeds with an identity of class 1, in the duplex service with a dual input, and
with the commit acknowledged; a link retrained outside `BRIDGE_ARM` (15 R644) that fails stays down (DESIGN CHOICE, log 55). -/
def evTrainingComplete (g : Fin 24) (ident caps : Byte) (acked : Bool) (s : State) : State :=
  match s.ownerOf g with
  | none => s
  | some b =>
    let s := if (s.link g).state = .training then s.trainFrames g ident else s
    match (s.bridge b).arming with
    | none =>
      if (s.link g).state ≠ .training then s
      else if ident.toNat / 16 ≠ 1 ∨ ¬ acked ∨ (s.duplexed b ∧ ¬ caps.getLsbD 0) then s.modLink g fun l => { l with state := .down }
      else
        (s.modLink g fun l => { l with
          state := .live, uplink := true, downlink := true, ident := ident, caps := caps }).commitRecord g
    | some w =>
      if (s.link g).state ≠ .training then s
      else if ident.toNat / 16 ≠ 1 ∨ ¬ acked ∨ (s.duplexed b ∧ ¬ caps.getLsbD 0) then s.failArm b
      else
        let s := (s.modLink g fun l => { l with
          state := .live, uplink := true, downlink := true, ident := ident, caps := caps }).commitRecord g
        let s := s.modB b fun br => { br with arming := some { w with need := w.need.filter (· ≠ g.val) } }
        if w.need.filter (· ≠ g.val) = [] then s.doneArm b else s

/-! ### Clearing (R245, R299 to R301) -/

/-- The codes of a link's latches: those latched, a break without its code as unknown, and DESAT codes held. -/
def GateLink.latchedCodes (l : GateLink) : List Nat :=
  numbers 8 fun k => l.codes.getLsbD k || (decide (k = 7) && l.breakAt.isSome) || (decide (k < 2) && vget l.heldDesat k)

/-- A latched gate-link cause is inactive at the rising edge (R299). -/
def GateLink.codeInactive (l : GateLink) (k : Nat) : Bool :=
  l.uplink && match l.status with
    | some st => st.afterFall && (decide (5 ≤ k) || !st.status.getLsbD k)
    | none => false

/-- The condition of a trip source is absent (R245). -/
def State.tripInactive (s : State) (k : Nat) : Bool :=
  let t := s.trip k
  if k < 8 then t.pin != t.pol
  else !(s.slotRetired t.slot) && decide (t.lo.toInt ≤ (s.slot t.slot).out.value.toInt)
    && decide ((s.slot t.slot).out.value.toInt ≤ t.hi.toInt)

/-- The first latched cause of a bridge that is still active, as its cause code. -/
def State.activeCause (s : State) (b : Nat) : Option Nat :=
  match (bitsOf 16 (s.pwm b).trips.toNat).find? fun k => !s.tripInactive k with
  | some k => some (0x0400 + k)
  | none =>
    ((s.linksOf b).flatMap fun g => ((s.link g).latchedCodes.filter fun k =>
      !(s.link g).codeInactive k).map fun k => codeCause k g).head?

/-- The decision of one bridge at the rising edge of SAFE_EN (R245, R290, R300, R301): its latches clear together and CLEAR
goes to its boosters, or the clear is refused. -/
def State.clearBridge (s : State) (b : Nat) : State :=
  if ¬ s.faultLatched b then s
  else
    match s.activeCause b with
    | some c =>
      (s.modPwm b fun w => { w with clearRefused := satCount (w.clearRefused + 1) }).logEntry 4 0xFF b c 0 0 0
    | none =>
      let s := s.modPwm b fun w => { w with trips := 0 }
      let s := s.forEach (s.linksOf b) fun s g =>
        (s.modLink g fun l => { l with codes := 0, breakAt := none, heldDesat := Vector.replicate 2 false }).sendDown g clearType []
      let s := s.modB b fun br => { br with patternWait := false }
      if (s.bridge b).state = .safe ∨ (s.bridge b).state = .retired then s.repattern b 0
      else s.modB b fun br => { br with applied := none, degraded := false }

/-! ### Packets (R254, R255, R298, R302 to R305) -/

/-- A `GATE_PROFILE`, if every field is in range (Table 06-2). -/
def parseProfile (p : Pkt) : Option Profile :=
  let pr (k : Nat) := prm16 p (4 * k)
  let ml (k : Nat) := prm16 p (4 * k + 2)
  if ((List.range 4).all fun k => pr k ≤ 511 ∧ ml k ≤ 2047) ∧ 5 ≤ prm p 16 ∧ 5 ≤ prm p 17 ∧ prm p 18 ≤ 50 ∧ prmZero p 21 19 then
    some { pre := Vector.ofFn fun k => pr k.val, mil := Vector.ofFn fun k => ml k.val, blank1 := prm p 16,
           blank2 := prm p 17, dsfilt := prm p 18, bootTh := prm p 19, telDiv := prm p 20 }
  else none

/-- State of the bridge that owns a gate link; OFFLINE for none (R302). -/
def State.ownerState (s : State) (g : Nat) : BState := match s.ownerOf g with | some b => (s.bridge b).state | none => .offline

/-- GATE_PROFILE (R253 to R255). -/
def effGateProfile (t : Ticket) (p : Pkt) (s : State) : State :=
  let g := p.target.toNat
  match parseProfile p with
  | none => s.ends t .badField
  | some f =>
    if s.ownerState g = .armed then
      s.commitTo g f.writes (.profile t f) false
    else (s.modLink g fun l => { l with profile := f, milNext := Vector.replicate 4 none }).ends t .done

/-- GATE_ADAPT (R295 to R298). -/
def effGateAdapt (t : Ticket) (p : Pkt) (s : State) : State :=
  let g := p.target.toNat
  let ok := prm p 0 ≤ 15 ∧ 1 ≤ prm p 1 ∧ prm p 1 ≤ 64 ∧ 1 ≤ prm16 p 2 ∧ prm16 p 2 ≤ 4095 ∧ 1 ≤ prm16 p 4 ∧ prm16 p 4 ≤ 4095
    ∧ 1 ≤ prm16 p 6 ∧ prm16 p 6 ≤ 0x7FFF ∧ 1 ≤ prm p 8 ∧ prm p 8 ≤ 16 ∧ prm p 9 = 0 ∧ prm16 p 10 ≤ 2047
    ∧ prm16 p 10 ≤ prm16 p 12 ∧ prm16 p 12 ≤ 2047 ∧ prmZero p 14 26
  if ¬ ok ∨ ((s.link g).profile.telDiv = 0 ∧ prm p 0 ≠ 0) then s.ends t .badField
  else
    (s.modLink g fun l => { l with
      adapt := { en := BitVec.ofNat 4 (prm p 0), n := prm p 1, tplOn := prm16 p 2, tplOff := prm16 p 4, vref := prmQ p 6,
                 step := prm p 8, milMin := prm16 p 10, milMax := prm16 p 12 },
      plCount := Vector.replicate 4 0, plSum := Vector.replicate 4 0 }).ends t .done

def LinkState.code : LinkState → Nat | .unassigned => 0 | .down => 1 | .training => 2 | .live => 3 | .retired => 4

/-- The result words of `GATE_STATUS`, selectors 0 to 2 (Table 06-18). -/
def State.gateWords (s : State) (g sel : Nat) : Word × Word :=
  let l := s.link g
  match sel with
  | 0 =>
    let fb := match l.status with | some st => st.status.getLsbD 6 | none => false
    (word [(l.state.code, 0), (bit l.uplink, 4), (bit fb, 5), (bit l.blankViol, 6), (bit l.weakMiss, 7), (bit l.adaptLimit, 8),
           (bit (l.inSeries s.now), 9), (l.codes.toNat, 16), (sat8 (s.chan 3 g).bucket, 24)],
     word [(l.discarded, 0), (l.refreshes, 16)])
  | 1 =>
    (word [(vget l.profile.mil 0, 0), (vget l.profile.mil 1, 16)], word [(vget l.profile.mil 2, 0), (vget l.profile.mil 3, 16)])
  | _ =>
    match s.ownerOf g with
    | none => (0, 0)
    | some b =>
      let br := s.bridge b
      let pat := if br.state = .safe then (match br.applied with | some x => x.code + 1 | none => 1) else 0
      let mask (k : Nat) := (s.linksOf b).zipIdx.foldl (fun a p => if (s.link p.1).faulted k then a + 2 ^ p.2 else a) 0
      (word [(bit br.degraded, 0), (pat, 1)], word [(mask 0, 0), (mask 1, 16)])

/-- GATE_STATUS (R304). -/
def effGateStatus (t : Ticket) (p : Pkt) (s : State) : State :=
  let g := p.target.toNat
  if 2 < prm p 0 then s.ends t .badField
  else
    let w := s.gateWords g (prm p 0)
    let s := if prm p 0 = 0 then s.modLink g fun l => { l with blankViol := false, weakMiss := false, adaptLimit := false } else s
    s.answer t { r0 := w.1, r1 := w.2 }

/-- GATE_TELEM (R305). -/
def effGateTelem (t : Ticket) (p : Pkt) (s : State) : State :=
  let l := s.link p.target.toNat
  if 3 < prm p 0 then s.ends t .badField
  else
    let (v, c, age) := match l.status with
      | some st => (st.supply.toNat, st.temp.toNat, satCount ((s.now - st.at_) / 8000))
      | none => (0, 0, 0xFFFF)
    let k := 2 * (prm p 0 % 2) + prm p 0 / 2
    s.answer t { r0 := word [(v, 0), (c, 8), (age, 16)],
                 r1 := word [(satCount (vget l.plMean k), 0), (vget l.plEntry k, 16)] }

/-- GATE_BOOSTER_RW (R303). -/
def effGateBoosterRw (t : Ticket) (p : Pkt) (s : State) : State :=
  let g := p.target.toNat
  if 1 < prm p 0 ∨ prm p 1 < 0x40 ∨ 0x7F < prm p 1 then s.ends t .badField
  else
    let a : Byte := BitVec.ofNat 8 (prm p 1)
    let d : Byte := BitVec.ofNat 8 (prm p 2)
    if prm p 0 = 1 then s.commitTo g [(a, d)] (.write t a d) false
    else (s.sendDown g readType [a]).modLink g fun l => { l with acks := l.acks ++ [(.read t a, s.now + msSteps 1, false)] }

end Sys2Proof.Machine
end

