-- ==== Sys2Proof/Machine/Pwm.lean ====
section
/-! DEFINITION. PWM generators (05): the class PWM, carrier events with their commits, and trip sources. -/

namespace Sys2Proof.Machine

/-! ### Checks (R219, R225, R235) -/

/-- Largest dead time of the bridge's first n gate links. -/
def maxDt (dt1 dt2 : Vector Nat 12) (n : Nat) : Nat :=
  (List.range n).foldl (fun a g => max a (max (vget dt1 g) (vget dt2 g))) 0

/-- Minimum pulses and dead times fit the period T (R219, R225). -/
def pulsesFit (tmin : Nat) (dt1 dt2 : Vector Nat 12) (n t : Nat) : Bool := decide (4 * tmin + 2 * maxDt dt1 dt2 n ≤ t)

/-- The bootstrap fit condition (R235). -/
def bootFits (mask w : Nat) (dt1 dt2 : Vector Nat 12) (t : Nat) : Bool :=
  (bitsOf 12 mask).all fun g => decide (2 * (w + vget dt1 g + vget dt2 g) ≤ t)

/-- The rate of a bound loop context matches the bridge's carrier (R167, R219). -/
def State.rateKept (s : State) (b : Nat) : Bool :=
  match (s.bridge b).lc with
  | some k =>
    !(s.lc k).resident || decide ((s.lc k).fs * eventSpacing (s.carrierT b) (s.lc k).sampleEv (s.lc k).sampleDiv = 8000000000)
  | none => true

/-- A `PWM_CARRIER` payload, if every field is in range (Table 05-1). -/
def parseCarrier (bs : List Byte) (legs : Nat) : Option Carrier :=
  if 40000 ≤ le bs 0 4 ∧ le bs 0 4 ≤ 4000000 ∧ byteAt bs 6 ≤ 2 ∧ byteAt bs 7 = 0 ∧ le bs 8 4 ≤ 80000
      ∧ (List.range 6).all (fun l => decide (l < legs) || decide (le bs (12 + 2 * l) 2 = 0)) ∧ zeros bs 24 40 then
    some { per := le bs 0 4, phase := le bs 4 2, commit := byteAt bs 6, tmin := le bs 8 4,
           legPhase := Vector.ofFn fun l : Fin 6 => le bs (12 + 2 * l.val) 2 }
  else none

def State.legCount (s : State) (b : Nat) : Nat := match (s.bridge b).defn with | some d => d.legs.length | none => 0

/-! ### Packets -/

/-- A write of `PER` into the shadow group, marked, as a request to commit (R229). -/
def Shadow.writePer (h : Shadow) (per now : Nat) : Shadow :=
  { h with per := some per, after := Vector.replicate 12 false, requested := some (h.requested.getD now) }

/-- PWM_CARRIER (R219, R330, R335, R600, R724). -/
def effPwmCarrier (t : Ticket) (p : Pkt) (s : State) : State :=
  let b := p.target.toNat
  let w := s.pwm b
  match parseCarrier p.payload (s.legCount b) with
  | none => s.ends t .badField
  | some c =>
    let s1 := s.modPwm b fun w => { w with perCfg := c.per }
    if ¬ pulsesFit c.tmin w.dt1 w.dt2 (s.linksOf b).length (2 * c.per) ∨ ¬ bootFits w.bootMask.toNat w.bootW w.dt1 w.dt2 (2 * c.per)
        ∨ ¬ s1.sourceOk b ∨ ¬ s1.mirrorFits then s.ends t .badField
    else if ¬ s1.pugFits then s.answer t { status := .badField, r0 := s1.pugNeed }
    else if (s.bridge b).state = .armed then
      if ¬ s1.rateKept b then s.ends t .stateRefused
      else s1.modPwm b fun w => { w with carNext := w.carNext ++ [(t, c)], shadow := w.shadow.writePer c.per s.now }
    else (s1.modPwm b fun w => { w with carrier := some c }).ends t .done

/-- PWM_EDGES (R224, R225). -/
def effPwmEdges (t : Ticket) (p : Pkt) (s : State) : State :=
  let b := p.target.toNat
  let w := s.pwm b
  let n := (s.linksOf b).length
  let f (g k : Nat) := le p.payload (8 * g + 2 * k) 2
  let v (k : Nat) : Vector Nat 12 := Vector.ofFn fun g : Fin 12 => f g.val k
  let ok := (List.range 12).all fun g =>
    if g < n then decide (f g 0 ≤ 64000 ∧ f g 1 ≤ 64000 ∧ f g 2 ≤ 8000 ∧ f g 3 ≤ 8000) else zeros p.payload (8 * g) 8
  let fits : Bool := match w.carrier with
    | some c => pulsesFit c.tmin (v 0) (v 1) n (s.carrierT b) && bootFits w.bootMask.toNat w.bootW (v 0) (v 1) (s.carrierT b)
    | none => true
  if ¬ (ok ∧ zeros p.payload 96 32 ∧ fits) then s.ends t .badField
  else (s.modPwm b fun w => { w with dt1 := v 0, dt2 := v 1, fall1 := v 2, fall2 := v 3 }).ends t .done

/-- PWM_PERIOD (R232, R233). -/
def effPwmPeriod (t : Ticket) (p : Pkt) (s : State) : State :=
  let b := p.target.toNat
  let per := prm32 p 0
  if per < (s.pwm b).perCfg ∨ 4000000 < per ∨ 1 < prm p 4 ∨ ¬ prmZero p 5 35 then s.ends t .badField
  else if s.role b = some .form then s.ends t .stateRefused
  else if prm p 4 = 0 then
    s.modPwm b fun w => { w with perNext := w.perNext ++ [(t, per, false)], shadow := w.shadow.writePer per s.now }
  else s.modPwm b fun w => { w with perSync := w.perSync ++ [(t, per)] }

/-- PWM_BOOT (R234, R235). -/
def effPwmBoot (t : Ticket) (p : Pkt) (s : State) : State :=
  let b := p.target.toNat
  let w := s.pwm b
  let mask := prm16 p 0
  let width := prm32 p 4
  let named := (s.linksOf b).zipIdx.filter fun g => mask.testBit g.2
  let ok := decide (1 ≤ prm p 2 ∧ prm p 2 ≤ 64) && decide ((w.carrier.map (·.tmin)).getD 0 ≤ width) && decide (width ≤ 80000)
    && decide (mask < 2 ^ (s.linksOf b).length)
    && named.all (fun g => match s.legOf b g.1 with | some l => decide (l.kind = 0) | none => true)
    && (w.carrier.isNone || bootFits mask width w.dt1 w.dt2 (s.carrierT b))
  if prm p 3 ≠ 0 ∨ ¬ prmZero p 8 32 ∨ (mask ≠ 0 ∧ ¬ ok) then s.ends t .badField
  else (s.modPwm b fun w => { w with bootMask := BitVec.ofNat 16 mask, bootN := prm p 2, bootW := width }).ends t .done

/-- Valid outputs in a row, newest first, above `HI` or below `LO` (Table 05-9). -/
def runOutside (hi lo : Q15) (vs : List Q15) : Nat :=
  (vs.takeWhile fun (v : Q15) => decide (hi.toInt < v.toInt) || decide (v.toInt < lo.toInt)).length

/-- PWM_TRIP_CONFIG (R240 to R242). -/
def effPwmTripConfig (t : Ticket) (p : Pkt) (s : State) : State :=
  let k := p.target.toNat
  let old := s.trip k
  let bm := prm p 3
  let fields :=
    if k < 8 then decide (prm p 1 ≤ 1) && prmZero p 4 6
    else decide (prm p 1 = 0 ∧ 1 ≤ prm p 2 ∧ prm p 2 ≤ 8 ∧ prm16 p 4 < 48 ∧ (prmQ p 8).toInt < (prmQ p 6).toInt)
  if 1 < prm p 0 ∨ fields = false ∨ ¬ prmZero p 10 30 then s.ends t .badField
  else if 2 ^ s.fitBridges ≤ bm then s.ends t .unitAbsent
  else if 8 ≤ k ∧ s.slotRetired (prm16 p 4) then s.ends t .unitRetired
  else if (numbers s.fitBridges fun b => old.bmask.getLsbD b || bm.testBit b).any fun b =>
      (s.bridge b).state ≠ .offline && (s.bridge b).state ≠ .armed then s.ends t .stateRefused
  else
    let s := s.modTrip k fun o => { o with
      en := decide (prm p 0 = 1), pol := decide (prm p 1 = 1), filt := prm p 2, bmask := BitVec.ofNat 8 bm, slot := prm16 p 4,
      hi := prmQ p 6, lo := prmQ p 8, active := false,
      count := if k < 8 then 0 else runOutside (prmQ p 6) (prmQ p 8) (s.slot (prm16 p 4)).recent }
    let s := s.ends t .done
    if (s.trip k).en ∧ s.tripMet k then s.tripActive k else s

/-- Result words of `PWM_STATUS` (Table 05-13). -/
def State.pwmWords (s : State) (b sel : Nat) : Word × Word :=
  let w := s.pwm b
  if sel = 0 then
    (word [(bit w.pdMismatch, 0), (bit w.lock, 1), (bit (w.bootMask ≠ 0), 2), (bit (w.trips ≠ 0), 3), (w.trips.toNat, 16)],
     word [(w.pulses, 0), (w.mismatch, 16)])
  else
    (word [(w.activePer, 0)],
     word [(w.clearRefused, 0), ((ofQ (sat16 w.errSteps)).toNat, 16)])

/-- PWM_STATUS (R248). -/
def effPwmStatus (t : Ticket) (p : Pkt) (s : State) : State :=
  let b := p.target.toNat
  if 1 < prm p 0 then s.ends t .badField
  else
    let w := s.pwmWords b (prm p 0)
    (if prm p 0 = 0 then s.modPwm b fun w => { w with pdMismatch := false } else s).answer t { r0 := w.1, r1 := w.2 }

/-! ### From leg commands to the shadow group (R221, R222, R228, R229) -/

/-- The compare of a duty of d/65,536 (R221). -/
def compareOf (d per : Nat) : Nat := (roundDiv (d * per) 65536).toNat

/-- The compares of a leg command c: of GL_A, and of GL_B of a three-level leg (Table 05-2). -/
def legCompares (kind : Nat) (c : Q15) (per : Nat) : Nat × Nat :=
  if kind = 0 then (compareOf (c.toInt + 32768).toNat per, 0)
  else (compareOf (2 * max c.toInt 0).toNat per, compareOf (2 * (32768 + min c.toInt 0)).toNat per)

/-- Compares written at an index of Table 05-3. -/
def Shadow.writeCmp (h : Shadow) (i v : Nat) : Shadow :=
  { h with cmp := vset h.cmp i (some v), after := vset h.after i true }

/-- A loop context's commit: compares of every leg and a request (R229). -/
def State.commitLegs (s : State) (b : Nat) (cmds : Vector Q15 6) : State :=
  match (s.bridge b).defn with
  | none => s
  | some d =>
    let per := (s.pwm b).shadow.per.getD (s.pwm b).activePer
    s.modPwm b fun w =>
      let h := d.legs.zipIdx.foldl (fun (h : Shadow) l =>
        let c := legCompares l.1.kind (vget cmds l.2) per
        let h := h.writeCmp (d.links.idxOf l.1.glA) c.1
        match l.1.glB with | some g => h.writeCmp (d.links.idxOf g) c.2 | none => h) w.shadow
      { w with shadow := { h with requested := some (w.shadow.requested.getD s.now) } }

/-! ### Pulses (R224, R226, R236) -/

def PwmGen.tmin (w : PwmGen) : Nat := match w.carrier with | some c => c.tmin | none => 0

/-- From an ideal instant to the on edge of the first (true) or second switch, and to the off edge of a switch (R224). -/
def PwmGen.onDelay (w : PwmGen) (i : Nat) (first : Bool) : Nat :=
  if first then vget w.fall2 i + vget w.dt1 i else vget w.fall1 i + vget w.dt2 i
def PwmGen.offDelay (w : PwmGen) (i : Nat) (first : Bool) : Nat := if first then vget w.fall1 i else vget w.fall2 i

/-- Edges that hand a gate link over to its first (true) or second switch at an ideal instant (R224); `boot` marks those of
a refresh. -/
def PwmGen.handOver (w : PwmGen) (i z : Nat) (first boot : Bool) : List GonEdge :=
  [{ at_ := z + w.offDelay i (!first), link := i, second := first, on := false, boot },
   { at_ := z + w.onDelay i first, link := i, second := !first, on := true, boot }]

/-- What the judgement of R226 makes of a pulse's width: it stays, it is widened by an amount, or it is suppressed. -/
inductive Pulse where
  | kept
  | widened (by_ : Nat)
  | suppressed
  deriving DecidableEq, Repr

/-- R226, with a pulse of no positive width dropped under a `TMIN` of 0. -/
def PwmGen.judge (w : PwmGen) (width : Int) : Pulse :=
  let t : Int := max 1 w.tmin
  if t ≤ width then .kept
  else if 2 * width < t then .suppressed
  else .widened (t - width).toNat

def Pulse.count : Pulse → Nat | .kept => 0 | _ => 1

/-- One gate link in a half-period of its leg: from x, a valley (`first`) or a peak, to y. -/
structure HalfSpan where
  x : Nat
  y : Nat
  first : Bool
  /-- The compare was committed at x. -/
  fresh : Bool
  /-- A refresh peak of the link lies at x, or at y (R236). -/
  bootX : Bool
  bootY : Bool
  /-- The link's first edge may not come earlier (R223). -/
  hold : Nat
  /-- The GON levels at x. -/
  gon : Vector Bool 2

/-- What a half-period does with a gate link: how the leg stands at its end, the edges, how many pulses R226 changed, and
whether edges of the link still to come are withdrawn. -/
structure HalfStep where
  run : LegRun
  edges : List GonEdge := []
  changed : Nat := 0
  withdraw : Bool := false

/-- The pulse that the event at x centres: the leg stands in it from `r.onAt` on and it ends at an ideal instant, or the
other switch keeps the half-period. -/
structure Present where
  run : LegRun
  inside : Bool
  ended : Nat := 0
  edges : List GonEdge := []
  changed : Nat := 0
  withdraw : Bool := false

/-- The ideal end in this half-period of the pulse that x centres (R221), if its switch does not stay on. -/
def PwmGen.idealEnd (w : PwmGen) (h : HalfSpan) (c : Nat) : Option Nat :=
  if h.first then (if c < w.activePer then some (h.x + c) else none)
  else if 0 < c then some (h.y - min c (h.y - h.x)) else none

/-- The pulse that x centres, not begun before x: it begins there, or stays away (R226). -/
def PwmGen.begin_ (w : PwmGen) (i : Nat) (h : HalfSpan) (r : LegRun) : Present :=
  let rest : Nat × List GonEdge :=
    if r.side.isSome ∨ vget h.gon (bit h.first) then (r.onAt, [])
    else if vget h.gon (bit (!h.first)) then (h.x + w.onDelay i (!h.first), w.handOver i h.x (!h.first) false)
    else (h.x, [{ at_ := h.x, link := i, second := h.first, on := true }])
  let stay : Present := { run := { r with side := some !h.first, onAt := rest.1 }, inside := false, edges := rest.2 }
  let c := r.cmp
  let here := if h.first then decide (0 < c) else decide (c < w.activePer)
  if (!here || (r.drop && !h.fresh)) && !h.bootX then stay
  else
    -- At the start of a run a switch that is on already is in its pulse; with both off the pulse begins at once.
    let on := r.side.isNone && vget h.gon (bit (!h.first))
    let off := r.side.isNone && !vget h.gon 0 && !vget h.gon 1
    let z := max h.x (h.hold - w.offDelay i (!h.first))
    let start := if on then h.x else if off then max h.x h.hold else z + w.onDelay i h.first
    let es : List GonEdge :=
      if on then [] else if off then [{ at_ := start, link := i, second := !h.first, on := true, boot := h.bootX }]
      else w.handOver i z h.first h.bootX
    let run := { r with side := some h.first, onAt := start }
    match w.idealEnd h c with
    | none => { run, inside := true, ended := h.y, edges := es }
    | some e =>
      let width : Int := ((e + w.offDelay i h.first : Nat) : Int) - (start : Nat)
      if h.bootX then
        { run, inside := true, ended := max e (start + w.bootW - w.offDelay i h.first), edges := es }
      else
        match w.judge width with
        | .kept => { run, inside := true, ended := e, edges := es }
        | .widened _ => { run, inside := true, ended := start + w.tmin - w.offDelay i h.first, edges := es, changed := 1 }
        | .suppressed => { stay with changed := 1 }

/-- The pulse that x centres, begun or placed before x: a compare committed at x judges it again (R226), and at a refresh
peak it lasts `BOOT_W` (R236). -/
def PwmGen.continue_ (w : PwmGen) (i : Nat) (h : HalfSpan) (r : LegRun) : Present :=
  match w.idealEnd h r.cmp with
  | none => { run := r, inside := true, ended := h.y }
  | some e =>
    let stay : Present := { run := r, inside := true, ended := e + if h.fresh then 0 else r.grow }
    let width : Int := ((e + w.offDelay i h.first : Nat) : Int) - (r.onAt : Nat)
    let last := r.onAt + w.tmin - w.offDelay i h.first
    if h.bootX then { stay with ended := max stay.ended (r.onAt + w.bootW - w.offDelay i h.first) }
    else if !h.fresh then stay
    else
      match w.judge width with
      | .kept => stay
      | .widened d =>
        -- Before its on edge it grows on both sides, while its partner's off edge has not come either; else forward.
        let off := r.onAt - w.onDelay i h.first + w.offDelay i (!h.first)
        if h.x < r.onAt ∧ h.x < off then
          let z := max h.x (r.onAt - w.onDelay i h.first - d / 2)
          { run := { r with onAt := z + w.onDelay i h.first }, inside := true,
            ended := z + w.onDelay i h.first + w.tmin - w.offDelay i h.first,
            edges := w.handOver i z h.first false, changed := 1, withdraw := true }
        else { stay with ended := last, changed := 1 }
      | .suppressed =>
        if h.x < r.onAt then
          -- Not begun: withdrawn; a partner whose off edge has come goes on again.
          let back : List GonEdge := if vget h.gon (bit h.first) then [] else [{ at_ := h.x, link := i, second := h.first, on := true }]
          { run := { r with side := some !h.first, onAt := if back.isEmpty then r.onAt else h.x }, inside := false, edges := back,
            changed := 1, withdraw := true }
        else { stay with ended := max last e, changed := 1 }

/-- One half-period of a leg for gate link i (R221 to R227, R236): the pulse that x centres ends, and the other switch's, which
y centres, begins; the pulse to come is judged with its end by the present compare. -/
def PwmGen.halfStep (w : PwmGen) (i : Nat) (h : HalfSpan) (r : LegRun) : HalfStep :=
  let p := if r.side = some h.first then w.continue_ i h r else w.begin_ i h r
  let run := { p.run with drop := false, grow := 0 }
  let c := r.cmp
  let next := if h.first then decide (c < w.activePer) else decide (0 < c)
  let stays : HalfStep := { run, edges := p.edges, changed := p.changed, withdraw := p.withdraw }
  if !p.inside then stays
  else
    let z := if next then max p.ended (h.hold - w.offDelay i h.first) else h.y
    let start := z + w.onDelay i (!h.first)
    let rest := if h.first then w.activePer - min c w.activePer else min c w.activePer
    let width : Int := ((h.y + rest + w.offDelay i (!h.first) : Nat) : Int) - (start : Nat)
    let boot := h.bootY && (!next || decide (width < (w.bootW : Nat)))
    if boot then
      let z := h.y - w.bootW / 2 - w.onDelay i (!h.first)
      { stays with run := { run with side := some !h.first, onAt := z + w.onDelay i (!h.first) },
                   edges := p.edges ++ w.handOver i z (!h.first) true }
    else if !next then stays
    else
      match w.judge width with
      | .kept =>
        { stays with run := { run with side := some !h.first, onAt := start }, edges := p.edges ++ w.handOver i z (!h.first) false }
      | .widened d =>
        let z1 := max (z - d / 2) (h.hold - w.offDelay i h.first)
        let start1 := z1 + w.onDelay i (!h.first)
        { stays with run := { run with side := some !h.first, grow := d - (z - z1), onAt := start1 },
                     edges := p.edges ++ w.handOver i z1 (!h.first) false, changed := p.changed + 1 }
      | .suppressed => { stays with run := { run with drop := true }, changed := p.changed + 1 }

/-! ### Carrier events (R212 to R218, R230 to R232, R244, R296, R724) -/

/-- The shadow group transfers to the active group (R230). -/
def PwmGen.transfer (w : PwmGen) : PwmGen :=
  { w with activePer := w.shadow.per.getD w.activePer,
           activeCmp := Vector.ofFn fun i : Fin 12 => (vget w.shadow.cmp i.val).getD (vget w.activeCmp i.val), shadow := {} }

/-- The commit changes `PER` while the compare of some leg is older than that `PER` (R231). -/
def PwmGen.mismatched (w : PwmGen) (links : Nat) : Bool :=
  match w.shadow.per with
  | some p => decide (p ≠ w.activePer) && (List.range links).any fun i => !(vget w.shadow.after i)
  | none => false

/-- Weak times of the adaptation take effect (R296). -/
def GateLink.takeMil (l : GateLink) : GateLink :=
  { l with profile := { l.profile with mil := Vector.ofFn fun k : Fin 4 => (vget l.milNext k.val).getD (vget l.profile.mil k.val) },
           milNext := Vector.replicate 4 none }

/-- The packets that a transferred `PER` answers: `PWM_CARRIER` with its settings, and `PWM_PERIOD` (R232, R724). A trip of
this cycle takes their completions back (R244). -/
def State.answerPer (s : State) (b : Nat) : State :=
  let w := s.pwm b
  let place (t : Ticket) := ((s.qp t.qp).flights.find? (·.id = t.id)).map fun f => (t, f.pkt.index, f.pkt.lap)
  let s := s.modPwm b fun w => { w with
    carrier := match w.carNext.getLast? with | some c => some c.2 | none => w.carrier, carNext := [], perNext := [],
    undo := w.undo.map fun u => { u with
      done := (w.carNext.map (·.1) ++ w.perNext.map (·.1)).filterMap place, ns := s.fineNs } }
  let s := w.carNext.foldl (fun s c => s.doneAt c.1 s.fineNs) s
  w.perNext.foldl (fun s c => s.doneAt c.1 s.fineNs) s

/-- A mismatched commit has changed a pulse (R231): the flag is set and the commit counted. -/
def PwmGen.countMismatch (w : PwmGen) : PwmGen := { w with pdMismatch := true, mismatch := satCount (w.mismatch + 1) }

/-- The shadow group's transfer in one cycle (R230): the group it replaces is kept for R244; a mismatched commit in RUNNING
whose compare is clamped counts at once (R231). -/
def PwmGen.commit (w : PwmGen) (now links : Nat) (drives running : Bool) : PwmGen :=
  let w1 := w.transfer
  let mis := w.mismatched links && running
  let clamped := mis && (List.range links).any fun i => decide (w1.activePer < vget w1.activeCmp i)
  let w2 : PwmGen :=
    { w1 with driving := w1.driving || drives, misNow := if mis then some clamped else none,
              undo := some {
                cycle := now / 32, per := w.activePer, cmp := w.activeCmp, carrier := w.carrier, mismatch := w.mismatch,
                pdMismatch := w.pdMismatch } }
  if clamped then w2.countMismatch else w2

/-- A commit point (R230, R231): a request at least 64 ns old transfers the group. -/
def State.commitPoint (s : State) (b : Nat) : State :=
  let s := s.forEach (s.linksOf b) fun s g => s.modLink g GateLink.takeMil
  let w := s.pwm b
  let s :=
    match w.shadow.requested with
    | some r =>
      if r + 512 ≤ s.now ∧ ¬ w.disabled then
        let s := s.modPwm b fun w => w.commit s.now (s.linksOf b).length
          ((s.bridge b).state.switching && (s.bridge b).start.isNone) (decide ((s.bridge b).state = BState.running))
        if w.shadow.per.isSome then s.answerPer b else s
      else s
    | none => s
  let w := s.pwm b
  match w.perSync.getLast? with
  | some (_, per) => s.modPwm b fun w => { w with
      perNext := w.perNext ++ w.perSync.map (fun (x : Ticket × Nat) => (x.1, x.2, true)), perSync := [],
      shadow := w.shadow.writePer per (s.now + 32) }
  | none => s

/-- The error e of a valley against its placement, in 125 ps steps, positive when late (R215). -/
def placeError (dtb phi t : Nat) : Int :=
  if t = 0 then 0
  else
    let r := (dtb + t - phi % t) % t
    if 2 * r ≤ t then (r : Int) else (r : Int) - t

/-- The part of an error removed in one half-period (R215). -/
def slew (e : Int) (per : Nat) : Int := limitI e (-((per / 1024 : Nat) : Int)) (per / 1024 : Nat)

/-- The generator's own part of a carrier event: the count, the error, the lock and the next event. -/
def PwmGen.turn (w : PwmGen) (now dtb : Nat) : PwmGen :=
  let e := if w.nextPeak then w.errLeft
    else placeError dtb (phaseSteps ((w.carrier.map (·.phase)).getD 0) (2 * w.activePer)) (2 * w.activePer)
  let a := slew e w.activePer
  { w with
    nextAt := now + ((w.activePer : Int) - a).toNat, nextPeak := !w.nextPeak, lastAt := now,
    prevAt := if w.valleys + w.peaks = 0 then none else some w.lastAt,
    valleys := if w.nextPeak then w.valleys else w.valleys + 1, peaks := if w.nextPeak then w.peaks + 1 else w.peaks,
    errSteps := if w.nextPeak then w.errSteps else e, errLeft := e - a,
    lock := if w.nextPeak then w.lock else decide (e.natAbs ≤ 1) }

/-- The half-period of a leg's carrier that the bridge's present event brings (R218): its start, its end, whether it starts
at a valley, and whether it ends at the bridge's next event's copy. -/
def PwmGen.legHalf (w : PwmGen) (l : Nat) (peak : Bool) : Option (Nat × Nat × Bool × Bool) :=
  let phi := phaseSteps ((w.carrier.map fun (c : Carrier) => vget c.legPhase l).getD 0) (2 * w.activePer)
  if phi < w.activePer then some (w.lastAt + phi, w.nextAt + phi, !peak, true)
  else w.prevAt.map fun p => (p + phi, w.lastAt + phi, peak, false)

/-- A link's compare and half-period at the present event; `hold` is the bound of R223. -/
def State.linkHalf (s : State) (b i : Nat) (peak fresh : Bool) (x y : Nat) (valley ahead : Bool) (hold : Nat) (l : GateLink) : LegRun × HalfSpan :=
  let w := s.pwm b
  let r := vget w.legRuns i
  let r1 := if fresh ∧ l.refreshEnd.isNone then { r with cmp := vget w.activeCmp i } else r
  -- Number of the peak that ends a valley's half-period, and of the one that begins a peak's.
  let n := if ahead ∧ ¬ peak then w.runPeaks + 1 else w.runPeaks
  let sel := w.bootMask.getLsbD i && decide (w.bootN ≠ 0 ∧ n ≠ 0 ∧ n % w.bootN = 0)
  (r1, { x, y, first := valley, fresh := fresh && decide (r1.cmp ≠ r.cmp), bootX := sel && !valley, bootY := sel && valley, hold,
         gon := l.gon })

/-- One link's step at the present event. -/
def State.stepLink (s : State) (b i : Nat) (peak fresh : Bool) (x y : Nat) (valley ahead : Bool) (hold : Nat) : HalfStep :=
  let r := vget (s.pwm b).legRuns i
  match (s.linksOf b)[i]? with
  | some g =>
    let l := s.link g
    if l.downlink ∧ (fresh ∨ r.side.isSome) then
      let h := s.linkHalf b i peak fresh x y valley ahead hold l
      (s.pwm b).halfStep i h.2 h.1
    else { run := { r with cmp := if fresh then vget (s.pwm b).activeCmp i else r.cmp, side := none } }
  | none => { run := r }

/-- A link's step joins the generator; a pulse changed under a mismatched commit makes it count once (R231). `ahead` says
that the compare is of the present event's commit, `same` that the event before left it in force. -/
def PwmGen.takeStep (w : PwmGen) (i x : Nat) (h : HalfStep) (ahead same : Bool) : PwmGen :=
  let w1 := { w with legRuns := vset w.legRuns i h.run, pulses := satCount (w.pulses + h.changed),
                     edges := (if h.withdraw then w.edges.filter fun (e : GonEdge) => e.link ≠ i || decide (e.at_ ≤ x) else w.edges) ++ h.edges }
  if h.changed ≠ 0 ∧ (if ahead then w.misNow else w.misPrev) = some false then
    let w2 := w1.countMismatch
    { w2 with misNow := if ahead ∨ same then some true else w2.misNow, misPrev := if ahead ∧ ¬ same then w2.misPrev else some true }
  else w1

/-- When the other gate link of a three-level leg reaches its O position, if it comes there after x (R223): its last on edge
of the half-period. -/
def HalfStep.reaches (h : HalfStep) (x : Nat) (first : Bool) : Option Nat :=
  if h.run.side = some first ∧ x < h.run.onAt then some h.run.onAt else none

/-- The bound of R223: `TMIN` after the other link has reached its O position, or the link's own dead time for a `TMIN`
of 0. -/
def PwmGen.holdOf (w : PwmGen) (i : Nat) (first : Bool) (t : Option Nat) : Nat :=
  match t with
  | some t => t + if w.tmin = 0 then (if first then vget w.dt1 i else vget w.dt2 i) else w.tmin
  | none => 0

/-- The edges that the present event brings to leg l (R218, R221 to R227, R236). -/
def State.stepLeg (s : State) (b : Nat) (peak commits : Bool) (l : Nat × Leg) : State :=
  let w := s.pwm b
  match w.legHalf l.1 peak with
  | none => s
  | some (x, y, valley, ahead) =>
    let commit := (w.carrier.map (·.commit)).getD 0
    let fresh := decide (commit = 2) || (if valley then decide (commit = 0) else decide (commit = 1))
    let a := s.linkIndex b l.2.glA
    let step (i hold : Nat) := s.stepLink b i peak fresh x y valley ahead hold
    match l.2.glB with
    | none => s.modPwm b fun w => w.takeStep a x (step a 0) ahead (!commits)
    | some g =>
      let c := s.linkIndex b g
      -- A command that falls below 0 takes GL_B out of O once GL_A is there, one that rises above 0 GL_A once GL_B is.
      let down := decide (0 < (vget w.legRuns a).cmp) && decide ((step c 0).run.cmp < w.activePer)
      let up := decide ((vget w.legRuns c).cmp < w.activePer) && decide (0 < (step a 0).run.cmp)
      let ha := step a (if up then w.holdOf a true ((step c 0).reaches x true) else 0)
      let hb := step c (if down then w.holdOf c false ((step a 0).reaches x false) else 0)
      s.modPwm b fun w => (w.takeStep a x ha ahead (!commits)).takeStep c x hb ahead (!commits)

/-- The edges of every leg. -/
def State.placeEdges (s : State) (b : Nat) (peak commits : Bool) : State :=
  match (s.bridge b).defn with
  | some d => (d.legs.zipIdx.map fun (l : Leg × Nat) => (l.2, l.1)).foldl (fun (s : State) l => s.stepLeg b peak commits l) s
  | none => s

/-- A group clock meets an instant of its alignment source: the period that ends there is lengthened or shortened by at most
`PERIOD`/8, and what is left stays for the next one (R310). -/
def DsmClock.align_ (c : DsmClock) (t : Nat) : DsmClock :=
  let p : Int := max 1 c.period
  let r := (c.edgeAt - t + p / 2) % p - p / 2
  { c with edgeAt := t + (r - limitI r (-(p / 8)) (p / 8)), err := some r }

/-- The group clocks aligned to a source, at one of its instants. -/
def State.alignClocks (s : State) (src : Nat) : State :=
  { s with dsm := s.dsm.map fun (c : DsmClock) => if c.en ∧ c.align = src then c.align_ s.now else c }

/-- CARRIER_EVENT (R212): the next valley or peak of a bridge's carrier. -/
def evCarrierEvent (b : Fin 8) (s : State) : State :=
  if (s.pwm b).running then
    let s := (s.advanceTo (s.pwm b).nextAt).alignClocks b
    let peak := (s.pwm b).nextPeak
    let s := s.applyEdges b
    let commits := (s.pwm b).nextCommits
    let s := s.modPwm b fun w => { w with misPrev := w.misNow }
    let s := if commits then s.commitPoint b else s
    let s := s.modPwm b fun w => w.turn s.now s.dtbSteps
    let run := (s.bridge b).state.switching && (s.bridge b).start.isNone
    let s := if run then
        let s := s.modPwm b fun w => { w with runPeaks := if peak then w.runPeaks + 1 else w.runPeaks }
        if (s.pwm b).driving then s.placeEdges b peak commits else s
      else s
    if ¬ peak ∧ s.duplexed b ∧ s.dpx.role = .active then s.sendMirror b (s.frozenBridge b) false else s
  else s

/-! ### Trip sources (R239, R242) -/

/-- TRIP_SOURCE_ACTIVE (R242): a pin held its active level for `FILT` ticks, or a comparator completed its count. -/
def evTripSourceActive (src : Fin 16) (s : State) : State :=
  if src.val < 8 then (s.modTrip src fun t => { t with pin := t.pol, active := t.en }).tripActive src
  else if s.tripMet src then s.tripActive src else s

end Sys2Proof.Machine
end

