-- ==== Sys2Proof/Machine/Pug.lean ====
section
/-! DEFINITION. The Pug (07): slot and filter packets, group clocks and timers, frames, outputs and comparators. -/

namespace Sys2Proof.Machine

/-! ### Slot configuration (R335, R342) -/

/-- A `PUG_SLOT_CONFIG` of slot n, if every field is in range (Table 07-8). -/
def parseSlot (p : Pkt) (n : Nat) : Option SlotCfg :=
  let c : SlotCfg := { src := prm p 0, ev := prm p 1, div := prm p 2, d := prm16 p 4, osr := prm16 p 6, clk := prm p 8,
                       edge := prm p 9, nclk := prm16 p 10 }
  let timer := decide (c.src < 8) || decide (c.ev = 0 ∧ c.div = 1)
  let conv := if n < 32 then
      decide (8 ≤ c.osr ∧ c.osr ≤ 256 ∧ c.clk ≤ 1 ∧ c.edge ≤ 1) &&
        (if c.clk = 1 then decide (500 ≤ c.nclk ∧ c.nclk ≤ 2500) else decide (c.nclk = 0))
    else decide (c.osr = 0 ∧ c.clk = 0 ∧ c.edge = 0 ∧ c.nclk = 0)
  if c.src ≤ 9 ∧ c.ev ≤ 2 ∧ 1 ≤ c.div ∧ c.div ≤ 8 ∧ prm p 3 = 0 ∧ 1 ≤ c.d ∧ c.d ≤ 128 ∧ timer = true ∧ conv = true
      ∧ prmZero p 12 28 then some c else none

/-- A pending swap is discarded (R323). -/
def State.dropFir (s : State) (n : Nat) : State :=
  match (s.slot n).swap with
  | some (t, _) => (s.modSlot n fun x => { x with swap := none }).ends t .cancelled
  | none => s

/-- PUG_SLOT_CONFIG (R323, R329, R335, R338). -/
def effPugSlotConfig (t : Ticket) (p : Pkt) (s : State) : State :=
  let n := p.target.toNat
  if s.slotInUse n then s.ends t .stateRefused
  else
    match parseSlot p n with
    | none => s.ends t .badField
    | some c =>
      let s1 := s.modSlot n fun x => { x with
        cfg := c, state := .stopped, bank := Vector.replicate 2 {}, g := 0, next := [], recent := [], hist := [], fresh := 0,
        retry := false, swap := none, out := { x.out with valid := false } }
      if s.fitBridges ≤ c.src ∧ c.src < 8 then s.ends t .unitAbsent
      else if ¬ s.slotTimesOk n c ∨ ¬ s.slotClockOk n c then s.ends t .badField
      else if ¬ s1.pugFits then s.answer t { status := .badField, r0 := s1.pugNeed }
      else
        let s2 := (s.dropFir n).modSlot n fun _ => s1.slot n
        (if s2.srcRuns c.src then s2.startSlot n else s2).ends t .done

/-! ### Filters (R319 to R324) -/

/-- Coefficient i of a bank. -/
def FirBank.tap (b : FirBank) (i : Nat) : Int := signed 16 (cellGet 0 i b.h)

/-- The centroid of R324 in 1/256 input steps. -/
def FirBank.centroid (b : FirBank) (n e : Nat) : Int :=
  let sum := (List.range n).foldl (fun a i => a + b.tap i) 0
  let mom := (List.range n).foldl (fun (a : Int) (i : Nat) => a + (i : Int) * b.tap i) 0
  if sum.natAbs * 2 ^ e < 128 then ((n - 1) * 128 : Nat)
  else if 0 < sum then roundDiv (256 * mom) sum else roundDiv (-(256 * mom)) (-sum)

/-- PUG_FIR_LOAD (R321, with the checks of R168). -/
def effPugFirLoad (t : Ticket) (p : Pkt) (s : State) : State :=
  let n := p.target.toNat
  let first := prm16 p 0
  let count := prm16 p 2
  if count = 0 ∨ 512 < first + count ∨ ¬ prmZero p 4 36 then s.ends t .badField
  else if p.len.toNat ≠ pad64 (2 * count) then s.ends t .badLength
  else if (s.slot n).swap.isSome then s.ends t .busyRetry
  else
    (s.modSlot n fun x => { x with bank := vmod x.bank (other x.active) fun b =>
      { b with h := cellsWrite 0 first (wordsOf p.payload count) b.h } }).ends t .done

/-- PUG_FIR_SWAP (R322, R324, R329, R330). -/
def effPugFirSwap (t : Ticket) (p : Pkt) (s : State) : State :=
  let n := p.target.toNat
  let taps := prm16 p 0
  let e := prm p 2
  let x := s.slot n
  let b := vget x.bank (other x.active)
  let s1 := s.modSlot n fun x => { x with swap := some (t, taps, e, 0) }
  if taps = 0 ∨ 512 < taps ∨ 15 < e ∨ prm p 3 ≠ 0 ∨ ¬ prmZero p 8 32 ∨ prm32 p 4 ≠ bankCrc taps b.h then s.ends t .badField
  else if ¬ s1.pugFits then s.answer t { status := .badField, r0 := s1.pugNeed }
  else if x.swap.isSome then s.ends t .busyRetry
  else
    let s := s.modSlot n fun x => { x with swap := some (t, taps, e, b.centroid taps e), swapAt := s.now }
    if x.state = .sampling then s else s.finishFir n s.dtbNs

/-! ### Group clocks and timers (R309, R310, R312) -/

/-- PUG_DSM_CLOCK (R309). -/
def effPugDsmClock (t : Ticket) (p : Pkt) (s : State) : State :=
  let g := p.target.toNat
  let al := prm p 4
  if 1 < prm p 0 ∨ prm p 1 ≠ 0 ∨ prm16 p 2 < 320 ∨ 1600 < prm16 p 2 ∨ (9 < al ∧ al ≠ 0xFF) ∨ ¬ prmZero p 5 35 then
    s.ends t .badField
  else if s.fitBridges ≤ al ∧ al < 8 then s.ends t .unitAbsent
  else if (List.range 8).any fun k =>
      (s.slot (8 * g + k)).state = .sampling && decide ((s.slot (8 * g + k)).cfg.clk = 0) then s.ends t .stateRefused
  else
    ({ s with dsm := vset s.dsm g { en := decide (prm p 0 = 1), period := prm16 p 2, align := al, edgeAt := s.now } }).ends t .done

/-- `DSM_LOCK` (R310): the alignment source runs, and the edge nearest its newest instant lay within 125 ps of it before the
period was adjusted, as it does only with spacings of whole clock periods (DEDUCED, log 81). -/
def State.dsmLock (s : State) (g : Nat) : Bool :=
  let c := vget s.dsm g
  c.en && decide (c.align < 10) && s.srcRuns c.align && match c.err with | some e => decide (e.natAbs ≤ 1) | none => false

/-- Slots framed by a timer that are in use, retired ones among them (R312, R338). -/
def State.timerInUse (s : State) (k : Nat) : Bool :=
  (numbers 48 fun n => (s.slot n).counts && decide ((s.slot n).cfg.src = 8 + k)).any s.slotInUse

/-- PUG_TIMER (R312, R330, R335). -/
def effPugTimer (t : Ticket) (p : Pkt) (s : State) : State :=
  let k := p.target.toNat
  let en := decide (prm p 0 = 1)
  let per := prm64 p 4
  if s.timerInUse k then s.ends t .stateRefused
  else if 1 < prm p 0 ∨ ¬ prmZero p 1 3 ∨ ¬ prmZero p 14 26 ∨ (en = true ∧ (per < 8000 ∨ 8000000000 < per)) then s.ends t .badField
  else
    let at_ := s.now + s.localSteps (toPlacement s.dtbSteps (phaseSteps (prm16 p 12) per) per)
    let w : PugTimer := if en then { en := true, period := per, phase := prm16 p 12, ticks := 0, nextAt := at_ }
      else { (vget s.pugTimers k) with en := false }
    let s1 := { s with pugTimers := vset s.pugTimers k w }
    if en = true ∧ ¬ s1.sourceOk (8 + k) then s.ends t .badField
    else if en = true ∧ ¬ s1.pugFits then s.answer t { status := .badField, r0 := s1.pugNeed }
    else
      let s1 := s1.slotsStop (8 + k)
      (if en then s1.slotsStart (8 + k) else s1).ends t .done

/-! ### Calibration (R320, Table 16-2) -/

/-- New entries o and g; the ones before stay in force for frames less than 1 µs after the write. -/
def PugSlot.setCal (x : PugSlot) (now : Nat) (o : Q15) (g : Half) : PugSlot :=
  { x with calO := o, calG := g,
           calWas := (x.calWas.filter fun (w : Nat × Q15 × Half) => decide (now < w.1 + usSteps 1)) ++ [(now, x.calO, x.calG)] }

/-- The entries in force for a frame. -/
def PugSlot.calAt (x : PugSlot) (now : Nat) : Q15 × Half :=
  match x.calWas.find? fun (w : Nat × Q15 × Half) => decide (now < w.1 + usSteps 1) with
  | some w => w.2
  | none => (x.calO, x.calG)

/-! ### Recalibration (R339, R340) -/

/-- PUG_RECAL. -/
def effPugRecal (t : Ticket) (p : Pkt) (s : State) : State :=
  let n := p.target.toNat
  let x := s.slot n
  if n < 32 ∨ ¬ prmZero p 0 40 ∨ usSteps 2000 < usSteps 150 + x.fir.n * x.tIn then s.ends t .badField
  else if s.recal.isSome then s.ends t .busyRetry
  else
    let s := (s.modSlot n fun x => { x with
      state := .recal, out := { x.out with valid := false },
      next := x.next.map fun o => ({ o.1 with valid := false, recal := true }, o.2) }).finishFir n s.dtbNs
    { s with recal := some { slot := n, ticket := t, oldO := x.calO, oldG := x.calG } }

/-- RECAL_END (R339, R340): the offset and the gain are computed and the input is connected again. -/
def evRecalEnd (off gain : Half) (s : State) : State :=
  match s.recal with
  | some r =>
    if r.measured then s
    else
      let s := s.modSlot r.slot fun x => { x with fresh := 0, hist := [] }
      if 0x3000 ≤ gain.toNat ∧ gain.toNat ≤ 0x5000 then
        ({ s with recal := some { r with measured := true } }).modSlot r.slot fun x => x.setCal s.now off gain
      else (({ s with recal := none }).ends r.ticket .internalFault).countUpset 1 r.slot
  | none => s

/-! ### Frames (R311 to R328) -/

/-- Weight of bit k of a sinc3 window of oversampling ratio r: the third-order moving sum (R318). -/
def sincWeight (r k : Nat) : Nat :=
  let c (m : Nat) : Nat := (m + 2) * (m + 1) / 2
  c k + (if 2 * r ≤ k then 3 * c (k - 2 * r) else 0) - (if r ≤ k then 3 * c (k - r) else 0)

/-- The sinc3 stage (R318). -/
def sinc3 (r : Nat) (bits : List Bool) : Q15 :=
  let sum : Int := bits.zipIdx.foldl (fun a b => if b.1 then a + sincWeight r b.2 else a - sincWeight r b.2) 0
  ofQ (sat16 (roundDiv (sum * 32768) ((r ^ 3 : Nat) : Int)))

/-- The FIR input of a conversion, none when it failed. -/
def Conv.value (c : SlotCfg) : Conv → Option Q15
  | .sar code ok => if ok then some code else none
  | .dsm bits => if bits.length = c.window then some (sinc3 c.osr bits) else none

/-- Frame number of a slot at its source's present frame instant, none when the slot takes no part (R311). -/
def State.frameNo (s : State) (c : SlotCfg) : Option Nat :=
  if c.src < 8 then
    let w := s.pwm c.src
    let k := if c.ev = 0 then w.valleys else if c.ev = 1 then w.peaks else w.valleys + w.peaks
    let due := c.ev = 2 ∨ (c.ev = 0 ∧ w.nextPeak) ∨ (c.ev = 1 ∧ ¬ w.nextPeak)
    if due ∧ k ≠ 0 ∧ (k - 1) % c.div = 0 then some ((k - 1) / c.div) else none
  else some ((vget s.pugTimers (c.src - 8)).ticks - 1)

/-- Inputs join the history, oldest first; an input that failed repeats the one before it, unless it is the newest
(R328). -/
def PugSlot.take (x : PugSlot) (vs : List (Option Q15)) : PugSlot :=
  vs.foldl (fun (x : PugSlot) v =>
    { x with
      fresh := x.fresh + 1
      hist := ((match v with
        | some q => (q, true)
        | none => (match x.hist with | (q, _) :: _ => (q, false) | [] => (x.out.value, false))) :: x.hist).take 512 }) x

/-- The 40-bit accumulator of R319: exact in its range; the one sum beyond it has no stated result (DESIGN CHOICE, log 82). -/
def acc40 (sum : Int) : Int := if -(2 ^ 39) ≤ sum ∧ sum < 2 ^ 39 then sum else Config.overflow40 sum

/-- The FIR output of a frame after the calibration, and whether a step saturates (R319, R320). -/
def PugSlot.filtered (x : PugSlot) (now : Nat) : Q15 × Bool :=
  let c := x.calAt now
  let acc := acc40 ((List.range x.fir.n).foldl (fun a i => a + x.fir.tap i * (x.hist.getD i (0, false)).1.toInt) 0)
  let y := writeBack acc x.fir.e
  let z := roundDiv ((c.2.toNat : Int) * (sat16 y - c.1.toInt)) 0x4000
  (ofQ (sat16 z), saturates y || saturates z)

/-- The retry action of a SAR slot, over the self-checks of the frame, oldest first (Table 07-9). -/
def State.sarChecks (s : State) (n : Nat) (oks : List Bool) : State :=
  oks.foldl (fun (s : State) ok =>
    if (s.chan 1 n).state = .retrying then
      if ok then (s.modSlot n fun x => { x with retry := false }).countUpset 1 n else s.runFailed 1 n
    else if ok then s
    else (s.modSlot n fun x => { x with retry := true }).detect 1 n) s

/-- Deviation of the first edge of the newest window from the frame instant, in 125 ps steps: none for a SAR, the edge of the
group clock nearest the instant, or the own clock's as received (R313). -/
def State.edgeOffset (s : State) (n : Nat) (inp : Option SlotInput) : Int :=
  let c := (s.slot n).cfg
  if 32 ≤ n then 0
  else if c.clk = 0 then
    let d := vget s.dsm (n / 8)
    let p : Int := max 1 d.period
    (d.edgeAt - s.now + p / 2) % p - p / 2
  else (inp.map (·.edge)).getD 0

/-- Modulator clock period of a slot as received, in 1/256 of 125 ps (R324). -/
def State.clockReceived (s : State) (n : Nat) (inp : Option SlotInput) : Nat :=
  if (s.slot n).cfg.clk = 0 then 256 * (vget s.dsm (n / 8)).period else (inp.map (·.clock)).getD 0

/-- The inputs of a frame at an instant (R314, R315): how many input instants it has, and whether the conversion at the oldest
is not made, since it would start less than 250 ns after the one before. The first frame has its newest input alone
(DESIGN CHOICE, log 83). -/
def PugSlot.instants (x : PugSlot) (tf : Nat) (sar : Bool) : Nat × Bool :=
  match x.prev with
  | none => (1, false)
  | some (t, _) =>
    let m := max 1 (divUp (tf - t) (max 1 x.tIn))
    (m, sar && decide ((tf - t) - (m - 1) * x.tIn < 2000))

/-- `GRID_SLIP` (R315): the interval that absorbs the difference of the spacing from `D` times T_in is off by more than
T_in/64, on the local clock and on the DTB, so that a correction of the DTB by itself never sets it (DEDUCED, log 84). -/
def PugSlot.slips (x : PugSlot) (tf dtb : Nat) : Bool :=
  match x.prev with
  | none => false
  | some (t, d) =>
    let off (a b : Nat) : Bool := decide (x.tIn < 64 * ((a : Int) - b - (x.cfg.d * x.tIn : Nat)).natAbs)
    off tf t && off dtb d

/-- The previous input taken once more (R315). -/
def PugSlot.repeatInput (x : PugSlot) : PugSlot :=
  { x with fresh := x.fresh + 1, hist := ((x.hist.head?.getD (x.out.value, false)) :: x.hist).take 512 }

/-- The value that an output with `VALID` clear carries: the last valid one (R328). -/
def PugSlot.lastValue (x : PugSlot) : Q15 := match x.next.getLast? with | some o => o.1.value | none => x.out.value

/-- The output of one slot for the frame of the present instant (R314, R315, R318 to R328). -/
def State.frameSlot (s : State) (n fno ready : Nat) (inp : Option SlotInput) : State :=
  let tf := s.now
  let s := match (s.slot n).swap with
    | some _ => if (s.slot n).swapAt + usSteps 1 ≤ tf then s.finishFir n s.fineNs else s
    | none => s
  let given := (inp.map (·.convs)).getD []
  let k := (s.slot n).instants tf (decide (32 ≤ n))
  let convs := (List.range (k.1 - bit k.2)).reverse.map fun j => given[j]?
  let s := if 32 ≤ n then s.sarChecks n (convs.filterMap fun c => match c with | some (.sar _ ok) => some ok | _ => none) else s
  let off := s.edgeOffset n inp
  let clock := s.clockReceived n inp
  let waiting : Bool := match s.recal with | some r => decide (r.slot = n) && !r.measured | none => false
  s.modSlot n fun x =>
    if x.state = .retired then x
    else
      let slip := x.slips tf s.dtbSteps
      let x := if waiting then x
        else (if k.2 then x.repeatInput else x).take (convs.map fun c => c.bind (Conv.value x.cfg))
      let newest := match x.hist with | (_, ok) :: _ => ok | [] => false
      let valid := !waiting && !x.retry && newest && decide (x.fir.n ≤ x.fresh)
      let y := x.filtered s.now
      let sat := !waiting && y.2
      let c : Int := if n < 32 then ((3 * x.cfg.osr - 3) * clock * 16 : Nat) else 0
      let stamp : Int := (s.dtbFine : Int) + off * 8192 + c - (x.tIn : Int) * 32 * x.g
      { x with
        frameAt := tf, prev := some (tf, s.dtbSteps), frames := satCount (x.frames + 1), sat := x.sat || sat, slip := x.slip || slip,
        next := x.next ++ [({ value := if valid then y.1 else x.lastValue, valid := valid, sat := sat, slip := slip,
                              recal := decide (x.state = .recal) && !valid, count := BitVec.ofNat 16 fno,
                              stamp := stamp.toNat, at_ := tf }, ready)] }

/-- The slots that sample at the present frame instant of a source. -/
def State.frameSlots (s : State) (src : Nat) : List Nat :=
  numbers 48 fun n => decide ((s.slot n).cfg.src = src) && ((s.slot n).state = .sampling || (s.slot n).state = .recal)
    && (s.frameNo (s.slot n).cfg).isSome

/-- t_q of R325 for a frame at the present instant: the ends of the newest sinc3 windows are counted from their first edges. -/
def State.frameReady (s : State) (ns : List Nat) (inputs : List SlotInput) : Nat :=
  let ends := ns.map fun n =>
    let inp := inputs.find? fun i => i.slot.val = n
    if n < 32 then ((s.now : Int) + s.edgeOffset n inp + (divUp ((s.slot n).cfg.window * s.clockReceived n inp) 256 : Nat)).toNat else 0
  divUp (ends.foldl max (s.now + 1760) + 320) 32 * 32

/-- A frame at the present instant. -/
def State.frame (s : State) (src : Nat) (inputs : List SlotInput) : State :=
  let ns := s.frameSlots src
  let tq := s.frameReady ns inputs
  s.forEach ns fun s n =>
    s.frameSlot n ((s.frameNo (s.slot n).cfg).getD 0) (tq + 160 * n) (inputs.find? fun i => i.slot.val = n)

/-- PUG_FRAME (R313): the frame at the bridge's last carrier event, or at the timer's next tick. -/
def evPugFrame (src : Fin 10) (inputs : List SlotInput) (s : State) : State :=
  if src.val < 8 then
    if (s.pwm src).running ∧ (s.pwm src).lastAt = s.now ∧
        ((s.frameSlots src).all fun n => (s.slot n).frameAt ≠ s.now || (s.slot n).prev.isNone) then s.frame src inputs else s
  else
    let k := src.val - 8
    let w := vget s.pugTimers k
    if w.en then
      let s := (s.advanceTo w.nextAt).alignClocks src.val
      let e := placeError s.dtbSteps (phaseSteps w.phase w.period) w.period
      let w1 := { w with ticks := w.ticks + 1, lastAt := s.now, nextAt := s.now + s.localSteps ((w.period : Int) - e).toNat }
      let s := { s with pugTimers := vset s.pugTimers k w1 }
      s.frame src inputs
    else s

/-! ### Outputs (R325, R327, R239, R36, R340) -/

/-- A comparator sees an output of its slot (R239). -/
def State.compare (s : State) (k : Nat) : State :=
  let t := s.trip k
  let o := (s.slot t.slot).out
  if ¬ o.valid then s
  else if t.hi.toInt < o.value.toInt ∨ o.value.toInt < t.lo.toInt then
    let s := s.modTrip k fun t => { t with count := satTo 255 (t.count + 1) }
    if t.filt ≤ t.count + 1 ∧ ¬ t.active then s.tripActive k else s
  else s.modTrip k fun t => { t with count := 0, active := false }

/-- SLOT_OUTPUT_READY (R325): the frame's output becomes the newest, and its readers see it: comparators, the precharge, the
bus voltage of a grid-forming engine. -/
def evSlotOutputReady (slot : Fin 48) (s : State) : State :=
  let n := slot.val
  match (s.slot n).next with
  | [] => s
  | (o, ready) :: later =>
    let s := (s.advanceTo ready).modSlot n fun x => { x with
      out := o, next := later, recent := if o.valid then (o.value :: x.recent).take 8 else x.recent, state := if x.state = .recal ∧ o.valid then .sampling else x.state }
    let s := match s.recal with
      | some r =>
        if r.slot = n ∧ r.measured ∧ o.valid then
          ({ s with recal := none }).answer r.ticket
            { r0 := word [(r.oldO.toNat, 0), ((s.slot n).calO.toNat, 16)],
              r1 := word [(r.oldG.toNat, 0), ((s.slot n).calG.toNat, 16)] }
        else s
      | none => s
    let s := (s.notePeak n).forEach (numbers 16 fun k => 8 ≤ k ∧ (s.trip k).en ∧ (s.trip k).slot = n) State.compare
    s.forEach (numbers 8 fun b => match (s.bridge b).defn with | some d => decide (d.vdcSlot = some n) && o.valid | none => false)
      State.judgePrecharge

/-- PRECHARGE_DONE (R36): the output that completes the 5 ms at or above `PRE_LEVEL` becomes ready. -/
def evPrechargeDone (b : Fin 8) (s : State) : State :=
  match (s.bridge b).pre, (s.bridge b).defn with
  | some w, some d =>
    match w.since, d.vdcSlot with
    | some t0, some n =>
      if h : n < 48 then
        match (s.slot n).next with
        | (o, ready) :: _ =>
          if !w.timed ∧ o.valid ∧ d.preLevel.toInt ≤ o.value.toInt ∧ t0 + msSteps 5 ≤ ready then evSlotOutputReady ⟨n, h⟩ s else s
        | [] => s
      else s
    | _, _ => s
  | _, _ => s

/-! ### Reading (R343, R344) -/

/-- One step of a second-order tracker of a natural frequency in Hz and a damping ratio, over T seconds, towards an angle in
turns (R333). The form of the step is the model's (DESIGN CHOICE, log 85), its precision open. -/
def Tracker.step (k : Tracker) (f damp T input : Rat) : Tracker :=
  let p := k.angle + k.speed * T
  let e := input - p - roundR (input - p)
  let w := tau * f
  let a := Config.gfPrec 30 (p + 2 * damp * w * T * e)
  { angle := a - a.floor, speed := Config.gfPrec 31 (k.speed + w * w * T * e) }

/-- n steps towards one angle. -/
def Tracker.steps (f damp T input : Rat) : Nat → Tracker → Tracker
  | 0, k => k
  | n + 1, k => Tracker.steps f damp T input n (k.step f damp T input)

/-- The tracker of a position input, with damping 0.7. -/
def PosInput.track (x : PosInput) (T input : Rat) (n : Nat) : PosInput :=
  { x with trk := Tracker.steps x.cfg.trkBw (7 / 10) T input n x.trk }

/-- An angle as 16-bit turns, and 16-bit turns as an angle. -/
def halfTurns (x : Rat) : Half := BitVec.ofInt 16 (roundR (x * 65536))
def turnsOf (a : Half) : Rat := (a.toNat : Rat) / 65536

/-- The tracker of an encoder has run at 1 MHz up to an instant, on the count as it stands (R333). -/
def PosInput.runTo (x : PosInput) (t : Nat) : PosInput :=
  if x.cfg.mode = 1 then { x.track (1 / 1000000) (turnsOf x.angle) (t / 8000 - x.trkAt / 8000) with trkAt := max x.trkAt t } else x

/-- The tracker's speed as Q15 of `SPD_FS`, before saturation (R333). -/
def PosInput.speedOf (x : PosInput) : Int := roundR (x.trk.speed * 10 / (max 1 x.cfg.spdFs : Nat) * 32768)

/-- The speed delivered, with its sticky flag. -/
def PosInput.deliver (x : PosInput) : PosInput :=
  { x with speed := ofQ (sat16 x.speedOf), spdSat := x.spdSat || saturates x.speedOf }

/-- A position input brought to the present instant: tracker, speed and flag. -/
def State.posUpTo (s : State) (n : Nat) : State := s.modPos n fun x => (x.runTo s.now).deliver

/-- The angle and speed of a position input at an instant (R331 to R333): the count as it stands, or the tracker's angle
extrapolated at its speed from the end of the last period. -/
def State.posAt (s : State) (n t : Nat) : Half × Q15 :=
  let x := (s.position n).runTo t
  let v := ofQ (sat16 x.speedOf)
  if x.cfg.mode = 2 then (halfTurns (x.trk.angle + x.trk.speed * (((t : Int) - x.at_ : Int) : Rat) / 8000000000), v) else (x.angle, v)

/-- The same at the present instant. -/
def State.posNow (s : State) (n : Nat) : Half × Q15 := s.posAt n s.now

/-- PUG_READ. -/
def effPugRead (t : Ticket) (p : Pkt) (s : State) : State :=
  let n := p.target.toNat
  if n < 48 then
    let o := (s.slot n).out
    let ns : DWord := BitVec.ofNat 64 (o.stamp / 65536)
    s.answer t { r0 := lo32 ns, r1 := hi32 ns,
                 extra := word [(o.value.toNat, 0), (bit o.valid, 16), (bit o.sat, 17), (bit o.slip, 18), (bit o.recal, 19)] }
  else
    let s := s.posUpTo (n - 0x80)
    let a := s.posNow (n - 0x80)
    s.answer t { r0 := word [(a.1.toNat, 0), (a.2.toNat, 16)],
                 r1 := word [(bit (s.position (n - 0x80)).valid, 0), (bit (s.position (n - 0x80)).spdSat, 1)] }

def SlotState.code : SlotState → Nat
  | .free => 0 | .stopped => 1 | .sampling => 2 | .recal => 3 | .claimed => 4 | .retired => 5

/-- Result words of a slot (Table 07-12). -/
def State.slotWords (s : State) (n sel : Nat) : Word × Word :=
  let x := s.slot n
  if sel = 0 then
    (word [(x.state.code, 0), (bit x.sat, 3), (bit x.slip, 4), (bit x.retry, 5), (bit (decide (n < 32) && s.dsmLock (n / 8)), 6),
           (sat8 (s.chan (slotKind n) n).bucket, 8), (x.frames, 16)],
     word [((x.g % 65536).toNat, 0), (x.fir.n - 1, 16), (x.fir.e, 26)])
  else
    (word [(sat32 (roundDiv (10 * s.pugLoad.1) s.pugLoad.2).toNat, 0)], word [(sat32 (roundDiv x.tIn 8).toNat, 0)])

/-- Result words of a position input (Table 07-12). -/
def State.posWords (s : State) (n : Nat) : Word × Word :=
  let x := s.position n
  let last := if x.cfg.mode = 2 then x.amplitude.toNat else (ofQ (sat16 x.zError)).toNat
  (word [(x.cfg.mode, 0), (bit x.valid, 2), (bit x.retry, 3), (bit x.spdSat, 4), (sat8 (s.chan 2 n).bucket, 8), (last, 16)],
   BitVec.ofInt 32 x.turns)

/-- PUG_STATUS. -/
def effPugStatus (t : Ticket) (p : Pkt) (s : State) : State :=
  let n := p.target.toNat
  let sel := prm p 0
  if n < 48 then
    if 1 < sel then s.ends t .badField
    else
      let w := s.slotWords n sel
      (if sel = 0 then s.modSlot n fun x => { x with sat := false, slip := false } else s).answer t { r0 := w.1, r1 := w.2 }
  else if sel ≠ 0 then s.ends t .badField
  else
    let s := s.posUpTo (n - 0x80)
    let w := s.posWords (n - 0x80)
    (s.modPos (n - 0x80) fun x => { x with spdSat := false }).answer t { r0 := w.1, r1 := w.2 }

end Sys2Proof.Machine
end

