-- ==== Sys2Proof/Machine/Position.lean ====
section
/-! DEFINITION. Position inputs (07 R331 to R334, Table 07-9): configuration, encoder edges, resolver periods, and the
upsets of slots and position inputs. -/

namespace Sys2Proof.Machine

/-! ### Configuration (Table 07-7) -/

/-- The fields of `PUG_POS_CONFIG` but for `AMP_HI`, which is judged against `AMP_LO`. -/
def posFields : List FieldSpec :=
  [{ off := 0, len := 1, lo := 0, hi := 2 }, { off := 1, len := 1, lo := 0, hi := 1 }, { off := 3, len := 1, lo := 0, hi := 2 },
   { off := 4, len := 4, lo := 4, hi := 1048576 }, { off := 8, len := 2, lo := 2000, hi := 20000 },
   { off := 10, len := 1, lo := 32, hi := 47 }, { off := 11, len := 1, lo := 32, hi := 47 },
   { off := 14, len := 1, lo := 1, hi := 8 }, { off := 15, len := 1, lo := 0, hi := 0 },
   { off := 16, len := 2, lo := 0x800, hi := 0x7FFE }, { off := 20, len := 2, lo := 10, hi := 2000 },
   { off := 22, len := 2, lo := 1, hi := 10000 }]

/-- A `PUG_POS_CONFIG`, if every field is in range and the slots differ (R334). -/
def parsePos (p : Pkt) : Option PosCfg :=
  if inRanges p.params posFields ∧ prm16 p 16 < prm16 p 18 ∧ prm16 p 18 ≤ 0x7FFF ∧ prm p 10 ≠ prm p 11 ∧ prmZero p 26 14 then
    some { mode := prm p 0, dir := prm p 1, filt := prm p 2, zmode := prm p 3, cpr := prm32 p 4, excF := prm16 p 8,
           sinSlot := prm p 10, cosSlot := prm p 11, rphase := prm16 p 12, rspeed := prm p 14, ampLo := prmQ p 16,
           ampHi := prmQ p 18, trkBw := prm16 p 20, spdFs := prm16 p 22, zero := BitVec.ofNat 16 (prm16 p 24) }
  else none

/-- The slots a configuration claims: those of a resolver (R332; DEDUCED, log 21). -/
def PosCfg.claims (c : PosCfg) : List Nat := if c.mode = 2 then [c.sinSlot, c.cosSlot] else []

/-- The input is bound to a bridge in PRECHARGE, RUNNING or LIMITING (R334). -/
def State.posBusy (s : State) (n : Nat) : Bool :=
  (List.range 8).any fun b => (s.bridge b).pos = some n && (s.bridge b).state.beyondArmed

/-- PUG_POS_CONFIG (R334). -/
def effPugPosConfig (t : Ticket) (p : Pkt) (s : State) : State :=
  let n := p.target.toNat
  let old := (s.position n).cfg.claims
  match parsePos p with
  | none => s.ends t .badField
  | some c =>
    if s.posBusy n ∨ c.claims.any fun k =>
        !((s.slot k).state = .free || (s.slot k).state = .stopped || (old.contains k && decide ((s.slot k).state = .claimed))) then s.ends t .stateRefused
    else
      let s := s.forEach (old.filter fun k => !c.claims.contains k) fun s k =>
        s.modSlot k fun x => if x.state = .claimed then { x with state := .free } else x
      let s := s.forEach c.claims fun s k => s.modSlot k fun x => { x with state := .claimed }
      (s.modPos n fun x => { x with
        cfg := c, count := 0, homed := false, valid := decide (c.mode = 1), retry := false, retryPeriods := 0, goodPeriods := 0,
        angle := c.zero, speed := 0, elec := 0, turns := 0, seen := false, trk := { angle := turnsOf c.zero }, trkAt := s.now,
        amplitude := 0, zError := 0, at_ := s.now }).ends t .done

/-! ### Encoders (R331, R333) -/

/-- Mechanical angle of a count: count times 65,536 over `CPR`, reversed by `DIR`, plus `ZERO`. -/
def PosCfg.mech (c : PosCfg) (count : Int) : Half :=
  BitVec.ofInt 16 (roundDiv ((if c.dir = 1 then -count else count) * 65536) (max 1 c.cpr : Nat)) + c.zero

/-- An upset of a position input starts its retry; an encoder that ignores Z has none and succeeds at once. -/
def State.posUpset (s : State) (n : Nat) : State :=
  let s := s.detect 2 n
  if (s.chan 2 n).state ≠ .retrying then s
  else if (s.position n).cfg.mode = 1 ∧ (s.position n).cfg.zmode = 0 then s.countUpset 2 n
  else if (s.position n).retry then s
  else s.modPos n fun x => { x with retry := true, valid := false, retryPeriods := 0, goodPeriods := 0, retryFrom := x.count }

/-- QUADRATURE_EDGE (R331): new filtered levels of A and B. With A ahead of B the count rises (PRESUMED, log 22). -/
def evQuadratureEdge (n : Fin 4) (a b : Bool) (s : State) : State :=
  let x := s.position n
  if x.cfg.mode ≠ 1 ∨ s.isRetired 2 n then s.modPos n fun x => { x with a := a, b := b }
  else if a ≠ x.a ∧ b ≠ x.b then (s.modPos n fun x => { x with a := a, b := b }).posUpset n
  else if a = x.a ∧ b = x.b then s
  else
    let d : Int := if a ≠ x.b then 1 else -1
    (s.posUpTo n).modPos n fun x => { x with a := a, b := b, count := x.count + d, angle := x.cfg.mech (x.count + d) }

/-- Signed distance of a count from the nearest whole multiple of `CPR`. -/
def zDistance (count : Int) (cpr : Nat) : Int :=
  let r := count % (max 1 cpr : Nat)
  if 2 * r ≤ (cpr : Int) then r else r - cpr

/-- Z_EDGE (R331): the count is homed at the first Z, else checked within ±2; a retry resynchronises the count. -/
def evZEdge (n : Fin 4) (s : State) : State :=
  let x := s.position n
  if x.cfg.mode ≠ 1 ∨ x.cfg.zmode = 0 ∨ s.isRetired 2 n then s
  else if x.cfg.zmode = 2 ∧ ¬ x.homed then
    (s.posUpTo n).modPos n fun x => { x with homed := true, count := 0, angle := x.cfg.mech 0, zError := 0 }
  else
    let d := zDistance x.count x.cfg.cpr
    let ok := decide (d.natAbs ≤ 2)
    let s := (s.posUpTo n).modPos n fun x => { x with zError := d }
    if x.retry then
      let near := decide ((x.count - x.retryFrom).natAbs ≤ 2 * x.cfg.cpr)
      let s := s.modPos n fun x => { x with count := x.count - d, angle := x.cfg.mech (x.count - d), retryFrom := x.count - d }
      if ok && near then (s.modPos n fun x => { x with retry := false, valid := true }).countUpset 2 n
      else s.runFailed 2 n
    else if ok then s
    else s.posUpset n

/-! ### Resolvers (R332, R333) -/

/-- One component of a period: the 16 conversions, each times the sine reference of phase `RPHASE`, normalised to the
amplitude of the winding (R332; the normalisation DEDUCED, log 21). -/
def demodulate (quantity rphase : Nat) (vs : List Half) : Rat :=
  Config.gfPrec quantity ((vs.zipIdx.foldl (fun (a : Rat) v =>
    a + (v.1.toInt : Rat) * turnSin (((v.2 * 4096 + rphase : Nat) : Rat) / 65536)) 0) / 8)

/-- The instant at which the present excitation period ends: the next multiple of 1/`EXC_F` of the DTB. -/
def State.excEnd (s : State) (f : Nat) : Nat :=
  let k := s.dtbSteps * f / 8000000000 + 1
  s.now + s.localSteps (divUp (k * 8000000000) (max 1 f) - s.dtbSteps)

/-- A period whose amplitude is in limits moves the angle on: electrical turns are counted from the first angle, and the
mechanical angle, the whole electrical angle over `RSPEED` plus `ZERO`, is what the tracker follows (R332, R333). -/
def PosInput.follow (x : PosInput) (now : Nat) (sn cs : Rat) : PosInput :=
  let el := (roundR (Config.gfPrec 42 (turnAtan2 sn cs) * 65536) % 65536).toNat
  let step := if x.seen then signed 16 ((el + 65536 - x.elec.toNat) % 65536) else (el : Int)
  let whole : Int := if x.seen then x.turns * 65536 + x.elec.toNat + step else el
  let m := roundDiv (if x.cfg.dir = 1 then -whole else whole) (max 1 x.cfg.rspeed : Nat)
  let angle := BitVec.ofInt 16 m + x.cfg.zero
  let x := { x with elec := BitVec.ofNat 16 el, turns := whole / 65536, seen := true, angle, at_ := now }
  (x.track (1 / (max 1 x.cfg.excF : Nat)) (turnsOf angle) 1).deliver

/-- RESOLVER_PERIOD (R332, Table 07-9). -/
def evResolverPeriod (n : Fin 4) (pairs : Vector (Half × Half) 16) (s : State) : State :=
  let x := s.position n
  if x.cfg.mode ≠ 2 ∨ s.isRetired 2 n then s
  else
    let s := s.advanceTo (s.excEnd x.cfg.excF)
    let sn := demodulate 40 x.cfg.rphase (pairs.toList.map (·.1))
    let cs := demodulate 41 x.cfg.rphase (pairs.toList.map (·.2))
    let amp := satTo 0x7FFF (roundR (ratSqrt (sn * sn + cs * cs))).toNat
    let ok := decide (x.cfg.ampLo.toNat ≤ amp ∧ amp ≤ x.cfg.ampHi.toNat)
    let s := s.modPos n fun x => { x with amplitude := BitVec.ofNat 16 amp, at_ := s.now }
    if x.retry then
      let good := if ok then x.goodPeriods + 1 else 0
      let s := s.modPos n fun x => { x with goodPeriods := good, retryPeriods := x.retryPeriods + 1 }
      if 4 ≤ good then
        (s.modPos n fun x => ({ x with retry := false, valid := true }).follow s.now sn cs).countUpset 2 n
      else if 16 ≤ x.retryPeriods + 1 then
        (s.modPos n fun x => { x with retryPeriods := 0, goodPeriods := 0 }).runFailed 2 n
      else s
    else if ok then s.modPos n fun x => ({ x with valid := true }).follow s.now sn cs
    else s.posUpset n

/-! ### Upsets (R336) -/

/-- MEASUREMENT_UPSET: kind 0 a delta-sigma slot, 1 a SAR slot, 2 a position input. -/
def evMeasurementUpset (kind : Fin 3) (unit : Fin 48) (s : State) : State :=
  if kind = 2 then (if unit.val < 4 ∧ (s.position unit).cfg.mode ≠ 0 then s.posUpset unit else s)
  else if slotKind unit ≠ kind.val ∨ (s.slot unit).state ≠ .sampling then s
  else (s.detect kind unit).modSlot unit fun x => { x with retry := true }

end Sys2Proof.Machine
end

