-- ==== Sys2Proof/Machine/GfeCore.lean ====
section
/-! DEFINITION. The grid-forming engine's configuration (02 R64 to R66, R95 to R99), and the transitions of its start
sequence (03 R124 to R145). -/

namespace Sys2Proof.Machine

/-! ### Configuration block (Table 02-10) -/

/-- The single-value fields of the block with their ranges; slots are judged apart. A per-unit limit is its nearest code, as
the table's own defaults are (3 % is 0x01EC; DEDUCED, log 65). -/
def gfFields : List FieldSpec :=
  [{ off := 0, len := 4, lo := 1, hi := 100000 }, { off := 4, len := 2, lo := 50, hi := 4000 },
   { off := 6, len := 2, lo := 4000, hi := 7000 }, { off := 8, len := 2, lo := 4000, hi := 32000 },
   { off := 10, len := 1, lo := 0, hi := 1 }, { off := 11, len := 1, lo := 0, hi := 1 }, { off := 23, len := 1, lo := 0, hi := 0 },
   { off := 24, len := 4, lo := 1, hi := 1000000 }, { off := 28, len := 4, lo := 1, hi := 1000000 },
   { off := 32, len := 2, neg := true, lo := 0, hi := 8192 }, { off := 34, len := 2, lo := 0, hi := 0 },
   { off := 36, len := 2, lo := 50, hi := 30000 }, { off := 38, len := 2, lo := 0, hi := 20000 },
   { off := 40, len := 2, lo := 10, hi := 10000 }, { off := 42, len := 2, lo := 1, hi := 2000 },
   { off := 44, len := 2, lo := 0, hi := 10000 }, { off := 46, len := 2, lo := 100, hi := 2000 },
   { off := 48, len := 2, neg := true, lo := -19661, hi := 19661 }, { off := 50, len := 2, neg := true, lo := -19661, hi := 19661 },
   { off := 52, len := 2, lo := 1, hi := 1000 }, { off := 54, len := 2, lo := 0, hi := 2000 },
   { off := 56, len := 1, lo := 0, hi := 1 }, { off := 57, len := 1, lo := 0, hi := 0 }, { off := 58, len := 2, lo := 0, hi := 10000 },
   { off := 60, len := 2, neg := true, lo := 0, hi := 3277 }, { off := 62, len := 2, neg := true, lo := 8192, hi := 16384 },
   { off := 64, len := 2, neg := true, lo := 16384, hi := 21299 }, { off := 66, len := 2, lo := 10, hi := 10000 },
   { off := 68, len := 2, neg := true, lo := 0, hi := 8192 }, { off := 70, len := 2, neg := true, lo := 0, hi := 8192 },
   { off := 72, len := 2, neg := true, lo := 0, hi := 16384 }, { off := 74, len := 2, neg := true, lo := 0, hi := 16384 },
   { off := 76, len := 1, lo := 1, hi := 50 }, { off := 77, len := 1, lo := 1, hi := 50 }, { off := 78, len := 1, lo := 0, hi := 31 },
   { off := 79, len := 1, lo := 0, hi := 0 },
   { off := 80, len := 2, neg := true, lo := 0, hi := 16384 }, { off := 82, len := 2, neg := true, lo := 0, hi := 16384 },
   { off := 84, len := 2, neg := true, lo := 0, hi := 16384 }, { off := 86, len := 2, neg := true, lo := 0, hi := 16384 },
   { off := 88, len := 2, neg := true, lo := 0, hi := 16384 }, { off := 90, len := 2, neg := true, lo := 0, hi := 16384 },
   { off := 92, len := 2, neg := true, lo := 0, hi := 16384 }, { off := 94, len := 2, neg := true, lo := 0, hi := 16384 },
   { off := 96, len := 2, neg := true, lo := 16384, hi := 29491 }, { off := 98, len := 2, neg := true, lo := 8192, hi := 28672 },
   { off := 100, len := 2, neg := true, lo := 16384, hi := 31949 }, { off := 102, len := 2, lo := 0, hi := 2000 },
   { off := 104, len := 2, lo := 1, hi := 1000 }, { off := 106, len := 1, lo := 0, hi := 100 }, { off := 107, len := 1, lo := 0, hi := 1 },
   { off := 108, len := 2, lo := 100, hi := 10000 }, { off := 110, len := 2, lo := 10, hi := 10000 },
   { off := 112, len := 1, lo := 0, hi := 2 }, { off := 113, len := 1, lo := 0, hi := 0 },
   { off := 114, len := 2, neg := true, lo := 164, hi := 3277 }, { off := 116, len := 2, lo := 50, hi := 2000 },
   { off := 118, len := 2, lo := 20, hi := 5000 }, { off := 120, len := 2, lo := 10, hi := 1000 },
   { off := 122, len := 2, lo := 0xB6, hi := 0xAAB }, { off := 124, len := 2, neg := true, lo := 82, hi := 3277 },
   { off := 126, len := 2, lo := 0, hi := 0 }]

/-- The slot fields and the conditions that tie them together (Table 02-10, R99). -/
def gfSlotsOk (bs : List Byte) : Bool :=
  let b := byteAt bs
  let s (k : Nat) := decide (b k < 48)
  let o (k : Nat) := decide (b k < 48 ∨ b k = 0xFF)
  s 12 && s 13 && (if b 10 = 1 then decide (b 14 = 0xFF) else s 14) && s 15 && s 16 && o 17
    && (if b 18 = 0xFF then decide (b 19 = 0xFF ∧ b 20 = 0xFF) else s 18 && s 19 && o 20)
    && (if b 21 = 0xFF then decide (b 22 = 0xFF) else s 21 && s 22)

/-- The slots a block names. -/
def gfSlots (bs : List Byte) : List Nat := ((slice bs 12 11).map BitVec.toNat).filter (· < 48)

/-- Harmonic number of path k of `ZH_EN` (Table 02-2). -/
def harmonic (k : Nat) : Nat := match k with | 0 => 1 | 1 => 5 | 2 => 7 | 3 => 11 | _ => 13

/-- Step cost of the paths in a mask (Table 02-7). -/
def stepCost (paths : Nat) : Nat :=
  3000 + 1200 * bit (paths.testBit 0) + 2800 * (numbers 5 fun k => k ≠ 0 ∧ paths.testBit k).length

/-- Required rate in cycles per second (R96). -/
def gfRate (bs : List Byte) (fading : Nat) : Nat := stepCost (byteAt bs 78 ||| fading) * le bs 8 2

/-- The checks of R99 but for the budget rule. -/
def gfChecks (bs : List Byte) : Bool :=
  let w (k : Nat) := le bs k 2
  let q (k : Nat) := signed 16 (w k)
  let vfs := le bs 24 4
  let ifs := le bs 28 4
  inRanges bs gfFields && gfSlotsOk bs
    && decide (q 98 < q 96 ∧ q 96 ≤ q 100 ∧ q 62 < q 64 ∧ q 48 ≤ q 50)
    && decide (w 44 = 0 ∨ 200000 ≤ w 44 * w 8) && decide (40000 ≤ w 40 * w 8)
    && (numbers 5 fun k => k ≠ 0 ∧ (byteAt bs 78).testBit k).all (fun k => decide (8 * harmonic k * w 6 ≤ 100 * w 8))
    && decide ((if byteAt bs 10 = 1 then 288 else 96) * w 4 ^ 2 ≤ vfs ^ 2)
    && decide (400000000 * (w 100) ^ 2 * (le bs 0 4) ^ 2 ≤ 6 * 16384 ^ 2 * (w 4) ^ 2 * ifs ^ 2)

/-- The budget rule of R96. -/
def gfBudgetOk (bs : List Byte) (fading : Nat) : Bool := decide (gfRate bs fading ≤ 450000000)

/-- Fields that a mask selects whole or not at all (R102): offset and length, `R_H` and `X_H` of four values each. -/
def gfMaskFields : List (Nat × Nat) :=
  ((gfFields.filter fun f => f.off < 80 ∨ 96 ≤ f.off).map fun f => (f.off, f.len)) ++ [(80, 8), (88, 8)]

/-- Selected bytes of a tune laid over a block. -/
def tuned (bs block mask : List Byte) : List Byte :=
  (List.range 128).map fun k => if (byteAt mask (k / 8)).testBit (k % 8) then block.getD k 0 else bs.getD k 0

/-- The block with the tunes that wait for the next outer sample (R104). -/
def GfEngine.pendingConfig (e : GfEngine) : List Byte :=
  e.tunes.foldl (fun bs t => tuned bs t.1 t.2) (e.config.getD [])

/-- Paths enabled now, or by a tune that waits, though a later one may disable them again: their cost counts until their fade
has ended (R106). -/
def GfEngine.pathsInUse (e : GfEngine) : Nat :=
  let cfg := e.config.getD []
  (e.tunes.foldl (fun (a : List Byte × Nat) t => let b := tuned a.1 t.1 t.2; (b, a.2 ||| byteAt b 78)) (cfg, byteAt cfg 78)).2

/-- Field code of a path that fades: 1,000 plus its bit of `ZH_EN` (R106). -/
def fadeCode (k : Nat) : Nat := 1000 + k

/-- Paths that fade out (R106). -/
def GfEngine.fading (e : GfEngine) : Nat :=
  (numbers 5 fun k => e.moves.any fun m => m.field = fadeCode k).foldl (fun a k => a + 2 ^ k) 0

/-! ### Outer samples, and the start sequence (R124 to R141) -/

def GfEngine.startMode (e : GfEngine) : Nat := e.c8 112

/-- Outer period in 125 ps steps. -/
def GfEngine.outerSteps (e : GfEngine) : Nat := 8000000000 / max 1 (e.c16 8)

/-- The first outer sample instant at or after an instant, by the spacing from the newest one (R68). -/
def GfEngine.outerAt (e : GfEngine) (t : Nat) : Nat := e.sampledAt + divUp (t - e.sampledAt) (max 1 e.outerSteps) * e.outerSteps

/-- The contactor closes or counts as closed in a closing phase (R121, R131, R136). -/
def State.contactorClosed (s : State) (g : Nat) : State :=
  match (s.gf g).phase with
  | .closeDead => s.rampFromDead g
  | .closeLive => s.rampFromLive g
  | _ => s

/-- The present carrier event is an outer sample instant of an engine: the measurement instant of every M-th sample of the
bridge's loop context, counted as R311 numbers them (R68; which of the M samples is the model's reading, log 66). -/
def State.outerInstant (s : State) (g : Nat) : Option Nat :=
  match s.bridgeOfGf g with
  | some b =>
    match (s.bridge b).lc with
    | some k =>
      let c := s.lc k
      let m := c.fs / max 1 ((s.gf g).c16 8)
      match s.frameNo { src := b, ev := c.sampleEv, div := c.sampleDiv } with
      | some n => if (s.pwm b).running ∧ m ≠ 0 ∧ n % m = 0 then some (s.pwm b).lastAt else none
      | none => none
    | none => none
  | none => none

/-- The engine computes: from TRACKING to LIMITING (Table 02-11), and in service (R110). -/
def State.gfRuns (s : State) (g : Nat) : Bool :=
  !s.isRetired 8 g && match (s.gf g).state with | .tracking | .starting | .forming | .limiting => true | _ => false

/-- A carrier event that is an outer sample instant leaves an outer sample due (R68). -/
def State.latchOuter (s : State) (b : Nat) : State :=
  match (s.bridge b).gf with
  | some g =>
    match s.outerInstant g with
    | some t => if s.gfRuns g then s.modGf g fun e => { e with due := some t } else s
    | none => s
  | none => s

/-- The outer sample that is due. -/
def State.outerDue (s : State) (g : Nat) : Option Nat := if s.gfRuns g then (s.gf g).due else none

/-- The holdoff has ended (R129, R130): a bus neither live nor dead is classified again (DEDUCED, log 16). -/
def State.holdoffDone (s : State) (g : Nat) : State :=
  if (s.gf g).live then s.enterPhase g .waitLive
  else if (s.gf g).deadBus then s.closeDead g
  else s.enterPhase g .classify

/-- A bridge enters LIMITING, or returns to RUNNING, with its engine (R31). -/
def State.setLimiting (s : State) (g : Nat) (on : Bool) : State :=
  match s.bridgeOfGf g with
  | some b => s.modB b fun br => if br.state.switching then { br with state := if on then .limiting else .running } else br
  | none => s

/-- The current limit is engaged (R83, R85): the power held is p_f as it stands before the step of this sample (DESIGN CHOICE,
log 87). -/
def State.engageLimit (s : State) (g : Nat) : State :=
  (s.modGf g fun e => { e with
    limFrom := e.state, state := .limiting, limAt := s.now, limEntries := satCount (e.limEntries + 1), pHeld := e.pf,
    belowSince := none, deadSince := none, dRneg := 0 }).setLimiting g true

/-- The current limit is released (R84, R86). -/
def State.releaseLimit (s : State) (g : Nat) : State :=
  (s.modGf g fun e => {
    e.endLimit s.now with state := e.limFrom, dR := 0, dX := 0, dRneg := 0 }).setLimiting g false

/-- An engine fault puts its bridge into SAFE (R109). -/
def State.gfFault (s : State) (g cause : Nat) : State :=
  match s.bridgeOfGf g with | some b => s.enterSafe b cause | none => s

end Sys2Proof.Machine
end

