-- ==== Sys2Proof/Machine/Gfe.lean ====
section
/-! DEFINITION. Class GFE (02 R98 to R114) and the events of the grid-forming engines but for the outer sample (02 R74, R84,
R87, R94; 03 R122 to R144). -/

namespace Sys2Proof.Machine

/-! ### Packets -/

/-- The set-points after `GF_CONFIG` (Table 02-6). -/
def gfSetpoints (bs : List Byte) : Vector Q15 8 :=
  vset (vset (Vector.replicate 8 0) 4 (q15At bs 50)) 5 (q15At bs 48)

/-- GF_CONFIG (R98 to R100). The rate of result word 0 is rounded up to whole M cycles/s, as R165 rounds its own (DEDUCED,
log 88). A secondary term stays valid for its time, and `SEC_EXPIRED` as it is (R94). -/
def effGfConfig (t : Ticket) (p : Pkt) (s : State) : State :=
  let g := p.target.toNat
  if ¬ gfChecks p.payload then s.ends t .badField
  else if ¬ gfBudgetOk p.payload 0 then
    s.answer t { status := .badField, r0 := word [(divUp (gfRate p.payload 0) 1000000, 0)] }
  else if (gfSlots p.payload).any s.slotRetired then s.ends t .unitRetired
  else
    (s.modGf g fun e => { e with
      config := some p.payload, tunes := [], moves := [], sp := gfSetpoints p.payload, spNext := [], xv := 0, pSet := 0 }).ends t
      .done

/-- Bytes of the block a mask selects. -/
def maskSelects (mask : List Byte) (k : Nat) : Bool := (byteAt mask (k / 8)).testBit (k % 8)

/-- The mask selects every field whole or not at all, and none of bytes 0 to 35 (R102). -/
def maskOk (mask : List Byte) : Bool :=
  ((List.range 36).all fun k => !maskSelects mask k) &&
    gfMaskFields.all fun f => (List.range f.2).all fun k => maskSelects mask (f.1 + k) == maskSelects mask f.1

/-- GF_TUNE (R102 to R104). A mask that selects anything on an engine without an accepted configuration ends with BAD_FIELD:
there are no present values for R99 to be judged with (DESIGN CHOICE, log 88). -/
def effGfTune (t : Ticket) (p : Pkt) (s : State) : State :=
  let g := p.target.toNat
  let e := s.gf g
  let block := slice p.payload 0 128
  let mask := slice p.payload 128 16
  let new := tuned e.pendingConfig block mask
  let none_ := mask.all (· == 0)
  let fading := e.fading ||| e.pathsInUse
  if ¬ zeros p.payload 144 48 ∨ ¬ maskOk mask ∨ (none_ = false ∧ (e.config.isNone ∨ ¬ gfChecks new)) then s.ends t .badField
  else if none_ = false ∧ ¬ gfBudgetOk new fading then
    s.answer t { status := .badField, r0 := word [(divUp (gfRate new fading) 1000000, 0)] }
  else if (e.state = .limiting ∧ [96, 98, 100, 102, 107].any (maskSelects mask))
      ∨ (e.state = .starting ∧ ((List.range 14).any fun k => maskSelects mask (112 + k))) then s.ends t .stateRefused
  else (s.modGf g fun e => { e with tunes := e.tunes ++ [(block, mask)] }).ends t .done

/-- Range of a set-point channel (Table 02-6), at the codes nearest to its limits (DEDUCED, log 65). -/
def GfEngine.spRange (e : GfEngine) (c : Nat) : Int × Int :=
  let bs := e.pendingConfig
  let p := if e.config.isSome then (signed 16 (le bs 48 2), signed 16 (le bs 50 2)) else (-16384, 16384)
  match c with
  | 1 => (-16384, 16384) | 2 => (-3277, 3277) | 3 => (-819, 819) | 6 => (-32768, 32767) | 7 => (-32768, 32767) | _ => p

/-- Selected values of a set-point packet: mask in byte 0, values from byte 2 (R112, R203). -/
def spValues (p : Pkt) : List (Nat × Q15) := (bitsOf 8 (prm p 0)).map fun c => (c, prmQ p (2 + 2 * c))

/-- GF_SETPOINT (R61, R93, R112). -/
def effGfSetpoint (t : Ticket) (p : Pkt) (s : State) : State :=
  let g := p.target.toNat
  let e := s.gf g
  let vs := spValues p
  if prm p 1 ≠ 0 ∨ ¬ prmZero p 18 22
      ∨ vs.any (fun v => decide (v.2.toInt < (e.spRange v.1).1) || decide ((e.spRange v.1).2 < v.2.toInt)) then s.ends t .badField
  else if vs.any (fun v => match s.bridgeOfGf g with | some b => vget (s.bridge b).spOfs v.1 ≠ 0xFFFF | none => false) then
    s.ends t .stateRefused
  else (s.modGf g fun e => { e with spNext := e.spNext ++ vs }).ends t .done

/-- GF_SECONDARY (R94, R113, R152), its limits at their nearest codes (DEDUCED, log 65). -/
def effGfSecondary (t : Ticket) (p : Pkt) (s : State) : State :=
  let dp := prmQ p 0
  let de := prmQ p 2
  let ms := prm16 p 4
  if dp.toInt < -8192 ∨ 8192 < dp.toInt ∨ de.toInt < -1638 ∨ 1638 < de.toInt ∨ ms < 10 ∨ 60000 < ms ∨ ¬ prmZero p 6 34 then
    s.ends t .badField
  else
    (s.modGf p.target.toNat fun e => { e with secNext := some (dp, de, s.now + msSteps ms), secExpired := false }).ends t .done

def GfState.code : GfState → Nat
  | .free => 0 | .idle => 1 | .tracking => 2 | .starting => 3 | .forming => 4 | .limiting => 5 | .held => 6 | .fault => 7

/-- Result words of `GF_STATUS` (Table 02-15). -/
def GfEngine.words (e : GfEngine) (sel : Nat) : Word × Word :=
  let q (x : Rat) := (ofQ (toPu x)).toNat
  match sel with
  | 0 =>
    (word [(e.state.code, 0), (bit (e.state = .limiting), 4), (bit e.wClamp, 5), (bit e.eClamp, 6), (bit e.pClamp, 7),
           (bit e.secUntil.isSome, 8), (bit e.secExpired, 9), (bit e.deadBus, 10), (bit e.config.isSome, 11),
           (e.theta.toNat / 65536, 16)], e.w)
  | 1 => (word [(q e.pf, 0), (q e.qf, 16)], word [(q e.vPlus, 0), (q e.e, 16)])
  | _ => (word [(e.late, 0), (e.limEntries, 16)], word [(e.limLast, 0)])

/-- GF_STATUS (R114). -/
def effGfStatus (t : Ticket) (p : Pkt) (s : State) : State :=
  if 2 < prm p 0 then s.ends t .badField
  else
    let w := (s.gf p.target.toNat).words (prm p 0)
    s.answer t { r0 := w.1, r1 := w.2 }

/-- The word `GF_EVT` (Table 03-3): the phase reads NONE outside STARTING, the contactor as read or as taken under R121. -/
def State.evtWord (s : State) (g : Nat) : Word :=
  let e := s.gf g
  word [(if e.state = .starting then startPhaseCode e.phase else 0, 0), (bit e.joinReq, 4), (bit (s.gfClosed g), 5),
        (bit e.detached, 6), (e.attempts.toNat, 8), (e.holdoff.toNat, 16)]

/-! ### Events -/

/-- GF_LIMIT_RELEASE (R84): the first outer sample at which i_pk has stayed at or below 0.95 of `I_TH` for `LIM_HOLD`. -/
def evGfLimitRelease (g : Fin 4) (s : State) : State :=
  let e := s.gf g
  match e.belowSince with
  | some t0 => if e.state = .limiting then (s.advanceTo (e.outerAt (t0 + msSteps (e.c16 104)))).releaseLimit g else s
  | none => s

/-- GF_RT_TIMEOUT (R87), at the outer sample at which `RT_TMAX` expires: a release at the same sample wins. -/
def evGfRtTimeout (g : Fin 4) (s : State) : State :=
  let e := s.gf g
  if e.state ≠ .limiting then s
  else
    let at_ := e.outerAt (e.limAt + msSteps (e.c16 108))
    let s := s.advanceTo at_
    match e.belowSince with
    | some t0 => if t0 + msSteps (e.c16 104) ≤ s.now then s.releaseLimit g else s.gfFault g 0x0202
    | none => s.gfFault g 0x0202

/-- GF_W_FAULT (R74). -/
def evGfWFault (g : Fin 4) (s : State) : State :=
  let e := s.gf g
  match e.clampSince with
  | some t0 =>
    if e.state = .starting ∨ e.state = .forming ∨ e.state = .limiting then
      (s.advanceTo (t0 + msSteps (e.c16 110))).gfFault g 0x0203
    else s
  | none => s

/-- SEC_EXPIRED (R94). -/
def evSecExpired (g : Fin 4) (s : State) : State :=
  match (s.gf g).secUntil with
  | some t0 => (s.advanceTo t0).modGf g fun e => { e with secUntil := none, secExpired := true }
  | none => s

/-- DEAD_BUS is set (R122); the phases that wait for it move on (R124, R137). -/
def State.setDeadBus (s : State) (g : Nat) : State :=
  let s := s.modGf g fun e => { e with deadBus := true }
  match (s.gf g).phase with
  | .classify => s.enterPhase g .holdoff
  | .waitLive => if (s.gf g).startMode = 1 then s.enterPhase g .holdoff else s
  | .presync => if (s.gf g).startMode = 1 then s.enterPhase g .holdoff else s
  | _ => s

/-- DEAD_BUS_SET (R122). -/
def evDeadBusSet (g : Fin 4) (s : State) : State :=
  let e := s.gf g
  match e.deadSince with
  | some t0 =>
    if e.deadBus ∨ ¬ (e.state = .tracking ∨ e.state = .starting) then s
    else (s.advanceTo (t0 + msSteps (e.c16 116))).setDeadBus g
  | none => s

/-- HOLDOFF_END (R130). -/
def evHoldoffEnd (g : Fin 4) (s : State) : State :=
  let e := s.gf g
  if e.phase = .holdoff then (s.advanceTo (e.phaseAt + usSteps e.holdoff.toNat)).holdoffDone g else s

/-- WAIT_LIVE_QUALIFIED (R133). -/
def evWaitLiveQualified (g : Fin 4) (s : State) : State :=
  let e := s.gf g
  match e.okSince with
  | some t0 => if e.phase = .waitLive then (s.advanceTo (t0 + msSteps 20)).enterPhase g .presync else s
  | none => s

/-- JOIN_WINDOWS_QUALIFIED (R135). -/
def evJoinWindowsQualified (g : Fin 4) (s : State) : State :=
  let e := s.gf g
  match e.okSince with
  | some t0 => if e.phase = .presync then (s.advanceTo (t0 + msSteps 20)).closeLive g else s
  | none => s

/-- JOIN_FB_RISE (R118, R131, R136, R140). -/
def evJoinFbRise (g : Fin 4) (s : State) : State :=
  if ¬ s.fbMapped g then s
  else
    let s := s.modGf g fun e => { e with joinFb := true }
    let e := s.gf g
    if e.state ≠ .starting ∧ e.state ≠ .limiting then s
    else
      match e.phase with
      | .closeDead => s.rampFromDead g
      | .closeLive => s.rampFromLive g
      | .presync => s.rampFromLive g
      | .classify => s.rampFromDead g
      | .holdoff => s.rampFromDead g
      | .waitLive => s.rampFromDead g
      | .retryWait => s.rampFromDead g
      | _ => s

/-- An engine counts as detached (R144). -/
def State.detach (s : State) (g : Nat) : State :=
  s.modGf g fun e => { e with detached := true, joinReq := false, taken := false, awaySince := none }

/-- JOIN_FB_FALL (R139, R144); without `BUSSLOT` the bridge stays closed onto its bus (R121). -/
def evJoinFbFall (g : Fin 4) (s : State) : State :=
  if ¬ s.fbMapped g then s
  else
    let s := s.modGf g fun e => { e with joinFb := false }
    let e := s.gf g
    if ¬ e.hasBus then s
    else if e.state = .starting ∧ e.phase = .ramp then s.enterPhase g .retryWait
    else if (e.state = .forming ∨ e.state = .limiting) then s.detach g
    else s

/-- CONTACTOR_ASSUMED_CLOSED (R121). -/
def evContactorAssumedClosed (g : Fin 4) (s : State) : State :=
  let e := s.gf g
  if e.joinReq ∧ ¬ s.fbMapped g ∧ (e.phase = .closeDead ∨ e.phase = .closeLive) then
    ((s.advanceTo (e.joinReqAt + msSteps 100)).modGf g fun e => { e with taken := true }).contactorClosed g
  else s

/-- CONTACTOR_TIMEOUT (R138). -/
def evContactorTimeout (g : Fin 4) (s : State) : State :=
  let e := s.gf g
  if e.joinReq ∧ ¬ s.gfClosed g ∧ (e.phase = .closeDead ∨ e.phase = .closeLive) then
    (s.advanceTo (e.joinReqAt + msSteps 500)).enterPhase g .retryWait
  else s

/-- RETRY_WAIT_END (R138). -/
def evRetryWaitEnd (g : Fin 4) (s : State) : State :=
  let e := s.gf g
  if e.phase = .retryWait then (s.advanceTo (e.phaseAt + secSteps 1)).takePath g else s

/-- DETACHMENT (R144): the comparison of an engine whose `JOIN_FBn` is not mapped has lasted 20 ms. -/
def evDetachment (g : Fin 4) (s : State) : State :=
  let e := s.gf g
  match e.awaySince with
  | some t0 =>
    if e.hasBus ∧ ¬ s.fbMapped g ∧ (e.state = .forming ∨ e.state = .limiting) then (s.advanceTo (t0 + msSteps 20)).detach g else s
  | none => s

end Sys2Proof.Machine
end

