-- ==== Sys2Proof/Machine/GfeStep.lean ====
section
/-! DEFINITION. The outer sample of a grid-forming engine (02 R68 to R91, R104 to R106; 03 R117 to R137). Every stored
value passes through `Config.gfPrec`, since the spec fixes no internal precision (log 3). -/

namespace Sys2Proof.Machine

/-! ### Waiting changes (R104 to R106) -/

/-- Bytes of the impedance fields that move (R105). -/
def moveFields : List Nat := [68, 70, 72, 74, 80, 82, 84, 86, 88, 90, 92, 94]

/-- Value of an impedance field or a fade factor, on its way. -/
def GfEngine.moved (e : GfEngine) (field : Nat) (rest : Rat) : Rat :=
  match e.moves.find? (·.field = field) with
  | some m => m.target - (m.target - m.start) * m.left / 64
  | none => rest

/-- An impedance field at this sample. -/
def GfEngine.imp (e : GfEngine) (k : Nat) : Rat := e.moved k (e.pu k)

/-- Path k contributes: enabled, or fading out (R106). -/
def GfEngine.pathScale (e : GfEngine) (k : Nat) : Rat := e.moved (fadeCode k) (if (e.c8 78).testBit k then 1 else 0)

/-- One tune takes effect. -/
def GfEngine.applyTune (e : GfEngine) (t : List Byte × List Byte) : GfEngine :=
  let old := e.config.getD []
  let new := tuned old t.1 t.2
  let imps := (moveFields.filter fun k => maskSelects t.2 k).map fun k =>
    ({ field := k, start := e.imp k, target := ofPu (q15At new k), left := 64 } : Move)
  let off := numbers 5 fun k => (byteAt old 78).testBit k && !(byteAt new 78).testBit k
  let on := numbers 5 fun k => (byteAt new 78).testBit k && !(byteAt old 78).testBit k
  let fades := off.map fun k => ({ field := fadeCode k, start := e.pathScale k, target := 0, left := 64 } : Move)
  let gone := imps.map (·.field) ++ fades.map (·.field) ++ on.map fadeCode
  { e with config := some new, moves := (e.moves.filter fun m => !gone.contains m.field) ++ imps ++ fades,
           comp := on.foldl (fun v k => vset v k {}) e.comp }

/-- Moves one sample on. -/
def GfEngine.stepMoves (e : GfEngine) : GfEngine :=
  { e with moves := (e.moves.map fun m => { m with left := m.left - 1 }).filter fun m => m.left ≠ 0 }

/-- Tunes, set-points and secondary terms received since the previous sample (R104). -/
def GfEngine.applyWaiting (e : GfEngine) : GfEngine :=
  let e := e.tunes.foldl GfEngine.applyTune e
  let e := { e with tunes := [], sp := e.spNext.foldl (fun (v : Vector Q15 8) (p : Nat × Q15) => vset v p.1 p.2) e.sp, spNext := [] }
  match e.secNext with
  | some (dp, de, until_) => { e with dPsec := ofPu dp, dEsec := ofPu de, secUntil := some until_, secExpired := false, secNext := none }
  | none => e

/-- A value moved toward a target by at most a step. -/
def toward (x target step : Rat) : Rat := if target < x - step then x - step else if x + step < target then x + step else target

/-! ### The rotor and the voltage (R66, R67, R73 to R76) -/

def GfEngine.To (e : GfEngine) : Rat := 1 / (e.c16 8 : Nat)
def GfEngine.wRat (e : GfEngine) : Rat := (e.w.toNat : Rat) / 0x40000000
def GfEngine.thetaTurns (e : GfEngine) : Rat := (e.theta.toNat : Rat) / 4294967296

/-- Active and reactive power in the rotor frame (R67, R72). -/
def GfEngine.powers (e : GfEngine) (v i : Vec2) : Rat × Rat :=
  let u := unitVec e.thetaTurns
  let vd := v.a * u.a + v.b * u.b
  let vq := v.b * u.a - v.a * u.b
  let id_ := i.a * u.a + i.b * u.b
  let iq := i.b * u.a - i.a * u.b
  let q := vq * id_ - vd * iq
  (vd * id_ + vq * iq, if e.c8 18 = 0xFF then q + e.wRat * e.pu 32 * v.norm2 else q)

/-- Rotor step of R73, with a synchronising term added after the clamp (R134). -/
def GfEngine.rotor (e : GfEngine) (p q sync : Rat) (now : Nat) : GfEngine :=
  let k := e.To
  let tp : Rat := (e.c16 44 : Nat) / 100000
  let pf := if e.c16 44 = 0 then p else Config.gfPrec 1 (e.pf + k / tp * (p - e.pf))
  let qf := if e.c16 44 = 0 then q else Config.gfPrec 2 (e.qf + k / tp * (q - e.qf))
  let pe := if e.state = .limiting ∧ e.c8 107 = 1 then e.pHeld else pf
  let pSet := toward e.pSet (e.spPu 0) ((e.c16 52 : Nat) / 100 * k)
  let w := e.wRat
  let want := pSet + e.dPsec - (w - (1 + e.spPu 3)) / ((e.c16 42 : Nat) / 10000)
  let pm0 := limitR want (max (e.pu 48) (e.spPu 5)) (min (e.pu 50) (e.spPu 4))
  let pm := pm0 + sync
  let wf := Config.gfPrec 3 (e.wf + k / ((e.c16 40 : Nat) / 10000) * (w - e.wf))
  let w1 := w + k / (2 * (e.c16 36 : Nat) / 1000) * (pm - pe - (e.c16 38 : Nat) / 100 * (w - wf))
  let band : Rat := (e.c16 46 : Nat) / 10000
  let w2 := Config.gfPrec 4 (limitR w1 (1 - band) (1 + band))
  let bite := decide (w1 < 1 - band ∨ 1 + band < w1)
  let turn := Config.gfPrec 5 ((e.c16 6 : Nat) / 100 * k * w2 * 4294967296)
  { e with pf := pf, qf := qf, pSet := pSet, pClamp := decide (pm0 ≠ want), wf := wf, w := BitVec.ofNat 32 (toSpeed w2),
           wClamp := bite, clampSince := if bite then some (e.clampSince.getD now) else none,
           theta := e.theta + BitVec.ofInt 32 (roundR turn) }

/-- Voltage magnitude (R75, R76). -/
def GfEngine.voltage (e : GfEngine) : GfEngine :=
  let xv := if e.c8 56 = 1 then
      limitR (Config.gfPrec 6 (e.xv + e.To * ((e.c16 58 : Nat) / 10) * (e.droop - e.vPlus))) (-(e.pu 60)) (e.pu 60) else e.xv
  let want := if e.c8 56 = 1 then e.droop + xv else e.droop
  let e1 := toward e.e want ((e.c16 66 : Nat) / 100 * e.To)
  let e2 := limitR e1 (e.pu 62) (e.pu 64)
  { e with xv := xv, e := Config.gfPrec 7 e2, eClamp := decide (e2 ≠ e1) }

/-! ### Components and virtual impedances (R77 to R79) -/

/-- Signed rotation of path k. -/
def rotation (k : Nat) : Int := match k with | 0 => -1 | 1 => -5 | 2 => 7 | 3 => -11 | _ => 13

/-- Turns the fundamental makes in one outer period at the rotor speed. -/
def GfEngine.turnsPerStep (e : GfEngine) : Rat := (e.c16 6 : Nat) / 100 * e.To * e.wRat

/-- The extraction filters of the paths that contribute; the others rest at zero. R77 fixes the pole; the gain on the present
sample is 1 - ρ, which passes the centre frequency whole as G does (DEDUCED, log 87). -/
def GfEngine.extract (e : GfEngine) (i : Vec2) : GfEngine :=
  { e with comp := Vector.ofFn fun k : Fin 5 =>
      if e.pathScale k.val = 0 then {}
      else
        let bw : Rat := (if k.val = 0 then e.c8 76 else e.c8 77 : Nat)
        let rho := expTurn (-(bw * e.To))
        let pole := (unitVec ((rotation k.val : Rat) * e.turnsPerStep)).scale rho
        ((pole.mul (vget e.comp k.val)).add (i.scale (1 - rho))).stored (30 + 2 * k.val) }

/-- Extracted current of path k, with its fade. -/
def GfEngine.part (e : GfEngine) (k : Nat) : Vec2 := (vget e.comp k).scale (e.pathScale k)

/-- The impedance R + jX. -/
def impedance (r x : Rat) : Vec2 := { a := r, b := x }

/-- `V1`, `V2` and `VH` of R78 and R79 for an internal voltage of magnitude m. -/
def GfEngine.refs (e : GfEngine) (m : Rat) (i : Vec2) : Vec2 × Vec2 × Vec2 :=
  let w := e.wRat
  let parts := (List.range 5).foldl (fun (a : Vec2) k => a.add (e.part k)) {}
  let v1 := ((unitVec e.thetaTurns).scale m).sub
    ((impedance (e.imp 68 + e.dR) (w * (e.imp 70 + e.dX))).mul (i.sub parts))
  let v2 := ((impedance (e.imp 72 + e.dR + e.dRneg) (-(w * (e.imp 74 + e.dX)))).mul (e.part 0)).scale (-1)
  let vh := (List.range 4).foldl (fun (a : Vec2) j =>
    let k := j + 1
    let sign : Rat := if 0 < rotation k then 1 else -1
    let z := impedance (e.imp (80 + 2 * j)) (sign * w * e.imp (88 + 2 * j))
    let v := ((z.mul (e.part k)).scale (-1)).mul (unitVec ((rotation k : Rat) * e.turnsPerStep * 3 / 2))
    a.add v) ({} : Vec2)
  (v1, v2, vh)

/-! ### Current limiting (R81 to R86) -/

/-- Gain k of R82. -/
def GfEngine.limGain (e : GfEngine) : Rat :=
  let sg : Rat := (e.c16 102 : Nat) / 100
  e.pu 64 / (e.pu 96 * (e.pu 96 - e.pu 98) * ratSqrt (1 + sg * sg))

/-- The limiting terms of one sample: zero while the engine is not limiting. -/
def GfEngine.limitTerms (e : GfEngine) : GfEngine :=
  if e.state = .limiting then
    let dr := Config.gfPrec 8 (e.limGain * max 0 (ofPu e.iPk - e.pu 98))
    let share : Rat := (e.c8 106 : Nat) / 100 * e.pu 96
    { e with dR := dr, dX := (e.c16 102 : Nat) / 100 * dr,
             dRneg := if share * share < (e.part 0).norm2 then e.dRneg + 1 / 100 else max 0 (e.dRneg - 1 / 100) }
  else { e with dR := 0, dX := 0, dRneg := 0 }

/-- i_pk is at or below 0.95 of `I_TH`. -/
def GfEngine.lowCurrent (e : GfEngine) : Bool := decide (100 * e.iPk.toInt ≤ 95 * (q15At (e.config.getD []) 98).toInt)

/-! ### Trackers and the dead-bus test (R107, R117, R122, R123) -/

/-- One sample of a tracker of 20 Hz on a voltage (R107, R117): on a dead voltage its speed is 1.0 pu. The spec gives the
bandwidth alone: form and damping of the step are the model's, its value free (DESIGN CHOICE, log 86). -/
def GfEngine.track (e : GfEngine) (k : Tracker) (v : Vec2) : Tracker :=
  let f : Rat := (e.c16 6 : Nat) / 100
  if v.norm2 < e.pu 114 * e.pu 114 then
    let a := k.angle + f * e.To
    { angle := a - a.floor, speed := f }
  else k.step 20 (7 / 10) e.To (turnAtan2 v.b v.a)

/-- The positive-sequence magnitude a tracker sees: the part of the voltage along its angle, filtered with its bandwidth. -/
def GfEngine.plusOf (e : GfEngine) (k : Tracker) (v : Vec2) (old : Rat) : Rat :=
  let u := unitVec k.angle
  Config.gfPrec 33 (old + (1 - expTurn (-(20 * e.To))) * (v.a * u.a + v.b * u.b - old))

/-- Speed of a tracker in per unit, and its angle as a word. -/
def GfEngine.speedPu (e : GfEngine) (k : Tracker) : Rat := k.speed * 100 / (e.c16 6 : Nat)
def Tracker.turnWord (k : Tracker) : Word := BitVec.ofInt 32 (roundR (k.angle * 4294967296))

/-- The trackers and the bus quantities of one sample; without `BUSSLOT` the bus tracker is that of the terminals (R117). -/
def GfEngine.seeBus (e : GfEngine) (bus v : Vec2) : GfEngine :=
  let t := e.track e.termTrk v
  let b := if e.hasBus then e.track e.busTrk bus else t
  let vp := e.plusOf t v e.vPlus
  { e with termTrk := t, busTrk := b, vBus := bus, wBus := e.speedPu b, thetaBus := b.turnWord,
           vBusPlus := if e.hasBus then e.plusOf b bus e.vBusPlus else vp, vPlus := vp }

/-- Dead-bus test of TRACKING and STARTING: the largest |v_bus| over the outer period against `DEAD_LEVEL` (R122, R123). -/
def GfEngine.deadTest (e : GfEngine) (now : Nat) : GfEngine :=
  let live := decide (e.pu 114 * e.pu 114 ≤ max e.busPeak e.vBus.norm2)
  let e := { e with live := live, busPeak := 0 }
  if live then { e with deadSince := none, deadBus := false } else { e with deadSince := some (e.deadSince.getD now) }

/-- The dead-bus timer has reached `DEAD_TIME`. -/
def GfEngine.deadDue (e : GfEngine) (now : Nat) : Bool :=
  match e.deadSince with | some t0 => !e.deadBus && decide (t0 + msSteps (e.c16 116) ≤ now) | none => false

/-- θ, ω and E of the bus tracker, or of the one on the terminals (R107, R126); the stay of ω at a clamp ends (R74). -/
def GfEngine.follow (e : GfEngine) (bus : Bool) : GfEngine :=
  let k := if bus then e.busTrk else e.termTrk
  { e with theta := k.turnWord, w := BitVec.ofNat 32 (toSpeed (e.speedPu k)), wf := e.speedPu k,
           e := if bus then e.vBusPlus else e.vPlus, wClamp := false, clampSince := none }

/-! ### Hand-off (R89, R126) -/

/-- A record joins the latch. `SEQ` counts the records written, from 0 (DESIGN CHOICE, log 87). -/
def GfEngine.handOff (e : GfEngine) (v1 v2 vh : Vec2) (ns : DWord) : GfEngine :=
  let q (x : Rat) : Q15 := ofQ (toPu (Config.gfPrec 9 x))
  { e with seq := e.seq + 1,
           latch := ({ v1a := q v1.a, v1b := q v1.b, v2a := q v2.a, v2b := q v2.b, vha := q vh.a, vhb := q vh.b, w := e.w,
                       theta := BitVec.ofNat 16 (e.theta.toNat / 65536), ihard := q15At (e.config.getD []) 100,
                       flags := BitVec.ofNat 16 (bit (e.state = .limiting)
                         + 2 * bit (e.state = .starting || (e.state = .limiting && e.limFrom = .starting))),
                       seq := e.seq, tn := ns } :: e.latch).take 8 }

/-! ### Start phases (Table 03-2, R124 to R137) -/

/-- A phase whose output is a shadow of the terminal voltage; so is NONE in STARTING, while a stop ramp runs on after
BRIDGE_STOP has ended the start phase (R141; DESIGN CHOICE, log 86). -/
def StartPhase.shadow : StartPhase → Bool
  | .ramp | .presync | .closeLive => false
  | _ => true

/-- Ramp factor after one sample (R132, R134). -/
def GfEngine.rampStep (e : GfEngine) : GfEngine :=
  let step := e.To / ((e.c16 118 : Nat) / 1000)
  match e.phase with
  | .ramp => { e with r := min 1 (e.r + step) }
  | .presync => { e with r := toward e.r (if e.e = 0 then 1 else min 1 (e.vBusPlus / e.e)) step }
  | .closeLive => { e with r := toward e.r (if e.e = 0 then 1 else min 1 (e.vBusPlus / e.e)) step }
  | _ => e

/-- An angle in turns of 2^-32, as the signed distance from another. -/
def turnsApart (a b : Word) : Int := (a - b).toInt

/-- The synchronising term of R134 for a slip in per unit and an angle in turns: with 2H·dω/dt = p and dδ/dt = F_NOM·slip,
the one that makes δ decay with 1 Hz and a damping ratio of 0.7, rotor damping and droop left out (DEDUCED, log 86); limited
to ±0.1 pu. -/
def GfEngine.syncOf (e : GfEngine) (slip turns : Rat) : Rat :=
  let h2 : Rat := 2 * (e.c16 36 : Nat) / 1000
  limitR (-(h2 * (tau * tau * turns / ((e.c16 6 : Nat) / 100) + 2 * (7 / 10) * tau * slip))) (-1 / 10) (1 / 10)
def GfEngine.syncTerm (e : GfEngine) : Rat :=
  if e.phase = .presync ∨ e.phase = .closeLive then e.syncOf (e.wRat - e.wBus) ((turnsApart e.theta e.thetaBus : Rat) / 4294967296) else 0

/-- Angle between the terminal and the bus voltage in turns of 2^-32, and the difference of their magnitudes (R135, R144). -/
def GfEngine.angleGap (e : GfEngine) : Nat := (turnsApart e.termTrk.turnWord e.thetaBus).natAbs
def GfEngine.magGap (e : GfEngine) : Rat := if e.vPlus < e.vBusPlus then e.vBusPlus - e.vPlus else e.vPlus - e.vBusPlus

/-- The join windows are met (R135). -/
def GfEngine.joinMet (e : GfEngine) : Bool :=
  let slip := (e.wRat - e.wBus) * ((e.c16 6 : Nat) / 100)
  let top : Rat := (e.c16 120 : Nat) / 1000
  decide (-top < slip) && decide (slip < top) && decide (e.angleGap < e.c16 122 * 65536) && decide (e.magGap < e.pu 124)

/-- Terminal and bus are apart: by more than twice a window (R144). -/
def GfEngine.apart (e : GfEngine) : Bool := decide (2 * e.c16 122 * 65536 < e.angleGap) || decide (2 * e.pu 124 < e.magGap)

/-- Qualification timers of the phases and of the detachment test. -/
def GfEngine.qualify (e : GfEngine) (now : Nat) (fb : Bool) : GfEngine :=
  let ok := match e.phase with
    | .waitLive => decide (e.pu 62 ≤ e.vBusPlus) && decide (e.vBusPlus ≤ e.pu 64)
    | .presync => e.joinMet
    | _ => false
  let away := (e.state = .forming || e.state = .limiting) && e.hasBus && !fb && !e.detached && e.apart
  { e with okSince := if ok then some (e.okSince.getD now) else none,
           awaySince := if away then some (e.awaySince.getD now) else none }

/-- A timer has run for a time. -/
def elapsed (since : Option Nat) (time now : Nat) : Bool :=
  match since with | some t0 => decide (t0 + time ≤ now) | none => false

/-- Phase changes that this sample decides. -/
def State.movePhase (s : State) (g : Nat) : State :=
  let e := s.gf g
  match e.phase with
  | .classify => if e.live then s.enterPhase g .waitLive else if e.deadBus then s.enterPhase g .holdoff else s
  | .holdoff =>
    if e.live then s.enterPhase g .waitLive
    else if e.phaseAt + usSteps e.holdoff.toNat ≤ s.now then s.holdoffDone g else s
  | .waitLive =>
    if e.deadBus ∧ e.startMode = 1 then s.enterPhase g .holdoff
    else if elapsed e.okSince (msSteps 20) s.now then s.enterPhase g .presync else s
  | .presync =>
    if e.deadBus ∧ e.startMode = 1 then s.enterPhase g .holdoff
    else if elapsed e.okSince (msSteps 20) s.now then s.closeLive g else s
  | .ramp => if 1 ≤ e.r then s.rampFromLive g else s
  | _ => s

/-! ### One outer sample -/

/-- The set-points of a stop ramp (R41). -/
def State.rampSetpoints (s : State) (g : Nat) : State :=
  match s.bridgeOfGf g with
  | some b => match (s.bridge b).stop with
    | some r => s.modGf g fun e => { e with sp := r.at_ s.now }
    | none => s
  | none => s

/-- Secondary terms whose time has passed ramp to zero (R94). -/
def GfEngine.fadeSecondary (e : GfEngine) (now : Nat) : GfEngine :=
  let e := match e.secUntil with
    | some t0 => if t0 ≤ now then { e with secUntil := none, secExpired := true } else e
    | none => e
  if e.secUntil.isSome then e
  else { e with dPsec := toward e.dPsec 0 ((e.c16 52 : Nat) / 100 * e.To), dEsec := toward e.dEsec 0 ((e.c16 66 : Nat) / 100 * e.To) }

/-- The peak current of the inner samples since the previous outer sample (R81). -/
def State.takePeak (s : State) (g : Nat) : State :=
  match s.bridgeOfGf g with
  | some b => match (s.bridge b).lc with
    | some k => (s.modGf g fun e => { e with iPk := (s.lc k).iPk }).modLc k fun c => { c with iPk := 0 }
    | none => s
  | none => s

/-- The forming part of a step: limit, rotor, voltage, components, references (R73 to R79, R82, R127). -/
def GfEngine.formStep (e : GfEngine) (v i : Vec2) (now : Nat) (ns : DWord) : GfEngine :=
  let e := (e.extract i).limitTerms
  let e := if e.state = .starting then e.rampStep else e
  let pq := e.powers v i
  let e := ((e.rotor pq.1 pq.2 e.syncTerm now).voltage)
  let m := if e.state = .starting then e.r * e.e else e.e
  let r := e.refs m i
  e.handOff r.1 r.2.1 r.2.2 ns

/-- A shadow step (R126). -/
def GfEngine.shadowStep (e : GfEngine) (v : Vec2) (ns : DWord) : GfEngine := (e.follow true).handOff v {} {} ns

/-- One outer sample of an engine from TRACKING to LIMITING, at the carrier event of instant `tn` (R68, R73, R104). -/
def State.outerStep (s : State) (g : Fin 4) (tn : Nat) : State :=
  let s := s.modGf g fun e => { e with sampledAt := tn, due := none }
  let s := ((s.modGf g fun e => (e.applyWaiting.fadeSecondary s.now)).rampSetpoints g).takePeak g
  let e := s.gf g
  let ns := s.dtbNsAt tn
  let v := s.gfVolt e
  let i := s.gfGrid e
  let s := s.modGf g fun e =>
    let e := e.seeBus (s.gfBus e) v
    if e.state = .tracking ∨ e.state = .starting then e.deadTest s.now else e
  let s := if (s.gf g).deadDue s.now then s.setDeadBus g else s
  let e := s.gf g
  let s :=
    if (e.state = .starting ∨ e.state = .forming) ∧ (q15At (e.config.getD []) 98).toInt < e.iPk.toInt then s.engageLimit g
    else if e.state = .limiting then
      let since := if e.lowCurrent then some (e.belowSince.getD s.now) else none
      let s := s.modGf g fun e => { e with belowSince := since }
      if elapsed since (msSteps (e.c16 104)) s.now then s.releaseLimit g
      else if e.limAt + msSteps (e.c16 108) ≤ s.now then s.gfFault g 0x0202
      else s
    else s
  match (s.gf g).state with
  | .tracking => s.modGf g fun e => (e.follow false).stepMoves
  | .starting | .forming | .limiting =>
    let s := s.modGf g fun e =>
      let e := if e.state = .starting ∧ e.phase.shadow then e.shadowStep v ns else e.formStep v i s.now ns
      (e.qualify s.now (s.fbMapped g)).stepMoves
    let s := if elapsed (s.gf g).clampSince (msSteps ((s.gf g).c16 110)) s.now then s.gfFault g 0x0203 else s
    let s := if elapsed (s.gf g).awaySince (msSteps 20) s.now then s.detach g else s
    if (s.gf g).state = .starting then s.movePhase g else s
  | _ => s

/-- GF_OUTER_STEP (R68): the outer sample that is due runs, on a configured engine whose bridge is not frozen (R602). -/
def evGfOuterStep (g : Fin 4) (s : State) : State :=
  match s.outerDue g with
  | none => s
  | some tn =>
    let stopped : Bool := match s.bridgeOfGf g with | some b => s.frozenBridge b | none => false
    if (s.gf g).config.isNone ∨ stopped = true then s else s.outerStep g tn

end Sys2Proof.Machine
end

