-- ==== Sys2Proof/Machine/LoopMath.lean ====
section
/-! DEFINITION. The arithmetic of one sample of a loop context (04 R154 to R164, R174 to R181, R197 to R199): products and
derived values, transforms, hand-off reference, tables, clamp, modulator and test signals. -/

namespace Sys2Proof.Machine

/-! ### Derived values (R723) -/

/-- A value p/q formed with 24 fraction bits and rounded once to Q15: where the bits decide the rounding it is the nearest
value, else either neighbour. -/
def derivedQ (place : Nat) (p q : Int) : Int :=
  let lo := roundDiv (512 * p - q) (512 * q)
  let hi := roundDiv (512 * p + q) (512 * q)
  sat16 (if lo = hi then lo else lo + (Config.loopErr place [p, q] % 2 : Nat))

/-- The same for a value given as a rational. -/
def derivedR (place : Nat) (x : Rat) : Int := derivedQ place x.num x.den

/-- The magnitude of a pair. -/
def magnitude (place : Nat) (x y : Int) : Int :=
  let s := Nat.sqrt ((x.natAbs ^ 2 + y.natAbs ^ 2) * 2 ^ 20)
  let lo := (s + 510) / 1024
  let hi := (s + 514) / 1024
  sat16 (if lo = hi then lo else lo + (Config.loopErr place [x, y] % 2 : Nat))

/-! ### Products (R156, R157, R723) -/

/-- Row r of a matrix stored at a word offset with a stride, times a vector. -/
def LoopContext.row (c : LoopContext) (b off stride r n : Nat) (x : Nat → Int) : Int :=
  (List.range n).foldl (fun a k => a + c.coef b (off + stride * r + k) * x k) 0

/-- A sum of products in the accumulator, each at its own exponent, written back: the value and whether it saturates. -/
def wb (acc : Int) : Int × Bool := (sat16 (writeBack acc 0), saturates (writeBack acc 0))

/-- Saturating write-backs counted (R157). -/
def LoopContext.countSat (c : LoopContext) (ws : List (Int × Bool)) : LoopContext :=
  { c with satCount := satTo 0xFFFF (c.satCount + (ws.filter fun (x : Int × Bool) => x.2).length) }

def q16s (n : Nat) (vs : List Int) : Vector Q15 n := Vector.ofFn fun k => ofQ (vs.getD k.val 0)

/-! ### Transforms (R70, R71, R163, R164) -/

/-- Rotor-frame or stationary pair of a triple: kind 1 rotates by an angle in turns of 2^-16. -/
def inputPair (kind : Nat) (angle : Int) (a b c : Int) : Int × Int :=
  let al : Rat := (2 * a - b - c : Int) / 3
  let be : Rat := ((b - c : Int) : Rat) / ratSqrt 3
  if kind = 1 then
    let u := unitVec ((angle : Rat) / 65536)
    (derivedR 50 (al * u.a + be * u.b), derivedR 51 (be * u.a - al * u.b))
  else (derivedQ 52 (2 * a - b - c) 3, derivedR 53 be)

/-- The three phase values of a pair: kind 3 rotates by an angle. -/
def outputTriple (kind : Nat) (angle : Int) (x y : Int) : List Int :=
  let (al, be) : Rat × Rat :=
    if kind = 3 then
      let u := unitVec ((angle : Rat) / 65536)
      ((x : Rat) * u.a - (y : Rat) * u.b, (x : Rat) * u.b + (y : Rat) * u.a)
    else ((x : Rat), (y : Rat))
  let h := ratSqrt 3 / 2 * be
  [derivedR 54 al, derivedR 55 (-al / 2 + h), derivedR 56 (-al / 2 - h)]

/-! ### What a sample reads -/

/-- A measured input: value, validity, and whether a live recalibration makes it invalid (R189, R191). -/
structure MVal where
  v : Int
  ok : Bool
  recal : Bool
  deriving DecidableEq, Repr, Inhabited

/-- Latched inputs of one sample. -/
structure Latched where
  m : List MVal
  /-- Mechanical angle, its change over the last sample, speed, and validity of the position input. -/
  theta : Half
  delta : Half
  speed : Q15
  posOk : Bool
  /-- Hand-off reference, hand-off angle and `IHARD` in use; none when no engine is bound. -/
  hand : Option (Int × Int × Half)
  /-- Level of the current clamp (R178). -/
  ic : Int
  /-- Test signal of this sample: point, entry and value. -/
  inj : Option (Nat × Nat × Int)
  deriving DecidableEq, Repr, Inhabited

/-- The input of one `MSRC` code. -/
def State.inputOf (s : State) (code : Nat) : MVal :=
  if code < 48 then
    let x := s.slot code
    ⟨x.out.value.toInt, x.out.valid, x.state = .recal⟩
  else if 0x80 ≤ code ∧ code < 0x84 then
    let p := s.position (code - 0x80)
    ⟨p.speed.toInt, p.valid && !s.isRetired 2 (code - 0x80), false⟩
  else ⟨0, true, false⟩

/-- The triple of input transform t. -/
def LoopContext.triple (c : LoopContext) (m : List MVal) (t : Nat) : List MVal :=
  (List.range 3).map fun k => m.getD (c.trf t 2 + k) default

/-- Transform t rebuilds its triple: `REBUILD` is set and one phase is invalid (R189). -/
def LoopContext.rebuilds (c : LoopContext) (m : List MVal) (t : Nat) : Bool :=
  decide (c.trf t 0 = 1 ∨ c.trf t 0 = 2) && (c.trf t 3).testBit 0 && decide (((c.triple m t).filter fun x => !x.ok).length = 1)

/-- The triple as the transform reads it, one invalid phase rebuilt as minus the sum of the others (R189). -/
def LoopContext.phases (c : LoopContext) (m : List MVal) (t : Nat) : List MVal :=
  let x := c.triple m t
  if c.rebuilds m t then
    let sum := (x.filter fun v => v.ok).foldl (fun a v => a + v.v) 0
    x.map fun v => if v.ok then v else ⟨sat16 (-sum), true, false⟩
  else x

/-- Transform t reads m[i]. -/
def LoopContext.trfReads (c : LoopContext) (t i : Nat) : Bool :=
  decide ((c.trf t 0 = 1 ∨ c.trf t 0 = 2) ∧ c.trf t 2 ≤ i ∧ i < c.trf t 2 + 3)

/-- m[i] is substituted: it is invalid, and not every one of its readers is a transform that rebuilds it (R189). -/
def LoopContext.substituted (c : LoopContext) (m : List MVal) (i : Nat) : Bool :=
  !(m.getD i default).ok &&
    ((List.range 4).all (fun t => !c.trfReads t i) || (List.range 4).any (fun t => c.trfReads t i && !c.rebuilds m t) ||
      (List.range 16).any (fun y => decide (y < c.ny ∧ c.ymap y = i)) || decide (c.modVdc = i))

/-! ### Hand-off (R90, R178, R179) -/

/-- The newest record of the latch that is an outer period old at an instant: t_n + T_o ≤ t_k on instants of whole nanoseconds,
as `T_N` holds them (R90; DEDUCED, log 89). -/
def GfEngine.usable (e : GfEngine) (tk : Nat) : Option HandOff :=
  e.latch.find? fun h => decide (1000000000 < (tk + 1 - h.tn.toNat) * e.c16 8)

/-- The reference of a record at an instant, and the record's angle turned on to it. -/
def GfEngine.handRef (e : GfEngine) (h : HandOff) (tk : Nat) : Int × Int × Half :=
  let turns : Rat := (h.w.toNat : Rat) / 0x40000000 * (e.c16 6 : Nat) / 100 * ((tk - h.tn.toNat : Nat) : Rat) / 1000000000
  let u := unitVec turns
  let q (x : Q15) : Rat := x.toInt
  (derivedR 57 (q h.v1a * u.a - q h.v1b * u.b + (q h.v2a * u.a + q h.v2b * u.b) + q h.vha),
   derivedR 58 (q h.v1a * u.b + q h.v1b * u.a + (q h.v2b * u.a - q h.v2a * u.b) + q h.vhb),
   h.theta + BitVec.ofInt 16 (roundR (turns * 65536)))

/-- A per-unit current level as a fraction of the current slots' full scale (R178). -/
def GfEngine.icOf (e : GfEngine) (level : Q15) : Int := derivedR 59 (ofPu level / e.iScale * 32768)

/-! ### Tables (R174, R175) -/

/-- The value of a table bank at a position. -/
def tableAt (t : Cells) (p : Nat) : Int :=
  let n := p / 64
  let v (k : Nat) : Int := signed 16 (cellGet 0 (k % 1024) t)
  (wb (v n * 0x8000 + ((p % 64 : Nat) : Int) * (v (n + 1) - v n) * 512)).1

/-- Electrical angle of a mechanical one (R164). -/
def LoopContext.elec (c : LoopContext) (mech : Half) : Nat := (c.polePairs * mech.toNat + c.thetaOfs) % 65536

/-- Term of table t (0 friction, 1 cogging); zero while it is disabled. -/
def LoopContext.tableTerm (c : LoopContext) (t : Nat) (l : Latched) : Int :=
  if c.tabEn t then
    let p := if c.tabElec t then c.elec l.theta else l.theta.toNat
    if t = 1 then tableAt (vget c.cogg c.coggAct) p
    else
      let v := tableAt (vget c.fric c.fricAct) p
      if l.speed.toInt.natAbs ≤ c.fricDb.toInt.natAbs then 0 else if l.speed.toInt < 0 then -v else v
  else 0

/-- Additions to an r entry (code k) or u entry (code 0x10 + k). -/
def LoopContext.additions (c : LoopContext) (l : Latched) (base k point : Nat) : Int :=
  (if c.tabTgt 0 = base + k then c.tableTerm 0 l else 0) + (if c.tabTgt 1 = base + k then c.tableTerm 1 l else 0) +
    (match l.inj with | some (pt, en, v) => if pt = point ∧ en = k then v else 0 | none => 0)

/-! ### The modulator (R180, R181) -/

/-- Leg commands of the sources: the commands, and the flags `MOD_SAT` and `VDC_LOW`. -/
def modulate (mode k : Nat) (vdc : Int) (vs : List Int) : List Int × Bool × Bool :=
  if mode = 0 then (vs, false, false)
  else
    let low := decide (vdc < 0x800)
    let d : Int := if vdc < 0x800 then 0x800 else vdc
    let mx := vs.foldl max (-0x8000)
    let mn := vs.foldl min 0x7FFF
    let num (v : Int) : Int := if mode = 1 then (k : Int) * (2 * v - mx - mn) * 0x8000 else (k : Int) * (2 * v) * 0x8000
    (vs.map fun v => derivedQ 60 (num v) (8192 * d), vs.any fun v => saturates (roundDiv (num v) (8192 * d)), low)

/-! ### Test signals (R197 to R199) -/

/-- Second tap of the feedback polynomial. -/
def prbsTap (order : Nat) : Nat := match order with | 7 => 6 | 9 => 5 | 11 => 9 | _ => 14

/-- The shift register moved on by one bit. -/
def prbsStep (order reg : Nat) : Nat :=
  let b := bit (reg.testBit (order - 1) != reg.testBit (prbsTap order - 1))
  (2 * reg + b) % 2 ^ order

/-- Samples an injection lasts. -/
def Injection.total (j : Injection) (fs : Nat) : Nat :=
  if j.kind = 0 then j.length * (2 ^ j.order - 1) * j.chip else divUp (j.length * fs) 1000

/-- Phase of a chirp at sample k in turns, 0 at k = 0 (R199), with t = k/FS: linear, F0·t + (F1 - F0)·t²/(2L); geometric,
F0·L/ln(F1/F0)·((F1/F0)^(t/L) - 1). -/
def Injection.phase (j : Injection) (fs : Nat) : Rat :=
  let t : Rat := (j.k : Rat) / (max 1 fs : Nat)
  let f0 : Rat := (j.f0 : Rat) / 1000
  let f1 : Rat := (j.f1 : Rat) / 1000
  let len : Rat := (j.length : Rat) / 1000
  if j.kind = 1 ∨ j.f0 = j.f1 then f0 * t + (f1 - f0) * t * t / (2 * len)
  else
    let ln := ratLn (f1 / f0)
    f0 * len / ln * (ratExp (ln * t / len) - 1)

/-- The injected value of the present sample. -/
def Injection.value (j : Injection) (fs : Nat) : Int :=
  if j.kind = 0 then (if j.lfsr.testBit (j.order - 1) then j.ampl.toInt else -j.ampl.toInt)
  else derivedR 62 (j.ampl.toInt * turnSin (j.phase fs))

/-- The injection after its present sample. -/
def Injection.next (j : Injection) : Injection :=
  { j with k := j.k + 1, lfsr := if j.kind = 0 ∧ (j.k + 1) % max 1 j.chip = 0 then prbsStep j.order j.lfsr else j.lfsr }

/-! ### One sample (R159) -/

/-- Input-transform outputs: pairs of transforms 0 to 3, and whether an invalid input feeds them. -/
def LoopContext.inPairs (c : LoopContext) (l : Latched) (m : List MVal) : List (Int × Int × Bool) :=
  (List.range 4).map fun t =>
    if c.trf t 0 = 1 ∨ c.trf t 0 = 2 then
      let ph := c.phases m t
      let x (k : Nat) := ph.getD k default
      let ang : Int := if c.trf t 1 = 2 then (match l.hand with | some h => (h.2.2.toNat : Int) | none => 0) else (c.elec l.theta : Int)
      let p := inputPair (c.trf t 0) ang (x 0).v (x 1).v (x 2).v
      (p.1, p.2, (x 0).ok && (x 1).ok && (x 2).ok)
    else (0, 0, true)

/-- Measured output i before substitution, and its validity (YMAP). -/
def LoopContext.yOf (c : LoopContext) (m : List MVal) (ps : List (Int × Int × Bool)) (i : Nat) : Int × Bool :=
  let code := c.ymap i
  if code < 16 then ((m.getD code default).v, (m.getD code default).ok)
  else if 0x40 ≤ code ∧ code < 0x48 then
    let p := ps.getD ((code - 0x40) / 2) (0, 0, true)
    (if code % 2 = 0 then p.1 else p.2.1, p.2.2)
  else (0, true)

/-- Angle of an output transform in turns of 2^-16, advanced by `ADV` (R164). -/
def LoopContext.outAngle (c : LoopContext) (l : Latched) (t : Nat) : Int :=
  if c.trf t 1 = 2 then
    match l.hand with
    | some h =>
      let d : Int := signed 16 ((h.2.2 - c.lastHand).toNat)
      h.2.2.toNat + roundDiv ((c.adv : Int) * d) 16
    | none => 0
  else
    let d : Int := c.polePairs * l.delta.toInt
    c.elec l.theta + roundDiv ((c.adv : Int) * d) 16

/-- The modulator's sources; an output transform gives three values, and the spec states none for a fourth leg. -/
def LoopContext.sources (c : LoopContext) (l : Latched) (u : List Int) : List Int :=
  if c.modSrc < 16 then (List.range c.modLegs).map fun k => u.getD (c.modSrc + k) 0
  else
    let t := c.modSrc - 16
    let vs := outputTriple (c.trf t 0) (c.outAngle l t) (u.getD (c.trf t 2) 0) (u.getD (c.trf t 2 + 1) 0)
    (List.range c.modLegs).map fun k => vs.getD k (signed 16 (Config.loopErr 66 [k, l.theta.toNat]))

/-- The output and update sections of one sample: the context after it, leg commands included. -/
def LoopContext.sample (c : LoopContext) (l : Latched) : LoopContext :=
  let b := c.active
  let nx := c.nx
  let ny := c.ny
  let m := l.m
  let ps := c.inPairs l m
  let xh (k : Nat) : Int := (vget c.xh k).toInt
  let cx := (List.range ny).map fun i => c.row b 0x280 16 i nx xh * (2 ^ c.expo b 3 : Nat)
  let ys := (List.range ny).map fun i =>
    let y := c.yOf m ps i
    let w := wb (cx.getD i 0)
    if y.2 then
      let v := sat16 (y.1 + (match l.inj with | some (pt, en, x) => if pt = 2 ∧ en = i then x else 0 | none => 0))
      (v, true)
    else (w.1, false)
  let y (i : Nat) : Int := (ys.getD i (0, true)).1
  let es := (List.range ny).map fun i => if (ys.getD i (0, true)).2 then wb (y i * 0x8000 - cx.getD i 0) else (0, (wb (cx.getD i 0)).2)
  let eps (i : Nat) : Int := (es.getD i (0, false)).1
  let rs := (List.range 8).map fun k =>
    let base : Int := match l.hand with
      | some h => if k = 0 then h.1 else if k = 1 then h.2.1 else 0
      | none => if k < c.nr then (vget c.r k).toInt else 0
    sat16 (base + c.additions l 0 k 0)
  let r (k : Nat) : Int := rs.getD k 0
  let mag := magnitude 64 (y c.clampI) (y (c.clampI + 1))
  let on := c.clampEn && decide (l.ic < mag)
  let zl (v : Int) (j : Nat) := limitI v (c.zmin b j * 0x8000) (c.zmax b j * 0x8000)
  let z1 := if on then c.z else (List.range c.ni).foldl (fun z j =>
    setZ z j (zl ((vget z j).toInt + c.coef b (0x508 + j) * (r (c.intA j) - y (c.intB j))) j)) c.z
  let c1 := { c with z := z1 }
  let eg := c.expo b 4
  let add := (List.range c.nu).map fun o => c.additions l 0x10 o 1
  let us := (List.range c.nu).map fun o =>
    let acc := c.row b 0x380 48 o nx xh + c.row b 0x390 48 o ny eps + c.row b 0x3A0 48 o c.ni c1.zView + c.row b 0x3A8 48 o c.nr r
    wb (acc * (2 ^ eg : Nat) + add.getD o 0 * 0x8000)
  let uraw (o : Nat) : Int := (us.getD o (0, false)).1
  let vv (k : Nat) : Int :=
    if c.clampV < 0x20 then y (c.clampV + k) else if c.clampV < 0x40 then xh (c.clampV - 0x20 + k) else 0
  let s20 := Nat.sqrt (((y c.clampI).natAbs ^ 2 + (y (c.clampI + 1)).natAbs ^ 2) * 2 ^ 40)
  let fac := derivedQ 65 (c.rCl.toInt * ((s20 : Int) - l.ic * 2 ^ 20)) (max 1 s20 : Nat)
  let cl := if on then (List.range 2).map fun k => wb (vv k * 0x8000 - fac * y (c.clampI + k)) else []
  let u0 (o : Nat) : Int := if c.clampU ≤ o then (match cl[o - c.clampU]? with | some w => w.1 | none => uraw o) else uraw o
  let ul := (List.range c.nu).map fun o => limitI (u0 o) (c.umin b o) (c.umax b o)
  let u (o : Nat) : Int := ul.getD o 0
  let vdc : Int := if c.modVdc = 0xFF then 0
    else if (m.getD c.modVdc default).ok then (m.getD c.modVdc default).v else c.lastVdc.toInt
  let mods := modulate c.modMode c.modK vdc (c.sources l ul)
  let xn := (List.range nx).map fun k =>
    wb (c.row b 0x000 16 k nx xh * (2 ^ c.expo b 0 : Nat) + c.row b 0x100 8 k c.nu u * (2 ^ c.expo b 1 : Nat)
      + c.row b 0x180 16 k ny eps * (2 ^ c.expo b 2 : Nat))
  let z2 := if on then z1 else (List.range c.ni).foldl (fun z j =>
    setZ z j (zl ((vget z j).toInt + c.coef b (0x510 + j) * (u (c.intO j) - uraw (c.intO j))) j)) z1
  ({ c with
    m := q16s 16 (m.map fun (x : MVal) => x.v), y := q16s 16 (ys.map fun (x : Int × Bool) => x.1),
    eps := q16s 16 (es.map fun (x : Int × Bool) => x.1), rEff := q16s 8 rs, z := z2,
    xUsed := c.xh, zUsed := q16s 8 ((List.range c.ni).map c1.zView),
    u := q16s 8 ul, uRaw := q16s 8 (us.map fun (x : Int × Bool) => x.1), uAdd := Vector.ofFn fun o : Fin 8 => add.getD o.val 0,
    xh := Vector.ofFn fun k : Fin 16 => if k.val < nx then ofQ (xn.getD k.val (0, false)).1 else vget c.xh k.val,
    legCmd := q16s 6 mods.1, modSat := c.modSat || mods.2.1, vdcLow := c.vdcLow || mods.2.2, clampOn := on,
    lastVdc := ofQ vdc,
    lastHand := match l.hand with | some h => h.2.2 | none => c.lastHand }).countSat (es ++ us ++ cl ++ xn)

end Sys2Proof.Machine
end

