-- ==== Sys2Proof/Machine/Loop.lean ====
section
/-! DEFINITION. Class LOOP (04): configuration, banks, tables, set-points, substitution, test signals, status, and the
events of a context: its samples, overruns, the substitution time-out and the end of an injection. -/

namespace Sys2Proof.Machine

/-! ### LOOP_CONFIG (R162, R165, R166) -/

def lcFields : List FieldSpec :=
  [{ off := 0, len := 1, lo := 1, hi := 16 }, { off := 1, len := 1, lo := 1, hi := 16 }, { off := 2, len := 1, lo := 1, hi := 8 },
   { off := 3, len := 1, lo := 0, hi := 8 }, { off := 4, len := 1, lo := 0, hi := 8 }, { off := 5, len := 1, lo := 1, hi := 16 },
   { off := 6, len := 1, lo := 0, hi := 3 }, { off := 7, len := 1, lo := 1, hi := 8 },
   { off := 8, len := 4, lo := 1000, hi := 200000 }, { off := 12, len := 1, lo := 0, hi := 2 },
   { off := 13, len := 1, lo := 1, hi := 8 }, { off := 14, len := 2, lo := 1, hi := 1000 }] ++
  [{ off := 88, len := 1, lo := 0, hi := 2 }, { off := 91, len := 1, lo := 1, hi := 6 }, { off := 92, len := 2, lo := 1, hi := 0xFFFF },
   { off := 94, len := 1, lo := 0, hi := 1 }, { off := 95, len := 1, lo := 0, hi := 14 }, { off := 97, len := 1, lo := 0, hi := 6 },
   { off := 98, len := 2, lo := 0x800, hi := 0x7FFF }, { off := 100, len := 2, lo := 0, hi := 0x7FFF },
   { off := 102, len := 1, lo := 0, hi := 3 }, { off := 103, len := 1, lo := 0, hi := 3 },
   { off := 106, len := 2, lo := 0, hi := 0xCCD }, { off := 108, len := 1, lo := 1, hi := 64 },
   { off := 109, len := 1, lo := 0, hi := 32 }, { off := 112, len := 1, lo := 0, hi := 1 }]

/-- A legal `MSRC` code. -/
def msrcOk (v : Nat) : Bool := decide (v < 48) || (decide (0x80 ≤ v) && decide (v < 0x84)) || decide (v = 0xFF)

/-- Transform t (Table 04-3). -/
def LoopContext.trfOk (c : LoopContext) (t : Nat) : Bool :=
  let i := c.trf t 2
  decide (c.trf t 3 ≤ 1) &&
    match c.trf t 0 with
    | 0 => decide (c.trf t 1 ≤ 2)
    | 1 => decide (1 ≤ c.trf t 1 ∧ c.trf t 1 ≤ 2 ∧ i + 2 < c.nm)
    | 2 => decide (c.trf t 1 = 0 ∧ i + 2 < c.nm)
    | 3 => decide (1 ≤ c.trf t 1 ∧ c.trf t 1 ≤ 2 ∧ i + 1 < c.nu)
    | 4 => decide (c.trf t 1 = 0 ∧ i + 1 < c.nu)
    | _ => false

/-- A `YMAP` code. -/
def LoopContext.ymapOk (c : LoopContext) (v : Nat) : Bool :=
  if v < 16 then decide (v < c.nm)
  else if 0x40 ≤ v ∧ v < 0x48 then decide (c.trf ((v - 0x40) / 2) 0 = 1 ∨ c.trf ((v - 0x40) / 2) 0 = 2)
  else decide (v = 0xFF)

/-- The modulator's fields. -/
def LoopContext.modOk (c : LoopContext) : Bool :=
  (decide (c.modVdc = 0xFF) || decide (c.modVdc < c.nm)) &&
    (if c.modSrc < 8 then decide (c.modSrc + c.modLegs ≤ c.nu)
     else decide (0x10 ≤ c.modSrc ∧ c.modSrc < 0x14 ∧ (c.trf (c.modSrc - 16) 0 = 3 ∨ c.trf (c.modSrc - 16) 0 = 4))) &&
    (decide (c.modMode = 0) || decide (c.modLegs = 3 ∧ c.modVdc ≠ 0xFF))

/-- The clamp's fields; its indices are judged while it is enabled (log 23). -/
def LoopContext.clampOk (c : LoopContext) : Bool :=
  (decide (c.clampV < 15) || decide (0x20 ≤ c.clampV ∧ c.clampV < 0x2F) || decide (c.clampV = 0xFF)) &&
    (!c.clampEn || (decide (c.clampI + 1 < c.ny) && decide (c.clampU + 1 < c.nu) &&
      (if c.clampV < 0x20 then decide (c.clampV + 1 < c.ny)
       else decide (c.clampV = 0xFF ∨ c.clampV - 0x20 + 1 < c.nx))))

/-- A table's target. -/
def LoopContext.targetOk (c : LoopContext) (t : Nat) : Bool :=
  let v := c.tabTgt t
  (decide (v < 8) && (!c.tabEn t || decide (v < c.nr))) ||
    (decide (0x10 ≤ v ∧ v < 0x18) && (!c.tabEn t || decide (v - 0x10 < c.nu)))

/-- Every field and index of R165 but the budget. -/
def LoopContext.configOk (c : LoopContext) : Bool :=
  inRanges c.config lcFields && zeros c.config 113 15
    && ((List.range 16).all fun i => if i < c.nm then msrcOk (c.msrc i) else decide (c.msrc i = 0xFF))
    && (List.range 4).all c.trfOk
    && ((List.range 16).all fun i => if i < c.ny then c.ymapOk (c.ymap i) else decide (c.ymap i = 0xFF))
    && ((List.range 8).all fun j =>
        if j < c.ni then decide (c.intA j < c.nr ∧ c.intB j < c.ny ∧ c.intO j < c.nu)
        else decide (c.intA j = 0xFF ∧ c.intB j = 0xFF ∧ c.intO j = 0xFF))
    && c.modOk && c.clampOk && c.targetOk 0 && c.targetOk 1

/-- A source is a retired slot or position input. -/
def State.srcRetired (s : State) (v : Nat) : Bool :=
  if v < 48 then s.slotRetired v else decide (0x80 ≤ v ∧ v < 0x84) && s.isRetired 2 (v - 0x80)

/-- LOOP_CONFIG (R162, R165, R166, R185). -/
def effLoopConfig (t : Ticket) (p : Pkt) (s : State) : State :=
  let k := p.target.toNat
  let o := s.lc k
  let c : LoopContext := { state := .loaded, host := o.host, config := p.payload, r := o.r, satCount := o.satCount,
                           spNext := o.spNext, overruns := o.overruns, cycMost := o.cycMost }
  let load := s.engineLoad o.host (some k) + s.lcLoad k c
  if ¬ c.configOk then s.ends t .badField
  else if loopBudget < load then s.answer t { status := .badField, r0 := word [(sat32 (divUp load 1000000), 0)] }
  else if (List.range 16).any fun i => s.srcRetired (c.msrc i) then s.ends t .unitRetired
  else (s.modLc k fun _ => c).ends t .done

/-! ### Banks and tables (R168 to R170, R176, R177) -/

/-- LOOP_COEF_LOAD (R168). -/
def effLoopCoefLoad (t : Ticket) (p : Pkt) (s : State) : State :=
  let k := p.target.toNat
  let off := prm16 p 0
  let n := prm16 p 2
  if n = 0 ∨ 1336 < off + n ∨ ¬ prmZero p 4 36 then s.ends t .badField
  else if p.len.toNat ≠ pad64 (2 * n) then s.ends t .badLength
  else if (s.lc k).coefSwap.isSome then s.ends t .busyRetry
  else
    (s.modLc k fun c => { c with
      bank := vmod c.bank (other c.active) (cellsWrite 0 off (wordsOf p.payload n)) }).ends t .done

/-- The limits of a bank are ordered for every configured integrator and output. -/
def LoopContext.limitsOk (c : LoopContext) (b : Nat) : Bool :=
  ((List.range c.ni).all fun j => decide (c.zmin b j < c.zmax b j)) &&
    (List.range c.nu).all fun o => decide (c.umin b o < c.umax b o)

/-- LOOP_COEF_SWAP (R169, R170). -/
def effLoopCoefSwap (t : Ticket) (p : Pkt) (s : State) : State :=
  let k := p.target.toNat
  let c := s.lc k
  let crc := bankCrc 1336 (vget c.bank (other c.active))
  if c.coefSwap.isSome then s.ends t .busyRetry
  else if 1 < prm p 0 ∨ ¬ prmZero p 1 3 ∨ ¬ prmZero p 8 32 then s.ends t .badField
  else if prm32 p 4 ≠ crc then s.answer t { status := .badField, r0 := BitVec.ofNat 32 crc }
  else if ¬ c.limitsOk (other c.active) then s.ends t .badField
  else if c.state = .running then
    s.modLc k fun c => { c with coefSwap := some { ticket := t, bumpless := decide (prm p 0 = 1), armed := false } }
  else s.finishCoef k t false s.dtbNs

/-- LOOP_TABLE_LOAD (R176). -/
def effLoopTableLoad (t : Ticket) (p : Pkt) (s : State) : State :=
  let k := p.target.toNat
  let off := prm16 p 2
  let n := prm16 p 4
  if 1 < prm p 0 ∨ prm p 1 ≠ 0 ∨ n = 0 ∨ 1024 < off + n ∨ ¬ prmZero p 6 34 then s.ends t .badField
  else if p.len.toNat ≠ pad64 (2 * n) then s.ends t .badLength
  else if ¬ (s.lc k).tabSwap.isEmpty then s.ends t .busyRetry
  else
    let put := cellsWrite 0 off (wordsOf p.payload n)
    (s.modLc k fun c =>
      if prm p 0 = 0 then { c with fric := vmod c.fric (other c.fricAct) put }
      else { c with cogg := vmod c.cogg (other c.coggAct) put }).ends t .done

/-- LOOP_TABLE_SWAP (R177). -/
def effLoopTableSwap (t : Ticket) (p : Pkt) (s : State) : State :=
  let k := p.target.toNat
  let c := s.lc k
  let mask := prm p 0
  if 3 < mask ∨ ¬ prmZero p 1 3 ∨ ¬ prmZero p 12 28
      ∨ (mask.testBit 0 ∧ prm32 p 4 ≠ bankCrc 1024 (vget c.fric (other c.fricAct)))
      ∨ (mask.testBit 1 ∧ prm32 p 8 ≠ bankCrc 1024 (vget c.cogg (other c.coggAct))) then s.ends t .badField
  else if c.tabSwap.any (fun w => w.2 &&& mask ≠ 0) then s.ends t .busyRetry
  else if c.state = .running then s.modLc k fun c => { c with tabSwap := c.tabSwap ++ [(t, mask)] }
  else (s.swapTables k mask).doneAt t s.dtbNs

/-- LOOP_STATE_SET (R206). -/
def effLoopStateSet (t : Ticket) (p : Pkt) (s : State) : State :=
  if ¬ zeros p.payload 48 16 then s.ends t .badField
  else
    (s.modLc p.target.toNat fun c => { c with
      x0 := Vector.ofFn fun i => q15At p.payload (2 * i.val),
      z0 := Vector.ofFn fun j => q15At p.payload (32 + 2 * j.val) }).ends t .done

/-! ### Set-points and sources (R192, R202, R203, R205) -/

/-- LOOP_SETPOINT (R61, R202, R203). -/
def effLoopSetpoint (t : Ticket) (p : Pkt) (s : State) : State :=
  let k := p.target.toNat
  let vs := spValues p
  if prm p 1 ≠ 0 ∨ ¬ prmZero p 18 22 then s.ends t .badField
  else
    match s.bridgeOfLc k with
    | some b =>
      if s.role b = some .form ∨ vs.any (fun v => vget (s.bridge b).spOfs v.1 ≠ 0xFFFF) then s.ends t .stateRefused
      else (s.modLc k fun c => { c with spNext := c.spNext ++ vs }).ends t .done
    | none => (s.modLc k fun c => { c with spNext := c.spNext ++ vs }).ends t .done

/-- LOOP_SUBST (R192, R205): at the next sample boundary, or at once while no samples run. -/
def effLoopSubst (t : Ticket) (p : Pkt) (s : State) : State :=
  let k := p.target.toNat
  if (s.lc k).nm ≤ prm p 0 ∨ ¬ msrcOk (prm p 1) ∨ ¬ prmZero p 2 38 then s.ends t .badField
  else if s.srcRetired (prm p 1) then s.ends t .unitRetired
  else
    let s := s.modLc k fun c => { c with substNext := c.substNext ++ [(prm p 0, BitVec.ofNat 8 (prm p 1))] }
    (if (s.lc k).state = .running then s else s.applySubst k).ends t .done

/-! ### Test signals (R197 to R201, R208) -/

/-- The ranges of Table 04-10, whatever `KIND` is, and the bound of R200 on F0 and F1. -/
def injectOk (p : Pkt) (c : LoopContext) : Bool :=
  let size := if prm p 1 = 0 then c.nr else if prm p 1 = 1 then c.nu else c.ny
  let len := prm32 p 16
  let f (v : Nat) := decide (1000 ≤ v) && decide (v ≤ 20000000) && decide (v ≤ 400 * c.fs)
  decide (prm p 0 ≤ 2) && decide (prm p 1 ≤ 2) && decide (prm p 2 < size)
    && decide (1 ≤ prm16 p 4) && decide (prm16 p 4 ≤ 0x7FFF) && decide (1 ≤ len) && decide (len ≤ 1000000) && prmZero p 20 20
    && (prm p 3 = 7 || prm p 3 = 9 || prm p 3 = 11 || prm p 3 = 15) && decide (1 ≤ prm16 p 6) && decide (prm16 p 6 ≤ 64)
    && f (prm32 p 8) && f (prm32 p 12)

/-- LOOP_INJECT (R197, R200, R201). -/
def effLoopInject (t : Ticket) (p : Pkt) (s : State) : State :=
  let k := p.target.toNat
  let c := s.lc k
  if ¬ c.injEn then s.ends t .stateRefused
  else if c.inj.isSome then s.ends t .busyRetry
  else if ¬ injectOk p c then s.ends t .badField
  else
    let j : Injection :=
      { ticket := t, kind := prm p 0, point := prm p 1, entry := prm p 2, order := prm p 3, ampl := prmQ p 4, chip := prm16 p 6,
        f0 := prm32 p 8, f1 := prm32 p 12, length := prm32 p 16, lfsr := 2 ^ prm p 3 - 1, k := 0, first := none,
        from_ := p.notBefore.toNat }
    s.modLc k fun c => { c with inj := some j }

/-- LOOP_INJECT_STOP (R201, R208). -/
def effLoopInjectStop (t : Ticket) (p : Pkt) (s : State) : State :=
  let k := p.target.toNat
  match (s.lc k).inj with
  | some j => ((s.modLc k fun c => { c with inj := none, injVal := 0 }).ends j.ticket .cancelled).ends t .done
  | none => s.ends t .done

/-! ### Status and unload (R204, R210) -/

def LcState.code : LcState → Nat
  | .empty => 0 | .loaded => 1 | .ready => 2 | .running => 3 | .held => 4 | .fault => 5 | .occupied => 6

/-- Result words of `LOOP_STATUS` (Table 04-15). -/
def State.loopWords (s : State) (k sel : Nat) : Word × Word :=
  let c := s.lc k
  match sel with
  | 0 =>
    (word [(c.state.code, 0), (bit c.lastOverran, 4), (bit c.swapClipped, 5), (bit (c.substMask ≠ 0), 6), (bit c.clampOn, 7),
           (bit c.modSat, 8), (bit c.vdcLow, 9), (bit c.inj.isSome, 10), (c.active.val, 11), (c.fricAct.val, 12),
           (c.coggAct.val, 13), (c.host, 16), (c.prio, 20), (c.consec, 24)],
     word [(c.satCount, 0), (satCount c.overruns, 16)])
  | 1 => (word [(satCount c.cycLast, 0), (satCount c.cycMost, 16)],
          word [((roundDiv (s.engineLoad c.host none) 10000).toNat, 0)])
  | _ => (word [(c.substMask.toNat, 0)],
          word [(match c.substSince with
            | some t0 => divUp (t0 + msSteps c.substTime - s.now) (msSteps 1)
            | none => c.substTime, 0)])

/-- LOOP_STATUS (R210). -/
def effLoopStatus (t : Ticket) (p : Pkt) (s : State) : State :=
  let k := p.target.toNat
  if 2 < prm p 0 ∨ ¬ prmZero p 1 39 then s.ends t .badField
  else
    let w := s.loopWords k (prm p 0)
    (if prm p 0 = 0 then s.modLc k fun c => { c with swapClipped := false, modSat := false, vdcLow := false } else s).answer t
      { r0 := w.1, r1 := w.2 }

/-- LOOP_UNLOAD (R204). -/
def effLoopUnload (t : Ticket) (p : Pkt) (s : State) : State :=
  (s.modLc p.target.toNat fun c => { c with state := .empty }).ends t .done

/-! ### Samples (R159 to R161, R186 to R191, R40, R91) -/

/-- The bridge of a running context and the oldest of its samples that are due, on an engine in service (R159, R160). -/
def State.sampleDue (s : State) (k : Nat) : Option (Nat × DueSample) :=
  let c := s.lc k
  if c.state = .running ∧ ¬ s.isRetired 7 c.host then
    match s.bridgeOfLc k, c.due with
    | some b, d :: _ => some (b, d)
    | _, _ => none
  else none

/-- Angle, its change over one sample, speed and validity of the bound position input at a measurement instant (R164). An
invalid input turns on at its last valid speed (R189); the change before the first sample is a value the spec does not
state. -/
def State.angleAt (s : State) (k b at_ : Nat) : (Half × Half × Q15 × Bool) × State :=
  let c := s.lc k
  match (s.bridge b).pos with
  | none => ((0, 0, 0, true), s)
  | some n =>
    let x := s.position n
    if x.valid ∧ ¬ s.isRetired 2 n then
      let a := s.posAt n at_
      if c.samples = 0 ∧ c.due = [] then
        let (d, s) := s.draw 44 65536
        ((a.1, BitVec.ofNat 16 d, a.2, true), s)
      else ((a.1, a.1 - c.lastAngle, a.2, true), s)
    else
      let turns : Rat := (c.lastSpeed.toInt : Rat) * (x.cfg.spdFs : Nat) / 327680 * ((at_ - c.latchedAt : Nat) : Rat) / 8000000000
      let d : Half := BitVec.ofInt 16 (roundR (turns * 65536))
      ((c.lastAngle + d, d, c.lastSpeed, false), s)

/-- A carrier event that is a measurement instant of the bridge's running context leaves a sample due, with the position
input as it stands at that instant (R160, R164). -/
def State.latchSample (s : State) (b : Nat) : State :=
  match (s.bridge b).lc with
  | some k =>
    let c := s.lc k
    let at_ := (s.pwm b).lastAt
    if c.state = .running ∧ (s.frameNo { src := b, ev := c.sampleEv, div := c.sampleDiv }).isSome = true then
      let outer := match (s.bridge b).gf with | some g => (s.outerInstant g).isSome | none => false
      let a := s.angleAt k b at_
      a.2.modLc k fun c => { c with
        due := c.due ++ [{ at_ := at_, ns := s.dtbNsAt at_, theta := a.1.1, delta := a.1.2.1, speed := a.1.2.2.1, posOk := a.1.2.2.2,
                           outer := outer }],
        lastAngle := a.1.1, lastDelta := a.1.2.1, lastSpeed := a.1.2.2.1, latchedAt := at_ }
    else s
  | none => s

/-- The commit deadline of a sample: 64 ns before the first commit point after its measurement instant (R161). -/
def State.deadline (s : State) (b : Nat) (d : DueSample) : Nat := (s.pwm b).commitAfter (d.at_ + 1) - 512

/-- What takes effect at a sample boundary (R170, R173, R177, R192, R202, R41). -/
def State.boundary (s : State) (k b : Nat) (ns : DWord) : State :=
  let s := match (s.lc k).coefSwap with
    | some w => if w.armed then s.finishCoef k w.ticket w.bumpless ns else s
    | none => s
  let s := (s.finishTables k ns).applySubst k
  let s := s.modLc k fun c =>
    { c with r := c.spNext.foldl (fun (v : Vector Q15 8) (x : Nat × Q15) => if x.1 < c.nr then vset v x.1 x.2 else v) c.r,
             spNext := [] }
  match (s.bridge b).stop with
  | some w => if s.role b = some .form then s else s.modLc k fun c => { c with r := w.at_ s.now }
  | none => s

/-- The hand-off record of an inner sample at an outer sample instant is judged late (R91): none in the latch has
t_n + T_o within half an inner sample of this one's instant. An inner sample that an overrun abandons starts no output section
in the model, and nothing is judged (DESIGN CHOICE, log 89). -/
def State.judgeLate (s : State) (k g : Nat) (d : DueSample) : State :=
  let e := s.gf g
  let c := s.lc k
  let m := c.fs / max 1 (e.c16 8)
  let age := 1000000000 / max 1 (e.c16 8)
  let tk := d.ns.toNat
  if c.samples < m ∨ d.outer = false then s
  else if e.latch.any fun h => decide (h.tn.toNat + age ≤ tk + 500000000 / max 1 c.fs) &&
      decide (tk ≤ h.tn.toNat + age + 500000000 / max 1 c.fs) then s.modGf g fun e => { e with lateInRow := 0 }
  else
    let s := s.modGf g fun e => { e with late := satCount (e.late + 1), lateInRow := e.lateInRow + 1 }
    if 2 ≤ (s.gf g).lateInRow then s.gfFault g 0x0201 else s

/-- Reference, angle and clamp level of a context bound to a FORM bridge (R90, R178); before any record is in use the
reference is a value the spec does not state. -/
def State.handOf (s : State) (k g tk : Nat) : (Int × Int × Half) × Int × State :=
  let e := s.gf g
  match e.usable tk with
  | some h => (e.handRef h tk, e.icOf h.ihard, s.modLc k fun c => { c with lastSeq := some h.seq })
  | none =>
    let (a, s) := s.draw 41 65536
    let (b, s) := s.draw 42 65536
    let (th, s) := s.draw 45 65536
    ((signed 16 a, signed 16 b, BitVec.ofNat 16 th), e.icOf (q15At (e.config.getD []) 100), s)

/-- Substituted inputs after a sample's latch, and the substitution timer (R189 to R191). -/
def State.noteSubst (s : State) (k : Nat) (l : Latched) : State :=
  s.modLc k fun c =>
    let bad := numbers c.nm (c.substituted l.m)
    let timed := (numbers c.nm fun i => c.substituted l.m i && !(l.m.getD i default).recal) ≠ [] ∨ (c.needsPos ∧ ¬ l.posOk)
    { c with substMask := BitVec.ofNat 16 (bad.foldl (fun a i => a + 2 ^ i) 0),
             substSince := if timed then some (c.substSince.getD s.now) else none }

/-- The first committed duty completes `BRIDGE_START` (R40). -/
def State.firstDuty (s : State) (b : Nat) : State :=
  match (s.bridge b).start with
  | some t => (s.modB b fun br => { br with start := none }).ends t .done
  | none => s

/-- The injection acts in a sample: its measurement instant is not before the not-before time, and the length has not passed
(R201). -/
def Injection.acts (j : Injection) (fs : Nat) (ns : DWord) : Bool := decide (j.from_ ≤ ns.toNat ∧ j.k < j.total fs)

/-- The test signal of a sample moves on, and stops adding at its length (R197 to R201). -/
def LoopContext.stepInjection (c : LoopContext) (ns : DWord) : LoopContext :=
  match c.inj with
  | some j =>
    if j.acts c.fs ns then
      { c with injVal := ofQ (j.value c.fs), inj := some { j.next with first := some (j.first.getD ns) } }
    else { c with injVal := 0 }
  | none => { c with injVal := 0 }

/-- The sample itself, after its boundary: latch, output section, commit, update section. -/
def State.runSample (s : State) (k b : Nat) (d : DueSample) : State :=
  let tk := d.ns.toNat
  let gf := if s.role b = some .form then (s.bridge b).gf else none
  let (hand, ic, s) : Option (Int × Int × Half) × Int × State :=
    match gf with
    | some g => let h := s.handOf k g tk; (some h.1, h.2.1, h.2.2)
    | none => (none, (s.lc k).iClamp.toInt, s)
  let c := s.lc k
  let c := if c.samples = 0 then { c with lastHand := match hand with | some h => h.2.2 | none => 0 } else c
  let inj := match c.inj with
    | some j => if j.acts c.fs d.ns then some (j.point, j.entry, j.value c.fs) else none
    | none => none
  let l : Latched :=
    { m := (List.range c.nm).map fun i => s.inputOf (c.msrc i), theta := d.theta, delta := d.delta, speed := d.speed,
      posOk := d.posOk, hand := hand, ic := ic, inj := inj }
  let form := gf.isSome
  -- a bumpless swap that takes effect after this sample adds its recomputation (R171)
  let cost := c.cycles form (s.lcShape k).2 + (match c.coefSwap with | some w => if w.bumpless then 24 + 20 * c.ni else 0 | none => 0)
  let (cyc, s) := s.draw 43 (cost + 1)
  let c1 := (c.sample l).stepInjection d.ns
  let peak : Q15 := match gf with
    | some g =>
      let mag := magnitude 64 (vget c1.y c.clampI).toInt (vget c1.y (c.clampI + 1)).toInt
      let v : Q15 := ofQ (toPu ((mag : Rat) / 32768 * (s.gf g).iScale))
      if c1.iPk.toInt < v.toInt then v else c1.iPk
    | none => c1.iPk
  let s := s.modLc k fun _ => { c1 with
    iPk := peak, samples := c.samples + 1, sampleAt := d.at_, sampleNs := d.ns, due := c.due.tail, consec := 0, lastOverran := false,
    cycLast := cyc, cycMost := max c.cycMost cyc,
    coefSwap := c1.coefSwap.map fun w => { w with armed := true } }
  let s := s.noteSubst k l
  -- a frozen bridge keeps its compares; after a handover duties wait for their first instant (R602)
  if s.frozenBridge b ∨ (s.pwm b).commitAfter s.now < (s.bridge b).dutyFrom then s else (s.commitLegs b (s.lc k).legCmd).firstDuty b

/-- The oldest sample due is abandoned at its commit deadline: an overrun (R161, R186, R187). -/
def State.abandon (s : State) (k : Nat) : State :=
  match s.sampleDue k with
  | none => s
  | some (b, d) =>
    let s := (s.advanceTo (s.deadline b d)).boundary k b d.ns
    let s := s.modLc k fun c => { c with
      overruns := satCount (c.overruns + 1), consec := c.consec + 1, lastOverran := true, samples := c.samples + 1,
      sampleAt := d.at_, sampleNs := d.ns, due := c.due.tail }
    if (s.lc k).ovrLimit ≤ (s.lc k).consec then s.enterSafe b 0x0301 else s

/-- The oldest sample due runs (R159). -/
def State.sampleNow (s : State) (k b : Nat) (d : DueSample) : State :=
  let s := s.boundary k b d.ns
  let s := match s.role b, (s.bridge b).gf with
    | some .form, some g => s.judgeLate k g d
    | _, _ => s
  if (s.lc k).state = .running then s.runSample k b d else s

/-- LOOP_SAMPLE (R159): every input of a context's sample is latched. After the commit deadline the sample is abandoned. -/
def evLoopSample (k : Fin 24) (s : State) : State :=
  match s.sampleDue k with
  | none => s
  | some (b, d) => if s.deadline b d < s.now then s.abandon k else s.sampleNow k b d

/-- COMMIT_DEADLINE_OVERRUN (R161, R186, R187). -/
def evCommitDeadlineOverrun (k : Fin 24) (s : State) : State := s.abandon k

/-- Before a commit point, the samples of the bridge's context whose deadline it ends are abandoned (R161, R186). -/
def State.expireSamples (s : State) (b : Nat) : State :=
  match (s.bridge b).lc with
  | some k =>
    if (s.pwm b).running ∧ (s.pwm b).nextCommits then s.forEach ((s.lc k).due.map fun _ => k) State.abandon else s
  | none => s

/-- SUBST_TIMEOUT (R190). -/
def evSubstTimeout (k : Fin 24) (s : State) : State :=
  match (s.lc k).substSince, s.bridgeOfLc k with
  | some t0, some b =>
    if (s.lc k).state = .running then (s.advanceTo (t0 + msSteps (s.lc k).substTime)).enterSafe b 0x0302 else s
  | _, _ => s

/-- INJECTION_END (R201): the last sample of an injection has run. -/
def evInjectionEnd (k : Fin 24) (s : State) : State :=
  match (s.lc k).inj with
  | some j =>
    if j.total (s.lc k).fs ≤ j.k then
      (s.modLc k fun c => { c with inj := none, injVal := 0 }).doneAt j.ticket (j.first.getD s.dtbNs)
    else s
  | none => s

end Sys2Proof.Machine
end

