-- ==== Sys2Proof/Machine/Capture.lean ====
section
/-! DEFINITION. Class CAPTURE (08): configuration of the units, sampling of their signals, triggers, records and their
segments, and the events of the units. -/

namespace Sys2Proof.Machine

/-! ### Configuration block (Table 08-7); a member takes its leader's shape (R362) -/

def CapUnit.chmask (c : CapUnit) : Nat := le c.config 20 2
def CapUnit.chans (c : CapUnit) : List Nat := bitsOf 16 c.chmask
def CapUnit.sel (c : CapUnit) (k : Nat) : Nat := le c.config (128 + 16 * k) 2
def CapUnit.red (c : CapUnit) (k : Nat) : Nat := byteAt c.config (130 + 16 * k)
def CapUnit.navg (c : CapUnit) (k : Nat) : Nat := byteAt c.config (131 + 16 * k)
def CapUnit.dband (c : CapUnit) (k : Nat) : Nat := le c.config (132 + 16 * k) 2
def CapUnit.tcap (c : CapUnit) (k : Nat) : Nat := le c.config (136 + 16 * k) 4
def CapUnit.xlev (c : CapUnit) (k : Nat) : Int := (q15At c.config (140 + 16 * k)).toInt
def CapUnit.xhys (c : CapUnit) (k : Nat) : Int := (q15At c.config (142 + 16 * k)).toInt
def CapUnit.tc (c : CapUnit) (i k : Nat) : Nat := byteAt c.config (64 + 16 * i + k)
def CapUnit.tcA (c : CapUnit) (i : Nat) : Int := (q15At c.config (68 + 16 * i)).toInt
def CapUnit.tcB (c : CapUnit) (i : Nat) : Int := (q15At c.config (70 + 16 * i)).toInt
def CapUnit.tcMask (c : CapUnit) (i : Nat) : Nat := le c.config (72 + 16 * i) 2
def CapUnit.tcPattern (c : CapUnit) (i : Nat) : Nat := le c.config (74 + 16 * i) 2

/-- The block that gives a unit its sampling and record shape: its leader's. -/
def State.shape (s : State) (u : Nat) : List Byte := (s.cap (s.cap u).leader).config
def capSrc (bs : List Byte) : Nat := byteAt bs 1
def capCfg (bs : List Byte) : SlotCfg := { src := byteAt bs 1, ev := byteAt bs 2, div := byteAt bs 3 }
def capL (bs : List Byte) : Nat := le bs 4 4
def capPre (bs : List Byte) : Nat := le bs 8 4
def capNseg (bs : List Byte) : Nat := le bs 12 2
def capWrap (bs : List Byte) : Bool := byteAt bs 14 = 1
def capAuto (bs : List Byte) : Bool := byteAt bs 15 = 1
def capLag (bs : List Byte) : Nat := le bs 16 2
def capExt (bs : List Byte) (n : Nat) : Bool := (byteAt bs 18).testBit n

/-- Units of the group of a leader. -/
def State.groupOf (s : State) (l : Nat) : List Nat := numbers 4 fun u => !(s.cap u).config.isEmpty && decide ((s.cap u).leader = l)

/-- Units of a group that are not retired. -/
def State.aliveOf (s : State) (l : Nat) : List Nat := (s.groupOf l).filter fun u => (s.cap u).state ≠ .retired

/-- The state of a group: that of its units which are not retired (R370). -/
def State.groupState (s : State) (l : Nat) : CapState :=
  match s.aliveOf l with | u :: _ => (s.cap u).state | [] => .retired

/-- A group samples. -/
def State.groupRuns (s : State) (l : Nat) : Bool := s.groupState l = .armed || s.groupState l = .filling

/-- A change to every unit of a group. -/
def State.modGroup (s : State) (l : Nat) (f : CapUnit → CapUnit) : State := s.forEach (s.groupOf l) fun s u => s.modCap u f

/-- A new state of every unit of a group that is not retired. -/
def State.setGroup (s : State) (l : Nat) (st : CapState) : State :=
  s.modGroup l fun c => if c.state = .retired then c else { c with state := st }

/-! ### Signals (Table 08-1) -/

/-- A signal: own instant and value. -/
structure CapSignal where
  own : Nat
  smp : CapSample
  deriving DecidableEq, Repr, Inhabited

def plainSample (value : Q15) (valid : Bool) : CapSample := { value, valid, sat := false, slip := false, late := false }

/-- The signal of a slot. -/
def State.slotSignal (s : State) (n : Nat) : CapSignal :=
  let o := (s.slot n).out
  { own := o.at_, smp := { value := o.value, valid := o.valid, sat := o.sat, slip := o.slip, late := false } }

/-- Entry i of vector v of a loop context. -/
def LoopContext.capValue (c : LoopContext) (v i : Nat) : Q15 :=
  match v with
  | 0 => vget c.m i | 1 => vget c.y i | 2 => vget c.xUsed i | 3 => vget c.eps i | 4 => vget c.zUsed i | 5 => vget c.rEff i
  | 6 => vget c.u i | _ => if i = 8 then c.injVal else vget c.legCmd i

/-- Quantity q of a grid-forming engine. -/
def GfEngine.capValue (e : GfEngine) (q : Nat) : Q15 :=
  let dw : Rat := (e.w.toNat : Rat) / 0x40000000 - 1
  match q with
  | 0 => ofQ (sat16 (roundR (dw * 0x100000)))
  | 1 => BitVec.ofNat 16 (e.theta.toNat / 65536)
  | 2 => ofQ (toPu e.pf) | 3 => ofQ (toPu e.qf) | 4 => ofQ (toPu e.e) | 5 => ofQ (toPu e.vPlus)
  | 6 => e.iPk
  | _ => ofQ (toPu dw)

/-- Item j of a bridge. -/
def State.bridgeItem (s : State) (b j : Nat) : Half :=
  match j with
  | 0 => BitVec.ofNat 16 ((s.bridgeWord b).toNat % 256)
  | 1 => (s.pwm b).trips
  | 2 => BitVec.ofNat 16 ((s.linksOf b).zipIdx.foldl (fun a g =>
      if (s.link g.1).latched then a + 2 ^ g.2 else a) 0)
  | _ => BitVec.ofNat 16 (bit (s.sslToggling b) + 2 * bit (s.bridge b).degraded + 4 * bit (s.chanAPermits b))

/-- The signal of a selector. -/
def State.signal (s : State) (sel : Nat) : CapSignal :=
  let here (v : Q15) (ok : Bool) : CapSignal := { own := s.now, smp := plainSample v ok }
  if sel < 0x30 then s.slotSignal sel
  else if sel < 0x88 then
    let n := sel % 4
    let x := s.position n
    let v := s.posNow n
    here (if sel < 0x84 then v.1 else v.2) (x.valid && !x.retry && !s.isRetired 2 n)
  else if sel < 0x2000 then
    let k := (sel - 0x1000) / 0x80
    let c := s.lc k
    { own := c.sampleAt, smp := plainSample (c.capValue ((sel - 0x1000) / 0x10 % 8) (sel % 16)) (c.state = .running && !c.lastOverran) }
  else if sel < 0x3000 then
    let e := s.gf ((sel - 0x2000) / 0x10)
    { own := e.sampledAt, smp := plainSample (e.capValue (sel % 16))
        (!(e.state = .free || e.state = .idle || e.state = .held || e.state = .fault)) }
  else if sel < 0x4000 then here (s.bridgeItem ((sel - 0x3000) / 0x10) (sel % 16)) true
  else
    let l := s.link ((sel - 0x4000) / 0x10)
    match l.status with
    | some b => { own := b.at_,
                  smp := plainSample (if sel % 16 = 0 then b.supply.setWidth 16 else b.temp.setWidth 16) (l.state = .live && l.uplink) }
    | none => { own := 0, smp := plainSample 0 false }

/-- The row of a unit at a sample instant, from the newest values (R346). -/
def State.newRow (s : State) (u : Nat) : CapRow :=
  { at_ := s.now, ns := s.dtbNs,
    chans := (List.range 16).map fun k =>
      if ((s.cap u).chmask).testBit k then let g := s.signal ((s.cap u).sel k); (g.own, g.smp) else (0, default) }

/-- Newer values whose own instant is at or before a row's enter it. -/
def State.fillRow (s : State) (u : Nat) (r : CapRow) : CapRow :=
  { r with chans := r.chans.zipIdx.map fun (p : (Nat × CapSample) × Nat) =>
      if ((s.cap u).chmask).testBit p.2 then
        let g := s.signal ((s.cap u).sel p.2)
        if p.1.1 < g.own ∧ g.own ≤ r.at_ then (g.own, g.smp) else p.1
      else p.1 }

/-- Values just produced reach the rows that wait for them. -/
def State.capPoll (s : State) : State :=
  s.forEach (numbers 4 fun u => !(s.cap u).due.isEmpty) fun s u => s.modCap u fun c => { c with due := c.due.map (s.fillRow u) }

/-- The value of a channel for the instant `at_` has not been produced (R346): a frame, a sample or an outer sample with an own
instant up to there, later than that of the value the channel holds, is still under way. -/
def State.lateChan (s : State) (u k : Nat) (own at_ : Nat) : Bool :=
  let sel := (s.cap u).sel k
  let owed (t : Nat) : Bool := decide (own < t) && decide (t ≤ at_)
  if sel < 0x30 then (s.slot sel).next.any fun x => owed x.1.at_
  else if 0x1000 ≤ sel ∧ sel < 0x2000 then (s.lc ((sel - 0x1000) / 0x80)).due.any fun d => owed d.at_
  else if 0x2000 ≤ sel ∧ sel < 0x3000 then (s.gf ((sel - 0x2000) / 0x10)).due.any owed
  else false

/-! ### Arming at a sample instant (R365) -/

/-- A group is armed: its record numbers, history, trigger memory and segments start afresh. -/
def State.armGroup (s : State) (l : Nat) : State :=
  (s.modGroup l fun c => { c with
    samples := 0, due := [], hist := [], trig := Vector.replicate 4 {}, cause := 0, firing := 0xFF, ignored := 0, filled := 0,
    recno := 0, complete := 0, ext := Vector.replicate 2 none,
    seg := ((List.range 65535).find? fun k => !c.withdrawn.contains k).getD 0 }).setGroup l .armed

/-- A waiting `CAP_ARM` whose group takes its first sample; the last group completes it. -/
def State.armNow (s : State) (l : Nat) (w : ArmWait) : State :=
  let w := { w with groups := w.groups.filter (· ≠ l), first := if w.lowest = l then some s.dtbNs else w.first }
  if w.groups.isEmpty then
    ({ s with armWaits := s.armWaits.filter (·.ticket ≠ w.ticket) }).doneAt w.ticket (w.first.getD s.dtbNs)
  else { s with armWaits := s.armWaits.map fun v => if v.ticket = w.ticket then w else v }

/-- A sample instant of the groups of a source (R311, R345): waiting groups are armed, running groups take a row. -/
def State.capTick (s : State) (src : Nat) : State :=
  s.forEach (numbers 4 fun l => decide ((s.cap l).leader = l) && !(s.cap l).config.isEmpty
      && decide (capSrc (s.cap l).config = src) && (s.frameNo (capCfg (s.cap l).config)).isSome) fun s l =>
    let ws := s.armWaits.filter fun w => w.groups.contains l
    let s := if ¬ ws.isEmpty ∧ (s.groupState l = .idle ∨ s.groupState l = .full) then ws.foldl (fun s w => s.armNow l w) (s.armGroup l)
      else s
    if s.groupRuns l then
      s.forEach (s.groupOf l) fun s u => s.modCap u fun c => { c with due := c.due ++ [s.newRow u] }
    else s

/-! ### Trigger conditions (R356, Table 08-6) -/

/-- One condition at one valid sample: its memory, and whether the sample completes `QUAL`. -/
def CapUnit.judge (c : CapUnit) (i : Nat) (m : TrigMem) (x : Q15) : TrigMem × Bool :=
  let v := x.toInt
  let a := c.tcA i
  let b := c.tcB i
  let rise := decide (a ≤ v) && (m.low || decide (m.run = 1))
  let fall := decide (v ≤ a) && (m.high || decide (m.run = 2))
  let isMatch := x.toNat &&& c.tcMask i = c.tcPattern i
  let run :=
    match c.tc i 1 with
    | 1 => bit rise
    | 2 => if fall then 2 else 0
    | 3 => if rise ∧ m.run ≠ 2 then 1 else if fall then 2 else bit rise
    | 4 => bit (decide (v < a) || decide (b < v))
    | 5 => bit (isMatch && (m.low || decide (m.run = 1)))
    | 6 => match m.prev with | some p => bit (decide (a < ((v - p.toInt).natAbs : Int))) | none => 0
    | _ => 0
  let count := if run = 0 then 0 else if run = m.run then m.count + 1 else 1
  let low := match c.tc i 1 with
    | 5 => if isMatch then m.low && decide (run = 0) else true
    | _ => if run = 1 then false else m.low || decide (v ≤ a - b)
  ({ low := low, high := if run = 2 then false else m.high || decide (a + b ≤ v), count := count, prev := some x, run := run },
   decide (count = c.tc i 2) && decide (run ≠ 0))

/-- The conditions of a unit at a row: their memory, and the mask of those that are met. -/
def CapUnit.judgeRow (c : CapUnit) (r : CapRow) : CapUnit × Nat :=
  (List.range 4).foldl (fun (p : CapUnit × Nat) i =>
    if c.tc i 1 = 0 then p
    else
      let x := (r.chans.getD (c.tc i 0) default).2
      if x.valid then
        let j := c.judge i (vget p.1.trig i) x.value
        ({ p.1 with trig := vset p.1.trig i j.1 }, if j.2 then p.2 + 2 ^ i else p.2)
      else p) (c, 0)

/-! ### Reduction (R351, R352, Tables 08-3 and 08-4) -/

/-- Flags of a raw entry. -/
def CapSample.flags (x : CapSample) : Nat := bit x.valid + 2 * bit x.sat + 4 * bit x.slip + 8 * bit x.late

/-- Mean of the valid samples of an interval and their number. -/
def meanOf (xs : List CapSample) : Int × Nat :=
  let vs := (xs.filter (·.valid)).map fun (x : CapSample) => x.value.toInt
  if vs.isEmpty then (0, 0) else (roundDiv vs.sum vs.length, vs.length)

/-- Samples cut into intervals of n. -/
def intervals (n : Nat) (xs : List CapSample) : List (List CapSample) :=
  (List.range (divUp xs.length n)).map fun k => (xs.drop (k * n)).take n

/-- A tagged entry: index, value, and flags or count. -/
abbrev Tagged := Nat × Int × Nat

/-- Entries of changes-only reduction: last stored value, validity of the sample before, and entries newest first. -/
def changesOnly (dband : Nat) (xs : List CapSample) : List Tagged :=
  let last := xs.length - 1
  ((xs.zipIdx.foldl (fun (a : Option Int × Option Bool × List Tagged) (p : CapSample × Nat) =>
    let x := p.1
    let v := x.value.toInt
    let differs : Bool := match a.1 with | some w => decide (dband < (v - w).natAbs) | none => true
    let turned : Bool := match a.2.1 with | some ok => decide (ok ≠ x.valid) | none => false
    if (x.valid ∧ differs) ∨ turned ∨ p.2 = last then (some v, some x.valid, (p.2, v, x.flags) :: a.2.2)
    else (a.1, some x.valid, a.2.2)) (none, none, [])).2.2).reverse

/-- Entries of change-gated averaging. -/
def changeGated (dband n : Nat) (xs : List CapSample) : List Tagged :=
  let ms := (intervals n xs).map meanOf
  let last := ms.length - 1
  ((ms.zipIdx.foldl (fun (a : Option Int × List Tagged) (p : (Int × Nat) × Nat) =>
    let differs : Bool := match a.1 with | some w => decide (dband < (p.1.1 - w).natAbs) | none => true
    if p.1.2 ≠ 0 ∧ (differs ∨ p.2 = last) then (some p.1.1, (p.2 * n, p.1.1, p.1.2) :: a.2) else a) (none, [])).2).reverse

/-- Size of a channel's lane. -/
def CapUnit.laneSize (c : CapUnit) (l k : Nat) : Nat :=
  match c.red k with
  | 0 => pad64 (4 * l)
  | 2 => pad64 (4 * l / 2 ^ c.navg k)
  | _ => pad64 (8 * c.tcap k)

/-- Size of a segment (R350). -/
def CapUnit.segSize (c : CapUnit) (l : Nat) : Nat := 320 + (c.chans.map (c.laneSize l)).sum

/-- Bytes of memory that the record leaves as they were, which the spec does not state. -/
def oldBytes (seed off n : Nat) : List Byte := (List.range n).map fun k => BitVec.ofNat 8 (Config.free 46 (seed * 2 ^ 40 + off + k))

/-- The lane of a channel, and whether it overflowed. -/
def CapUnit.lane (c : CapUnit) (l k seed : Nat) (xs : List CapSample) : List Byte × Bool :=
  let tags := if c.red k = 1 then changesOnly (c.dband k) xs else changeGated (c.dband k) (2 ^ c.navg k) xs
  let body : List Byte :=
    match c.red k with
    | 0 => xs.flatMap fun (x : CapSample) => bytesOf 2 x.value.toNat ++ bytesOf 2 x.flags
    | 2 => (intervals (2 ^ c.navg k) xs).flatMap fun i => bytesOfInt 2 (meanOf i).1 ++ bytesOf 2 (meanOf i).2
    | _ => (tags.take (c.tcap k)).flatMap fun t => bytesOf 4 t.1 ++ bytesOfInt 2 t.2.1 ++ bytesOf 2 t.2.2
  (body ++ oldBytes seed (2 ^ 32 * k) (c.laneSize l k - body.length),
   (c.red k = 1 || c.red k = 3) && decide (c.tcap k < tags.length))

/-! ### Measurements (R353, Table 08-5) -/

/-- Crossings of a level: direction (true rising) and instant in ns, oldest first. -/
def crossings (xlev xhys : Int) (xs : List (Nat × Int)) : List (Bool × Int) :=
  ((xs.foldl (fun (a : Bool × Bool × Option (Nat × Int) × List (Bool × Int)) p =>
    let v := p.2
    let rise := a.1 && decide (xlev ≤ v)
    let fall := a.2.1 && decide (v ≤ xlev)
    let instant : Int := match a.2.2.1 with
      | some q => if v = q.2 then roundDiv p.1 8
          else roundDiv ((q.1 : Int) * (v - q.2) + (xlev - q.2) * ((p.1 : Int) - q.1)) (8 * (v - q.2))
      | none => roundDiv p.1 8
    (if rise then false else a.1 || decide (v ≤ xlev - xhys), if fall then false else a.2.1 || decide (xlev + xhys ≤ v), some p,
     if rise then (true, instant) :: a.2.2.2 else if fall then (false, instant) :: a.2.2.2 else a.2.2.2))
    (false, false, none, [])).2.2.2).reverse

/-- The 16 bytes of a channel's measurements; with no valid sample the spec states no values. -/
def CapUnit.measure (c : CapUnit) (k seed : Nat) (rows : List CapRow) : List Byte :=
  let xs := (rows.filter fun r => (r.chans.getD k default).2.valid).map fun (r : CapRow) =>
    (r.at_, (r.chans.getD k default).2.value.toInt)
  match xs.map fun (x : Nat × Int) => x.2 with
  | [] => oldBytes seed (2 ^ 38 + 16 * k) 16
  | v :: vs =>
    let mn := vs.foldl min v
    let mx := vs.foldl max v
    let n := vs.length + 1
    let cs := crossings (c.xlev k) (c.xhys k) xs
    let rs := (cs.filter fun (x : Bool × Int) => x.1).map fun (x : Bool × Int) => x.2
    let period := if rs.length < 2 then 0
      else (roundDiv (rs.getLastD 0 - rs.headD 0) ((rs.length - 1 : Nat) : Int)).toNat
    bytesOfInt 2 mn ++ bytesOfInt 2 mx ++ bytesOf 2 (mx - mn).toNat ++ bytesOfInt 2 (roundDiv ((v :: vs).sum) n)
      ++ bytesOf 2 ((Nat.sqrt (4 * ((v :: vs).map fun (x : Int) => x.natAbs ^ 2).sum / n) + 1) / 2) ++ bytesOf 2 (satCount cs.length)
      ++ bytesOf 4 (sat32 period)

/-! ### Records (R350, R354, R358 to R360) -/

/-- The bytes of a closed record; rows oldest first. -/
def State.recordBytes (s : State) (u seed : Nat) (cut : Bool) (rows : List CapRow) : List Byte :=
  let c := s.cap u
  let bs := s.shape u
  let ts := s.framePeriod (capCfg bs).src (capCfg bs).ev (capCfg bs).div
  let lanes := c.chans.map fun k => c.lane (capL bs) k seed (rows.map fun (r : CapRow) => (r.chans.getD k default).2)
  let full := (c.chans.zip lanes).foldl (fun (a : Nat) x => if x.2.2 then a + 2 ^ x.1 else a) 0
  let late := rows.any fun (r : CapRow) => c.chans.any fun k => (r.chans.getD k default).2.late
  let gaps := (rows.zip (rows.drop 1)).any fun (x : CapRow × CapRow) =>
    decide (ts < 64 * (((x.2.at_ - x.1.at_ : Nat) : Int) - ts).natAbs)
  let trig := rows.getD (rows.length - c.filled) default
  bytesOf 4 c.recno.toNat ++ bytesOf 1 u ++ bytesOf 1 c.firing.toNat
    ++ bytesOf 2 (bit (!cut) + 2 * bit cut + 4 * bit c.partialGroup + 8 * bit late + 16 * bit gaps)
    ++ bytesOf 4 c.cause.toNat ++ bytesOf 4 (sat32 c.ignored) ++ bytesOf 8 (rows.headD default).ns.toNat ++ bytesOf 8 trig.ns.toNat
    ++ bytesOf 8 ts ++ bytesOf 4 rows.length ++ bytesOf 4 (rows.length - c.filled) ++ bytesOf 2 c.chmask ++ bytesOf 2 full
    ++ bytesOf 12 0
    ++ ((List.range 16).flatMap fun k => if c.chmask.testBit k then c.measure k seed rows else bytesOf 16 0)
    ++ (lanes.flatMap fun (x : List Byte × Bool) => x.1)

/-- The next segment that is not withdrawn (R360, R374). -/
def CapUnit.nextSeg (c : CapUnit) (nseg : Nat) : Nat :=
  ((List.range nseg).map fun k => (c.seg + 1 + k) % max 1 nseg).find? (fun k => !c.withdrawn.contains k) |>.getD c.seg

/-- A unit closes its record. -/
def State.closeUnit (s : State) (u : Nat) (cut : Bool) : State :=
  let bs := s.shape u
  let (seed, s) := s.draw 46 (2 ^ 64)
  let c := s.cap u
  let rows := (c.hist.take (capPre bs + c.filled)).reverse
  let bytes := s.recordBytes u seed cut rows
  s.modCap u fun c =>
    let c := if c.state = .retired then c
      else { c with segs := assocPut c.seg { recno := c.recno, filling := false, bytes := bytes } c.segs }
    if cut then { c with filled := 0 }
    else { c with filled := 0, complete := c.complete + 1, newest := c.seg, newestRec := c.recno, recno := c.recno + 1,
                  seg := c.nextSeg (capNseg bs) }

/-- Waiting forces of a group that stops sampling end (log 24). -/
def State.dropForces (s : State) (l : Nat) : State :=
  let ws := s.forceWaits.filter fun w => w.groups.contains l
  ({ s with forceWaits := s.forceWaits.filter fun w => !w.groups.contains l }).endAll (ws.map fun (w : ForceWait) => w.ticket) .cancelled

/-- A group closes its record and is ARMED again, or FULL (R359, R360). -/
def State.closeRecord (s : State) (l : Nat) : State :=
  let bs := (s.cap l).config
  let s := s.forEach (s.groupOf l) fun s u => s.closeUnit u false
  let full := !capWrap bs && ((s.aliveOf l).any fun u => decide (capNseg bs ≤ (s.cap u).complete + (s.cap u).withdrawn.length))
  if full then ((s.modGroup l fun c => { c with due := [] }).setGroup l .full).dropForces l else s.setGroup l .armed

/-- A waiting `CAP_FORCE` lands in one of its groups (R367). -/
def State.landForce (s : State) (l : Nat) (note : Bool) (w : ForceWait) : State :=
  let c := s.cap ((s.aliveOf l).headD l)
  let w := { w with groups := w.groups.filter (· ≠ l), note := w.note || note,
                    recno := if w.lowest = l then c.recno else w.recno, seg := if w.lowest = l then c.seg else w.seg }
  if w.groups.isEmpty then
    ({ s with forceWaits := s.forceWaits.filter (·.ticket ≠ w.ticket) }).answer w.ticket
      { status := if w.note then .doneNote else .done, r0 := w.recno, r1 := word [(w.seg, 0)], extra := word [(bit w.note, 0)] }
  else { s with forceWaits := s.forceWaits.map fun v => if v.ticket = w.ticket then w else v }

/-- Edges of an external input that the sample takes (R357). -/
def CapUnit.extTaken (c : CapUnit) (n at_ : Nat) : Bool := match vget c.ext n with | some e => decide (e + 160 ≤ at_) | none => false

/-- A trigger starts a record in every unit of a group (R355). -/
def State.startRecord (s : State) (l cause : Nat) (firing : Byte) : State :=
  (s.modGroup l fun c =>
    let c := { c with cause := BitVec.ofNat 32 cause, firing := firing, ignored := 0, filled := 1 }
    if c.state = .retired then c else { c with segs := assocPut c.seg { recno := c.recno, filling := true, bytes := [] } c.segs })
    |>.setGroup l .filling

/-- The oldest open sample of a unit is closed: late channels are marked, and it joins the history. -/
def State.closeRow (s : State) (u keep : Nat) (r : CapRow) : State :=
  let row := { r with chans := r.chans.zipIdx.map fun (p : (Nat × CapSample) × Nat) =>
    if ((s.cap u).chmask).testBit p.2 ∧ s.lateChan u p.2 p.1.1 r.at_ then (p.1.1, { p.1.2 with late := true, valid := false })
    else p.1 }
  s.modCap u fun c => { c with due := c.due.drop 1, hist := (row :: c.hist).take keep, samples := c.samples + 1 }

/-- A group closes its oldest sample at t_k + `LAG` (R346): its units store it and judge their conditions, and the causes of
the sample start a record or are counted in the one that fills (R355 to R360). -/
def State.closeSample (s : State) (l : Nat) (row : CapRow) : State :=
  let bs := (s.cap l).config
  let s := s.advanceTo (row.at_ + 80 * capLag bs)
  let k := (s.cap l).samples
  let s := s.forEach (s.groupOf l) fun s v => match (s.cap v).due with | r :: _ => s.closeRow v (capL bs) r | [] => s
  let judged := (s.aliveOf l).map fun v => (v, (s.cap v).judgeRow ((s.cap v).hist.headD default))
  let s := judged.foldl (fun (s : State) (j : Nat × CapUnit × Nat) => s.modCap j.1 fun _ => j.2.1) s
  let conds := judged.foldl (fun (a : Nat) (j : Nat × CapUnit × Nat) => a + j.2.2 * 16 ^ j.1) 0
  let firing : Byte := match judged.find? (fun (j : Nat × CapUnit × Nat) => j.2.2 ≠ 0) with
    | some j => BitVec.ofNat 8 j.1 | none => 0xFF
  let ext (n : Nat) := (s.cap l).extTaken n row.at_
  let exts := 0x20000 * bit (ext 0) + 0x40000 * bit (ext 1)
  let s := s.modCap l fun c => { c with ext := Vector.ofFn fun n : Fin 2 => if c.extTaken n row.at_ then none else vget c.ext n }
  let filling := decide (s.groupState l = .filling)
  let accepts := decide (s.groupState l = .armed) && decide (capPre bs ≤ k)
  let forces := s.forceWaits.filter fun w => w.groups.contains l && decide (w.since ≤ row.at_) && (filling || accepts)
  let cause := conds + exts + 0x10000 * bit (!forces.isEmpty) + 0x80000 * bit (accepts && capAuto bs)
  let s := forces.foldl (fun s w => s.landForce l filling w) s
  let s :=
    if accepts ∧ cause ≠ 0 then s.startRecord l cause firing
    else if filling then
      s.modGroup l fun c => { c with filled := c.filled + 1, ignored := if cause ≠ 0 then sat32 (c.ignored + 1) else c.ignored }
    else s
  if s.groupState l = .filling ∧ capL bs ≤ capPre bs + (s.cap ((s.aliveOf l).headD l)).filled then s.closeRecord l else s

/-- CAP_SAMPLE_CLOSE (R346, R355 to R360): the group of the unit closes its oldest open sample. -/
def evCapSampleClose (u : Fin 4) (s : State) : State :=
  let l := (s.cap u).leader
  match (s.cap l).due with
  | [] => s
  | row :: _ => s.closeSample l row

/-- CAP_EXT_EDGE (R357): a rising edge at the ball of a mapped input. -/
def evCapExtEdge (n : Fin 2) (s : State) : State :=
  if ¬ s.gpioMapped (0x18 + n.val) then s
  else
    s.forEach (numbers 4 fun l => decide ((s.cap l).leader = l) && capExt (s.cap l).config n.val && s.groupRuns l) fun s l =>
      s.modCap l fun c => { c with ext := vset c.ext n.val (some ((vget c.ext n.val).getD s.now)) }

/-- CAPTURE_UPSET (R373, R579). -/
def evCaptureUpset (u : Fin 4) (s : State) : State := if u.val < s.fitCaps then s.detect 9 u else s

/-! ### CAP_CONFIG (R362 to R364) -/

/-- A selector that Table 08-1 names. -/
def selOk (v : Nat) : Bool :=
  decide (v < 0x30) || (decide (0x80 ≤ v) && decide (v < 0x88)) ||
    (decide (0x1000 ≤ v) && decide (v < 0x1C00) &&
      (let w := (v - 0x1000) / 0x10 % 8
       let i := v % 16
       if w < 4 then true else if w < 7 then decide (i < 8) else decide (i < 6 ∨ i = 8))) ||
    (decide (0x2000 ≤ v) && decide (v < 0x2040) && decide (v % 16 < 8)) ||
    (decide (0x3000 ≤ v) && decide (v < 0x3080) && decide (v % 16 < 4)) ||
    (decide (0x4000 ≤ v) && decide (v < 0x4180) && decide (v % 16 < 2))

/-- The unit of a selector is not fitted. -/
def State.selAbsent (s : State) (v : Nat) : Bool :=
  (decide (0x1000 ≤ v ∧ v < 0x2000) && decide (s.fitLcs ≤ (v - 0x1000) / 0x80)) ||
    (decide (0x2000 ≤ v ∧ v < 0x3000) && decide (s.fitGfes ≤ (v - 0x2000) / 0x10)) ||
    (decide (0x3000 ≤ v ∧ v < 0x4000) && decide (s.fitBridges ≤ (v - 0x3000) / 0x10)) ||
    (decide (0x4000 ≤ v) && decide (s.fitLinks ≤ (v - 0x4000) / 0x10))

/-- The unit of a selector is retired. -/
def State.selRetired (s : State) (v : Nat) : Bool :=
  if v < 0x30 then s.slotRetired v
  else if v < 0x88 then s.isRetired 2 (v % 4)
  else if v < 0x2000 then (s.lc ((v - 0x1000) / 0x80)).retired
  else if v < 0x3000 then s.isRetired 8 ((v - 0x2000) / 0x10)
  else if v < 0x4000 then (s.bridge ((v - 0x3000) / 0x10)).state = .retired
  else s.linkRetired ((v - 0x4000) / 0x10)

/-- Bytes 1 to 19 of a leader. -/
def leaderOk (bs : List Byte) : Bool :=
  let src := byteAt bs 1
  decide (src ≤ 9) && (if src < 8 then decide (byteAt bs 2 ≤ 2 ∧ 1 ≤ byteAt bs 3 ∧ byteAt bs 3 ≤ 8)
      else decide (byteAt bs 2 = 0 ∧ byteAt bs 3 = 1))
    && decide (16 ≤ capL bs ∧ capL bs ≤ 16777216 ∧ capPre bs < capL bs ∧ 1 ≤ capNseg bs ∧ byteAt bs 14 ≤ 1 ∧ byteAt bs 15 ≤ 1
        ∧ byteAt bs 18 ≤ 3 ∧ byteAt bs 19 = 0)

/-- Trigger condition i. -/
def CapUnit.tcOk (c : CapUnit) (i : Nat) : Bool :=
  decide (c.tc i 0 < 16 ∧ c.tc i 1 ≤ 6 ∧ c.tc i 3 = 0) && zeros c.config (76 + 16 * i) 4 &&
    (decide (c.tc i 1 = 0) || (decide (1 ≤ c.tc i 2) && c.chmask.testBit (c.tc i 0) &&
      (decide (c.tc i 1 ≠ 4) || decide (c.tcA i < c.tcB i))))

/-- Channel k of a record of L samples. -/
def CapUnit.chanOk (c : CapUnit) (l k : Nat) : Bool :=
  let tagged := decide (c.red k = 1 ∨ c.red k = 3)
  decide (c.red k ≤ 3 ∧ c.navg k ≤ 15 ∧ c.dband k ≤ 0x7FFF ∧ 0 ≤ c.xhys k) && zeros c.config (134 + 16 * k) 2 &&
    (if tagged then decide (1 ≤ c.tcap k ∧ c.tcap k ≤ 1048576) else decide (c.tcap k = 0)) &&
    (if c.chmask.testBit k then
      selOk (c.sel k) && (decide (c.red k < 2) || decide (l % 2 ^ c.navg k = 0))
     else decide (c.sel k = 0xFFFF))

/-- Bytes of the segments of a unit. -/
def State.capBytes (s : State) (u : Nat) : Nat :=
  if (s.cap u).config.isEmpty then 0 else capNseg (s.shape u) * (s.cap u).segSize (capL (s.shape u))

/-- Units that a new configuration of u returns to FREE: the members it leads. -/
def State.membersOf (s : State) (u : Nat) : List Nat := numbers 4 fun v => v ≠ u ∧ (s.cap v).leader = u ∧ ¬ (s.cap v).config.isEmpty

/-- A unit is released: FREE, its segments given back. -/
def State.freeUnit (s : State) (u : Nat) : State :=
  s.modCap u fun c => if c.state = .retired then { c with config := [], segs := [], leader := u }
    else { leader := u, withdrawn := [] }

/-- Waiting arms and forces of a group end (log 24). -/
def State.dropCapWaits (s : State) (l : Nat) : State :=
  let arms := s.armWaits.filter fun w => w.groups.contains l
  let s := { s with armWaits := s.armWaits.filter fun w => !w.groups.contains l }
  (s.endAll (arms.map fun (w : ArmWait) => w.ticket) .cancelled).dropForces l

/-- CAP_CONFIG (R362 to R364). -/
def effCapConfig (t : Ticket) (p : Pkt) (s : State) : State :=
  let u := p.target.toNat
  let bs := p.payload
  let l := byteAt bs 0
  let c : CapUnit := { state := .idle, config := bs, leader := l }
  let shape := if l = u then bs else (s.cap l).config
  let own := decide (l = u)
  let sels := c.chans.map c.sel
  let bad := decide (3 < l) || (if own then !leaderOk bs else
      !zeros bs 1 19 || (s.cap l).config.isEmpty || decide ((s.cap l).leader ≠ l) || decide ((s.cap l).state ≠ .idle))
    || decide (c.chmask = 0) || !zeros bs 22 42 || !((List.range 4).all c.tcOk) || !((List.range 16).all (c.chanOk (capL shape)))
  let drop := u :: s.membersOf u
  let used := ((numbers 4 fun v => !drop.contains v).map s.capBytes).sum
  let free := s.partitions.1 * 2 ^ 20 - used
  if bad then s.ends t .badField
  else if free < capNseg shape * c.segSize (capL shape) then s.answer t { status := .badField, r0 := word [(free / 2 ^ 20, 0)] }
  else if (own ∧ capSrc bs < 8 ∧ s.fitBridges ≤ capSrc bs) ∨ sels.any s.selAbsent then s.ends t .unitAbsent
  else if (own ∧ capSrc bs < 8 ∧ (s.bridge (capSrc bs)).state = .retired) ∨ sels.any s.selRetired then s.ends t .unitRetired
  else
    let s := (s.forEach (s.membersOf u) State.freeUnit).dropCapWaits u
    (s.modCap u fun _ => c).ends t .done

/-! ### Mask packets (R365 to R368) -/

/-- The checks of a mask packet: fields, members, fitted, retired, states; the answer to a failure. -/
def State.maskCheck (s : State) (p : Pkt) (legal : CapState → Bool) : Option Status :=
  let us := bitsOf 16 (prm16 p 0)
  if ¬ prmZero p 2 38 ∨ us.any (fun u => decide (3 < u)) then some .badField
  else if us.any fun u => decide (s.fitCaps ≤ u) then some .unitAbsent
  else if us.any fun u => (s.cap u).state = .retired then some .unitRetired
  else if us.any fun u => !legal (s.cap u).state then some .stateRefused
  else if us.any fun u => decide ((s.cap u).leader ≠ u) then some .badField
  else none

/-- Number of the lowest group a mask names. -/
def lowestOf (mask : Nat) : Nat := (bitsOf 16 mask).headD 0

/-- CAP_ARM (R365): with no group named nothing waits, and the spec states no result words. -/
def effCapArm (t : Ticket) (p : Pkt) (s : State) : State :=
  match s.maskCheck p (fun x => x = .idle || x = .full) with
  | some st => s.ends t st
  | none =>
    let us := bitsOf 16 (prm16 p 0)
    if us.isEmpty then
      let (v, s) := s.draw 48 (2 ^ 64)
      s.doneAt t (BitVec.ofNat 64 v)
    else { s with armWaits := s.armWaits ++ [{ ticket := t, groups := us, lowest := lowestOf (prm16 p 0), first := none }] }

/-- CAP_DISARM (R366). -/
def effCapDisarm (t : Ticket) (p : Pkt) (s : State) : State :=
  match s.maskCheck p (fun x => x = .idle || x = .armed || x = .filling || x = .full) with
  | some st => s.ends t st
  | none =>
    (s.forEach (bitsOf 4 (prm16 p 0)) fun s l =>
      if s.groupState l = .idle then s
      else
        let s := if s.groupState l = .filling then s.forEach (s.groupOf l) fun s u => s.closeUnit u true else s
        let s := s.dropForces l
        (s.modGroup l fun c => { c with due := [] }).setGroup l .idle).ends t .done

/-- CAP_FORCE (R367); with no group named nothing waits, and the spec states no result words. -/
def effCapForce (t : Ticket) (p : Pkt) (s : State) : State :=
  match s.maskCheck p (fun x => x = .armed || x = .filling) with
  | some st => s.ends t st
  | none =>
    let us := bitsOf 16 (prm16 p 0)
    if us.isEmpty then
      let (v, s) := s.draw 48 (2 ^ 64)
      s.doneAt t (BitVec.ofNat 64 v)
    else
      { s with forceWaits := s.forceWaits ++
        [{ ticket := t, groups := us, lowest := lowestOf (prm16 p 0), since := s.now, recno := 0, seg := 0, note := false }] }

/-! ### Reading, status, release (R369, R370, R372) -/

/-- Bytes of a segment whose record still fills: what has been stored so far; the rest is not stated. -/
def State.fillingBytes (s : State) (u seed : Nat) : List Byte :=
  let c := s.cap u
  let bs := s.shape u
  let rows := (c.hist.take (capPre bs + c.filled)).reverse
  oldBytes seed 0 320 ++ c.chans.flatMap fun k =>
    (c.lane (capL bs) k seed (rows.map fun (r : CapRow) => (r.chans.getD k default).2)).1

/-- CAP_READ (R369): the bytes go into the packet's own payload area. -/
def effCapRead (t : Ticket) (p : Pkt) (s : State) : State :=
  let u := p.target.toNat
  let c := s.cap u
  let seg := prm16 p 0
  let off := prm32 p 8
  if ¬ prmZero p 2 2 ∨ ¬ prmZero p 12 28 ∨ off % 64 ≠ 0 ∨ capNseg (s.shape u) ≤ seg
      ∨ c.segSize (capL (s.shape u)) < off + p.len.toNat then s.ends t .badField
  else
    match assocGet seg c.segs with
    | none =>
      let (v, s) := s.draw 49 (2 ^ 32)
      s.answer t { status := .stateRefused, r0 := BitVec.ofNat 32 v }
    | some g =>
      if g.recno.toNat ≠ prm32 p 4 then s.answer t { status := .stateRefused, r0 := g.recno }
      else if g.filling then
        let (seed, s) := s.draw 46 (2 ^ 64)
        s.answer t { status := .doneNote, extra := 1, payload := slice (s.fillingBytes u seed) off p.len.toNat }
      else s.answer t { payload := slice g.bytes off p.len.toNat }

def CapState.code : CapState → Nat
  | .free => 0 | .idle => 1 | .armed => 2 | .filling => 3 | .full => 4 | .retired => 5

/-- CAP_STATUS (R372). -/
def effCapStatus (t : Ticket) (p : Pkt) (s : State) : State :=
  let u := p.target.toNat
  let c := s.cap u
  let isLeader := !c.config.isEmpty && decide (c.leader = u)
  s.answer t
    { r0 := word [(c.state.code, 0), (bit isLeader, 3), (c.leader % 4, 4), (sat8 (s.chan 9 u).bucket, 8), (satCount c.withdrawn.length, 16)],
      r1 := word [(satCount c.complete, 0), (c.newest, 16)], extra := c.newestRec }

/-- CAP_RELEASE (R370): a leader's members follow it. -/
def effCapRelease (t : Ticket) (p : Pkt) (s : State) : State :=
  let u := p.target.toNat
  let s := if (s.cap u).leader = u then (s.forEach (s.membersOf u) State.freeUnit).dropCapWaits u else s
  (s.freeUnit u).ends t .done

/-- A retired DRAM page may lie in a segment of each unit, which is then withdrawn (R374); which one, the spec leaves open. -/
def State.withdrawPage (s : State) : State :=
  s.forEach (numbers 4 fun u => !(s.cap u).config.isEmpty) fun s u =>
    let n := capNseg (s.shape u)
    let (k, s) := s.draw 47 (n + 1)
    if k < n ∧ ¬ (s.cap u).withdrawn.contains k then s.modCap u fun c => { c with withdrawn := c.withdrawn ++ [k] } else s

end Sys2Proof.Machine
end

