-- ==== Sys2Proof/Machine/Real.lean ====
section
/-! DEFINITION. REAL arithmetic of the cycle engine (12 R486, R488, R490): IEEE 754 single precision, rounded to nearest
with ties to even, subnormal values flushed to zero with their sign. -/

namespace Sys2Proof.Machine

/-- A REAL value: not a number, a signed infinity, or a finite value with its sign (which matters for zero). -/
inductive Real32 where
  | nan
  | inf (neg : Bool)
  | fin (neg : Bool) (mag : Rat)
  deriving DecidableEq

/-- 2 to an integer power. -/
def pow2 (e : Int) : Rat := if 0 ≤ e then ((2 ^ e.toNat : Nat) : Rat) else 1 / ((2 ^ (-e).toNat : Nat) : Rat)

/-- The value of a word; a subnormal one counts as zero. -/
def realOf (w : Nat) : Real32 :=
  let neg := w.testBit 31
  let e := field w 30 23
  let m := field w 22 0
  if e = 255 then (if m = 0 then .inf neg else .nan)
  else if e = 0 then .fin neg 0
  else .fin neg (((0x800000 + m : Nat) : Rat) * pow2 ((e : Int) - 150))

/-- The exponent e of a positive value with 2^e ≤ x < 2^(e+1). -/
def log2Rat (x : Rat) : Int :=
  let e : Int := (Nat.log2 x.num.toNat : Int) - (Nat.log2 x.den : Int)
  if x < pow2 e then e - 1 else if pow2 (e + 1) ≤ x then e + 1 else e

/-- A rational rounded to an integer, ties to even. -/
def roundEven (x : Rat) : Int :=
  let f := x.floor
  let d := x - (f : Rat)
  if d < 1 / 2 then f else if 1 / 2 < d then f + 1 else if f % 2 = 0 then f else f + 1

/-- The word of a finite value. -/
def realRound (neg : Bool) (mag : Rat) : Nat :=
  let sign := bit neg * 0x80000000
  if mag ≤ 0 then sign
  else
    let e := log2Rat mag
    let m := (roundEven (mag * pow2 (23 - e))).toNat
    let (m, e) := if m = 0x1000000 then (0x800000, e + 1) else (m, e)
    if e < -126 then sign
    else if 127 < e then sign + 0x7F800000
    else sign + (e + 127).toNat * 0x800000 + (m - 0x800000)

/-- The word of a value; `q` is the payload of a not-a-number. -/
def Real32.word (q : Word) : Real32 → Nat
  | .nan => (q ||| 0x7FC00000).toNat
  | .inf neg => bit neg * 0x80000000 + 0x7F800000
  | .fin neg mag => realRound neg mag

def Real32.isNan : Real32 → Bool | .nan => true | _ => false

/-- A value as a signed rational. -/
def signedMag (neg : Bool) (mag : Rat) : Rat := if neg then -mag else mag

def Real32.neg : Real32 → Real32
  | .nan => .nan | .inf n => .inf (!n) | .fin n m => .fin (!n) m

def Real32.add : Real32 → Real32 → Real32
  | .nan, _ => .nan
  | _, .nan => .nan
  | .inf a, .inf b => if a = b then .inf a else .nan
  | .inf a, _ => .inf a
  | _, .inf b => .inf b
  | .fin a x, .fin b y =>
    let v := signedMag a x + signedMag b y
    if v = 0 then .fin (a && b) 0 else if v < 0 then .fin true (-v) else .fin false v

def Real32.mul : Real32 → Real32 → Real32
  | .nan, _ => .nan
  | _, .nan => .nan
  | .inf a, .inf b => .inf (a != b)
  | .inf a, .fin b y => if y = 0 then .nan else .inf (a != b)
  | .fin a x, .inf b => if x = 0 then .nan else .inf (a != b)
  | .fin a x, .fin b y => .fin (a != b) (x * y)

def Real32.div : Real32 → Real32 → Real32
  | .nan, _ => .nan
  | _, .nan => .nan
  | .inf _, .inf _ => .nan
  | .inf a, .fin b _ => .inf (a != b)
  | .fin a _, .inf b => .fin (a != b) 0
  | .fin a x, .fin b y =>
    if y = 0 then (if x = 0 then .nan else .inf (a != b)) else .fin (a != b) (x / y)

/-- A value between two neighbours of 26 bits that stands for an irrational square root when it is rounded. -/
def sqrtMag (x : Rat) : Rat :=
  if x ≤ 0 then 0
  else
    -- x = n / 2^(2k) exactly: a finite REAL has a power of two as its denominator
    let e := log2Rat x / 2
    let scaled := (x * pow2 (2 * (40 - e))).floor.toNat
    let r := Nat.sqrt scaled
    let exact := ((r : Nat) : Rat) * pow2 (e - 40)
    if exact * exact = x then exact else (((2 * r + 1 : Nat)) : Rat) * pow2 (e - 41)

def Real32.sqrt : Real32 → Real32
  | .nan => .nan
  | .inf n => if n then .nan else .inf false
  | .fin n x => if x = 0 then .fin n 0 else if n then .nan else .fin false (sqrtMag x)

/-- Order of two values that are no NaN: less, equal. -/
def Real32.lt : Real32 → Real32 → Bool
  | .nan, _ => false
  | _, .nan => false
  | .inf a, .inf b => a && !b
  | .inf a, .fin _ _ => a
  | .fin _ _, .inf b => !b
  | .fin a x, .fin b y => decide (signedMag a x < signedMag b y)

def Real32.eq : Real32 → Real32 → Bool
  | .nan, _ => false
  | _, .nan => false
  | .inf a, .inf b => a == b
  | .fin a x, .fin b y => decide (signedMag a x = signedMag b y)
  | _, _ => false

/-- The smaller and the larger of two; none where the spec does not say which (a NaN operand, zeros of both signs). -/
def Real32.pick (larger : Bool) (x y : Real32) : Option Real32 :=
  if x.isNan || y.isNan then none
  else if x.eq y then (if x = y then some x else none)
  else some (if x.lt y == larger then y else x)

/-- Result of an operation of class REAL on the words A, B and C (Table 12-4a). -/
def realOp (op : Nat) (a b c : Nat) : Nat :=
  let x := realOf b
  let y := realOf c
  let open_ := (Config.eicReal op (BitVec.ofNat 32 b) (BitVec.ofNat 32 c)).toNat
  let out (r : Real32) : Nat := r.word (Config.eicNaN op (BitVec.ofNat 32 b) (BitVec.ofNat 32 c))
  let opt (r : Option Real32) : Nat := match r with | some v => out v | none => open_
  match op with
  | 0x0 => out (x.add y)
  | 0x1 => out (x.add y.neg)
  | 0x2 => out (x.mul y)
  | 0x3 => out (match x with | .fin _ m => .fin false m | .inf _ => .inf false | .nan => .nan)
  | 0x4 => opt (Real32.pick false x y)
  | 0x5 => opt (Real32.pick true x y)
  | 0x6 => opt ((Real32.pick true (realOf a) x).bind fun m => Real32.pick false m y)
  | 0x7 => out (x.div y)
  | 0x8 => out x.sqrt
  | _ => if x.isNan || (op = 0xD && y.isNan) then out .nan else open_

/-- A signed integer as a REAL. -/
def realOfInt (v : Int) : Nat := realRound (decide (v < 0)) ((v.natAbs : Nat) : Rat)

/-- A REAL as a signed integer of a width: rounded to nearest, ties to even, saturating, 0 for NaN. -/
def realToInt (bits w : Nat) : Int :=
  let top : Int := (2 ^ (bits - 1) : Nat)
  match realOf w with
  | .nan => 0
  | .inf n => if n then -top else top - 1
  | .fin n m => limitI (roundEven (signedMag n m)) (-top) (top - 1)

/-- A comparison of REAL words (Table 12-4a); the codes for unsigned integers have no stated result on REAL. -/
def realCompare (op b c : Nat) : Bool :=
  let x := realOf b
  let y := realOf c
  match op with
  | 0 => x.eq y
  | 1 => !x.eq y
  | 2 => x.lt y
  | 3 => x.lt y || x.eq y
  | 4 => y.lt x
  | 5 => y.lt x || x.eq y
  | _ => (Config.eicReal (0x40 + op) (BitVec.ofNat 32 b) (BitVec.ofNat 32 c)).getLsbD 0

end Sys2Proof.Machine
end

