-- ==== Sys2Proof/Machine/EicMem.lean ====
section
/-! DEFINITION. Memory of the cycle engine as its programs see it (12 R487, R488, R495, R511, R522), operands, and the local
command rings (10 R456, 12 R498). -/

namespace Sys2Proof.Machine

/-! ### Forces -/

/-- The forced byte at an address, if an active force covers it. -/
def Cycle.forcedByte (c : Cycle) (sp a : Nat) : Option Nat :=
  (c.forces.find? fun (f : Force) => f.active && decide (f.sym.space = sp ∧ f.sym.addr ≤ a ∧ a < f.sym.addr + symBytes f.sym)).map
    fun (f : Force) => f.value.toNat / 256 ^ (a - f.sym.addr) % 256

/-! ### Bytes as a runner sees them -/

/-- Byte of a space; own writes to the output image and the retain space come first; the layout of the system space is not
stated, and what it holds is free. -/
def State.eicByte (s : State) (r sp a : Nat) : Nat :=
  match s.cyc.forcedByte sp a with
  | some v => v
  | none =>
    let x := s.run r
    match sp with
    | 0 => cellGet 0 a s.cyc.data
    | 1 => (let v := cellGet 256 a x.retWrites; if v < 256 then v else cellGet 0 a s.cyc.retainCopy.bytes)
    | 2 => cellGet 0 a x.inp
    | 3 => (let v := cellGet 256 a x.outWrites; if v < 256 then v else cellGet 0 a x.out)
    | 4 => byteAt s.cyc.image (imgOfs s.cyc.image 1 + a)
    | _ => Config.free (0x10000 + a) s.freeSeed % 256

/-- A byte written by a program; a forced one is discarded. -/
def State.eicPutByte (s : State) (r sp a v : Nat) : State :=
  if (s.cyc.forcedByte sp a).isSome then s
  else
    match sp with
    | 0 => s.modCyc fun c => { c with data := cellPut 0 a v c.data }
    | 1 => s.modRun r fun x => { x with retWrites := cellPut 256 a v x.retWrites }
    | 3 => s.modRun r fun x => { x with outWrites := cellPut 256 a v x.outWrites }
    | _ => s

/-- Bytes from an address on. -/
def State.eicBytes (s : State) (r sp a n : Nat) : List Byte := (List.range n).map fun k => BitVec.ofNat 8 (s.eicByte r sp (a + k))

/-- Bytes written from an address on. -/
def State.eicPutBytes (s : State) (r sp a : Nat) (bs : List Byte) : State :=
  (bs.foldl (fun (p : Nat × State) b => (p.1 + 1, p.2.eicPutByte r sp p.1 b.toNat)) (a, s)).2

/-! ### Values -/

/-- Width of a type in bits; a BOOL is one bit. -/
def typeBits (ty : Nat) : Nat := if ty = 0 then 1 else 8 * eicSize ty

def State.reg64 (s : State) (r n : Nat) : Nat := (vget (s.run r).v n).toNat

/-- A value register written: the bits above the type's width have no stated value and are free (log 3). -/
def State.putReg (s : State) (r n ty v : Nat) : State :=
  let w := typeBits ty
  let d : DWord := BitVec.ofNat 64 (v % 2 ^ w + 2 ^ w * Config.free 62 (s.freeSeed * 32 + n))
  s.modRun r fun x => { x with v := vset x.v n d }

/-- A value of a type at an address; a BOOL is bit 0 of its byte. -/
def State.memGet (s : State) (r sp a ty : Nat) : Nat := le (s.eicBytes r sp a (eicSize ty)) 0 (eicSize ty) % 2 ^ typeBits ty

def State.memPut (s : State) (r sp a ty v : Nat) : State := s.eicPutBytes r sp a (bytesOf (eicSize ty) (v % 2 ^ typeBits ty))

/-- The address an operand names: none where an index breaks its bound (R488). The index is the whole register, signed. -/
def State.operandAddr (s : State) (r ty : Nat) (o : EicOp) : Option Nat :=
  if o.form = 3 then
    let i := signed 64 (s.reg64 r o.reg)
    if 0 ≤ i ∧ i < (o.bound : Int) then some (o.base + i.toNat * eicSize ty) else none
  else some o.base

/-- An index out of its bound sets the sticky flag. -/
def State.noteBound (s : State) (r ty : Nat) (o : EicOp) : State :=
  if o.mem ∧ (s.operandAddr r ty o).isNone then s.modCyc fun c => { c with bound := true } else s

/-- The value of an operand. -/
def State.operand (s : State) (r ty : Nat) (o : EicOp) : Nat :=
  match o.form with
  | 0 => s.reg64 r o.reg % 2 ^ typeBits ty
  | 1 => o.imm % 2 ^ typeBits ty
  | _ => match s.operandAddr r ty o with | some a => s.memGet r o.space a ty | none => 0

/-- The destination written. -/
def State.assign (s : State) (r ty : Nat) (o : EicOp) (v : Nat) : State :=
  match o.form with
  | 0 => s.putReg r o.reg ty v
  | 1 => s
  | _ => match s.operandAddr r ty o with
    | some a => s.memPut r o.space a ty v
    | none => s.modCyc fun c => { c with bound := true }

/-- The place a status operand names (R499); space 7 where an index breaks its bound. -/
def State.placeOf (s : State) (r ty : Nat) (o : EicOp) : EicPlace :=
  if o.form = 0 then { runner := r, space := 6, addr := o.reg, ty := ty }
  else match s.operandAddr r ty o with
    | some a => { runner := r, space := o.space, addr := a, ty := ty }
    | none => { runner := r, space := 7, addr := 0, ty := ty }

/-- A status code written into a status operand. A runner that has ended its task keeps no buffered writes: a place in the
retain space is then written in the copy in use, one in the output image there. -/
def State.putPlace (s : State) (p : EicPlace) (v : Nat) : State :=
  let bs := bytesOf (eicSize p.ty) (v % 2 ^ typeBits p.ty)
  if p.space = 6 then s.putReg p.runner p.addr p.ty v
  else if p.space = 7 then s
  else if p.space = 0 ∨ (s.run p.runner).active then s.eicPutBytes p.runner p.space p.addr bs
  else if p.space = 1 then s.modCyc fun c => { c with retain := vmod c.retain c.retUse fun x =>
      { x with bytes := cellsWrite 0 p.addr (bs.map fun (b : Byte) => b.toNat) x.bytes } }
  else if p.space = 3 then s.modCyc fun c => { c with out := cellsWrite 0 p.addr (bs.map fun (b : Byte) => b.toNat) c.out }
  else s

/-! ### Local rings (R456, R498) -/

/-- The granules free for a producer, measured from the tail (R424). -/
def State.ringRoom (s : State) (q : Nat) : Nat :=
  let p := s.qp q
  let size := s.cmdSize q
  let stop := match p.flights with | f :: _ => f.pkt.index.toNat | [] => p.fetch
  (if ringDist size p.tail stop = 0 then size else ringDist size p.tail stop) - 1

/-- Bytes stored in a local ring from a granule on. -/
def State.ringStore (s : State) (q granule : Nat) (bs : List Byte) : State :=
  { s with localRing := vmod s.localRing q fun m => cellsWrite 0 (64 * granule) (bs.map fun (b : Byte) => b.toNat) m }

/-- A header of `ADMIN_PAD`. -/
def padHeader : List Byte := bytesOf 2 0x0002 ++ bytesOf 62 0

/-- A producer writes a packet into its local ring and advances the tail; a pad fills the rest of the ring where the packet
does not fit before the end. The result is 0, or 0x31 where the ring lacks room. -/
def State.submit (s : State) (q : Fin 16) (bytes : List Byte) : Nat × State :=
  let len := le bytes 6 2
  let bs := slice bytes 0 (64 + len)
  let g := 1 + divUp len 64
  let size := s.cmdSize q
  let tail := (s.qp q).tail
  let pad := if size < tail + g then size - tail else 0
  if (s.qp q).state = .disabled ∨ s.ringRoom q < g + pad ∨ size < g then (0x31, s)
  else
    let s := if pad = 0 then s else s.ringStore q tail padHeader
    let at_ := if pad = 0 then tail else 0
    (0, (s.ringStore q at_ bs).writeTail q (BitVec.ofNat 32 ((at_ + g) % size)))

/-- A producer takes the next completion entry, if there is one. -/
def State.pollRing (s : State) (q : Fin 16) : Option (List Byte) × State :=
  match (s.qp q).cpl with
  | e :: _ => (some e.bytes, s.writeHead q (BitVec.ofNat 32 (((s.qp q).head + 1) % s.cplSize q)))
  | [] => (none, s)

end Sys2Proof.Machine
end

