-- ==== Sys2Proof/Machine/Wheel.lean ====
section
/-! DEFINITION. The Wheel (11 R458 to R480): the packets of class WHEEL, the Wheel cycle, and the thread calls of the user
service threads (16 R667 to R669). -/

namespace Sys2Proof.Machine

def State.modThread (s : State) (k : Nat) (f : Thread → Thread) : State :=
  { s with svcs := { s.svcs with threads := vmod s.svcs.threads k f } }
def State.thread (s : State) (k : Nat) : Thread := vget s.svcs.threads k

def WcState.code : WcState → Nat
  | .free => 0 | .idle => 1 | .delayed => 2 | .waiting => 3 | .ready => 4 | .running => 5 | .owned => 6

/-- Number of the Wheel cycle that a request made now belongs to: the present one, or the next one once it has run. -/
def State.wheelNow (s : State) : Nat :=
  match s.wheel.lastCycle with
  | some l => if s.ns / 40 ≤ l then l + 1 else s.ns / 40
  | none => s.ns / 40

/-- Its start, in DTB nanoseconds. -/
def State.wheelStart (s : State) : Nat := 40 * s.wheelNow

/-! ### Outcomes of ready requests (R465, R467, R474, R475) -/

/-- The result a thread call returns. -/
def State.threadResult (s : State) (c : Nat) (v : DWord) : State :=
  s.modThread (c - 4) fun x => { x with result := v, waits := false }

/-- The readiness is dispatched on a worker in the Wheel cycle that starts at an instant. -/
def State.reportDone (s : State) (at_ worker : Nat) (r : ReadyBy) : State :=
  match r with
  | .ready t => s.answer t { r0 := word [(worker, 0)], stamp := some (stampOf at_) }
  | .delay t => s.answer t { r0 := word [(worker, 0)], stamp := some (stampOf at_) }
  | .wait t (some m) => s.answer t { r0 := m, stamp := some (stampOf at_) }
  | .wait t none => s.answer t { status := .timedOut, stamp := some (stampOf at_) }
  | .eic p => s.putPlace p Status.done.code
  | .call c => s.threadResult c (BitVec.ofNat 64 Status.done.code)
  | .resume c v => s.threadResult c v

/-- The request ends without a dispatch. -/
def State.reportEnd (s : State) (at_ : Nat) (st : Status) (r : ReadyBy) : State :=
  match r with
  | .ready t => s.answer t { status := st, stamp := some (stampOf at_) }
  | .delay t => s.answer t { status := st, stamp := some (stampOf at_) }
  | .wait t _ => s.answer t { status := st, stamp := some (stampOf at_) }
  | .eic p => s.putPlace p st.code
  | .call c => s.threadResult c (BitVec.ofNat 64 st.code)
  | .resume c _ => s.threadResult c (BitVec.ofNat 64 st.code)

def State.reportAll (s : State) (at_ : Nat) (st : Status) (rs : List ReadyBy) : State :=
  rs.foldl (fun s r => s.reportEnd at_ st r) s

/-- What waits on a context's timer: the packet of its delay or wait, or the thread's own call. -/
def State.timerBy (s : State) (c : Nat) (signals : Option Word) : ReadyBy :=
  match (s.wc c).timer, (s.wc c).state with
  | some t, .waiting => .wait t signals
  | some t, _ => .delay t
  | none, .waiting => .resume c ((signals.getD 0).setWidth 64)
  | none, _ => .resume c 0

/-- A context becomes FREE and its outstanding packets complete with `CANCELLED` (R479, R665, R669). -/
def State.freeContext (s : State) (c : Nat) : State :=
  let x := s.wc c
  let waiting := if x.state = .delayed ∨ x.state = .waiting then [s.timerBy c none] else []
  let s := s.modWc c fun x => { x with
    state := .free, by_ := [], pend := false, pendBy := [], timer := none, due := none, mask := 0 }
  s.reportAll s.ns .cancelled (waiting ++ x.by_ ++ x.pendBy)

/-! ### The Wheel cycle (R460) -/

/-- Signals on which a WAITING context is satisfied in a cycle. -/
def State.satisfied (s : State) (c : Nat) : Word := (s.wc c).mask &&& (s.wheel.raised ||| s.wheel.pending)

/-- A timer that has run out by the start of the cycle. -/
def WheelContext.expired (x : WheelContext) (at_ : Nat) : Bool := match x.due with | some d => decide (d ≤ at_) | none => false

/-- The context would become ready in this cycle by its own delay or wait. -/
def State.comesReady (s : State) (at_ c : Nat) : Bool :=
  let x := s.wc c
  (x.state = .delayed && x.expired at_) || (x.state = .waiting && (s.satisfied c != 0 || x.expired at_))

/-- Step 1: one cancel (R474 to R476). A readiness pending since the run that a thread ended by a delay or a wait ends with it
(DEDUCED, log 26). -/
def State.applyCancel (s : State) (at_ : Nat) (t : Ticket) (c : Nat) : State :=
  let x := s.wc c
  let reqs := (s.wheel.readies.filter fun p => p.1 = c).map fun (p : Nat × ReadyBy) => p.2
  let won := !reqs.isEmpty || s.comesReady at_ c
  let timer := if x.state = .delayed ∨ x.state = .waiting then [s.timerBy c none] else []
  let idle (x : WheelContext) : WheelContext :=
    { x with state := .idle, timer := none, due := none, mask := 0, pend := false, pendBy := [] }
  let s := s.modWheel fun w => { w with
    readies := w.readies.filter fun p => p.1 ≠ c,
    cancelPre := if won then satCount (w.cancelPre + 1) else w.cancelPre,
    cancelRdy := if x.state = .ready then satCount (w.cancelRdy + 1) else w.cancelRdy }
  let s := s.reportAll at_ .cancelled reqs
  let s := match x.state with
    | .delayed => (s.modWc c idle).reportAll at_ .cancelled (timer ++ x.pendBy)
    | .waiting => (s.modWc c idle).reportAll at_ .cancelled (timer ++ x.pendBy)
    | .ready => (s.modWc c fun x => { x with state := .idle, by_ := [] }).reportAll at_ .cancelled x.by_
    | .running => (s.modWc c fun x => { x with pend := false, pendBy := [] }).reportAll at_ .cancelled x.pendBy
    | _ => s
  s.answer t { r0 := word [(x.state.code, 0), (bit won, 8)], stamp := some (stampOf at_) }

/-- A readiness counted as absorbed. -/
def State.coalesce (s : State) : State := s.modWheel fun w => { w with coalesced := satCount (w.coalesced + 1) }

/-- Step 2: one ready request (R466). -/
def State.applyReady (s : State) (at_ c : Nat) (r : ReadyBy) : State :=
  let x := s.wc c
  let keep : List ReadyBy := match r with | .call _ => [] | _ => [r]
  let told (s : State) : State := match r with | .call k => s.threadResult k (BitVec.ofNat 64 Status.done.code) | _ => s
  match x.state with
  | .idle => told (s.modWc c fun x => { x with state := .ready, by_ := keep })
  | .ready => told ((s.modWc c fun x => { x with by_ := x.by_ ++ keep }).coalesce)
  | .running =>
    if x.pend then told ((s.modWc c fun x => { x with pendBy := x.pendBy ++ keep }).coalesce)
    else told (s.modWc c fun x => { x with pend := true, pendBy := keep })
  | _ => s.reportEnd at_ .stateRefused r

/-- Step 2: an expiry, a satisfied wait or a time-out. A signal in the same cycle as the time-out satisfies the wait (R472). -/
def State.applyTimer (s : State) (at_ c : Nat) : State :=
  let x := s.wc c
  if s.comesReady at_ c then
    let sat := s.satisfied c
    let late := x.state = .waiting ∧ sat = 0
    let by_ := s.timerBy c (if late then none else some sat)
    let s := s.modWc c fun x => { x with state := .ready, by_ := [by_], timer := none, due := none, mask := 0 }
    if late then s.modWheel fun w => { w with waitTos := satCount (w.waitTos + 1) } else s
  else s

/-- Signals that some context waits for in this cycle. -/
def State.awaited (s : State) : Word :=
  (numbers 128 fun c => (s.wc c).state = .waiting).foldl (fun (w : Word) c => w ||| (s.wc c).mask) 0

/-- Step 2 as a whole: waits and timers, then the ready requests; raised signals that no context awaits become pending, and
pending ones that satisfied a wait clear. -/
def State.applyReadies (s : State) (at_ : Nat) : State :=
  let awaited := s.awaited
  let reqs := s.wheel.readies
  let s := s.forEach (List.range 128) fun s c => s.applyTimer at_ c
  let s := s.modWheel fun w => { w with
    pending := (w.pending ||| w.raised) &&& ~~~awaited, raised := 0, readies := [] }
  reqs.foldl (fun s (p : Nat × ReadyBy) => s.applyReady at_ p.1 p.2) s

/-- READY contexts of a worker at its best priority. -/
def State.bestReady (s : State) (lo hi : Nat) : List Nat :=
  let ready := numbers 128 fun c => lo ≤ c ∧ c < hi ∧ (s.wc c).state = .ready
  let best := ready.foldl (fun a c => min a (s.wc c).prio) 16
  ready.filter fun c => (s.wc c).prio = best

/-- One of the contexts of equal priority: which one is free (R462). -/
def State.pickReady (s : State) (cs : List Nat) : Option Nat × State :=
  match cs with
  | [] => (none, s)
  | c :: _ => (let (k, s) := s.draw 63 cs.length; (some (cs.getD k c), s))

/-- A context is dispatched (R467). -/
def State.dispatch (s : State) (at_ worker c : Nat) : State :=
  let by_ := (s.wc c).by_
  let s := s.modWc c fun x => { x with state := .running, by_ := [], dispatches := sat32 (x.dispatches + 1) }
  let s := s.modWheel fun w => { w with dispAt := vset w.dispAt worker (some s.now) }
  by_.foldl (fun s r => s.reportDone at_ worker r) s

/-- Step 3 on pair B: a thread of higher priority preempts the running one (R463). -/
def State.dispatchB (s : State) (at_ : Nat) : State :=
  let cs := s.bestReady 4 8
  let free := match s.wheel.pairB, cs with
    | some r, c :: _ => decide ((s.wc c).prio < (s.wc r).prio)
    | none, _ => true
    | _, [] => false
  if free then
    match s.pickReady cs with
    | (some c, s) =>
      let s := match s.wheel.pairB with | some r => s.modWc r fun x => { x with state := .ready } | none => s
      let (took, s) := s.draw 64 481
      let s := s.modWheel fun w => { w with pairB := some c, dispB := sat32 (w.dispB + 1), longest := max w.longest took }
      let s := s.modThread (c - 4) fun x => { x with fresh := false, runSince := some (x.runSince.getD s.now) }
      s.dispatch at_ 0 c
    | (none, s) => s
  else s

/-- The event lane dispatches nothing from the carry-over of the longest task to the switch (12 R519). -/
def State.carryGap (s : State) : Bool :=
  match s.cyc.change with
  | some c =>
    let k := longestTask s.cyc.image
    let x := s.run k
    s.cyc.state = .run && !x.active && decide (c.at_ ≤ x.start + 1000 * (Config.eicCyclic s.cyc.image k).period)
  | none => false

/-- The event lane begins an event task: it sees the images as they stand. -/
def State.startEvent (s : State) (at_ entry : Nat) : State :=
  s.modRun 4 fun x => { x with
    active := true, task := 4 + entry, pc := Config.eicEvent s.cyc.image entry, frames := [], loops := [], start := at_,
    inp := s.cyc.inp, out := s.cyc.out, outWrites := [], retWrites := [] }

/-- Step 3 on the event lane (R464); none starts in the power-fail sequence (R623). -/
def State.dispatchLane (s : State) (at_ : Nat) : State :=
  if s.wheel.lane = none ∧ s.cyc.state = .run ∧ ¬ s.cyc.stopping ∧ ¬ s.carryGap ∧ s.pwr.failing.isNone then
    match s.pickReady (s.bestReady 8 128) with
    | (some c, s) =>
      let s := s.modWheel fun w => { w with lane := some c, dispL := sat32 (w.dispL + 1) }
      (s.dispatch at_ 1 c).startEvent at_ (s.wc c).entry
    | (none, s) => s
  else s

/-- WHEEL_CYCLE (R460): the three steps, in order, at the start of the cycle. -/
def evWheelCycle (s : State) : State :=
  let n := s.wheelNow
  let at_ := 40 * n
  let s := s.advanceToNs at_
  let cancels := s.wheel.cancels
  let s := s.modWheel fun w => { w with cancels := [], lastCycle := some n }
  let s := cancels.foldl (fun s (p : Ticket × Nat) => s.applyCancel at_ p.1 p.2) s
  ((s.applyReadies at_).dispatchB at_).dispatchLane at_

/-- The earliest due timer of the contexts in a state. -/
def State.firstDue (s : State) (st : WcState) : Option Nat :=
  (List.range 128).foldl (fun (a : Option Nat) c =>
    match a, (if (s.wc c).state = st then (s.wc c).due else none) with
    | some x, some y => some (min x y)
    | none, y => y
    | x, none => x) none

/-- DELAY_EXPIRY (R469, R470): the first Wheel cycle at or after the earliest boundary on the delay list. -/
def evDelayExpiry (s : State) : State :=
  match s.firstDue .delayed with
  | some d => evWheelCycle (s.advanceToNs (40 * divUp d 40))
  | none => s

/-- WAIT_TIMEOUT (R471): the first Wheel cycle at or after the end of a context's time-out. -/
def evWaitTimeout (c : Fin 128) (s : State) : State :=
  if (s.wc c).state = .waiting then
    match (s.wc c).due with
    | some d => evWheelCycle (s.advanceToNs (40 * divUp d 40))
    | none => s
  else s

/-! ### Packets of class WHEEL -/

/-- WHEEL_CONFIG (R469). -/
def effWheelConfig (t : Ticket) (p : Pkt) (s : State) : State :=
  if 1 ≤ prm16 p 0 ∧ prm16 p 0 ≤ 4000 then (s.modWheel fun w => { w with tick := prm16 p 0 }).ends t .done
  else s.ends t .badField

/-- The entry of a context names a task or thread that is present (R478). -/
def State.entryOk (s : State) (c e : Nat) : Bool :=
  if c < 8 then decide (e < 4) && (vget s.svcs.svc e).installed
  else decide (s.cyc.image ≠ [] ∧ e < imgNevt s.cyc.image)

/-- WHEEL_CONTEXT (R478). -/
def effWheelContext (t : Ticket) (p : Pkt) (s : State) : State :=
  let c := p.target.toNat
  if prm p 0 ≤ 15 ∧ (8 ≤ c ∨ 4 ≤ prm p 0) ∧ prm p 1 ≤ 1 ∧ s.entryOk c (prm16 p 2) then
    let s := s.modWc c fun x => { x with state := .idle, prio := prm p 0, tmode := prm p 1, entry := prm16 p 2 }
    let s := if c < 8 then s.modThread (c - 4) fun _ => {} else s
    s.ends t .done
  else s.ends t .badField

/-- WHEEL_READY (R466, R467). -/
def effWheelReady (t : Ticket) (p : Pkt) (s : State) : State :=
  s.modWheel fun w => { w with readies := w.readies ++ [(p.target.toNat, .ready t)] }

/-- The n-th tick boundary strictly after an instant (R470). -/
def tickAfter (tick n at_ : Nat) : Nat := (at_ / (250 * max 1 tick) + n) * (250 * max 1 tick)

/-- A context goes on the delay list. -/
def State.delayContext (s : State) (c n : Nat) (t : Option Ticket) : State :=
  s.modWc c fun x => { x with state := .delayed, timer := t, mask := 0, due := some (tickAfter s.wheel.tick n s.wheelStart) }

/-- A context waits for signals. -/
def State.waitContext (s : State) (c : Nat) (mask : Word) (tmo : Nat) (t : Option Ticket) : State :=
  s.modWc c fun x => { x with state := .waiting, timer := t, mask := mask,
                              due := if tmo = 0 then none else some (s.wheelStart + 1000 * tmo) }

/-- WHEEL_DELAY (R468, R470). -/
def effWheelDelay (t : Ticket) (p : Pkt) (s : State) : State :=
  let c := p.target.toNat
  if (s.wc c).tmode = 1 then s.ends t .stateRefused
  else if 1 ≤ prm32 p 0 ∧ prm32 p 0 ≤ 16777216 then s.delayContext c (prm32 p 0) (some t)
  else s.ends t .badField

/-- WHEEL_WAIT (R468, R471). A wait without time-out in `TMODE` 1 is refused (DEDUCED, log 94). -/
def effWheelWait (t : Ticket) (p : Pkt) (s : State) : State :=
  let c := p.target.toNat
  if prm32 p 0 = 0 ∧ prm32 p 4 = 0 then s.ends t .badField
  else if decide ((s.wc c).tmode = 1) ≠ decide (prm32 p 4 ≠ 0) then s.ends t .stateRefused
  else s.waitContext c (BitVec.ofNat 32 (prm32 p 0)) (prm32 p 4) (some t)

/-- WHEEL_CANCEL (R474). -/
def effWheelCancel (t : Ticket) (p : Pkt) (s : State) : State :=
  s.modWheel fun w => { w with cancels := w.cancels ++ [(t, p.target.toNat)] }

/-- Signals raised (R472). -/
def State.raise (s : State) (mask : Word) : State := s.modWheel fun w => { w with raised := w.raised ||| mask }

/-- WHEEL_SIGNAL (R472). -/
def effWheelSignal (t : Ticket) (p : Pkt) (s : State) : State := (s.raise (BitVec.ofNat 32 (prm32 p 0))).ends t .done

/-- WHEEL_SIGMAP (R473). -/
def effWheelSigmap (t : Ticket) (p : Pkt) (s : State) : State :=
  if prm p 0 ≤ 31 ∧ (prm p 1 ≤ 0x10 ∨ prm p 1 = 0xFF) then
    let m : Option (Byte × Option Half) :=
      if prm p 1 = 0xFF then none
      else some (BitVec.ofNat 8 (prm p 1), if prm16 p 2 = 0xFFFF then none else some (BitVec.ofNat 16 (prm16 p 2)))
    (s.modWheel fun w => { w with map := vset w.map (prm p 0) m }).ends t .done
  else s.ends t .badField

/-- WHEEL_STATUS (R480, Table 11-7). -/
def effWheelStatus (t : Ticket) (p : Pkt) (s : State) : State :=
  let w := s.wheel
  let x := s.wc p.target.toNat
  match prm p 0 with
  | 0 => s.answer t { r0 := word [(x.state.code, 0), (x.prio, 4), (x.tmode, 8), (bit x.pend, 9), (x.entry, 16)],
                      r1 := word [(x.dispatches, 0)], extra := if x.state = .waiting then x.mask else 0 }
  | 1 => if p.target ≠ 0 then s.ends t .badField else
      s.answer t { r0 := word [(w.cancelPre, 0), (w.cancelRdy, 16)], r1 := word [(w.coalesced, 0), (w.waitTos, 16)], extra := w.pending }
  | 2 => if p.target ≠ 0 then s.ends t .badField else
      s.answer t { r0 := word [(w.dispB, 0)], r1 := word [(w.dispL, 0)], extra := word [(w.longest, 0), (w.tick, 16)] }
  | _ => s.ends t .badField

/-- WHEEL_RELEASE (R461). -/
def effWheelRelease (t : Ticket) (p : Pkt) (s : State) : State :=
  (s.modWc p.target.toNat fun x => { x with state := .free }).ends t .done

/-! ### Thread calls (R667 to R669) -/

/-- The image of a thread. -/
def State.threadImage (s : State) (k : Nat) : List Byte := (vget s.svcs.svc (s.wc (4 + k)).entry).bytes

/-- Size of a thread's memory: code, data, zeroed data and stack (R666). -/
def State.threadSize (s : State) (k : Nat) : Nat :=
  let b := s.threadImage k
  le b 20 4 + le b 28 4 + le b 32 4 + le b 36 4

/-- The thread runs on pair B and is not inside a READY call. -/
def State.threadRuns (s : State) (k : Nat) : Bool := decide (s.wheel.pairB = some (4 + k)) && !(s.thread k).waits

/-- The run ends at a call. -/
def State.leaveB (s : State) (k : Nat) : State :=
  (s.modThread k fun x => { x with runSince := none }).modWheel fun w => { w with pairB := none }

/-- A result returned without ending the run. -/
def State.callResult (s : State) (k : Nat) (v : Nat) : State := s.modThread k fun x => { x with result := BitVec.ofNat 64 v }

/-- A thread fault (R669). -/
def State.threadFault (s : State) (k : Nat) : State :=
  (((s.leaveB k).freeContext (4 + k)).modThread k fun x => { x with waits := false }).report 0x09 (4 + k) 0x0901

/-- THREAD_END. -/
def evThreadEnd (c : Fin 4) (s : State) : State :=
  if s.threadRuns c then (s.leaveB c).endContext (4 + c) else s

/-- THREAD_READY: the outcome comes in the Wheel cycle in which the request is applied. -/
def evThreadReady (c : Fin 4) (ctx : Word) (s : State) : State :=
  if ¬ s.threadRuns c then s
  else if ctx.toNat < 4 ∨ 127 < ctx.toNat then s.callResult c Status.badField.code
  else (s.modThread c fun x => { x with waits := true }).modWheel fun w =>
    { w with readies := w.readies ++ [(ctx.toNat, .call (4 + c))] }

/-- THREAD_SIGNAL. -/
def evThreadSignal (c : Fin 4) (mask : Word) (s : State) : State :=
  if s.threadRuns c then (s.raise mask).callResult c Status.done.code else s

/-- THREAD_DELAY. -/
def evThreadDelay (c : Fin 4) (n : Word) (s : State) : State :=
  if ¬ s.threadRuns c then s
  else if (s.wc (4 + c)).tmode ≠ 0 then s.callResult c Status.stateRefused.code
  else if n.toNat < 1 ∨ 16777216 < n.toNat then s.callResult c Status.badField.code
  else (s.leaveB c).delayContext (4 + c) n.toNat none

/-- THREAD_WAIT. -/
def evThreadWait (c : Fin 4) (mask tmo : Word) (s : State) : State :=
  if ¬ s.threadRuns c then s
  else if mask = 0 ∧ tmo = 0 then s.callResult c Status.badField.code
  else if decide ((s.wc (4 + c)).tmode = 1) ≠ decide (tmo ≠ 0) then s.callResult c Status.stateRefused.code
  else (s.leaveB c).waitContext (4 + c) mask tmo.toNat none

/-- A queue pair the thread may use. -/
def State.threadQp (s : State) (k qp : Nat) : Bool := decide (qp < 16) && (le (s.threadImage k) 44 2).testBit qp

/-- THREAD_SUBMIT: a queue pair outside `QP_MASK` is a fault. -/
def evThreadSubmit (c : Fin 4) (qp : Word) (bytes : List Byte) (s : State) : State :=
  if ¬ s.threadRuns c then s
  else if h : qp.toNat < 16 then
    if s.threadQp c qp.toNat then
      let r := s.submit ⟨qp.toNat, h⟩ bytes
      r.2.callResult c r.1
    else s.threadFault c
  else s.threadFault c

/-- THREAD_POLL. -/
def evThreadPoll (c : Fin 4) (qp addr : Word) (s : State) : State :=
  if ¬ s.threadRuns c then s
  else if h : qp.toNat < 16 then
    if s.threadQp c qp.toNat ∧ addr.toNat + 32 ≤ s.threadSize c then
      match s.pollRing ⟨qp.toNat, h⟩ with
      | (some bs, s) => (s.modThread c fun x => { x with
          mem := cellsWrite 0 addr.toNat (bs.map fun (b : Byte) => b.toNat) x.mem }).callResult c 1
      | (none, s) => s.callResult c 0
    else s.threadFault c
  else s.threadFault c

/-- THREAD_TIME. -/
def evThreadTime (c : Fin 4) (s : State) : State :=
  if s.threadRuns c then s.callResult c s.dtbNs.toNat else s

/-- THREAD_IMAGE_READ. -/
def evThreadImageRead (c : Fin 4) (ofs count addr : Word) (s : State) : State :=
  if ¬ s.threadRuns c then s
  else if ¬ s.hasCycle then s.callResult c Status.unitAbsent.code
  else if count.toNat < 1 ∨ 4096 < count.toNat ∨ 65535 < ofs.toNat + count.toNat then s.callResult c Status.badField.code
  else if s.threadSize c < addr.toNat + 2 * count.toNat then s.threadFault c
  else (s.modThread c fun x => { x with
      mem := cellsWrite 0 addr.toNat (cellsRead 0 (2 * ofs.toNat) (2 * count.toNat) s.cyc.inp) x.mem }).callResult c Status.done.code

/-- THREAD_FAULT (R669). -/
def evThreadFault (c : Fin 4) (s : State) : State :=
  if s.wheel.pairB = some (4 + c.val) then s.threadFault c else s

end Sys2Proof.Machine
end

