-- ==== Sys2Proof/Machine/EicRun.lean ====
section
/-! DEFINITION. The interpreter of the cycle engine (12 R486 to R490, R498, R499): what each instruction does to its runner. -/

namespace Sys2Proof.Machine

/-- Signed value of a type. -/
def tySigned (ty v : Nat) : Int := signed (typeBits ty) v

/-- A result of two's complement in the width of a type. -/
def tyWrap (ty : Nat) (v : Int) : Nat := (v % (2 ^ typeBits ty : Nat)).toNat

/-- Class INTEGER on unsigned bit patterns a, b, c; a division by zero gives 0 (R488). -/
def intOp (op ty a b c : Nat) : Nat :=
  let sb := tySigned ty b
  let sc := tySigned ty c
  let sa := tySigned ty a
  match op with
  | 0x0 => tyWrap ty (b + c)
  | 0x1 => tyWrap ty ((b : Int) - c)
  | 0x2 => tyWrap ty (-(b : Int))
  | 0x3 => tyWrap ty (if sb < 0 then -sb else sb)
  | 0x4 => if sb ≤ sc then b else c
  | 0x5 => if sb ≤ sc then c else b
  | 0x6 => min b c
  | 0x7 => max b c
  | 0x8 => tyWrap ty (min (max sa sb) sc)
  | 0x9 => min (max a b) c
  | 0xA => tyWrap ty ((b : Int) * c)
  | 0xB => if c = 0 then 0 else tyWrap ty (Int.tdiv sb sc)
  | 0xC => if c = 0 then 0 else b / c
  | 0xD => if c = 0 then 0 else tyWrap ty (Int.tmod sb sc)
  | _ => if c = 0 then 0 else b % c

/-- The operation divides, so that a zero divisor sets `DIV0`. -/
def intDivides (op : Nat) : Bool := decide (0xB ≤ op)

/-- Class LOGIC; shifts and bit numbers count modulo the width. `BTST` gives a BOOL. -/
def logicOp (op ty b c : Nat) : Nat :=
  let w := typeBits ty
  let k := c % w
  match op with
  | 0x0 => b &&& c
  | 0x1 => b ||| c
  | 0x2 => b ^^^ c
  | 0x3 => 2 ^ w - 1 - b
  | 0x4 => bit (b.testBit k)
  | 0x5 => b ||| 2 ^ k
  | 0x6 => if b.testBit k then b - 2 ^ k else b
  | 0x7 => b * 2 ^ k % 2 ^ w
  | 0x8 => b / 2 ^ k
  | _ => tyWrap ty (tySigned ty b / (2 ^ k : Nat))

/-- Class COMPARE. -/
def compareOp (op ty b c : Nat) : Bool :=
  if ty = 5 then realCompare op b c
  else
    let sb := tySigned ty b
    let sc := tySigned ty c
    match op with
    | 0 => decide (b = c)
    | 1 => decide (b ≠ c)
    | 2 => decide (sb < sc)
    | 3 => decide (sb ≤ sc)
    | 4 => decide (sc < sb)
    | 5 => decide (sc ≤ sb)
    | 6 => decide (b < c)
    | 7 => decide (b ≤ c)
    | 8 => decide (c < b)
    | _ => decide (c ≤ b)

/-! ### Timers and counters (Table 12-4a class 0x8, IEC 61131-3) -/

/-- The instance of a timer or counter: elapsed time or count, preset, Q, previous input. -/
structure TimerInst where
  et : Int
  pt : Int
  q : Bool
  prev : Bool
  deriving DecidableEq, Repr

/-- The bytes of an instance: bytes 18 to 23 stay as they are. -/
def TimerInst.bytes (x : TimerInst) : List Byte :=
  bytesOfInt 8 x.et ++ bytesOfInt 8 x.pt ++ [BitVec.ofNat 8 (bit x.q), BitVec.ofNat 8 (bit x.prev)]

/-- One call of an instance with its input, preset and the time since its last call. -/
def timerStep (op : Nat) (x : TimerInst) (input : Bool) (preset : Int) (dt : Nat) : TimerInst :=
  let rise := input && !x.prev
  let y : TimerInst := { x with prev := input, pt := preset }
  match op with
  | 0 =>
    let et : Int := if !input then 0 else if rise then 0 else min (x.et + dt) preset
    { y with et := et, q := input && decide (preset ≤ et) }
  | 1 =>
    let et : Int := if input then 0 else if x.prev then 0 else if x.q then min (x.et + dt) preset else x.et
    { y with et := et, q := input || ((x.prev || x.q) && decide (et < preset)) }
  | 2 =>
    let started := rise && !x.q
    let et : Int := if started then 0 else if x.q then min (x.et + dt) preset else if input then x.et else 0
    let q := (started || x.q) && decide (et < preset)
    { y with et := if !q && !input then 0 else et, q := q }
  | 3 => { x with prev := input, q := rise }
  | 4 => { x with prev := input, q := !input && x.prev }
  | 5 =>
    let n := if rise ∧ x.et < 2147483647 then x.et + 1 else x.et
    { y with et := n, q := decide (preset ≤ n) }
  | _ =>
    let n := if rise ∧ -2147483648 < x.et then x.et - 1 else x.et
    { y with et := n, q := decide (n ≤ 0) }

/-! ### Flow of control -/

/-- The code offset of the END of a loop: scanned forward over nested loops. -/
def loopEndFrom (img : List Byte) : Nat → Nat → Nat → Nat
  | 0, _, off => off
  | n + 1, depth, off =>
    let i := eicDecode img off
    if i.cls = 6 ∧ i.op = 1 then (if depth = 0 then off else loopEndFrom img n (depth - 1) i.next)
    else if i.cls = 6 ∧ i.op = 0 then loopEndFrom img n (depth + 1) i.next
    else loopEndFrom img n depth i.next

/-- END of the loop whose BEGIN stands at an offset. -/
def loopEnd (img : List Byte) (begin_ : Nat) : Nat :=
  loopEndFrom img (imgLen img 0 / 4) 0 (eicDecode img begin_).next

/-- A jump leaves the loops that end before its target. -/
def jumpTo (img : List Byte) (x : EicRun) (target : Nat) : EicRun :=
  { x with pc := target, loops := x.loops.dropWhile fun l => decide (loopEnd img l.1 < target) }

/-- Class LOOP: `take` is the condition of EXIT. -/
def loopOp (img : List Byte) (x : EicRun) (i : EicIns) (take : Bool) : EicRun :=
  match i.op with
  | 0 => { x with pc := i.next, loops := (i.off, i.b.imm) :: x.loops }
  | 1 =>
    match x.loops with
    | (b, n) :: rest =>
      if 1 < n then { x with pc := (eicDecode img b).next, loops := (b, n - 1) :: rest } else { x with pc := i.next, loops := rest }
    | [] => { x with pc := i.next }
  | _ =>
    match x.loops with
    | (b, _) :: rest =>
      if take then { x with pc := (eicDecode img (loopEnd img b)).next, loops := rest } else { x with pc := i.next }
    | [] => { x with pc := i.next }

/-- Class CALL: registers v16 to v31 are saved at the call and restored at the return. -/
def callOp (x : EicRun) (i : EicIns) : EicRun :=
  match i.op with
  | 0 => { x with pc := i.b.imm, loops := [],
                  frames := { ret := i.next, saved := x.v.toList.drop 16, loops := x.loops } :: x.frames }
  | _ =>
    match x.frames with
    | f :: rest => { x with pc := f.ret, loops := f.loops, frames := rest,
                            v := Vector.ofFn fun k => if k.val < 16 then x.v[k] else f.saved.getD (k.val - 16) 0 }
    | [] => x

/-- The instruction is the return that ends the task. -/
def EicRun.atEnd (x : EicRun) (i : EicIns) : Bool := i.cls = 7 && i.op = 1 && x.frames.isEmpty

/-! ### Instructions -/

/-- An ordinary result: the sticky flags of its operands, then the destination. -/
def State.finishIns (s : State) (r : Nat) (i : EicIns) (ty v : Nat) : State :=
  (((s.noteBound r i.ty i.b).noteBound r i.ty i.c).assign r ty i.a v).modRun r fun x => { x with pc := i.next }

/-- Class MOVE. -/
def State.moveIns (s : State) (r : Nat) (i : EicIns) : State :=
  match i.op with
  | 0 => s.finishIns r i i.ty (s.operand r i.ty i.b)
  | 1 =>
    if (s.operand r 0 i.c).testBit 0 then s.finishIns r i i.ty (s.operand r i.ty i.b)
    else ((s.noteBound r i.ty i.b).noteBound r 0 i.c).modRun r fun x => { x with pc := i.next }
  | 2 => s.finishIns r i 5 (realOfInt (tySigned i.ty (s.operand r i.ty i.b)))
  | 3 => s.finishIns r i 5 (realOfInt (s.operand r i.ty i.b))
  | 4 => s.finishIns r i i.ty (tyWrap i.ty (realToInt (typeBits i.ty) (s.operand r 5 i.b)))
  | 5 => s.finishIns r i i.ty (tyWrap i.ty (signed i.c.imm (s.operand r i.ty i.b)))
  | _ => s.finishIns r i i.ty (s.operand r i.ty i.b % 2 ^ i.c.imm)

/-- Class TIMER: a timer counts the DTB time since its instance was last called. The spec keeps that instant nowhere; of an
instance not called since its variable was initialised or carried over, the time is free (log 36). -/
def State.timerIns (s : State) (r : Nat) (i : EicIns) : State :=
  match s.operandAddr r i.ty i.a with
  | some a =>
    let bs := s.eicBytes r i.a.space a 24
    let x : TimerInst := { et := signed 64 (le bs 0 8), pt := signed 64 (le bs 8 8), q := (byteAt bs 16).testBit 0,
                           prev := (byteAt bs 17).testBit 0 }
    let input := (s.operand r 0 i.b).testBit 0
    let preset : Int := if i.op ≤ 2 then tySigned 6 (s.operand r 6 i.c) else tySigned 3 (s.operand r 3 i.c)
    let key := i.a.space * 2 ^ 32 + a
    let dt := match assocGet key s.cyc.timerAt with | some t => s.ns - t | none => Config.free 65 s.freeSeed
    let y := timerStep i.op x input preset dt
    let s := s.modCyc fun c => { c with timerAt := assocPut key s.ns c.timerAt }
    let out := if i.op = 3 ∨ i.op = 4 then TimerInst.bytes { y with et := x.et, pt := x.pt } else y.bytes
    (s.eicPutBytes r i.a.space a out).modRun r fun x => { x with pc := i.next }
  | none => (s.modCyc fun c => { c with bound := true }).modRun r fun x => { x with pc := i.next }

/-- Bytes of a block operand; zeros where an index breaks its bound. -/
def State.blockBytes (s : State) (r : Nat) (i : EicIns) (o : EicOp) : List Byte :=
  match s.operandAddr r i.ty o with | some a => s.eicBytes r o.space a i.n | none => bytesOf i.n 0

/-- Bytes written at a block operand. -/
def State.blockPut (s : State) (r : Nat) (i : EicIns) (bs : List Byte) : State :=
  match s.operandAddr r i.ty i.a with
  | some a => s.eicPutBytes r i.a.space a bs
  | none => s.modCyc fun c => { c with bound := true }

/-- Comparison of byte strings, unsigned, from the first byte on. -/
def bytesCmp : List Byte → List Byte → Int
  | a :: as, b :: bs => if a = b then bytesCmp as bs else if a.toNat < b.toNat then -1 else 1
  | _, _ => 0

/-- Class BLOCK. -/
def State.blockIns (s : State) (r : Nat) (i : EicIns) : State :=
  match i.op with
  | 0 => ((s.noteBound r i.ty i.b).blockPut r i (s.blockBytes r i i.b)).modRun r fun x => { x with pc := i.next }
  | 1 => (s.blockPut r i (List.replicate i.n (BitVec.ofNat 8 (s.operand r i.ty i.b)))).modRun r fun x => { x with pc := i.next }
  | _ => s.finishIns r i i.ty (tyWrap i.ty (bytesCmp (s.blockBytes r i i.b) (s.blockBytes r i i.c)))

/-- An instruction that touches nothing outside its program: classes MOVE to BLOCK. -/
def State.plainIns (s : State) (r : Nat) (i : EicIns) : State :=
  let s := { s with freeSeed := s.freeSeed + 1 }
  let img := s.cyc.image
  let a := s.operand r i.ty i.a
  let b := s.operand r i.ty i.b
  let c := s.operand r i.ty i.c
  match i.cls with
  | 0 => s.moveIns r i
  | 1 =>
    let s := if intDivides i.op ∧ c = 0 then s.modCyc fun x => { x with div0 := true } else s
    s.finishIns r i i.ty (intOp i.op i.ty a b c)
  | 2 => s.finishIns r i 5 (realOp i.op a b c)
  | 3 => s.finishIns r i (if i.op = 4 then 0 else i.ty) (logicOp i.op i.ty b c)
  | 4 => s.finishIns r i 0 (bit (compareOp i.op i.ty b c))
  | 5 =>
    let t := (s.operand r 0 i.c).testBit 0
    let take := i.op = 0 || (if i.op = 1 then t else !t)
    s.modRun r fun x => if take then jumpTo img x i.target else { x with pc := i.next }
  | 6 => s.modRun r fun x => loopOp img x i ((s.operand r 0 i.c).testBit 0)
  | 7 => s.modRun r fun x => callOp x i
  | 8 => s.timerIns r i
  | _ => s.blockIns r i

/-! ### System instructions -/

/-- SUBMIT (R498). -/
def State.eicSubmitIns (s : State) (r : Nat) (i : EicIns) : State :=
  let go (s : State) (v : Nat) : State := (s.assign r i.ty i.a v).modRun r fun x => { x with pc := i.next }
  match s.operandAddr r i.ty i.b with
  | some a =>
    if h : i.c.imm < 16 then
      let res := s.submit ⟨i.c.imm, h⟩ (s.eicBytes r i.b.space a (64 + le (s.eicBytes r i.b.space a 64) 6 2))
      go res.2 res.1
    else go s 0x31
  | none => go ((s.noteBound r i.ty i.b).submit ⟨i.c.imm % 16, Nat.mod_lt _ (by omega)⟩ (bytesOf 64 0)).2
      ((s.noteBound r i.ty i.b).submit ⟨i.c.imm % 16, Nat.mod_lt _ (by omega)⟩ (bytesOf 64 0)).1

/-- POLL (R498). -/
def State.eicPollIns (s : State) (r : Nat) (i : EicIns) : State :=
  let q : Fin 16 := ⟨i.c.imm % 16, Nat.mod_lt _ (by omega)⟩
  match s.pollRing q with
  | (some bs, s) =>
    let s := match s.operandAddr r i.ty i.b with
      | some a => s.eicPutBytes r i.b.space a bs
      | none => s.noteBound r i.ty i.b
    (s.assign r i.ty i.a 1).modRun r fun x => { x with pc := i.next }
  | (none, s) => (s.assign r i.ty i.a 0).modRun r fun x => { x with pc := i.next }

/-- READY (R499): the status operand holds 0xFFFF until the Wheel reports. -/
def State.eicReadyIns (s : State) (r : Nat) (i : EicIns) : State :=
  let place := s.placeOf r i.ty i.a
  let s := s.assign r i.ty i.a 0xFFFF
  let s := s.modWheel fun w => { w with readies := w.readies ++ [(i.c.imm, .eic place)] }
  s.modRun r fun x => { x with pc := i.next }

/-- SIGNAL (R499, R472). -/
def State.eicSignalIns (s : State) (r : Nat) (i : EicIns) : State :=
  ((s.noteBound r i.ty i.b).raise (BitVec.ofNat 32 (s.operand r i.ty i.b))).modRun r fun x => { x with pc := i.next }

/-- RDTIME. -/
def State.rdtimeIns (s : State) (r : Nat) (i : EicIns) : State := s.finishIns r i i.ty s.dtbNs.toNat

/-- RDCNT: counter C. A counter number above 3 names none, and what it reads is free (log 3). -/
def State.rdcntIns (s : State) (r : Nat) (i : EicIns) : State :=
  let x := s.run r
  let v := match s.operand r i.ty i.c with
    | 0 => x.cycles
    | 1 => x.skips
    | 2 => s.wheel.dispL
    | 3 => (s.chan 12 0).upsets
    | _ => Config.free 66 s.freeSeed
  s.finishIns r i i.ty v

/-- TRACE: B with a DTB stamp; the ring holds 256 entries. -/
def State.traceIns (s : State) (r : Nat) (i : EicIns) : State :=
  let v : DWord := BitVec.ofNat 64 (s.operand r i.ty i.b)
  let s := s.noteBound r i.ty i.b
  (s.modCyc fun c => { c with trace := ((s.dtbNs, v) :: c.trace).take 256 }).modRun r fun x => { x with pc := i.next }

/-- An instruction of classes PACKET, WHEEL and SYSTEM. -/
def State.systemIns (s : State) (r : Nat) (i : EicIns) : State :=
  let s := { s with freeSeed := s.freeSeed + 1 }
  match i.cls, i.op with
  | 10, 0 => s.eicSubmitIns r i
  | 10, _ => s.eicPollIns r i
  | 11, 0 => s.eicReadyIns r i
  | 11, _ => s.eicSignalIns r i
  | 12, 0 => s.rdtimeIns r i
  | 12, 1 => s.rdcntIns r i
  | _, _ => s.traceIns r i

/-- The instruction a runner stands at. -/
def State.insOf (s : State) (r : Nat) : EicIns := eicDecode s.cyc.image (s.run r).pc

/-- Ordinary instructions up to the next system instruction or the end of the task. A verified task takes no more steps than
its worst-case time has lane cycles (R492). -/
def State.runPlain (s : State) (r : Nat) : Nat → State
  | 0 => s
  | n + 1 =>
    let i := s.insOf r
    if 10 ≤ i.cls ∨ (s.run r).atEnd i then s else (s.plainIns r i).runPlain r n

/-- The whole rest of a task. -/
def State.runToEnd (s : State) (r : Nat) : Nat → State
  | 0 => s
  | n + 1 =>
    let i := s.insOf r
    if (s.run r).atEnd i then s
    else if 10 ≤ i.cls then (s.systemIns r i).runToEnd r n
    else (s.plainIns r i).runToEnd r n

def State.fuelOf (s : State) (r : Nat) : Nat := eicC s.cyc.image (s.run r).task + 1

/-- A runner executes: it holds a task and its lane is not held. -/
def State.executes (s : State) (r : Nat) : Bool := (s.run r).active && decide (s.cyc.state ≠ .hold ∨ r = 4)

/-- A system instruction of a class and operation, when it is the runner's next one. -/
def State.systemAt (s : State) (r cls op : Nat) : State :=
  if s.executes r then
    let t := s.runPlain r (s.fuelOf r)
    let i := t.insOf r
    if i.cls = cls ∧ i.op = op then t.systemIns r i else s
  else s

/-- EIC_SUBMIT, EIC_POLL, EIC_READY, EIC_SIGNAL, RDTIME, RDCNT, TRACE. -/
def evEicSubmit (r : Fin 5) (s : State) : State := s.systemAt r 10 0
def evEicPoll (r : Fin 5) (s : State) : State := s.systemAt r 10 1
def evEicReady (r : Fin 5) (s : State) : State := s.systemAt r 11 0
def evEicSignal (r : Fin 5) (s : State) : State := s.systemAt r 11 1
def evRdtime (r : Fin 5) (s : State) : State := s.systemAt r 12 0
def evRdcnt (r : Fin 5) (s : State) : State := s.systemAt r 12 1
def evTrace (r : Fin 5) (s : State) : State := s.systemAt r 12 2

end Sys2Proof.Machine
end

