-- ==== Sys2Proof/Machine/CyclePhase.lean ====
section
/-! DEFINITION. The phases of a cycle (12 R495 to R505, R511, R522 to R525): input phase, publishing, set-point transfer,
variable access and output frames. -/

namespace Sys2Proof.Machine

/-! ### Published memory -/

/-- A byte of a space outside any task's run. -/
def State.pubByte (s : State) (sp a : Nat) : Nat :=
  match s.cyc.forcedByte sp a with
  | some v => v
  | none =>
    match sp with
    | 0 => cellGet 0 a s.cyc.data
    | 1 => cellGet 0 a s.cyc.retainCopy.bytes
    | 2 => cellGet 0 a s.cyc.inp
    | 3 => cellGet 0 a s.cyc.out
    | 4 => byteAt s.cyc.image (imgOfs s.cyc.image 1 + a)
    | _ => Config.free (0x10000 + a) s.freeSeed % 256

def State.pubBytes (s : State) (sp a n : Nat) : List Byte := (List.range n).map fun k => BitVec.ofNat 8 (s.pubByte sp (a + k))

/-- Bytes written to a space outside any task's run. -/
def State.pubPut (s : State) (sp a : Nat) (bs : List Byte) : State :=
  let vs := bs.map fun (b : Byte) => b.toNat
  match sp with
  | 0 => s.modCyc fun c => { c with data := cellsWrite 0 a vs c.data }
  | 1 => s.modCyc fun c => { c with retain := vmod c.retain c.retUse fun x => { x with bytes := cellsWrite 0 a vs x.bytes } }
  | 2 => s.modCyc fun c => { c with inp := cellsWrite 0 a vs c.inp }
  | 3 => s.modCyc fun c => { c with out := cellsWrite 0 a vs c.out }
  | _ => s

/-! ### Tasks and their instants (R482, R483) -/

/-- Cycle time of a cyclic task in ns. -/
def State.period (s : State) (k : Nat) : Nat := 1000 * (Config.eicCyclic s.cyc.image k).period

/-- The first whole multiple of a time at or after an instant. -/
def multipleFrom (t at_ : Nat) : Nat := divUp at_ (max 1 t) * max 1 t

/-- Cyclic tasks of the image in force. -/
def State.cyclicTasks (s : State) : List Nat := if s.cyc.image = [] then [] else List.range (imgNcyc s.cyc.image)

/-- The next start instant of a task. -/
def State.nextStart (s : State) (k : Nat) : Nat :=
  let t := s.period k
  match (s.run k).phaseAt with
  | some p => max (multipleFrom t s.ns) (p + t)
  | none => multipleFrom t s.ns

/-- The cyclic task that owns a variable; none for one that no cyclic task owns. -/
def cyclicOwner (v : EicSymbol) : Option Nat := v.owner.filter fun o => decide (o < 4)

/-- The event task that owns a variable. -/
def eventOwner (v : EicSymbol) : Option Nat := v.owner.filter fun o => decide (4 ≤ o)

/-- A variable's turn comes at a start of task k: its owner's, or any task's when no cyclic task owns it (R522). -/
def turnAt (k : Nat) (v : EicSymbol) : Bool := match cyclicOwner v with | some o => decide (o = k) | none => true

/-! ### Variables (R524, R525) -/

/-- A structured variable is read as bytes. -/
def structured (v : EicSymbol) : Bool := decide (6 < v.type)
def elemSize (v : EicSymbol) : Nat := if structured v then 1 else eicSize v.type
def elemCount (v : EicSymbol) : Nat := if structured v then symBytes v else v.count

/-- The variable of an identity in an image. -/
def symOf (img : List Byte) (id : Nat) : Option EicSymbol :=
  if img = [] then none else (Config.eicSymbols img).find? fun v => decide (v.id = id)

/-- Some force stands on a variable. -/
def State.forcedSym (s : State) (v : EicSymbol) : Bool := s.cyc.forces.any fun (f : Force) => f.sym.id = v.id && f.active

/-- A `CYC_WRITE` takes effect. -/
def State.applyWrite (s : State) (w : VarWait) : State :=
  if s.forcedSym w.sym then s.answer w.ticket { status := .doneNote, extra := 1 }
  else (s.pubPut w.sym.space (w.sym.addr + w.first * elemSize w.sym) (slice w.value 0 (w.count * elemSize w.sym))).ends w.ticket .done

/-- A `CYC_READ` takes its snapshot. -/
def State.applyRead (s : State) (w : VarWait) : State :=
  s.answer w.ticket { payload := s.pubBytes w.sym.space (w.sym.addr + w.first * elemSize w.sym) (w.count * elemSize w.sym) }

/-! ### Stations (R501 to R505, R553) -/

/-- A station at the input phase of a cycle: its frames of the window that closed before, the newest first; what it puts
into the input image. -/
def Station.phase (x : Station) (c : StationCfg) (from_ to_ : Nat) : Station :=
  let taken := x.frames.find? fun (f : StationFrame) => decide (from_ ≤ f.stamp) && decide (f.stamp < to_)
  let rest := x.frames.filter fun (f : StationFrame) => decide (to_ ≤ f.stamp)
  match taken with
  | some f =>
    let back := x.absent && !c.rejoin && decide (1 ≤ x.good)
    { x with frames := rest, held := f.data, missed := 0, good := x.good + 1, quality := 0,
             present := x.present || back, absent := x.absent && !back }
  | none =>
    let y : Station := { x with frames := rest, missed := x.missed + 1, good := 0, quality := if x.missed + 1 ≤ c.hold then 1 else 2 }
    if c.missMax ≤ y.missed then y.drop else y

/-- The bytes a station puts into the input image. -/
def Station.input (x : Station) (c : StationCfg) : List Byte := if x.quality = 2 then c.inSub else slice x.held 0 (if x.held = [] then 0 else c.inLen)

/-- The status word of a station (R504). -/
def Station.status (x : Station) : Nat := x.quality + 4 * bit x.absent + 256 * x.absences

/-- Input phase of one station. -/
def State.stationPhase (s : State) (k tc n : Nat) : State :=
  match (vget s.cyc.stations n).cfg with
  | some c =>
    if c.en ∧ c.task = k then
      let x := (vget s.cyc.stations n).phase c (tc - s.period k - 2000) (tc - 2000)
      let s := s.modStation n fun _ => x
      (s.pubPut 2 (2 * c.inOfs) (x.input c)).pubPut 2 (2 * c.statOfs) (bytesOf 2 x.status)
    else s
  | none => s

/-! ### Input phase (R495, R62) -/

/-- Status blocks of the bridges that lie in the task's input area. -/
def State.statusBlocks (s : State) (k : Nat) : State :=
  s.forEach (List.range 8) fun s b =>
    let o := (s.bridge b).statusOfs
    if o ≠ 0xFFFF ∧ inInput s.cyc.image k o.toNat then s.pubPut 2 (2 * o.toNat) ((s.statusBlock b).take (131070 - 2 * o.toNat)) else s

/-- Forces whose turn has come take effect or go (R522). -/
def State.forcesTurn (s : State) (k : Nat) : State :=
  let stays := s.cyc.forces.filter fun (f : Force) => !(f.removing && turnAt k f.sym)
  let fs := stays.map fun (f : Force) => if turnAt k f.sym then { f with active := true } else f
  s.modCyc fun c => { c with forces := fs }

/-- A `CYC_FORCE` that waited for the switch is resolved against the new image (R523). -/
def State.resolveForce (s : State) (w : VarWait) : State :=
  match symOf s.cyc.image w.sym.id with
  | some v =>
    if symSame w.sym v then
      let f : Force := { sym := v, value := BitVec.ofNat 64 (le w.value 0 8), active := false, removing := decide (w.count = 0) }
      let others := s.cyc.forces.filter fun (g : Force) => decide (g.sym.id ≠ v.id)
      if 64 ≤ others.length then s.ends w.ticket .busyRetry
      else (s.modCyc fun c => { c with forces := others ++ [f] }).ends w.ticket .done
    else s.ends w.ticket .badField
  | none => s.ends w.ticket .badField

/-- Forces that waited for a change, against the image in force. -/
def State.resolveForces (s : State) : State :=
  s.cyc.forceWaits.foldl State.resolveForce (s.modCyc fun c => { c with forceWaits := [] })

/-- The input phase of task k in the cycle that starts at t_c. Forces that waited for a change which has not come are resolved
first (R523; DESIGN CHOICE, log 38). -/
def State.inputPhase (s : State) (k tc : Nat) : State :=
  let s := if s.cyc.change.isNone then s.resolveForces else s
  let s := s.forEach (List.range 32) fun s n => s.stationPhase k tc n
  let s := (s.statusBlocks k).forcesTurn k
  let now := s.cyc.writes.filter fun (w : VarWait) => turnAt k w.sym
  let s := s.modCyc fun c => { c with writes := c.writes.filter fun (w : VarWait) => !turnAt k w.sym }
  let s := now.foldl State.applyWrite s
  s.modRun k fun x => { x with phaseAt := some tc }

/-! ### Output phase (R59, R495, R511) -/

/-- Bound set-point words of a bridge. -/
def State.boundWords (s : State) (b : Nat) : List (Nat × Nat) :=
  (numbers 8 fun c => vget (s.bridge b).spOfs c ≠ 0xFFFF).map fun c => (c, (vget (s.bridge b).spOfs c).toNat)

/-- The set-point channels of the bridges bound to task k are transferred (R59, R93). -/
def State.transfer (s : State) (k : Nat) : State :=
  s.forEach (List.range 8) fun s b =>
    let ws := s.boundWords b
    if ws = [] ∨ ¬ ws.all (fun (w : Nat × Nat) => inOutput s.cyc.image k w.2) then s
    else
      let vs : List (Nat × Q15) := ws.map fun (w : Nat × Nat) => (w.1, BitVec.ofNat 16 (le (s.pubBytes 3 (2 * w.2) 2) 0 2))
      if s.role b = some .form then
        match (s.bridge b).gf with
        | some g =>
          let e := s.gf g
          let vs : List (Nat × Q15) := vs.map fun (v : Nat × Q15) => (v.1, ofQ (limitI v.2.toInt (e.spRange v.1).1 (e.spRange v.1).2))
          s.modGf g fun e => { e with spNext := e.spNext ++ vs }
        | none => s
      else
        match (s.bridge b).lc with
        | some c => s.modLc c fun x => { x with spNext := x.spNext ++ vs }
        | none => s

/-- What a run wrote to the output image is published. -/
def State.publish (s : State) (r : Nat) : State :=
  (s.run r).outWrites.foldl (fun s (p : Nat × Nat) => s.modCyc fun c => { c with out := cellPut 0 p.1 p.2 c.out }) s

/-- What a run wrote to retain variables is committed (R511). -/
def State.retainCommit (s : State) (r : Nat) : State :=
  let ws := (s.run r).retWrites
  if ws = [] then s
  else s.commitRetain (BitVec.ofNat 32 (imgId s.cyc.image))
    (ws.foldl (fun m (p : Nat × Nat) => cellPut 0 p.1 p.2 m) s.cyc.retainCopy.bytes)

/-- A run ends: its writes are published and committed. -/
def State.endRun (s : State) (r : Nat) : State :=
  ((s.publish r).retainCommit r).modRun r fun x => { x with active := false, outWrites := [], retWrites := [] }

/-- The reads that wait for the end of a task's run take their snapshot. -/
def State.readsTurn (s : State) (mine : EicSymbol → Bool) : State :=
  let now := s.cyc.reads.filter fun (w : VarWait) => mine w.sym
  let s := s.modCyc fun c => { c with reads := c.reads.filter fun (w : VarWait) => !mine w.sym }
  now.foldl State.applyRead s

/-- A STOP that waits is reached once nothing runs (R509). -/
def State.stopIfIdle (s : State) : State :=
  if s.cyc.stopping ∧ ¬ (List.range 5).any (fun r => (s.run r).active) then
    let waits := s.cyc.modeWait
    (s.modCyc fun c => { c with state := .stop, stopping := false, modeWait := [] }).endAll waits .done
  else s

/-! ### Initial data (R507, R512, R519) -/

def cellsOf (bs : List Byte) : Cells := cellsWrite 0 0 (bs.map fun (b : Byte) => b.toNat) []

/-- The data space as the image initialises it. -/
def initialData (img : List Byte) : Cells := cellsOf (slice img (imgOfs img 2) (imgLen img 2))
def initialRetain (img : List Byte) : Cells := cellsOf (Config.eicRetain img)

/-- Data initialised; retain variables too on a cold start. -/
def State.initData (s : State) (cold : Bool) : State :=
  let img := s.cyc.image
  let s := s.modCyc fun c => { c with data := initialData img, timerAt := [] }
  if cold then s.commitRetain (BitVec.ofNat 32 (imgId img)) (initialRetain img) else s

/-- Each task starts at its first start instant at least 10 µs away (R507). -/
def State.startTasks (s : State) : State :=
  s.forEach s.cyclicTasks fun s k =>
    s.modRun k fun x => { x with active := false, firstStart := multipleFrom (s.period k) (s.ns + 10000), overruns := 0 }

/-! ### Output frames (R501 to R503, Table 13-9) -/

/-- Address of a port. -/
def State.portMac (s : State) (n : Nat) : List Byte :=
  bytesOf 4 (s.inUse (0x11004 + 0x20 * n)) ++ bytesOf 2 (s.inUse (0x11008 + 0x20 * n))

/-- An output frame of a station. -/
def State.outputFrame (s : State) (port k n tc : Nat) (c : StationCfg) : List Byte :=
  let data := if s.cyc.state ≠ .run ∧ c.stopOut then c.outSub else s.pubBytes 3 (2 * c.outOfs) c.outLen
  let body := [0x01, 0x01] ++ bytesOf 2 n ++ bytesOf 4 ((s.run k).cycles % 2 ^ 32) ++ bytesOf 8 (tc % 2 ^ 64) ++ data
  c.mac ++ s.portMac port ++ [0x81, 0x00, 0xE0, 0x00, 0x88, 0xB5] ++ body ++ bytesOf 4 (crc32c body)

/-- Frames of an output window, in ascending station number. -/
def State.windowFrames (s : State) (k tc : Nat) : List (Nat × List Byte) :=
  (List.range 32).flatMap fun n =>
    let x := vget s.cyc.stations n
    match x.cfg with
    | some c =>
      if c.en ∧ c.task = k ∧ x.present then (c.ports.filter s.portUp).map fun p => (p, s.outputFrame p k n tc c) else []
    | none => []

end Sys2Proof.Machine
end

