-- ==== Sys2Proof/Machine/Cycle.lean ====
section
/-! DEFINITION. The cycle engine (12 R500 to R531): packets of class CYCLE and the events of its cycles. -/

namespace Sys2Proof.Machine

def CycState.code : CycState → Nat
  | .empty => 0 | .stop => 1 | .run => 2 | .hold => 3 | .retired => 4

/-! ### Packets: configuration and staging -/

/-- CYC_CONFIG (R526). -/
def effCycConfig (t : Ticket) (p : Pkt) (s : State) : State :=
  let ofs (k : Nat) := prm32 p (4 + 4 * k)
  if 1 < prm p 0 ∨ 1 < prm p 1 ∨ prm p 2 < 1 ∨ 8 < prm p 2 ∨ prm p 3 ≠ 0 ∨ ¬ prmZero p 20 20
      ∨ (List.range 4).any (fun k => decide (ofs k < 10) || decide (999999 < ofs k)) then s.ends t .badField
  else (s.modCyc fun c => { c with restart := prm p 0, autoRun := decide (prm p 1 = 1), ksLimit := prm p 2,
                                   outOfs := Vector.ofFn fun k => ofs k.val }).ends t .done

/-- `CYC_CONFIG` as it goes to NOR and comes from there. -/
def Cycle.configBytes (c : Cycle) : List Byte :=
  bytesOf 1 c.restart ++ bytesOf 1 (bit c.autoRun) ++ bytesOf 1 c.ksLimit ++ bytesOf 1 0 ++ c.outOfs.toList.flatMap (bytesOf 4)
def Cycle.withConfig (c : Cycle) (bs : List Byte) : Cycle :=
  { c with restart := byteAt bs 0, autoRun := decide (byteAt bs 1 = 1), ksLimit := byteAt bs 2,
           outOfs := Vector.ofFn fun k => le bs (4 + 4 * k.val) 4 }

/-- Bytes written into a staging area that grows with them. -/
def patch (bs : List Byte) (off : Nat) (new : List Byte) : List Byte :=
  overlay (slice bs 0 (max bs.length (off + new.length))) off new

/-- CYC_LOAD (R516). -/
def effCycLoad (t : Ticket) (p : Pkt) (s : State) : State :=
  let off := prm32 p 0
  if s.cyc.change.isSome then s.ends t .busyRetry
  else if 16 * 2 ^ 20 < off + p.payload.length then s.ends t .badField
  else
    let old := if off = 0 then [] else s.cyc.staged.getD []
    let new := patch old off p.payload
    (s.modCyc fun c => { c with staged := some new, verified := false }).ends t .done

/-- The verdict of the verifier on an image (R491). -/
def State.verdict (s : State) (img : List Byte) : Option (Nat × Option Nat) :=
  eicVerify img s.qpProd (fun k => vget s.cyc.outOfs k)

/-- CYC_VERIFY (R517). An item that no single instruction fails has no code offset, and that result word is free (log 38). -/
def effCycVerify (t : Ticket) (_ : Pkt) (s : State) : State :=
  let img := s.cyc.staged.getD []
  let fails := s.modCyc fun c => { c with verified := false }
  match s.verdict img with
  | some (n, some off) => fails.answer t { status := .badField, r0 := word [(n, 0)], r1 := word [(off, 0)] }
  | some (n, none) =>
    let d := fails.draw 80 (2 ^ 32)
    d.2.answer t { status := .badField, r0 := word [(n, 0)], r1 := word [(d.1, 0)] }
  | none =>
    let report := (List.range (imgNcyc img)).flatMap fun k => [eicC img k, eicResponse img k, carryTime s.cyc.image img k]
    (s.modCyc fun c => { c with verified := true }).answer t { payload := slice (Config.eicReport (report ++ [eicBudget img])) 0 256 }

/-! ### Changes (R518 to R521, R523) -/

/-- An enabled station fits an image (R520). -/
def stationFits (img : List Byte) (c : StationCfg) : Bool :=
  decide (c.task < imgNcyc img) &&
    (List.range (c.inLen / 2)).all (fun k => inInput img c.task (c.inOfs + k)) &&
    (List.range (c.outLen / 2)).all (fun k => inOutput img c.task (c.outOfs + k))

/-- R520; the checks of item 12 are made again, since `CYC_CONFIG` may have changed since `CYC_VERIFY` (R526). -/
def State.changeOk (s : State) (img : List Byte) : Bool :=
  s.cyc.verified && (s.verdict img).isNone &&
    (s.cyc.image.isEmpty || s.cyclicTasks.all fun k =>
      decide (2 * carryTime s.cyc.image img k + eicResponse s.cyc.image k ≤ 2 * s.period k)) &&
    (List.range 32).all (fun n => match (vget s.cyc.stations n).cfg with
      | some c => !c.en || stationFits img c | none => true) &&
    (List.range 8).all fun b => spWordsOk img (s.boundWords b)

/-- One variable copied into the new image, from the state before the change. -/
def State.carryOne (s old : State) (p : EicSymbol × EicSymbol) : State :=
  let bs := (List.range (symBytes p.1)).map fun k => BitVec.ofNat 8
    (if p.1.space = 0 then cellGet 0 (p.1.addr + k) old.cyc.data else cellGet 0 (p.1.addr + k) old.cyc.retainCopy.bytes)
  s.pubPut p.2.space p.2.addr bs

/-- Entries of the list of R521: kind and number. -/
abbrev ChangeList := List (Nat × Nat)

/-- Forces after a change: kept where the new image holds the symbol with the same type. -/
def forcesAfter (img : List Byte) (fs : List Force) : List Force × ChangeList :=
  (fs.filterMap fun (f : Force) => match symOf img f.sym.id with
      | some v => if symSame f.sym v then some { f with sym := v } else none
      | none => none,
   (fs.filter fun (f : Force) => match symOf img f.sym.id with | some v => !symSame f.sym v | none => true).map fun (f : Force) => (1, f.sym.id))

/-- Variables in both images whose type changed. -/
def retyped (old new : List Byte) : ChangeList :=
  ((Config.eicSymbols new).filter fun w =>
    (Config.eicSymbols old).any fun v => decide (v.id = w.id) && !symSame v w).map fun (w : EicSymbol) => (2, w.id)

/-- A wait for a variable carried to the new image, if it holds the variable with the same type. -/
def waitAfter (img : List Byte) (w : VarWait) : Option VarWait :=
  match symOf img w.sym.id with
  | some v => if symSame w.sym v then some { w with sym := v } else none
  | none => none

def State.carryWaits (s : State) (img : List Byte) : State :=
  let bad := (s.cyc.reads ++ s.cyc.writes).filter fun (w : VarWait) => (waitAfter img w).isNone
  let s := s.modCyc fun c => { c with reads := c.reads.filterMap (waitAfter img), writes := c.writes.filterMap (waitAfter img) }
  bad.foldl (fun s (w : VarWait) => s.ends w.ticket .badField) s

/-- The staged image comes into force: variables carried over, contexts of absent event tasks freed, forces kept or
dropped; answers the list of R521. -/
def State.switchImage (s : State) : State × ChangeList :=
  let img := s.cyc.staged.getD []
  let old := s.cyc.image
  let before := s
  let fa := forcesAfter img s.cyc.forces
  let s := s.modCyc fun c => { c with
    image := img, staged := none, verified := false, change := none, forces := fa.1, data := initialData img, timerAt := [] }
  let s := s.commitRetain (BitVec.ofNat 32 (imgId img)) (initialRetain img)
  let pairs := if old = [] then [] else carried old img
  let s := pairs.foldl (fun s p => s.carryOne before p) s
  let freed := numbers 128 fun c => 8 ≤ c ∧ (s.wc c).state ≠ .free ∧ imgNevt img ≤ (s.wc c).entry
  let s := s.forEach freed State.freeContext
  let s := s.carryWaits img
  (s.resolveForces, fa.2 ++ (if old = [] then [] else retyped old img) ++ freed.map fun c => (3, c))

/-- The list as bytes, as far as the payload area reaches (R521). -/
def listBytes (room : Nat) (l : ChangeList) : List Byte :=
  (l.take (room / 8)).flatMap fun (e : Nat × Nat) => bytesOf 1 e.1 ++ bytesOf 3 0 ++ bytesOf 4 e.2

/-- The change completes at its switch; with `STORE` after the image has been written to NOR (R518, R651). -/
def State.endChange (s : State) (c : CycChange) (l : ChangeList) (at_ : Nat) : State :=
  let note := decide (c.room / 8 < l.length)
  if c.store then
    let w : NorWrite := .cycStore c.ticket s.cyc.image s.cyc.configBytes 0 (if note then some l.length else none)
      (listBytes c.room l) (some at_)
    { s with svcs := { s.svcs with norQueue := s.svcs.norQueue ++ [w] } }
  else
    s.answer c.ticket { status := if note then .doneNote else .done, extra := if note then word [(l.length, 0)] else 0,
                        payload := listBytes c.room l, stamp := some (stampOf at_) }

/-- CYC_CHANGE (R518, R520). -/
def effCycChange (t : Ticket) (p : Pkt) (s : State) : State :=
  let img := s.cyc.staged.getD []
  if s.cyc.change.isSome then s.ends t .busyRetry
  else if ¬ s.changeOk img then s.ends t .badField
  else
    let c : CycChange := { ticket := t, store := decide (prm p 0 ≠ 0), at_ := s.ns, moves := 0, room := p.len.toNat }
    if s.cyc.state = .run then
      let longest (i : List Byte) := (List.range (imgNcyc i)).foldl (fun a k => max a (1000 * (Config.eicCyclic i k).period)) 0
      let l := max (longest s.cyc.image) (longest img)
      s.modCyc fun x => { x with change := some { c with at_ := multipleFrom l (s.ns + l) } }
    else
      let r := s.switchImage
      (r.1.modCyc fun x => { x with state := .stop }).endChange c r.2 s.ns

/-- CHANGE_SWITCH (R518, R520): an instant at which some old cycle still runs is missed, and the eighth move is the last. A
change that meets its instant in STOP switches there; in HOLD it is missed (DESIGN CHOICE, log 38). -/
def evChangeSwitch (s : State) : State :=
  match s.cyc.change with
  | some c =>
    let s := s.advanceToNs c.at_
    if s.cyc.state = .hold ∨ (List.range 5).any fun r => (s.run r).active then
      if 8 ≤ c.moves then (s.modCyc fun x => { x with change := none }).ends c.ticket .timedOut
      else
        let longest (i : List Byte) := (List.range (imgNcyc i)).foldl (fun a k => max a (1000 * (Config.eicCyclic i k).period)) 0
        let l := max (longest s.cyc.image) (longest (s.cyc.staged.getD []))
        s.modCyc fun x => { x with change := some { c with at_ := c.at_ + l, moves := c.moves + 1 } }
    else
      let r := s.switchImage
      let s := r.1.forEach (List.range 4) fun s k => s.modRun k fun x => { x with firstStart := c.at_, overruns := 0 }
      s.endChange c r.2 c.at_
  | none => s

/-! ### Modes (R506 to R510) -/

/-- Some bridge with bound set-point channels is in PRECHARGE, RUNNING or LIMITING (R510). -/
def State.boundRunning (s : State) : Bool :=
  (List.range 8).any fun b => !(s.boundWords b).isEmpty && (s.bridge b).state.beyondArmed

/-- HOLD is left as a STOP leaves it (R509, R710): held cycles are abandoned. -/
def State.leaveHold (s : State) (ts : List Ticket) : State :=
  (s.modCyc fun c => { c with
    runs := c.runs.mapFinIdx fun k x _ => if k < 4 then { x with active := false, outWrites := [], retWrites := [] } else x,
    state := .run, stopping := true, modeWait := ts }).stopIfIdle

/-- CYC_MODE (R507 to R510). -/
def effCycMode (t : Ticket) (p : Pkt) (s : State) : State :=
  let m := prm p 0
  let opt := prm p 1
  if 2 < m ∨ 2 < opt ∨ (m ≠ 1 ∧ opt ≠ 0) ∨ ¬ prmZero p 2 38 then s.ends t .badField
  else if s.cyc.state = .run ∧ m = 1 ∧ opt ≠ 0 then s.ends t .stateRefused
  else if s.cyc.state = .run ∧ m = 0 ∧ s.cyc.stopping then s.modCyc fun c => { c with modeWait := c.modeWait ++ [t] }
  else if (s.cyc.state = .stop ∧ m = 0) ∨ (s.cyc.state = .run ∧ m = 1) ∨ (s.cyc.state = .hold ∧ m = 2) then s.ends t .done
  else
    match m with
    | 0 =>
      if s.cyc.state = .hold then
        s.leaveHold [t]
      else
        let old := s.cyc.modeWait
        ((s.modCyc fun c => { c with stopping := true, modeWait := [t] }).endAll old .cancelled).stopIfIdle
    | 1 =>
      let s := if opt = 0 then s else s.initData (decide (opt = 2))
      (s.startTasks).modCyc fun c => { c with state := .run, stopping := false, modeWait := [t] }
    | _ =>
      if s.dbg.level < 2 ∨ s.boundRunning then s.ends t .stateRefused
      else
        let old := s.cyc.modeWait
        ((s.modCyc fun c => { c with state := .hold, stopping := false, modeWait := [] }).endAll old .cancelled).ends t .done

/-! ### Stations (R500) -/

/-- The settings a `CYC_STATION` carries. -/
def stationOf (p : Pkt) : StationCfg :=
  { port := prm p 0, task := prm p 1, mac := slice p.params 2 6, inLen := prm16 p 8, outLen := prm16 p 10, inOfs := prm16 p 12,
    outOfs := prm16 p 14, statOfs := prm16 p 16, hold := prm p 18, missMax := prm p 19, rejoin := decide (prm p 20 = 1),
    stopOut := decide (prm p 21 = 1), en := decide (prm p 22 = 1), inSub := slice p.payload 0 (prm16 p 8),
    outSub := slice p.payload (prm16 p 8) (prm16 p 10) }

/-- Payload length of a `CYC_STATION`. -/
def stationLength (p : Pkt) : Nat := pad64 (prm16 p 8 + prm16 p 10)

/-- Two word ranges overlap. -/
def overlaps (a la b lb : Nat) : Bool := decide (a < b + lb) && decide (b < a + la)

/-- CYC_STATION (R500). -/
def effCycStation (t : Ticket) (p : Pkt) (s : State) : State :=
  let n := p.target.toNat
  let c := stationOf p
  let meets := (List.range 32).any fun m => decide (m ≠ n) && match (vget s.cyc.stations m).cfg with
    | some d => d.en && overlaps c.inOfs (c.inLen / 2) d.inOfs (d.inLen / 2) | none => false
  if 2 < prm p 0 ∨ 3 < prm p 1 ∨ 1024 < c.inLen ∨ c.inLen % 2 = 1 ∨ 1024 < c.outLen ∨ c.outLen % 2 = 1
      ∨ 65535 < c.inOfs + c.inLen / 2 ∨ 65535 < c.outOfs + c.outLen / 2 ∨ 65534 < c.statOfs ∨ c.missMax < 1 ∨ 8 < c.missMax
      ∨ 1 < prm p 20 ∨ 1 < prm p 21 ∨ 1 < prm p 22 ∨ ¬ prmZero p 23 17 ∨ meets
      ∨ (s.cyc.image ≠ [] ∧ ¬ stationFits s.cyc.image c) then s.ends t .badField
  else (s.modStation n fun x => { cfg := some c, absences := x.absences }).ends t .done

/-! ### Forces, reads and writes (R522 to R525) -/

/-- The start that a variable's turn next comes at, of its owner or of the shortest task. -/
def State.nextTurn (s : State) (v : EicSymbol) : Nat :=
  match cyclicOwner v with
  | some o => s.nextStart o
  | none => s.cyclicTasks.foldl (fun a k => min a (s.nextStart k)) (s.ns + 1000000000)

/-- CYC_FORCE (R522, R523). -/
def effCycForce (t : Ticket) (p : Pkt) (s : State) : State :=
  let id := prm32 p 0
  let new := symOf (s.cyc.staged.getD []) id
  let old := symOf s.cyc.image id
  let atSwitch := match s.cyc.change with
    | some c => (match old.orElse fun _ => new with | some v => decide (c.at_ ≤ s.nextTurn v) | none => false)
    | none => false
  let wait : VarWait := { ticket := t, sym := (old.orElse fun _ => new).getD default, first := 0, count := prm p 4, value := slice p.params 8 8 }
  if 1 < prm p 4 then s.ends t .badField
  else if atSwitch then s.modCyc fun c => { c with forceWaits := c.forceWaits ++ [wait] }
  else
    match old with
    | none => s.ends t .badField
    | some v =>
      let others := s.cyc.forces.filter fun (f : Force) => decide (f.sym.id ≠ id)
      if 8 < symBytes v then s.ends t .badField
      else if prm p 4 = 0 then
        let fs := s.cyc.forces.map fun (f : Force) => if f.sym.id = id then { f with removing := true } else f
        (s.modCyc fun c => { c with forces := fs }).ends t .done
      else if 64 ≤ others.length then s.ends t .busyRetry
      else
        let f : Force := { sym := v, value := BitVec.ofNat 64 (prm64 p 8), active := false, removing := false }
        (s.modCyc fun c => { c with forces := others ++ [f] }).ends t .done

/-- What the fields of a `CYC_READ` or `CYC_WRITE` name: the variable, or the status that ends the packet (R525). -/
def State.varOf (s : State) (p : Pkt) : Status ⊕ EicSymbol :=
  match symOf s.cyc.image (prm32 p 0) with
  | none => .inl .badField
  | some v =>
    if p.payload.length < prm32 p 8 * elemSize v then .inl .badLength
    else if prm32 p 8 = 0 ∨ elemCount v < prm32 p 4 + prm32 p 8 ∨ ¬ prmZero p 12 28 then .inl .badField
    else .inr v

/-- Entries of the trace ring, oldest first, 16 bytes each (R490, R525). -/
def State.traceBytes (s : State) (first n : Nat) : List Byte :=
  let es := s.cyc.trace.reverse
  (List.range n).flatMap fun k => match es[first + k]? with
    | some e => bytesOf 8 e.1.toNat ++ bytesOf 8 e.2.toNat
    | none => bytesOf 16 0

/-- CYC_READ (R524, R525): at the end of a cycle of the owner; at once outside RUN (DESIGN CHOICE, log 95). -/
def effCycRead (t : Ticket) (p : Pkt) (s : State) : State :=
  if prm32 p 0 = 0xFFFFFFFF then
    if p.payload.length < prm32 p 8 * 16 then s.ends t .badLength
    else if prm32 p 8 = 0 ∨ 256 < prm32 p 4 + prm32 p 8 ∨ ¬ prmZero p 12 28 then s.ends t .badField
    else s.answer t { payload := s.traceBytes (prm32 p 4) (prm32 p 8) }
  else
    match s.varOf p with
    | .inl st => s.ends t st
    | .inr v =>
      let w : VarWait := { ticket := t, sym := v, first := prm32 p 4, count := prm32 p 8, value := [] }
      if s.cyc.state = .run then s.modCyc fun c => { c with reads := c.reads ++ [w] } else s.applyRead w

/-- CYC_WRITE (R524, R525): at the next input phase of the owner, at once in STOP. -/
def effCycWrite (t : Ticket) (p : Pkt) (s : State) : State :=
  if prm32 p 0 = 0xFFFFFFFF then s.ends t .badField
  else
    match s.varOf p with
    | .inl st => s.ends t st
    | .inr v =>
      let w : VarWait := { ticket := t, sym := v, first := prm32 p 4, count := prm32 p 8, value := p.payload }
      if s.cyc.state = .stop then s.applyWrite w else s.modCyc fun c => { c with writes := c.writes ++ [w] }

/-! ### Debugging in HOLD (R528) -/

/-- The held task: the active cyclic task of the shortest cycle time. -/
def State.heldTask (s : State) : Option Nat :=
  (s.cyclicTasks.filter fun k => (s.run k).active).foldl (fun (a : Option Nat) k =>
    match a with | some j => if s.period k < s.period j then some k else a | none => some k) none

/-- One instruction of a held task; its end publishes the cycle. -/
def State.stepHeld (s : State) (r : Nat) : State :=
  let i := s.insOf r
  if (s.run r).atEnd i then (s.endRun r).readsTurn fun v => cyclicOwner v = some r || (cyclicOwner v).isNone && (eventOwner v).isNone
  else if 10 ≤ i.cls then s.systemIns r i
  else s.plainIns r i

/-- A held task continued to its next breakpoint or its end. -/
def State.continueHeld (s : State) (r : Nat) : Nat → State
  | 0 => s
  | n + 1 =>
    let s := s.stepHeld r
    if !(s.run r).active || s.cyc.breaks.contains (s.run r).pc then s else s.continueHeld r n

/-- CYC_DEBUG (R528). -/
def effCycDebug (t : Ticket) (p : Pkt) (s : State) : State :=
  let off := prm32 p 4
  match prm p 0 with
  | 0 => (match s.heldTask with | some r => (s.stepHeld r).ends t .done | none => s.ends t .stateRefused)
  | 1 =>
    if s.cyc.breaks.contains off then s.ends t .done
    else if 8 ≤ s.cyc.breaks.length then s.ends t .busyRetry
    else (s.modCyc fun c => { c with breaks := c.breaks ++ [off] }).ends t .done
  | 2 => (s.modCyc fun c => { c with breaks := c.breaks.filter (· ≠ off) }).ends t .done
  | 3 => (match s.heldTask with | some r => (s.continueHeld r (s.fuelOf r)).ends t .done | none => s.ends t .stateRefused)
  | _ => s.ends t .badField

/-! ### Storing, discarding, status (R529 to R531) -/

/-- CYC_STORE (R530). -/
def effCycStore (t : Ticket) (_ : Pkt) (s : State) : State :=
  let w : NorWrite := .cycStore t s.cyc.image s.cyc.configBytes (word [(imgId s.cyc.image, 0)]) none [] none
  { s with svcs := { s.svcs with norQueue := s.svcs.norQueue ++ [w] } }

/-- CYC_DISCARD (R531). -/
def effCycDiscard (t : Ticket) (_ : Pkt) (s : State) : State :=
  if s.cyc.staged.isNone then s.answer t { status := .doneNote, extra := 1 }
  else
    let change := s.cyc.change
    let s := s.modCyc fun c => { c with staged := none, verified := false, change := none }
    let s := match change with | some c => s.ends c.ticket .cancelled | none => s
    s.ends t .done

/-- CYC_STATUS (R512, R529). -/
def effCycStatus (t : Ticket) (_ : Pkt) (s : State) : State :=
  let c := s.cyc
  let green := if c.staged.isNone then 0 else if c.change.isSome then 3 else if c.verified then 2 else 1
  let skips := (List.range 4).map fun k => (satTo 3 (s.run k).skips, 2 * k)
  let absent := (List.range 16).map fun n => (bit (vget c.stations n).absent, 16 + n)
  let id := word [(imgId c.image, 0)]
  (s.modCyc fun c => { c with div0 := false, bound := false, coldNote := false }).answer t
    { status := if c.coldNote then .doneNote else .done,
      r0 := word [(c.state.code, 0), (green, 3), (bit c.div0, 5), (bit c.bound, 6), (c.cause.toNat % 256, 8), (satCount (s.chan 12 0).bucket, 16)],
      r1 := word (skips ++ [(c.retUse.val, 8)] ++ absent),
      extra := if c.coldNote then 2 else if c.image = [] then 0 else id }

/-! ### Events -/

/-- The Kiln sitter's deadline of a run, if it executes, with its cause (R514). -/
def State.kilnDue (s : State) (r : Nat) : Option (Nat × Nat) :=
  let x := s.run r
  if x.active then
    if r < 4 then some (x.start + 2 * s.period r, 0x0A02)
    else some (x.start + 5 * eicC s.cyc.image x.task + 1000, 0x0A03)
  else none

/-- KILN_SITTER_TRIP (R514): the count of overruns, or the first deadline that passes; suspended in HOLD. -/
def evKilnSitterTrip (s : State) : State :=
  if s.cyc.state ≠ .run then s
  else if (List.range 4).any fun k => s.cyc.ksLimit ≤ (s.run k).overruns then s.stopEngine 0x0A01 .stop
  else
    let first := (List.range 5).foldl (fun (a : Option (Nat × Nat)) r =>
      match a, s.kilnDue r with
      | some x, some y => if y.1 < x.1 then some y else some x
      | none, y => y
      | x, none => x) none
    match first with
    | some (d, cause) => (s.advanceToNs d).stopEngine cause .stop
    | none => s

/-- A cycle of task k begins: its snapshots are taken and its logic may run (R495). -/
def State.beginCycle (s : State) (k tc : Nat) : State :=
  let s := s.inputPhase k tc
  let s := s.modRun k fun x => { x with
    active := true, task := k, pc := (Config.eicCyclic s.cyc.image k).entry, frames := [], loops := [], start := tc,
    cycles := sat32 (x.cycles + 1), inp := s.cyc.inp, out := s.cyc.out, outWrites := [], retWrites := [] }
  if s.cyc.stopping then s
  else
    let waits := s.cyc.modeWait
    waits.foldl (fun s t => s.answer t { stamp := some (stampOf tc) }) (s.modCyc fun c => { c with modeWait := [] })

/-- An input phase without a cycle: outside RUN, reads that wait for a cycle's end take their snapshot there (log 95). -/
def State.idlePhase (s : State) (k tc : Nat) : State :=
  if s.cyc.state = .run then s.inputPhase k tc else (s.inputPhase k tc).readsTurn (turnAt k)

/-- CYCLE_START (R483, R495, R509, R513): in RUN a cycle begins, or its start is skipped while the last one still runs; in
STOP and HOLD, and before a task's first start, only the input phase. -/
def evCycleStart (k : Fin 4) (s : State) : State :=
  if s.cyclicTasks.contains k.val ∧ s.cyc.state ≠ .retired then
    let tc := s.nextStart k
    let s := s.advanceToNs tc
    if s.cyc.state = .run ∧ (s.run k).active then
      let s := s.modRun k fun x => { x with phaseAt := some tc, skips := sat32 (x.skips + 1), overruns := x.overruns + 1 }
      if s.cyc.ksLimit ≤ (s.run k).overruns then s.stopEngine 0x0A01 .stop else s
    else if s.cyc.state = .run ∧ ¬ s.cyc.stopping ∧ (s.run k).firstStart ≤ tc then s.beginCycle k tc
    else s.idlePhase k tc
  else s

/-- CYCLE_END (R495, R513): the logic runs to its end, the outputs are published and the set-points transferred. -/
def evCycleEnd (k : Fin 4) (s : State) : State :=
  if (s.run k).active ∧ s.cyc.state = .run then
    let s := s.runToEnd k (s.fuelOf k)
    let inTime := decide (s.ns ≤ (s.run k).start + s.period k)
    let s := (s.endRun k).transfer k
    let s := s.modRun k fun x => { x with overruns := if inTime then 0 else x.overruns }
    (s.readsTurn fun v => turnAt k v && (eventOwner v).isNone).stopIfIdle
  else s

/-- EVENT_TASK_END (R464, R511). -/
def evEventTaskEnd (s : State) : State :=
  if (s.run 4).active then
    let task := (s.run 4).task
    let s := s.runToEnd 4 (s.fuelOf 4)
    let s := (s.endRun 4).freeLane
    (s.readsTurn fun v => eventOwner v = some task).stopIfIdle
  else s

/-- OUTPUT_WINDOW (R501 to R503, R509, R513). -/
def evOutputWindow (k : Fin 4) (s : State) : State :=
  match (s.run k).phaseAt with
  | some tc =>
    if s.cyclicTasks.contains k.val ∧ s.cyc.state ≠ .retired then
      let s := s.advanceToNs (tc + 1000 * vget s.cyc.outOfs k)
      let fs := s.windowFrames k tc
      s.modCyc fun c => { c with sent := fs }
    else s
  | none => s

/-- Retain variables restored at boot, or a cold start (R512). -/
def State.restoreRetain (s : State) : State :=
  let id : Word := BitVec.ofNat 32 (imgId s.cyc.image)
  let good (k : Fin 2) : Bool := (vget s.cyc.retain k).crcOk && decide ((vget s.cyc.retain k).imageId = id)
  let newer : Fin 2 := if (vget s.cyc.retain 0).seq < (vget s.cyc.retain 1).seq then 1 else 0
  let older : Fin 2 := if newer = 0 then 1 else 0
  let s := s.initData false
  if s.cyc.restart = 0 then s.initData true
  else if good newer then s.modCyc fun c => { c with retUse := newer }
  else if good older then s.modCyc fun c => { c with retUse := older }
  else (s.initData true).modCyc fun c => { c with coldNote := true }

/-- IMAGE_BOOT_LOAD (R506, R512): the stored image is loaded after the lock, and runs where `AUTO_RUN` is 1. -/
def evImageBootLoad (s : State) : State :=
  match s.cyc.nor with
  | some (img, cfg) =>
    if s.hasCycle ∧ s.locked ∧ s.cyc.state = .empty then
      let s1 := s.modCyc fun c => c.withConfig cfg
      if (s1.verdict img).isSome then s
      else
        let s := (s1.modCyc fun c => { c with image := img, state := .stop }).restoreRetain
        if s.cyc.autoRun then (s.startTasks).modCyc fun c => { c with state := .run } else s
    else s
  | none => s

end Sys2Proof.Machine
end

