-- ==== Sys2Proof/Machine/Time.lean ====
section
/-! DEFINITION. The Device Time Base (13 R532 to R543): its source and lock, corrections of its rate, steps, and the PTP
instance. -/

namespace Sys2Proof.Machine

def State.modTime (s : State) (f : TimeBase → TimeBase) : State := { s with time := f s.time }
def State.modPort (s : State) (n : Nat) (f : EthPort → EthPort) : State := { s with ports := vmod s.ports n f }
def State.modRing (s : State) (f : Ring → Ring) : State := { s with ring := f s.ring }

/-- The limits of `INCR` (R533). -/
def incrMin : Nat := 0x3FEF9DB23
def incrMax : Nat := 0x4010624DD
def incrOk (v : Nat) : Bool := decide (incrMin ≤ v) && decide (v ≤ incrMax)

/-! ### Source and lock (R535, R536, Table 13-4) -/

/-- The source is within its lock bound. -/
def State.lockOf (s : State) : Bool :=
  match s.time.src with
  | 0 => s.time.valid
  | 1 => decide (16 ≤ s.time.ptpInRow)
  | _ => s.ring.aligned

/-- `LOCKED` follows its source; a change is an event (Table 13-18). -/
def State.refreshLock (s : State) : State :=
  let l := s.lockOf
  if l = s.time.locked then s else (s.modTime fun t => { t with locked := l }).report 0x0B 0 (bit l)

/-! ### Steps of the DTB (R540, R541) -/

/-- Entry of a gate-control list in force at a place of its cycle, and what is left of its interval (R550). -/
def gclPlace (at_ : Nat) : Nat → List (Nat × Nat) → Nat × Nat
  | k, [] => (k, 0)
  | k, (_, len) :: rest => if at_ < len then (k, len - at_) else gclPlace (at_ - len) (k + 1) rest

def Gcl.cycle (g : Gcl) : Nat := g.entries.foldl (fun a (e : Nat × Nat) => a + e.2) 0

/-- The place in the cycle of a list at a DTB instant. -/
def Gcl.offset (g : Gcl) (ns : Nat) : Nat := (((ns : Int) - g.base) % (max 1 g.cycle : Nat)).toNat

/-- The gates of a port stand as its list has them at the present instant. -/
def EthPort.place (p : EthPort) (ns : Nat) : EthPort :=
  match p.gcl with
  | some g =>
    let e := gclPlace (g.offset ns) 0 g.entries
    { p with entry := e.1, entryEnd := ns + e.2, gates := BitVec.ofNat 7 (g.entries.getD e.1 (0, 0)).1 }
  | none => p

/-- A Pug timer's next tick after the DTB has moved (R312). -/
def State.placeTimer (s : State) (w : PugTimer) : PugTimer :=
  if w.en then { w with nextAt := s.now + s.localSteps (toPlacement s.dtbSteps (phaseSteps w.phase w.period) w.period) } else w

/-- The DTB set to an instant in ns: sub-nanoseconds are 0 and `VALID` is set; what is placed on the DTB by whole multiples
is placed anew. -/
def State.setDtb (s : State) (ns : Nat) : State :=
  let s := { s with dtb := ns * 2 ^ 32 % dtbModulus }
  let s := (s.modTime fun t => { t with valid := true }).modWheel fun w => { w with lastCycle := none }
  let s := s.modCyc fun c => { c with runs := c.runs.map fun (r : EicRun) => { r with phaseAt := none } }
  let s := { s with pugTimers := s.pugTimers.map s.placeTimer, ports := s.ports.map fun (p : EthPort) => p.place s.ns }
  s.refreshLock

/-- A packet in flight waits for its not-before time. -/
def State.waitsTime (s : State) (f : Flight) : Bool := !f.started && decide (s.dtbNs.toNat < f.pkt.notBefore.toNat)

/-- A step is refused (R541). -/
def State.stepRefused (s : State) : Bool :=
  s.bridges.toList.any (fun b => b.state.beyondArmed) ||
  s.caps.toList.any (fun u => u.state = .armed || u.state = .filling) ||
  (s.cyc.state = .run || s.cyc.state = .hold) ||
  s.wheel.ctx.toList.any (fun c => c.state = .delayed || (c.state = .waiting && c.due.isSome)) ||
  s.qps.toList.any fun q => q.flights.any s.waitsTime

/-! ### Changes at tick boundaries (R538 to R540) -/

/-- The first tick boundary at least 1 µs away that no earlier change uses (R539). -/
def State.changeTick (s : State) : Nat :=
  let used := s.time.changes.map fun (c : TimeChange) => c.at_
  let first := divUp (s.now + usSteps 1) 32 * 32
  ((List.range (used.length + 1)).map fun k => first + 32 * k).find? (fun a => !used.contains a) |>.getD first

def State.queueChange (s : State) (t : Ticket) (m : TimeMove) : State :=
  let c : TimeChange := { ticket := t, move := m, at_ := s.changeTick }
  s.modTime fun x => { x with changes := x.changes ++ [c] }

/-- `TIME_ADJ` (R538, R539). -/
def effTimeAdj (t : Ticket) (p : Pkt) (s : State) : State :=
  let incr := prm64 p 0
  let d := prm32 p 8
  let after := prm64 p 12
  if ¬ incrOk incr ∨ 250000000 < d ∨ (d ≠ 0 ∧ ¬ incrOk after) then s.ends t .badField
  else s.queueChange t (.incr (BitVec.ofNat 64 incr) d (BitVec.ofNat 64 after))

/-- `TIME_STEP` (R540, R541). -/
def effTimeStep (t : Ticket) (p : Pkt) (s : State) : State :=
  let mode := prm p 0
  if 1 < mode ∨ (mode = 1 ∧ 999999999 < prm32 p 16) then s.ends t .badField
  else if s.stepRefused then s.ends t .stateRefused
  else if mode = 0 then s.queueChange t (.offset (BitVec.ofNat 64 (prm64 p 8)))
  else s.queueChange t (.set (BitVec.ofNat 64 (prm64 p 8)) (BitVec.ofNat 32 (prm32 p 16)))

/-- The change due first of those that meet a test. -/
def State.firstChange (s : State) (p : TimeMove → Bool) : Option TimeChange :=
  (s.time.changes.filter fun (c : TimeChange) => p c.move).foldl (fun (best : Option TimeChange) c =>
    match best with
    | some b => if c.at_ < b.at_ then some c else some b
    | none => some c) none

def TimeMove.isIncr : TimeMove → Bool | .incr _ _ _ => true | _ => false

/-- A `DURATION` that ends by an instant ends there, and `INCR_AFTER` takes over (R538). -/
def State.durationBy (s : State) (at_ : Nat) : State :=
  match s.time.duration with
  | some (e, v) =>
    if e ≤ at_ then ({ s.advanceTo e with incr := v }).modTime fun t => { t with duration := none } else s
  | none => s

/-- INCR_CHANGE (R539). -/
def evIncrChange (s : State) : State :=
  match s.firstChange TimeMove.isIncr with
  | some c =>
    match c.move with
    | .incr v d after =>
      let s := (s.durationBy c.at_).advanceTo c.at_
      let s := { s with incr := v }
      (s.modTime fun t => { t with
        changes := t.changes.erase c, duration := if d = 0 then none else some (c.at_ + 32 * d, after) }).doneAt c.ticket s.dtbNs
    | _ => s
  | none => s

/-- DURATION_EXPIRY (R538). -/
def evDurationExpiry (s : State) : State := match s.time.duration with | some (e, _) => s.durationBy e | none => s

/-- TIME_STEP_EFFECT (R540): the step is refused if R541 holds by then. -/
def evTimeStepEffect (s : State) : State :=
  match s.firstChange fun m => !m.isIncr with
  | some c =>
    let s := ((s.durationBy c.at_).advanceTo c.at_).modTime fun t => { t with changes := t.changes.erase c }
    if s.stepRefused then s.ends c.ticket .stateRefused
    else
      let s := match c.move with
        | .offset o => s.setDtb (((s.ns : Int) + o.toInt) % (dtbModulus / 2 ^ 32 : Nat)).toNat
        | .set sec ns => s.setDtb (sec.toNat * 1000000000 + ns.toNat)
        | .incr _ _ _ => s
      s.doneAt c.ticket s.dtbNs
  | none => s

/-- The source in force changes: the DTB and `INCR` stay as they stand (R536). With another source than RING the node takes no
time from the ring (R566), and `ALIGNED` is cleared (DESIGN CHOICE, log 99). -/
def State.takeSource (s : State) (src : Nat) : State :=
  let s := s.modTime fun x => { x with src := src }
  let s := if src = 2 then s else s.modRing fun r => { r with aligned := false, inSince := none }
  s.refreshLock

/-- `TIME_SOURCE` (R576). -/
def effTimeSource (t : Ticket) (p : Pkt) (s : State) : State :=
  if 2 < prm p 0 then s.ends t .badField else (s.takeSource (prm p 0)).ends t .done

/-! ### A servo's write (R539, R541, R543, R567) -/

/-- `INCR` written by a servo ends a running `DURATION`. -/
def State.servoIncr (s : State) (v : Nat) : State :=
  ({ s with incr := BitVec.ofNat 64 v }).modTime fun t => { t with duration := none }

/-- A slew at the limit of R533; a positive offset is a DTB that is ahead. -/
def State.slew (s : State) (ahead : Bool) : State := s.servoIncr (if ahead then incrMin else incrMax)

/-- A value of `INCR` in its range that the spec does not state (log 3). -/
def State.freeIncr (s : State) (place : Nat) : State :=
  let d := s.draw place (incrMax - incrMin + 1)
  d.2.servoIncr (incrMin + d.1)

/-! ### The PTP instance (R542, R543) -/

/-- Ranges of Table 13-6. -/
def ptpTable : List FieldSpec :=
  [⟨0, 1, false, 0, 2⟩, ⟨1, 1, false, 0, 2⟩, ⟨2, 1, false, 0, 3⟩, ⟨3, 1, false, 0, 127⟩, ⟨6, 1, false, 6, 255⟩,
   ⟨7, 1, false, 0, 1⟩, ⟨8, 1, true, -7, 4⟩, ⟨9, 1, true, -3, 4⟩, ⟨10, 2, false, 1, 1000⟩, ⟨12, 4, false, 0, 1000000⟩]

def ptpOk (p : Pkt) : Bool :=
  inRanges p.params ptpTable && !(decide (prm p 0 = 2) && decide (prm p 1 ≠ 0)) && prmZero p 16 24

/-- An interval of 2^log seconds, at least 2^-7. -/
def logSteps (log : Int) : Nat := secSteps 1 / 128 * 2 ^ (log + 7).toNat

/-- Interval of Sync and Announce messages; that of delay requests is not stated. -/
def ptpInterval (c : List Byte) (kind : Nat) : Nat :=
  match kind with
  | 0 => logSteps (signed 8 (byteAt c 8))
  | 1 => logSteps (signed 8 (byteAt c 9))
  | _ => 0

/-- `TIME_PTP_CONFIG` (R543). -/
def effTimePtpConfig (t : Ticket) (p : Pkt) (s : State) : State :=
  if ¬ ptpOk p then s.ends t .badField
  else
    let next : Vector Nat 3 := Vector.ofFn fun k => s.now + ptpInterval p.params k.val
    ((s.modTime fun x => { x with ptp := some p.params, ptpInRow := 0, ptpSent := Vector.replicate 3 0, ptpNext := next }).refreshLock).ends t .done

/-- The ports that take part while the instance runs. -/
def State.ptpPorts (s : State) : Nat := match s.time.ptp with | some c => byteAt c 2 | none => 0

/-- PTP_SYNC_INTERVAL (R543): the message of the kind is sent on its ports; a slave-only instance sends neither Sync nor
Announce. -/
def evPtpSyncInterval (kind : Fin 3) (s : State) : State :=
  match s.time.ptp with
  | some c =>
    if byteAt c 2 = 0 ∨ (byteAt c 7 = 1 ∧ kind.val ≠ 2) then s
    else
      let s := if kind.val = 2 then s else s.advanceTo (vget s.time.ptpNext kind)
      s.modTime fun t => { t with
        ptpSent := vmod t.ptpSent kind (· + 1), ptpNext := vset t.ptpNext kind (s.now + ptpInterval c kind) }
  | none => s

/-- A Sync message measures the offset, which the spec does not compute from it (log 3); with source PTP the servo closes
it: by a step beyond `STEP_TH` where R541 allows it, else by `INCR`. -/
def State.ptpSync (s : State) : State :=
  match s.time.ptp with
  | some c =>
    let d := s.draw 67 (2 ^ 33)
    let off : Int := d.1 - (2 ^ 32 : Nat)
    let s := d.2.modTime fun t => { t with
      offset := if t.src = 1 then off else t.offset, ptpInRow := if -100 ≤ off ∧ off ≤ 100 then t.ptpInRow + 1 else 0 }
    if s.time.src ≠ 1 then s
    else
      let th : Nat := le c 12 4
      let s :=
        if th ≠ 0 ∧ (th : Int) < Int.natAbs off then
          (if s.stepRefused then s.slew (decide (0 < off)) else s.setDtb ((s.ns : Int) - off).toNat)
        else s.freeIncr 68
      s.refreshLock
  | none => s

/-! ### Status and snapshot -/

/-- `TIME_CTRL` (Table 13-2). -/
def State.timeCtrl (s : State) : Word :=
  word [(s.reg 0x10008 % 4, 0), (s.time.src, 2), (bit s.time.valid, 4), (bit s.time.locked, 5)]

/-- `TIME_STATUS` (R577). -/
def effTimeStatus (t : Ticket) (_ : Pkt) (s : State) : State :=
  s.answer t { r0 := s.timeCtrl, r1 := BitVec.ofInt 32 (limitI s.time.offset (-0x80000000) 0x7FFFFFFF), extra := lo32 s.incr }

/-- TIME_SNAP_READ (R535, Table 13-3): the whole DTB is latched in one tick. -/
def evTimeSnapRead (s : State) : State :=
  let s := s.modTime fun x => { x with snapSec := s.dtbSec, snapNs := s.dtbNano, snapSub := s.dtbSub }
  { s with lastRead := lo32 s.time.snapSec }

end Sys2Proof.Machine
end

