-- ==== Sys2Proof/Machine/Net.lean ====
section
/-! DEFINITION. The Ethernet ports (13 R544 to R554): packets of class NET, received frames and their consumers, frames sent,
and gate-control lists. -/

namespace Sys2Proof.Machine

def State.port (s : State) (n : Nat) : EthPort := vget s.ports n

/-- Registers of a port as in force (Tables 13-7 and 13-8). -/
def State.portEn (s : State) (n : Nat) : Bool := (s.inUse (0x11000 + 0x20 * n)).testBit 0
def State.rxLat (s : State) (n : Nat) : Nat := s.inUse (0x1100C + 0x20 * n) % 65536
def State.txLat (s : State) (n : Nat) : Nat := s.inUse (0x1100C + 0x20 * n) / 65536

/-- Port states of Table 13-16; `NET_STATUS` codes them in the table's order (DESIGN CHOICE, log 52). -/
inductive PortState where
  | disabled | down | up | retired
  deriving DecidableEq, Repr, Inhabited

def PortState.code : PortState → Nat | .disabled => 0 | .down => 1 | .up => 2 | .retired => 3

def State.portState (s : State) (n : Nat) : PortState :=
  if s.isRetired 5 n then .retired else if ¬ s.portEn n then .disabled else if (s.port n).link then .up else .down

/-! ### Stamps (R545) -/

/-- A stamp in 2^-16 ns since the epoch; the latencies count 125 ps steps. -/
def stampValue (sec : DWord) (ns : Word) (sub : Half) : Nat := (sec.toNat * 1000000000 + ns.toNat) * 65536 + sub.toNat
def latValue (steps : Nat) : Nat := steps * 8192

/-- Seconds, nanoseconds and sub-nanoseconds of a stamp. -/
def stampParts (v : Nat) : (DWord × Word) × Nat := (stampOf (v / 65536), v % 65536)

/-! ### Packets of class NET -/

/-- `NET_TX` (R549): the frame waits for its gate for at most 10 ms. -/
def effNetTx (t : Ticket) (p : Pkt) (s : State) : State :=
  let n := p.target.toNat
  if prm p 0 ≠ n ∨ 6 < prm p 1 then s.ends t .badField
  else
    let w : TxWait := { ticket := t, cls := prm p 1, stamp := (prm p 2).testBit 0, length := p.len.toNat, bytes := p.payload,
                        deadline := s.now + msSteps 10 }
    s.modPort n fun x => { x with txq := x.txq ++ [w] }

/-- `NET_RX` (R548). -/
def effNetRx (t : Ticket) (p : Pkt) (s : State) : State :=
  if prm p 0 ≠ p.target.toNat ∨ ¬ (prm p 1 < 16 ∨ prm p 1 = 0xFF) then s.ends t .badField
  else
    let w : RxWait := { ticket := t, port := prm p 0, filter := prm p 1, room := p.len.toNat }
    { s with netRx := s.netRx ++ [w] }

/-- `NET_FILTER` (R547). -/
def effNetFilter (t : Ticket) (p : Pkt) (s : State) : State :=
  if 1 < prm p 0 ∨ 3 < prm p 1 then s.ends t .badField
  else
    let f : NetFilter := { en := decide (prm p 0 = 1), ports := prm p 1, addr := slice p.params 2 6, mask := slice p.params 8 6,
                           etype := prm16 p 14 }
    ({ s with filters := vset s.filters p.target.toNat f }).ends t .done

/-- Entries of a list's payload. -/
def gclEntries (p : Pkt) : List (Nat × Nat) :=
  (List.range (p.len.toNat / 8)).map fun k => (byteAt p.payload (8 * k), le p.payload (8 * k + 4) 4)

/-- The entries are in range and their reserved bytes are 0 (R550, R551). -/
def gclOk (p : Pkt) : Bool :=
  (gclEntries p).all (fun (e : Nat × Nat) => decide (e.1 < 128) && decide (1000 ≤ e.2) && decide (e.2 ≤ 1000000000)) &&
  (List.range (p.len.toNat / 8)).all fun k => zeros p.payload (8 * k + 1) 3

/-- The first start of a list's cycle at or after a DTB instant. -/
def Gcl.startFrom (g : Gcl) (ns : Nat) : Nat := if ns ≤ g.base then g.base else g.base + multipleFrom g.cycle (ns - g.base)

/-- `NET_GCL` (R551): one list waits at a time (DESIGN CHOICE, log 52). -/
def effNetGcl (t : Ticket) (p : Pkt) (s : State) : State :=
  let n := p.target.toNat
  if ¬ gclOk p then s.ends t .badField
  else if (s.port n).gclNext.isSome then s.ends t .busyRetry
  else
    let g : Gcl := { base := prm64 p 0, entries := gclEntries p }
    let at_ := g.startFrom (s.ns + 1000000)
    s.modPort n fun x => { x with gclNext := some (t, g, at_) }

/-- `NET_STATUS` (R577). -/
def effNetStatus (t : Ticket) (p : Pkt) (s : State) : State :=
  let n := p.target.toNat
  let x := s.port n
  s.answer t { r0 := word [((s.portState n).code, 0), (x.speed.toNat, 4), (sat8 (s.chan 5 n).bucket, 8), (satCount x.discarded, 16)],
               r1 := word [(sat32 x.badFcs, 0)] }

/-! ### Gate-control lists (R550, R551) -/

/-- GCL_SWITCH (R551). -/
def evGclSwitch (port : Fin 2) (s : State) : State :=
  match (s.port port).gclNext with
  | some (t, g, at_) =>
    let s := s.advanceToNs at_
    (s.modPort port fun x => ({ x with gcl := some g, gclNext := none }).place s.ns).ends t .done
  | none => s

/-- GATE_CONTROL_ENTRY (R550). -/
def evGateControlEntry (port : Fin 2) (s : State) : State :=
  if (s.port port).gcl.isSome then
    let s := s.advanceToNs (s.port port).entryEnd
    s.modPort port fun x => x.place s.ns
  else s

/-! ### Received frames (R546 to R548, R554) -/

/-- The FCS of a frame: the CRC-32 of IEEE 802.3, least significant byte first (PRESUMED, log 51). -/
def fcs (bs : List Byte) : Nat := (bs.foldl (fun c b => crcBits 0xEDB88320 8 (c ^^^ b.toNat)) 0xFFFFFFFF) ^^^ 0xFFFFFFFF

/-- A big-endian half word of a frame. -/
def be16 (bs : List Byte) (off : Nat) : Nat := 256 * byteAt bs off + byteAt bs (off + 1)

/-- A VLAN tag follows the addresses; the Ethertype after it, and where its data begins. -/
def tagged (f : List Byte) : Bool := decide (be16 f 12 = 0x8100)
def etypeOf (f : List Byte) : Nat := if tagged f then be16 f 16 else be16 f 12
def dataOfs (f : List Byte) : Nat := if tagged f then 18 else 14

/-- The enabled station whose Ethertype, type, version, number, source address and port a frame bears (R554). -/
def State.stationOf (s : State) (port : Nat) (f : List Byte) : Option (Nat × StationCfg) :=
  if s.hasCycle ∧ tagged f ∧ be16 f 14 % 4096 = 0 ∧ etypeOf f = 0x88B5 ∧ byteAt f 18 = 2 ∧ byteAt f 19 = 1 then
    match (vget s.cyc.stations (le f 20 2)).cfg with
    | some c => if c.en ∧ c.ports.contains port ∧ slice f 6 6 = c.mac then some (le f 20 2, c) else none
    | none => none
  else none

/-- The input window a stamp falls in (R553). -/
def State.windowOf (s : State) (k stamp : Nat) : Nat := (stamp + 2000) / max 1 (s.period k)

/-- The station copier takes a frame: a valid one is kept; the second copy of a window is discarded (R554). -/
def State.copyStation (s : State) (n : Nat) (c : StationCfg) (f : List Byte) (stamp : Nat) : State :=
  let x := vget s.cyc.stations n
  let cyc := le f 22 4
  let valid := decide (38 + c.inLen ≤ f.length) && decide (crc32c (slice f 18 (16 + c.inLen)) = le f (34 + c.inLen) 4)
  let copy := decide (c.port = 2) && x.frames.any fun (g : StationFrame) =>
    decide (g.cycle = cyc) && decide (s.windowOf c.task g.stamp = s.windowOf c.task stamp)
  if ¬ valid ∨ copy then s
  else
    let g : StationFrame := { stamp := stamp, cycle := cyc, data := slice f 34 c.inLen }
    s.modStation n fun x => { x with
      frames := g :: x.frames, present := x.present || (!x.absent && decide (s.cyc.image ≠ [])) }

/-- Where the PTP message of a frame begins under the instance's transport (Table 13-6); the UDP layouts are those of IPv4
and IPv6 (PRESUMED, log 51). -/
def ptpOfs (transport : Nat) (f : List Byte) : Option Nat :=
  let d := dataOfs f
  match transport with
  | 0 => if etypeOf f = 0x88F7 then some d else none
  | 1 =>
    let u := d + 4 * (byteAt f d % 16)
    if etypeOf f = 0x0800 ∧ byteAt f (d + 9) = 17 ∧ (be16 f (u + 2) = 319 ∨ be16 f (u + 2) = 320) then some (u + 8) else none
  | _ =>
    let u := d + 40
    if etypeOf f = 0x86DD ∧ byteAt f (d + 6) = 17 ∧ (be16 f (u + 2) = 319 ∨ be16 f (u + 2) = 320) then some (u + 8) else none

/-- The PTP message of a frame for a port that takes part. -/
def State.ptpOf (s : State) (port : Nat) (f : List Byte) : Option Nat :=
  match s.time.ptp with
  | some c => if (byteAt c 2).testBit port then ptpOfs (byteAt c 1) f else none
  | none => none

/-- The PTP instance takes a message: a Sync of PTP version 2 in its domain measures an offset. -/
def State.takePtp (s : State) (f : List Byte) (o : Nat) : State :=
  match s.time.ptp with
  | some c => if byteAt f o % 16 = 0 ∧ byteAt f (o + 1) % 16 = 2 ∧ byteAt f (o + 4) = byteAt c 3 then s.ptpSync else s
  | none => s

/-- A filter matches a frame on a port (R547). -/
def NetFilter.matches (x : NetFilter) (port : Nat) (f : List Byte) : Bool :=
  x.en && x.ports.testBit port && decide (x.etype = 0 ∨ x.etype = etypeOf f) &&
  (List.range 6).all fun k => (f.getD k 0 &&& x.mask.getD k 0) = (x.addr.getD k 0 &&& x.mask.getD k 0)

/-- A frame that nothing takes. -/
def State.discardFrame (s : State) (port : Nat) : State := s.modPort port fun x => { x with discarded := x.discarded + 1 }

/-- A matched frame enters the oldest `NET_RX` posted for the filter, or for any, on its port (R547, R548). -/
def State.deliver (s : State) (port k : Nat) (f : List Byte) (stamp : Nat) : State :=
  match s.netRx.find? fun (w : RxWait) => decide (w.filter = k ∨ w.filter = 0xFF) && decide (w.port = port ∨ w.port = 2) with
  | some w =>
    let cut := decide (w.room < f.length)
    ({ s with netRx := s.netRx.erase w }).answer w.ticket
      { status := if cut then .doneNote else .done, r0 := word [(f.length, 0)], r1 := word [(k, 0), (port, 8)],
        extra := word [((stampParts stamp).2, 0), (bit cut, 16)], payload := f.take w.room, stamp := some (stampParts stamp).1 }
  | none => s.discardFrame port

/-- ETH_FRAME_RECEIVED (R544 to R548, R553, R554). The bytes include the FCS; the stamp is that at the MAC. -/
def evEthFrameReceived (port : Fin 2) (bytes : List Byte) (sec : DWord) (ns : Word) (sub : Half) (s : State) : State :=
  if s.portState port ≠ .up then s
  else
    let f := bytes.take (bytes.length - 4)
    let stamp := stampValue sec ns sub - latValue (s.rxLat port)
    if fcs f ≠ le bytes (bytes.length - 4) 4 then s.modPort port fun x => { x with badFcs := x.badFcs + 1 }
    else if etypeOf f = 0x8808 then s
    else
      match s.stationOf port f with
      | some (n, c) => s.copyStation n c f (stamp / 65536)
      | none =>
        match s.ptpOf port f with
        | some o => s.takePtp f o
        | none =>
          match (List.range 16).find? fun k => (vget s.filters k).matches port f with
          | some k => s.deliver port k f stamp
          | none => s.discardFrame port

/-! ### Frames sent (R455, R549, R552) -/

/-- Link rate in Mb/s. -/
def EthPort.rate (x : EthPort) : Nat := match x.speed.toNat with | 0 => 10 | 1 => 100 | 2 => 1000 | _ => 2500

/-- The enabled stations of a task on a port. -/
def State.stationsOn (s : State) (port k : Nat) : List StationCfg :=
  s.cyc.stations.toList.filterMap fun (x : Station) => x.cfg.filter fun (c : StationCfg) =>
    c.en && decide (c.task = k) && c.ports.contains port

/-- Inside a station window classes 0 to 6 send nothing, and they start no frame of a duration, in ns, that could not end
before the next one opens (R552). -/
def State.windowBars (s : State) (port dur : Nat) : Bool :=
  s.hasCycle && s.cyclicTasks.any fun k =>
    let cs := s.stationsOn port k
    let t := max 1 (s.period k)
    let w := divUp (cs.foldl (fun a (c : StationCfg) => a + (max 60 (38 + c.outLen) + 24) * 8000) 0) (s.port port).rate + 2000
    let at_ := (s.ns + t - 1000 * vget s.cyc.outOfs k % t) % t
    !cs.isEmpty && (decide (at_ < w) || decide (t < at_ + dur))

/-- How long a frame lasts on the medium, from its start-of-frame delimiter to the end of its FCS, in ns. -/
def EthPort.frameNs (x : EthPort) (length : Nat) : Nat := divUp ((max 60 length + 4) * 8000) x.rate

/-- How long the gate of a class stays open under the list in force, in ns; none where no entry closes it (R550). -/
def EthPort.gateLeft (x : EthPort) (cls ns : Nat) : Option Nat :=
  match x.gcl with
  | some g =>
    let n := g.entries.length
    let next := (List.range n).map fun k => g.entries.getD ((x.entry + 1 + k) % n) (0, 0)
    let open_ := next.takeWhile fun (e : Nat × Nat) => e.1.testBit cls
    if open_.length = n then none else some (x.entryEnd - ns + (open_.map fun (e : Nat × Nat) => e.2).sum)
  | none => none

/-- A frame's gate is open and stays open until the frame has ended (R550). -/
def EthPort.gatePasses (x : EthPort) (ns : Nat) (w : TxWait) : Bool :=
  x.gates.getLsbD w.cls && match x.gateLeft w.cls ns with | some left => decide (x.frameNs w.length ≤ left) | none => true

/-- The frame that leaves next: the oldest of the highest class among those that nothing holds back (R550, R552; DESIGN CHOICE
between them, log 52). -/
def State.nextTx (s : State) (port : Nat) : Option TxWait :=
  let x := s.port port
  x.txq.foldl (fun (best : Option TxWait) (w : TxWait) =>
    if ¬ x.gatePasses s.ns w ∨ s.windowBars port (x.frameNs w.length) then best
    else match best with
      | some b => if b.cls < w.cls then some w else best
      | none => some w) none

/-- FRAME_TRANSMITTED (R455, R549): the stamp is that at the MAC. -/
def evFrameTransmitted (port : Fin 2) (sec : DWord) (ns : Word) (sub : Half) (s : State) : State :=
  if s.portState port ≠ .up then s
  else
    match s.nextTx port with
    | some w =>
      let st := stampParts (stampValue sec ns sub + latValue (s.txLat port))
      let s := s.modPort port fun x => { x with txq := x.txq.erase w, sent := w.bytes ++ bytesOf 4 (fcs w.bytes) }
      if w.stamp then
        s.answer w.ticket { r0 := word [(w.length, 0)], extra := word [(st.2, 0), (port.val, 16)], stamp := some st.1 }
      else s.answer w.ticket { r0 := word [(w.length, 0)] }
    | none => s

/-- NET_TX_TIMEOUT (R549). -/
def evNetTxTimeout (port : Fin 2) (s : State) : State :=
  match (s.port port).txq with
  | w :: rest => ((s.advanceTo w.deadline).modPort port fun x => { x with txq := rest }).ends w.ticket .timedOut
  | [] => s

/-! ### Links and upsets (R502, R574) -/

/-- ETH_LINK_CHANGE (R544, Table 13-18, R502). -/
def evEthLinkChange (port : Fin 2) (up : Bool) (speed : BitVec 2) (s : State) : State :=
  if ¬ s.portEn port then s
  else
    let was := (s.port port).link
    let s := s.modPort port fun x => { x with link := up, speed := speed }
    let s := if was = up then s else s.report 0x0C port (bit up)
    s.dropStations

/-- ETH_PORT_UPSET (R574): the port's retry resets its PCS. -/
def evEthPortUpset (port : Fin 2) (s : State) : State := if s.portState port = .up then s.detect 5 port else s

end Sys2Proof.Machine
end

