-- ==== Sys2Proof/Machine/Ring.lean ====
section
/-! DEFINITION. The Nimor ring (13 R555 to R577): frames, the ring cycle, time on the ring, telemetry, messages, and the
insertion by the bypass relays. -/

namespace Sys2Proof.Machine

/-! ### Settings and frames -/

/-- Fields of `NRG_CFG` in force (Table 13-10). -/
def State.ringEn (s : State) : Bool := (s.inUse 0x12000).testBit 0
def State.nodeId (s : State) : Nat := field (s.inUse 0x12000) 4 1
def State.ringPrio (s : State) : Nat := field (s.inUse 0x12000) 12 5

def RingState.code : RingState → Nat | .off => 0 | .loopback => 1 | .line => 2 | .ring => 3
def PwrState.code : PwrState → Nat | .backup => 0 | .keep => 1 | .watch => 2 | .ready => 3 | .run => 4
def DpxRole.code : DpxRole → Nat | .none => 0 | .pairing => 1 | .active => 2 | .standby => 3 | .relinquished => 4

/-- Inserted into the ring. -/
def Ring.inserted (r : Ring) : Bool := r.state = .line || r.state = .ring

def State.node (s : State) (n : Nat) : RingNode := vget s.ring.nodes n
def State.modNode (s : State) (n : Nat) (f : RingNode → RingNode) : State :=
  s.modRing fun r => { r with nodes := vmod r.nodes n f }

/-- One step of the CRC-16 of R557 over eight bits, most significant bit first (PRESUMED, log 51). -/
def crc16Bits : Nat → Nat → Nat
  | 0, c => c
  | k + 1, c => crc16Bits k (if 0x8000 ≤ c then (c * 2 % 0x10000) ^^^ 0x1021 else c * 2)

def crc16 (bs : List Byte) : Nat := bs.foldl (fun c b => crc16Bits 8 (c ^^^ (b.toNat * 256))) 0xFFFF

/-- A frame: header, payload and check (R557). -/
def ringFrame (type src hops : Nat) (payload : List Byte) : List Byte :=
  let f := bytesOf 2 (type * 0x1000 + src * 0x100 + hops * 0x10) ++ payload
  f ++ (if payload.length ≤ 32 then bytesOf 2 (crc16 f) else bytesOf 4 (crc32c f))

/-- A frame leaves by port NA or NB, unless the port is retired or retrains. -/
def State.sendOn (s : State) (nb : Bool) (f : List Byte) : State :=
  if s.isRetired 4 (bit nb) ∨ vget s.ring.retrain (bit nb) then s else s.modRing fun r => { r with sent := r.sent ++ [(nb, f)] }

def State.sendBoth (s : State) (f : List Byte) : State := (s.sendOn false f).sendOn true f

/-- A frame of another node that arrived by one port is forwarded by the other with its hop count incremented (R556, R557). -/
def State.forward (s : State) (nb : Bool) (type src hops : Nat) (payload : List Byte) : State :=
  if s.ring.inserted ∧ src ≠ s.nodeId then s.sendOn (!nb) (ringFrame type src ((hops + 1) % 16) payload) else s

/-- In WATCH the symbols that arrive by one port leave by the other as they are (R630). -/
def State.repeatFrame (s : State) (nb : Bool) (type src hops : Nat) (payload : List Byte) : State :=
  if s.pwr.state = .watch ∧ s.resetN then s.sendOn (!nb) (ringFrame type src hops payload) else s

/-- A DELAY frame repeated in WATCH: who sent it is not in the command, a free value (place 81,
log 97). -/
def State.repeatDelay (s : State) (nb response : Bool) (turnaround : BitVec 24) : State :=
  if s.pwr.state = .watch ∧ s.resetN then
    let d := s.draw 81 256
    d.2.repeatFrame nb 2 (d.1 / 16) (d.1 % 16) (bytesOf 1 (bit response) ++ bytesOf 3 turnaround.toNat)
  else s

/-! ### Master (R566) and split (R568) -/

/-- A candidate that wins over another: lower `PRIO`, then lower number. -/
def better (p n q m : Nat) : Bool := decide (p < q) || (decide (p = q) && decide (n < m))

/-- `PRIO` of a node as this node knows it. -/
def State.prioOf (s : State) (n : Nat) : Nat := if n = s.nodeId then s.ringPrio else byteAt (s.node n).beat 1

/-- The ring master as this node sees it changes (Table 13-18). -/
def State.setMaster (s : State) (n : Nat) : State :=
  let self := decide (n = s.nodeId)
  if s.ring.masterId = n ∧ s.ring.master = self then s
  else
    let changed := decide (s.ring.masterId ≠ n) || self
    let s := s.modRing fun r => { r with master := self, masterId := n, aligned := r.aligned && !self, inSince := none }
    (if changed then s.report 0x0D n 2 else s).refreshLock

/-- `SPLIT` while a known node is lost. -/
def State.refreshSplit (s : State) : State :=
  s.modRing fun r => { r with split := r.nodes.toList.any fun (x : RingNode) => x.known && !x.heard }

/-- A heartbeat of another node is taken (R560, R565, R566). -/
def State.heardBeat (s : State) (nb : Bool) (src hops : Nat) (payload : List Byte) : State :=
  let x := s.node src
  let s := s.modNode src fun n => { n with
    heard := true, known := true, lastAt := s.now, beat := payload,
    hopsA := if nb then n.hopsA else some hops, hopsB := if nb then some hops else n.hopsB }
  let s := s.refreshSplit
  let s := if x.known ∧ ¬ x.heard then s.report 0x0D src 1 else s
  let cand := decide (byteAt payload 1 < 0xFF)
  let s := if cand ∧ better (byteAt payload 1) src s.ringPrio s.nodeId then s.modRing fun r => { r with noBetter := some s.now } else s
  let m := s.ring.masterId
  let held := s.ring.master || (decide (m ≠ s.nodeId) && (s.node m).heard && (byteAt (s.node m).beat 0).testBit 1)
  if (byteAt payload 0).testBit 1 ∧ src ≠ m ∧ (¬ held ∨ better (byteAt payload 1) src (s.prioOf m) m) then s.setMaster src else s

/-- MASTER_ELECTION (R566). -/
def evMasterElection (s : State) : State :=
  match s.ring.noBetter with
  | some at_ =>
    if s.ring.inserted ∧ s.ringPrio < 0xFF ∧ ¬ s.ring.master then
      let s := s.advanceTo (at_ + usSteps 20)
      s.setMaster s.nodeId
    else s
  | none => s

/-- A node is lost (R565). -/
def State.loseNode (s : State) (n : Nat) : State :=
  let s := s.advanceTo ((s.node n).lastAt + usSteps 20)
  let s := s.modNode n fun x => { x with heard := false, hopsA := none, hopsB := none, parts := none }
  s.refreshSplit.report 0x0D n 0

/-! ### Time on the ring (R558, R559, R567) -/

/-- This node takes time from the ring. -/
def State.ringFollower (s : State) : Bool := decide (s.time.src = 2) && s.ring.inserted && !s.ring.master

/-- The direction with fewer hops to a node; NA when both have the same count (R567). -/
def State.byNb (s : State) (n : Nat) : Bool :=
  match (s.node n).hopsA, (s.node n).hopsB with
  | some a, some b => decide (b < a)
  | none, some _ => true
  | _, none => false

/-- `ALIGNED` and the times it is judged by, from a new offset in 2^-16 ns (R567). -/
def Ring.judge (r : Ring) (off : Int) (now : Nat) : Ring :=
  let a := Int.natAbs off
  { r with offset := off, aligned := r.aligned && decide (a ≤ 8 * 65536),
           inSince := if a ≤ 4 * 65536 then some (r.inSince.getD now) else none }

/-- The ring servo closes an offset: by a step beyond 10 µs where R541 allows it, else by a slew at the limit; an offset that
the limit would overshoot in one ring cycle gets a value of `INCR` the spec does not state (log 3). -/
def State.ringServo (s : State) (off : Int) : State :=
  let a := Int.natAbs off
  if 10000 * 65536 < a ∧ ¬ s.stepRefused then s.setDtb ((((s.dtb / 65536 : Nat) : Int) - off + 0x8000).toNat / 65536)
  else if 5 * 65536 ≤ a then s.slew (decide (0 < off))
  else s.freeIncr 69

/-- TIME_FRAME (R558, R567): it is forwarded with the residence of this node, up to 200 ns and free, and the delay of its
arrival link added to `CORR`; a follower takes it from the direction it prefers. -/
def evTimeFrame (nb : Bool) (src hops : BitVec 4) (payload : List Byte) (s : State) : State :=
  if ¬ s.ring.inserted ∨ src.toNat = s.nodeId then s
  else
    let m := byteAt payload 15 % 16
    let link := vget s.ring.delay (bit nb) * 8192
    let corr := signed 64 (le payload 16 8)
    let d := s.draw 70 (200 * 65536 + 1)
    let s := d.2.forward nb 1 src.toNat hops.toNat (slice payload 0 16 ++ bytesOfInt 8 (corr + d.1 + link))
    let s := s.modNode m fun n => { n with
      hopsA := if nb then n.hopsA else some hops.toNat, hopsB := if nb then some hops.toNat else n.hopsB }
    if ¬ s.ringFollower ∨ m ≠ s.ring.masterId ∨ s.byNb m ≠ nb then s
    else
      let master : Int := ((le payload 0 8 * 1000000000 + le payload 8 4) * 65536 + le payload 12 2 : Nat) + corr + link
      let off : Int := (s.dtb / 65536 : Nat) - master
      let s := s.modRing fun r => r.judge off s.now
      let s := s.modTime fun t => { t with offset := off / 65536 }
      (s.ringServo off).refreshLock

/-- ALIGNED_CHANGE (R567). -/
def evAlignedChange (s : State) : State :=
  match s.ring.inSince with
  | some at_ =>
    if s.ringFollower ∧ ¬ s.ring.aligned then
      ((s.advanceTo (at_ + msSteps 1)).modRing fun r => { r with aligned := true }).refreshLock
    else s
  | none =>
    if s.ring.aligned ∧ 8 * 65536 < Int.natAbs s.ring.offset then (s.modRing fun r => { r with aligned := false }).refreshLock else s

/-- A DELAY frame (R559). -/
def delayFrameBytes (s : State) (kind turnaround : Nat) : List Byte :=
  ringFrame 2 s.nodeId 0 (bytesOf 1 kind ++ bytesOf 3 turnaround)

/-- DELAY_TIMER (R559). -/
def evDelayTimer (s : State) : State :=
  if ¬ s.ring.inserted then s
  else
    let s := s.advanceTo s.ring.reqDue
    let s := s.modRing fun r => { r with reqAt := Vector.replicate 2 (some s.now), reqDue := s.now + msSteps 1 }
    s.sendBoth (delayFrameBytes s 0 0)

/-- DELAY_FRAME (R559): a request is answered with a turnaround that the hardware measures and the model leaves free; a
response gives the link delay. -/
def evDelayFrame (nb response : Bool) (turnaround : BitVec 24) (s : State) : State :=
  if response then
    match vget s.ring.reqAt (bit nb) with
    | some at_ =>
      s.modRing fun r => { r with
        delay := vset r.delay (bit nb) ((s.now - at_ - turnaround.toNat / 32) / 2), reqAt := vset r.reqAt (bit nb) none }
    | none => s
  else
    let d := s.draw 71 (2 ^ 24)
    d.2.sendOn nb (delayFrameBytes s 1 d.1)

/-! ### Telemetry (R561, R569, R576) -/

/-- Retired channels. -/
def State.retiredUnits (s : State) : Nat :=
  (s.flt.chans.toList.filter fun (c : Chan) => c.state = .retired).length +
  (s.flt.pages.filter fun (p : Nat × Chan) => p.2.state = .retired).length

/-- The node's own record. -/
def State.ownRecord (s : State) : List Byte :=
  let safe := (numbers 8 fun b => (s.bridge b).state = .safe).foldl (fun a b => a + 2 ^ b) 0
  bytesOf 1 s.pwr.state.code ++ bytesOf 1 (s.time.src + 4 * bit s.ring.aligned + 8 * bit s.ring.master)
    ++ bytesOf 1 (s.dpx.role.code + 8 * bit s.dpx.noStandby) ++ bytesOf 1 (sat8 s.retiredUnits) ++ bytesOf 1 safe ++ bytesOf 3 0
    ++ bytesOf 2 s.ring.seq.toNat ++ slice s.ring.data 0 22

/-- TELEMETRY_FRAME (R561, R569). -/
def evTelemetryFrame (nb : Bool) (src hops : BitVec 4) (record : List Byte) (s : State) : State :=
  if ¬ s.ring.inserted ∨ src.toNat = s.nodeId then s
  else
    let n := src.toNat
    let s := s.forward nb 4 n hops.toNat record
    let was := le (s.node n).record 8 2
    let s := s.modNode n fun x => { x with record := record }
    if le record 8 2 ≠ was then s.report 0x0D n 3 else s

/-- `NR_PUBLISH` (R576). -/
def effNrPublish (t : Ticket) (p : Pkt) (s : State) : State :=
  (s.modRing fun r => { r with data := slice p.params 0 22, seq := r.seq + 1 }).ends t .done

/-- `NR_TELEM_READ` (R576): a node that is not heard counts as lost. -/
def effNrTelemRead (t : Ticket) (p : Pkt) (s : State) : State :=
  let n := p.target.toNat
  if n = s.nodeId then s.answer t { payload := s.ownRecord }
  else if (s.node n).heard then s.answer t { payload := (s.node n).record }
  else s.answer t { status := .doneNote, extra := 1, payload := (s.node n).record }

/-! ### Messages (R563, R570, R571) -/

/-- `NR_SEND` (R570): a message to a lost node is preceded by WAKE frames naming it (R630). -/
def effNrSend (t : Ticket) (p : Pkt) (s : State) : State :=
  let d := prm p 0
  if ¬ (d < 16 ∨ d = 0xFF) then s.ends t .badField
  else
    let m : RingSend := { ticket := t, dest := d, number := s.ring.msgNo.toNat, bytes := p.payload, next := 0, deadline := none }
    let lost := d < 16 ∧ (s.node d).known ∧ ¬ (s.node d).heard
    s.modRing fun r => { r with
      sends := r.sends ++ [m], msgNo := r.msgNo + 1, wakes := if lost then r.wakes ++ [(d, 3)] else r.wakes }

/-- `NR_RECV` (R571). -/
def effNrRecv (t : Ticket) (_ : Pkt) (s : State) : State := s.modRing fun r => { r with recvs := r.recvs ++ [t] }

def RingSend.count (m : RingSend) : Nat := divUp m.bytes.length 256

/-- The next fragment of a message (Table 13-11d). -/
def RingSend.fragment (m : RingSend) : List Byte :=
  bytesOf 1 m.dest ++ bytesOf 1 m.number ++ bytesOf 1 (m.next + 16 * (m.count - 1)) ++ bytesOf 1 0 ++ bytesOf 2 m.bytes.length
    ++ (m.bytes.drop (256 * m.next)).take 256

/-- A ring cycle sends one fragment of the oldest message that has one left; a message to all completes with its last. -/
def State.sendFragment (s : State) : State :=
  match s.ring.sends.find? fun (m : RingSend) => decide (m.next < m.count) with
  | some m =>
    let f := ringFrame 6 s.nodeId 0 m.fragment
    let s := if m.dest = 0xFF then s.sendBoth f else s.sendOn (s.byNb m.dest) f
    let last := decide (m.next + 1 = m.count)
    let m1 := { m with next := m.next + 1, deadline := if last then some (s.now + msSteps 1) else none }
    if last ∧ m.dest = 0xFF then (s.modRing fun r => { r with sends := r.sends.erase m }).ends m.ticket .done
    else s.modRing fun r => { r with sends := r.sends.map fun (x : RingSend) => if x = m then m1 else x }
  | none => s

/-- The fragment is well formed (Table 13-11d). -/
def fragmentOk (payload : List Byte) : Bool :=
  let i := byteAt payload 2 % 16
  let n := byteAt payload 2 / 16 + 1
  let len := le payload 4 2
  decide (1 ≤ len) && decide (len ≤ 1024) && decide (n = divUp len 256) && decide (i < n) &&
  decide (payload.length = 6 + (if i + 1 = n then len - 256 * i else 256))

/-- A fragment joins its message: the answer owed once the last index has come (0 none owed yet), and the message once it is
whole. -/
def State.assemble (s : State) (src : Nat) (payload : List Byte) : State × Option (List Byte) × Bool :=
  let num := byteAt payload 1
  let i := byteAt payload 2 % 16
  let n := byteAt payload 2 / 16 + 1
  let a : Assembly := match (s.node src).parts with
    | some a => if a.number = num then a else { number := num, count := n, length := le payload 4 2, parts := [] }
    | none => { number := num, count := n, length := le payload 4 2, parts := [] }
  let a := { a with parts := assocPut i (payload.drop 6) a.parts }
  let whole := decide (a.parts.length = n)
  let missing := !whole && decide (i + 1 = n)
  (s.modNode src fun x => { x with parts := if whole ∨ missing then none else some a },
   if whole then some (a.parts.flatMap fun (p : Nat × List Byte) => p.2) else none, missing)

/-- An ACK frame is owed for a message to this node. -/
def State.oweAck (s : State) (src num result : Nat) : State := s.modRing fun r => { r with acks := r.acks ++ [(src, num, result)] }

/-- A whole message enters the oldest `NR_RECV`; the result is that of the ACK (R563, R571). -/
def State.takeMessage (s : State) (src : Nat) (bs : List Byte) : State × Nat :=
  match s.ring.recvs with
  | t :: rest =>
    ((s.modRing fun r => { r with recvs := rest }).answer t { r0 := word [(src, 0), (bs.length, 16)], payload := bs }, 0)
  | [] => (s, 1)

/-- RING_ACK_FRAME (R563, R570): the status for result 2, which the spec does not name, is that of a busy destination
(DESIGN CHOICE, log 53). -/
def evRingAckFrame (nb : Bool) (src hops : BitVec 4) (dest msg result : Byte) (s : State) : State :=
  if ¬ s.ring.inserted ∨ src.toNat = s.nodeId then s
  else
    let s := s.forward nb 7 src.toNat hops.toNat [dest, msg, result]
    if dest.toNat ≠ s.nodeId then s
    else
      match s.ring.sends.find? fun (m : RingSend) => decide (m.dest = src.toNat) && decide (m.number = msg.toNat) && m.deadline.isSome with
      | some m =>
        (s.modRing fun r => { r with sends := r.sends.erase m }).ends m.ticket (if result = 0 then .done else .busyRetry)
      | none => s

/-- NR_SEND_TIMEOUT (R570): the message whose deadline comes first. -/
def evNrSendTimeout (s : State) : State :=
  match s.ring.sends.find? fun (m : RingSend) => m.deadline.isSome with
  | some m =>
    match m.deadline with
    | some d => ((s.advanceTo d).modRing fun r => { r with sends := r.sends.erase m }).ends m.ticket .timedOut
    | none => s
  | none => s

/-! ### The ring cycle (R556, R558, R560 to R564) -/

/-- The TIME payload of the cycle of a count (Table 13-11b). -/
def State.timePayload (s : State) (count : Nat) : List Byte :=
  let st := stampOf (5000 * count)
  bytesOf 8 st.1.toNat ++ bytesOf 4 st.2.toNat ++ bytesOf 2 0 ++ bytesOf 1 s.ringPrio ++ bytesOf 1 s.nodeId ++ bytesOf 8 0

/-- The HEARTBEAT payload (Table 13-11c). -/
def State.beatPayload (s : State) (count : Nat) : List Byte :=
  bytesOf 1 (bit (decide (s.ringPrio < 0xFF)) + 2 * bit s.ring.master + 4 * bit s.ring.aligned + 8 * bit s.ring.split + 16 * s.ring.masterId)
    ++ bytesOf 1 s.ringPrio ++ bytesOf 1 (s.dpx.role.code + 8 * bit s.dpx.noStandby + 16 * bit s.dpx.controlLost)
    ++ [s.dpx.claims] ++ bytesOf 1 s.pwr.state.code ++ bytesOf 1 (count % 256)

/-- A fill record (R562). -/
def fillRecord : List Byte := bytesOf 1 0xFF ++ bytesOf 255 0

/-- The MIRROR payload: records begin at byte 0 of an even cycle's frame and at byte 128 of an odd one's (R562). -/
def Duplex.mirrorPayload (d : Duplex) (count : Nat) : List Byte × Duplex :=
  let r (k : Nat) : List Byte := slice (d.sent.getD k fillRecord) 0 256
  if count % 2 = 0 then (r 0 ++ r 1 ++ (r 2).take 128, { d with sent := d.sent.drop 3, sentRest := (r 2).drop 128 })
  else (slice d.sentRest 0 128 ++ r 0 ++ r 1, { d with sent := d.sent.drop 2, sentRest := [] })

/-- The mirror frame of a cycle, sent by the active. -/
def State.sendMirrorFrame (s : State) (count : Nat) : State :=
  if s.dpx.role = .active then
    let m := s.dpx.mirrorPayload count
    ({ s with dpx := m.2 }).sendBoth (ringFrame 5 s.nodeId 0 m.1)
  else s

/-- WAKE frames owed, each in three cycles in a row (R564), and the ACK frames owed. -/
def State.sendOwed (s : State) : State :=
  let wakes := s.ring.wakes
  let acks := s.ring.acks
  let s := s.modRing fun r => { r with
    acks := [], wakes := (wakes.map fun (w : Nat × Nat) => (w.1, w.2 - 1)).filter fun (w : Nat × Nat) => decide (0 < w.2) }
  let s := wakes.foldl (fun s (w : Nat × Nat) => s.sendBoth (ringFrame 8 s.nodeId 0 (bytesOf 1 w.1))) s
  acks.foldl (fun s (a : Nat × Nat × Nat) =>
    s.sendOn (s.byNb a.1) (ringFrame 7 s.nodeId 0 (bytesOf 1 a.1 ++ bytesOf 1 a.2.1 ++ bytesOf 1 a.2.2))) s

/-- RING_CYCLE (R556): the next whole multiple of 5 µs. A message waits while WAKE frames for its node are owed (R630). -/
def evRingCycle (s : State) : State :=
  if ¬ s.ring.inserted then s
  else
    let count := if s.ring.cycle < s.ns / 5000 ∧ s.ns % 5000 = 0 then s.ns / 5000 else s.ns / 5000 + 1
    let s := (s.advanceToNs (5000 * count)).modRing fun r => { r with cycle := count, sent := [] }
    let s := if s.ring.master then s.sendBoth (ringFrame 1 s.nodeId 0 (s.timePayload count)) else s
    let s := s.sendBoth (ringFrame 3 s.nodeId 0 (s.beatPayload count))
    let s := if count % 16 = s.nodeId then s.sendBoth (ringFrame 4 s.nodeId 0 s.ownRecord) else s
    let s := s.sendMirrorFrame count
    let owed := s.ring.wakes ≠ []
    let s := s.sendOwed
    if owed then s else s.sendFragment

/-- RING_FRAME_DISCARD (R557). -/
def evRingFrameDiscard (_nb : Bool) (s : State) : State := s.modRing fun r => { r with discards := r.discards + 1 }

/-! ### Ports and relays (R572 to R574) -/

/-- RING_PORT_UPSET (R574): the port retrains. -/
def evRingPortUpset (nb : Bool) (s : State) : State :=
  if s.ring.state = .off ∨ s.isRetired 4 (bit nb) then s
  else
    let s := s.modRing fun r => { r with
      retrain := vset r.retrain (bit nb) true, state := if r.state = .ring then .line else r.state,
      nodes := r.nodes.map fun (x : RingNode) => if nb then { x with hopsB := none } else { x with hopsA := none } }
    s.detect 4 (bit nb)

/-- A ring port has trained again: its link delay is measured anew, and the ring closes if it was closed (R559, R573). -/
def State.retrained (s : State) (n : Nat) : State :=
  s.modRing fun r =>
    let rt := vset r.retrain n false
    { r with retrain := rt, reqDue := 0,
             state := if r.state = .line ∧ r.closed ∧ ¬ vget rt 0 ∧ ¬ vget rt 1 then .ring else r.state }

/-- RING_RELAYS_ENERGISE (R572). -/
def evRingRelaysEnergise (s : State) : State :=
  if s.ring.state = .loopback ∧ ¬ s.ring.relays ∧ s.ring.retryAt.isNone ∧ s.pwr.state.code ≥ 3 then
    s.modRing fun r => { r with relays := true, insertBy := some (s.now + msSteps 10) }
  else s

/-- RING_INSERT_TIMEOUT (R572, Table 13-14). -/
def evRingInsertTimeout (s : State) : State :=
  match s.ring.insertBy with
  | some d =>
    let s := (s.advanceTo d).dropRelays
    s.modRing fun r => { r with retryAt := some (s.now + secSteps 1) }
  | none => s

/-- RING_INSERT_RETRY (R572). -/
def evRingInsertRetry (s : State) : State :=
  match s.ring.retryAt with
  | some d => (s.advanceTo d).modRing fun r => { r with retryAt := none }
  | none => s

/-- `NR_STATUS` (R577). -/
def effNrStatus (t : Ticket) (_ : Pkt) (s : State) : State :=
  let r := s.ring
  let mask := (numbers 16 fun n => (s.node n).heard).foldl (fun a n => a + 2 ^ n) 0
  s.answer t { r0 := word [(r.state.code, 0), (bit r.aligned, 3), (bit r.master, 4), (bit r.split, 5), (r.masterId, 6), (mask, 16)],
               r1 := word [(satCount (vget r.delay 0), 0), (satCount (vget r.delay 1), 16)] }

end Sys2Proof.Machine
end

