-- ==== Sys2Proof/Machine/Discipline.lean ====
section
/-! DEFINITION. Fault discipline (14 R578 to R589, R614 to R616): retry runs, leaks, DRAM errors, `REINSTATE`, the fault log and
the Cones. -/

namespace Sys2Proof.Machine

/-! ### Channels -/

/-- DRAM pages of 64 KB (Table 00-1, R584). -/
def State.pageCount (s : State) : Nat := match s.variant with | .cd6340 => 131072 | _ => 65536

/-- A channel of Table 14-1. -/
def State.chanDefined (s : State) (kind unit : Nat) : Bool :=
  (chanIndex kind unit).isSome || (decide (kind = 6) && decide (unit < s.pageCount))

/-- A channel that is fitted (Table 00-1). -/
def State.chanFitted (s : State) (kind unit : Nat) : Bool :=
  match kind with
  | 3 => decide (unit < s.fitLinks)
  | 7 => decide (unit < s.fitEngines)
  | 8 => decide (unit < s.fitGfes)
  | 9 => decide (unit < s.fitCaps)
  | 12 => s.hasCycle
  | _ => true

/-- A retirement, with what a page takes with it (R374, R584). -/
def State.withdrawn (s : State) (kind : Nat) : State := if kind = 6 then s.withdrawPage else s

/-- Retired DRAM pages. -/
def State.retiredPages (s : State) : Nat := (s.flt.pages.filter fun (p : Nat × Chan) => p.2.state = .retired).length

/-! ### Retry runs (R579, R580, R585) -/

/-- What a retry that succeeds gives back to its unit (Table 07-9, Table 06-12, R574, Table 14-1). -/
def State.restored (s : State) (kind unit : Nat) : State :=
  match kind with
  | 0 => s.modSlot unit fun x => { x with retry := false, fresh := 0 }
  | 1 => s.modSlot unit fun x => { x with retry := false }
  | 2 => s.modPos unit fun x => { x with retry := false, valid := true }
  | 3 => s.modLink unit fun l => { l with retry := none, uplink := true }
  | 4 => s.retrained unit
  | 10 => { s with pwr := { s.pwr with feeds := vmod s.pwr.feeds unit fun f => { f with on := true } } }
  | _ => s

/-- The state a reinstated channel returns to (R337, R585): slots STOPPED, a gate link unassigned to any training, and its
bridge OFFLINE when it was the last. -/
def State.reinstated (s : State) (kind unit : Nat) : State :=
  let s := s.modChan kind unit fun c => { c with state := .inService, runs := 0, bucket := 0 }
  let s := s.logEntry 3 kind unit 0 1 0 0
  match kind with
  | 0 => s.modSlot unit fun x => { x with state := .stopped, retry := false }
  | 2 => s.modPos unit fun x => { x with retry := false, valid := decide (x.cfg.mode = 1), homed := false }
  | 3 =>
    let s := s.modLink unit fun l => { l with state := .down, retry := none }
    match s.ownerOf unit with
    | some b => if (s.bridge b).state = .retired ∧ ¬ (s.linksOf b).any s.linkRetired then s.toOffline b else s
    | none => s.modLink unit fun l => { l with state := .unassigned }
  | 4 =>
    let s := s.retrained unit
    if s.ring.state = .off ∧ s.ringEn then s.modRing fun r => { r with state := .loopback } else s
  | 10 => { s with pwr := { s.pwr with feeds := vmod s.pwr.feeds unit fun f => { f with on := f.ok } } }
  | _ => s

/-- Kinds whose detection no command of its own reports: a failing residue check starts its upset with the first run. -/
def selfDetected (kind : Nat) : Bool := kind = 7 || kind = 8 || kind = 12

/-- A loop engine's retry run re-executes the block that failed, of at most 128 cycles, and charges them to the sample (04 R183,
R193). Of which of its contexts the block was and how long it is are free values (log 90). -/
def State.chargeBlock (s : State) (e : Nat) : State :=
  match numbers 24 fun k => (s.lc k).state = .running ∧ (s.lc k).host = e with
  | [] => s
  | k :: ks =>
    let (i, s) := s.draw 76 (ks.length + 1)
    let (n, s) := s.draw 77 128
    s.modLc ((k :: ks).getD i k) fun c => { c with cycLast := c.cycLast + (n + 1), cycMost := max c.cycMost (c.cycLast + (n + 1)) }

/-- A retry run of an upset ends. -/
def State.runEnds (s : State) (kind unit : Nat) (ok : Bool) : State :=
  let s := if selfDetected kind then s.detect kind unit else s
  if (s.chan kind unit).state = .retrying then
    let s := if kind = 7 then s.chargeBlock unit else s
    let was := s.isRetired kind unit
    let s := if ok then (s.restored kind unit).countUpset kind unit else s.runFailed kind unit
    if ¬ was ∧ s.isRetired kind unit then s.withdrawn kind else s
  else s

/-- RETRY_RUN_END (R579, R580, R585). -/
def evRetryRunEnd (kind : Fin 13) (unit : Word) (ok : Bool) (s : State) : State :=
  let u := unit.toNat
  if ¬ s.chanDefined kind u ∨ ¬ s.chanFitted kind u then s
  else
    match s.reinst.find? fun (r : Ticket × Nat × Nat) => decide (r.2.1 = kind.val) && decide (r.2.2 = u) with
    | some r =>
      let s := { s with reinst := s.reinst.erase r }
      if ok then (s.reinstated kind u).ends r.1 .done else s.ends r.1 .unitRetired
    | none => s.runEnds kind u ok

/-- `REINSTATE` (R585): the kind's retry action runs once; RETRY_RUN_END ends it. -/
def effReinstate (t : Ticket) (p : Pkt) (s : State) : State :=
  let kind := prm p 0
  let unit := prm16 p 2
  if ¬ s.chanDefined kind unit then s.ends t .badField
  else if ¬ s.chanFitted kind unit then s.ends t .unitAbsent
  else if internalKind kind ∨ ¬ s.isRetired kind unit then s.ends t .stateRefused
  else if s.reinst.any (fun (r : Ticket × Nat × Nat) => decide (r.2.1 = kind) && decide (r.2.2 = unit)) then s.ends t .busyRetry
  else { s with reinst := s.reinst ++ [(t, kind, unit)] }

/-- BUCKET_LEAK (R581). -/
def evBucketLeak (kind : Fin 13) (unit : Word) (s : State) : State :=
  let c := s.chan kind unit.toNat
  if s.chanDefined kind unit.toNat ∧ 0 < c.bucket then (s.advanceTo c.leakAt).leak kind unit.toNat else s

/-! ### DRAM (R584) -/

/-- What a lost page held is not stated: a local ring, whose queue pair then halts (R450), or something else (log 54). -/
def State.losePage (s : State) : State :=
  let d := s.draw 72 17
  if h : d.1 < 16 then
    let q : Fin 16 := ⟨d.1, h⟩
    if d.2.qpLocal q then d.2.haltQp q 7 else d.2
  else d.2

/-- ECC_ERROR (R584): a corrected error is an upset of the page; an uncorrectable one retires it at once. -/
def evEccError (page : Word) (corrected retryOk : Bool) (s : State) : State :=
  let u := page.toNat
  if s.pageCount ≤ u ∨ s.isRetired 6 u then s
  else if corrected then (s.detect 6 u).runEnds 6 u retryOk
  else ((s.retire 6 u).withdrawn 6).losePage

/-! ### The fault log (R587, R615) -/

/-- The 32 bytes of an entry (Table 14-3). -/
def LogEntry.bytes (e : LogEntry) : List Byte :=
  let detail := if e.kind = 9 then bytesOf 1 e.detail ++ bytesOf 11 0
    else if e.chanKind = 6 then bytesOf 4 e.detail ++ bytesOf 8 0 else bytesOf 12 0
  bytesOf 4 e.seq.toNat ++ bytesOf 8 e.stamp.toNat ++ bytesOf 1 e.kind ++ bytesOf 1 e.chanKind ++ bytesOf 2 e.unit
    ++ bytesOf 2 e.cause ++ bytesOf 1 (sat8 e.runs) ++ bytesOf 1 (sat8 e.bucket) ++ detail

/-- `FLT_LOG_READ` (R615). Where no entry is returned for a number that is not ahead (an empty log, or a payload of
length 0), the first sequence number returned is not stated: a free value (log 3). -/
def effFltLogRead (t : Ticket) (p : Pkt) (s : State) : State :=
  let first : Word := BitVec.ofNat 32 (prm32 p 0)
  let n := s.flt.log.length
  let oldest := s.flt.seq - BitVec.ofNat 32 n
  if (first - s.flt.seq).toNat < 2 ^ 31 then s.answer t { r0 := first, r1 := 0 }
  else
    let lost := decide (n < (s.flt.seq - first).toNat)
    let from_ := if lost then oldest else first
    let es := (s.flt.log.reverse.drop (from_ - oldest).toNat).take (p.len.toNat / 32)
    let (v, s) := if es.isEmpty then s.draw 75 (2 ^ 32) else (from_.toNat, s)
    s.answer t { status := if lost then .doneNote else .done, r0 := BitVec.ofNat 32 v, r1 := BitVec.ofNat 32 es.length,
                 extra := if lost then 1 else 0, payload := es.flatMap LogEntry.bytes }

/-- `FLT_CONFIG` (R614). -/
def effFltConfig (t : Ticket) (p : Pkt) (s : State) : State :=
  let kind := prm p 0
  if 12 < kind ∨ prm p 1 < 1 ∨ 64 < prm p 1 ∨ prm16 p 2 < 1 ∨ 3600 < prm16 p 2 then s.ends t .badField
  else ({ s with flt := { s.flt with n := vset s.flt.n kind (prm p 1), w := vset s.flt.w kind (prm16 p 2) } }).ends t .done

def ChanState.code : ChanState → Nat | .inService => 0 | .retrying => 1 | .retired => 2

/-- `FLT_STATUS` (R616). -/
def effFltStatus (t : Ticket) (p : Pkt) (s : State) : State :=
  let kind := prm p 0
  let unit := prm16 p 2
  if ¬ s.chanDefined kind unit then s.ends t .badField
  else if ¬ s.chanFitted kind unit then s.ends t .unitAbsent
  else
    let c := s.chan kind unit
    s.answer t { r0 := word [(c.state.code, 0), (sat8 c.bucket, 8)], r1 := word [(sat32 c.upsets, 0)] }

/-! ### The Cones (R588, R589) -/

/-- The tests of a round on this device (R589). -/
def State.runsTest (s : State) (k : Nat) : Bool :=
  if s.dpx.role = .standby then decide (1 ≤ k) else decide (k = 4 ∨ k = 6)

/-- CONES_ROUND (R589): a failing test starts an upset of the unit named. -/
def evConesRound (failed : List TestFail) (s : State) : State :=
  if ¬ s.flt.conesRun then s
  else
    let fs := failed.filter fun (f : TestFail) => s.runsTest f.test
    let last := match fs.getLast? with | some f => f.test.val | none => s.flt.lastFail
    let s := { s with flt := { s.flt with rounds := satCount (s.flt.rounds + 1), conesFail := !fs.isEmpty, lastFail := last } }
    fs.foldl (fun s (f : TestFail) =>
      match f.chan with
      | some c =>
        let s := s.logEntry 8 c.kind (if c.kind.val = 6 then 0xFFFF else c.unit.toNat) 0 0 0 (if c.kind.val = 6 then c.unit.toNat else 0)
        if s.chanDefined c.kind c.unit.toNat then s.detect c.kind c.unit.toNat else s
      | none => s.logEntry 8 0xFF 0 0 0 0 0) s

/-- Channels of a kind that are RETIRED now. -/
def State.retiredOf (s : State) (kind : Nat) : Nat := if kind = 6 then s.retiredPages else (numbers 48 (s.isRetired kind)).length

/-- `HLTH_STATUS` (Table 14-4). -/
def State.hlthStatus (s : State) : Word :=
  let ret (int : Bool) := ((List.range 13).filter fun k => internalKind k = int).foldl (fun a k => a + s.retiredOf k) 0
  let ups := (s.flt.recent.filter fun (a : Nat) => decide (s.now < a + secSteps 60)).length
  word [(bit s.flt.selfTest, 0), (bit s.flt.conesRun, 1), (bit s.flt.conesFail, 2), (sat8 (ret true), 8), (sat8 (ret false), 16),
        (sat8 ups, 24)]

/-- `HLTH_KINDn` (Table 14-5), `HLTH_CONES` and `HLTH_SPARE` (Table 14-6). -/
def State.hlthKind (s : State) (n : Nat) : Word := word [(satCount (vget s.flt.kindUpsets n), 0), (satCount (vget s.flt.kindRetired n), 16)]
def State.hlthCones (s : State) : Word := word [(satCount s.flt.rounds, 0), (s.flt.lastFail, 16)]
def State.hlthSpare (s : State) : Word := word [(satCount s.flt.spares, 0)]

end Sys2Proof.Machine
end

