-- ==== Sys2Proof/Machine/Saggar.lean ====
section
/-! DEFINITION. Class SAFETY and the two safety channels (09): demands, latches and the start-up test of every function,
the exchange between the channels, toggles of SAFE_EN, commissioning, and faults. -/

namespace Sys2Proof.Machine

/-! ### Channels -/

def State.channel (s : State) (chB : Bool) : Channel := if chB then s.sag.chB else s.sag.chA

def State.modChannel (s : State) (chB : Bool) (f : Channel → Channel) : State :=
  if chB then { s with sag := { s.sag with chB := f s.sag.chB } } else { s with sag := { s.sag with chA := f s.sag.chA } }

def State.safeFn (s : State) (chB : Bool) (n : Nat) : SafeFn := vget (s.channel chB).fn n

def State.modFn (s : State) (chB : Bool) (n : Nat) (f : SafeFn → SafeFn) : State :=
  s.modChannel chB fun c => { c with fn := vmod c.fn n f }

/-- An input shows open: low, and for the second input of an antivalent function high (R375). -/
def inOpen (mode k : Nat) (level : Bool) : Bool := if mode = 1 ∧ k = 1 then level else !level

/-- Both inputs of a function show closed, or both show open; neither while one is undefined (R375, R376). -/
def SafeFn.closed (f : SafeFn) (mode : Nat) : Bool :=
  match f.inA, f.inB with | some a, some b => !inOpen mode 0 a && !inOpen mode 1 b | _, _ => false
def SafeFn.bothOpen (f : SafeFn) (mode : Nat) : Bool :=
  match f.inA, f.inB with | some a, some b => inOpen mode 0 a && inOpen mode 1 b | _, _ => false
def SafeFn.disagree (f : SafeFn) (mode : Nat) : Bool :=
  match f.inA, f.inB with | some a, some b => inOpen mode 0 a != inOpen mode 1 b | _, _ => false

/-- Bridges of a function. -/
def State.fnBridges (s : State) (n : Nat) : List Nat := bitsOf 8 (fnBmask s.blk n)

/-- An SBC output's delay in 125 ps steps. -/
def State.sbcDelay (s : State) (n : Nat) : Nat := msSteps (blkSbcDly s.blk n)

/-- A time as a channel counts it: channel B counts on an oscillator of ±2 % (R381). -/
def State.sagTime (s : State) (chB : Bool) (t : Nat) : Nat × State :=
  if chB then
    let (k, s) := s.draw 50 (t / 25 + 1)
    (t - t / 50 + k, s)
  else (t, s)

/-- A safe instant of a function in one channel: its latches count from now on, its SBC delays start (R385, R392). -/
def State.passSafe (s : State) (chB : Bool) (n : Nat) : State :=
  let d0 := s.sagTime chB (s.sbcDelay 0)
  let d1 := d0.2.sagTime chB (s.sbcDelay 1)
  d1.2.modFn chB n fun f => { f with
    safePassed := true, safeAt := none,
    sbcDue := Vector.ofFn fun o : Fin 2 =>
      if (fnSbc s.blk n).testBit o.val ∧ s.sbcDelay o.val ≠ 0 ∧ ¬ vget f.sbcPast o.val then
        some ((vget f.sbcDue o.val).getD (s.now + if o = 0 then d0.1 else d1.1)) else none,
    sbcPast := Vector.ofFn fun o : Fin 2 =>
      vget f.sbcPast o.val || ((fnSbc s.blk n).testBit o.val && decide (s.sbcDelay o.val = 0)) }

/-- A demand begins (R385 to R388): the latch is set; STO-ASC and SDC reach their safe instant at once, SS1-t starts its
time, and channel A acts on the bridges. -/
def State.demandBegins (s : State) (chB : Bool) (n : Nat) : State :=
  let s := s.modFn chB n fun f => { f with demanded := true, latch := true }
  if fnType s.blk n = 2 then
    let (t, s) := s.sagTime chB (msSteps (fnTss1 s.blk n))
    let s := s.modFn chB n fun f => { f with safeAt := some ((f.safeAt.getD (s.now + t))) }
    if chB then s
    else
      s.forEach ((s.fnBridges n).filter fun b => (s.bridge b).state.switching) fun s b =>
        (s.modB b fun br => { br with ss1 := true }).startRamp b []
  else
    let s := s.passSafe chB n
    if chB then s else s.forEach (s.fnBridges n) fun s b => s.enterSafe b (0x0800 + n)

/-- The demand of a function is judged (R386): it stands while the function is open or its request stands. -/
def State.judgeDemand (s : State) (chB : Bool) (n : Nat) : State :=
  let f := s.safeFn chB n
  let on := decide (fnType s.blk n ≠ 0) && (!f.closed (fnMode s.blk n) || f.request)
  if on ∧ ¬ f.demanded then s.demandBegins chB n
  else if ¬ on then s.modFn chB n fun f => { f with demanded := false } else s

/-- Start-up test, discrepancy time and the clearing condition of a discrepancy latch after an input change (R393, R394). -/
def SafeFn.note (f : SafeFn) (mode now : Nat) : SafeFn :=
  let open_ := f.bothOpen mode
  let closed := f.closed mode
  { f with
    seenOpen := f.seenOpen || open_, tested := f.tested || (f.seenOpen && closed),
    discSince := if f.disagree mode then some (f.discSince.getD now) else none,
    discOpened := f.disc && (f.discOpened || open_), discClear := f.disc && (f.discClear || (f.discOpened && closed)) && closed }

/-- A function starts afresh in a channel, its inputs undefined and so demanded (R376, R393, R406). -/
def State.freshFn (s : State) (chB : Bool) (n : Nat) : State :=
  let s := s.modFn chB n fun _ => {}
  if fnType s.blk n = 0 then s else s.demandBegins chB n

/-! ### Commissioning state (R405) -/

def CommState.code : CommState → Nat | .uncommissioned => 0 | .staged => 1 | .confirmed => 2 | .commissioned => 3

/-- The commissioning state changes; the change is reported (Table 10-13). -/
def State.setComm (s : State) (c : CommState) : State :=
  if s.sag.comm = c then s
  else (({ s with sag := { s.sag with comm := c } }).refreshSsl).report 8 0 c.code

/-- The committed block in NOR where its stored check value is right; none where it is wrong, or nothing is committed. -/
def Saggar.loaded (x : Saggar) : Option (List Byte) :=
  match x.nor with | some (b, crc) => if crc.toNat = crc32c b then some b else none | none => none

/-- Both channels log the failure of the block's check (R408); no kind of Table 14-3 names it, so its kind is free (log 92). -/
def State.logCheck (s : State) : State :=
  let d := s.draw 79 256
  let e := (d.2.logEntry d.1 0xFF 0 0 0 0 0).draw 79 256
  e.2.logEntry e.1 0xFF 0 0 0 0 0

/-- A reset of the Saggar (R376, R378, R393, R408, R410): the block is loaded from NOR and checked. -/
def State.resetSaggar (s : State) : State :=
  let blk := s.sag.loaded
  let s := if s.sag.nor.isSome ∧ blk.isNone then s.logCheck else s
  let s := { s with sag := { safeEn := s.sag.safeEn, enFell := s.sag.enFell, sin := s.sag.sin, nor := s.sag.nor, block := blk,
                             comm := if blk.isSome then .commissioned else .uncommissioned } }
  let s := (List.range 4).foldl (fun (s : State) n => (s.freshFn false n).freshFn true n) s
  s.refreshSsl

/-! ### Packets (R404 to R414) -/

/-- Byte fields of function n and reserved bytes of the block (Table 09-5, R404). -/
def fnOk (blk : List Byte) (n : Nat) : Bool :=
  let ty := fnType blk n
  decide (ty ≤ 3 ∧ fnMode blk n ≤ 1 ∧ fnSbc blk n ≤ 3 ∧ fnSdc blk n ≤ 3 ∧ byteAt blk (21 + 16 * n) = 0
      ∧ 5 ≤ fnFilt blk n ∧ fnFilt blk n ≤ 80 ∧ 10 ≤ fnDisc blk n ∧ fnDisc blk n ≤ 1000) && zeros blk (28 + 16 * n) 4 &&
    (if ty = 2 then decide (10 ≤ fnTss1 blk n ∧ fnTss1 blk n ≤ 10000) else decide (fnTss1 blk n = 0)) &&
    (decide (ty ≠ 3) || (decide (fnSdc blk n ≠ 0) &&
      (bitsOf 8 (fnBmask blk n)).all fun b => !(blkRoles blk b).testBit 1 && !(blkRoles blk b).testBit 2)) &&
    (decide (ty ≠ 0) || decide (fnBmask blk n = 0 ∧ fnSbc blk n = 0 ∧ fnSdc blk n = 0))

/-- The block is in range (R403, R404). -/
def blockOk (blk : List Byte) : Bool :=
  decide (le blk 0 2 = 1) && zeros blk 2 2 && zeros blk 8 8 && (List.range 4).all (fnOk blk) &&
    ((List.range 8).all fun b => decide (blkRoles blk b < 32) && decide (blkSdcOut blk b ≤ 1 ∨ blkSdcOut blk b = 0xFF)
      && zeros blk (82 + 4 * b) 2) &&
    ((List.range 2).all fun n => decide (blkSbcDly blk n ≤ 10000) && zeros blk (114 + 4 * n) 2) && zeros blk 120 8

/-- The block names a bridge that is not fitted. -/
def State.blockAbsent (s : State) (blk : List Byte) : Bool :=
  (List.range 8).any fun b => decide (s.fitBridges ≤ b) &&
    (decide (blkRoles blk b ≠ 0) || (List.range 4).any fun n => (fnBmask blk n).testBit b)

def State.safetyFault (s : State) : Bool := s.sag.sfault || s.sag.xfault

/-- SAFE_STAGE (R404, R407, R412). -/
def effSafeStage (t : Ticket) (p : Pkt) (s : State) : State :=
  if (s.bridgesWhere fun b => b.state.beyondArmed) ≠ [] then s.ends t .stateRefused
  else if s.safetyFault then s.ends t .safetyLocked
  else if ¬ prmZero p 0 40 ∨ ¬ blockOk p.payload then s.ends t .badField
  else if s.blockAbsent p.payload then s.ends t .unitAbsent
  else
    (({ s with sag := { s.sag with staged := some p.payload } }).setComm .staged).answer t
      { r0 := BitVec.ofNat 32 (crc32c p.payload) }

/-- SAFE_CONFIRM (R406, R412): the window of 5 s opens. -/
def effSafeConfirm (t : Ticket) (p : Pkt) (s : State) : State :=
  let crc := crc32c (s.sag.staged.getD [])
  if s.safetyFault then s.ends t .safetyLocked
  else if ¬ prmZero p 4 36 then s.ends t .badField
  else if prm32 p 0 ≠ crc then s.answer t { status := .badField, r0 := BitVec.ofNat 32 crc }
  else
    let s := { s with sag := { s.sag with
      confirm := some (t, s.now + secSteps 5), chA := { s.sag.chA with toggles := 0 }, chB := { s.sag.chB with toggles := 0 } } }
    s.setComm .confirmed

/-- Bits of the functions of a channel that meet a test. -/
def Channel.mask (c : Channel) (p : SafeFn → Bool) : Nat := (List.range 4).foldl (fun a n => if p (vget c.fn n) then a + 2 ^ n else a) 0

/-- `SAG_STATUS` in a channel's view (Table 09-7). -/
def State.sagStatus (s : State) (c : Channel) : Word :=
  word [(s.sag.comm.code, 0), (bit s.sag.sfault, 3), (bit s.sag.xfault, 4), (bit s.sag.safeEn, 5), (c.mask (·.tested), 8),
        (c.mask (·.demanded), 12), (c.mask (·.latch), 16), (c.mask (·.disc), 20), (s.sag.sslRun.toNat, 24)]

/-- `SAG_OUT` (Table 09-8). -/
def State.sagOut (s : State) : Word :=
  word [(bit (s.sbcOn 0), 0), (bit (s.sbcOn 1), 1), (bit (s.sdcOn 0), 2), (bit (s.sdcOn 1), 3), (s.sag.sbcReq.toNat, 4),
        (satCount s.sag.clrRef, 16)]

/-- `SAG_CRC` (Table 09-9). -/
def State.sagCrc (s : State) : Word :=
  if s.sag.comm = .uncommissioned then 0 else match s.sag.block with | some b => BitVec.ofNat 32 (crc32c b) | none => 0

/-- SAFE_STATUS (R413). -/
def effSafeStatus (t : Ticket) (_ : Pkt) (s : State) : State :=
  s.answer t { r0 := s.sagStatus s.sag.chA, r1 := s.sagOut, extra := s.sagCrc }

/-- SAFE_OUTPUT (R410). -/
def effSafeOutput (t : Ticket) (p : Pkt) (s : State) : State :=
  if 3 < prm p 0 ∨ ¬ prmZero p 1 39 then s.ends t .badField
  else ({ s with sag := { s.sag with sbcReq := BitVec.ofNat 2 (prm p 0) } }).ends t .done

/-- SAFE_READ (R414). -/
def effSafeRead (t : Ticket) (p : Pkt) (s : State) : State :=
  let b := if prm p 0 = 0 then s.sag.block else s.sag.staged
  if 1 < prm p 0 ∨ ¬ prmZero p 1 39 then s.ends t .badField
  else match b with | some bs => s.answer t { payload := bs } | none => s.ends t .badField

/-- SAFE_REQUEST (R409, R412). -/
def effSafeRequest (t : Ticket) (p : Pkt) (s : State) : State :=
  if 15 < prm p 0 ∨ 1 < prm p 1 ∨ ¬ prmZero p 2 38 then s.ends t .badField
  else if prm p 1 = 0 ∧ s.safetyFault then s.ends t .safetyLocked
  else
    (s.forEach ((bitsOf 4 (prm p 0)).filter fun n => fnType s.blk n ≠ 0) fun s n =>
      (s.modFn false n fun f => { f with request := decide (prm p 1 = 1) }).judgeDemand false n).ends t .done

/-! ### Events -/

/-- SIN_FILTERED_CHANGE (R376, R386, R393, R394). -/
def evSinFilteredChange (chB : Bool) (sin : Fin 8) (level : Bool) (s : State) : State :=
  let n := sin.val / 2
  let s := { s with sag := { s.sag with sin :=
    if level then s.sag.sin ||| BitVec.ofNat 8 (2 ^ sin.val) else s.sag.sin &&& ~~~ BitVec.ofNat 8 (2 ^ sin.val) } }
  let s := s.modFn chB n fun f =>
    let f := if sin.val % 2 = 0 then { f with inA := some level } else { f with inB := some level }
    if fnType s.blk n = 0 then f else f.note (fnMode s.blk n) s.now
  (s.judgeDemand chB n).refreshSsl

/-- A discrepancy latch is set; channel A puts the function's bridges beyond ARMED into SAFE (R394, Table 09-4). -/
def State.setDisc (s : State) (chB : Bool) (n : Nat) : State :=
  if (s.safeFn chB n).disc then s
  else
    let s := s.modFn chB n fun f => { f with disc := true, discOpened := false, discClear := false }
    if chB then s
    else s.forEach ((s.fnBridges n).filter fun b => (s.bridge b).state.beyondArmed) fun s b => s.enterSafe b (0x0808 + n)

/-- DISCREPANCY_LATCH (R394). -/
def evDiscrepancyLatch (chB : Bool) (f : Fin 4) (s : State) : State :=
  match (s.safeFn chB f).discSince with
  | some t0 =>
    let d := s.sagTime chB (msSteps (fnDisc s.blk f))
    ((d.2.advanceTo (t0 + d.1)).setDisc chB f).refreshSsl
  | none => s

/-- SS1_SAFE_INSTANT (R387). -/
def evSs1SafeInstant (chB : Bool) (f : Fin 4) (s : State) : State :=
  match (s.safeFn chB f).safeAt with
  | some d =>
    let s := (s.advanceTo d).passSafe chB f
    (if chB then s else s.forEach (s.fnBridges f) fun s b => s.enterSafe b (0x0804 + f.val)).refreshSsl
  | none => s

/-- Instants at which an SBC output's delays end in a channel. -/
def Channel.sbcDues (c : Channel) (o : Nat) : List Nat :=
  ((List.range 4).filterMap fun n => vget (vget c.fn n).sbcDue o) ++ (vget c.sbcAt o).toList

/-- SBC_DELAY_EXPIRY (R392): the earliest delay of the output in the channel ends. -/
def evSbcDelayExpiry (chB : Bool) (out : Fin 2) (s : State) : State :=
  match (s.channel chB).sbcDues out with
  | [] => s
  | d :: ds =>
    let s := s.advanceTo (ds.foldl min d)
    let past (x : Option Nat) : Bool := match x with | some t => decide (t ≤ s.now) | none => false
    s.modChannel chB fun c => { c with
      sbcLost := if past (vget c.sbcAt out) then vset c.sbcLost out true else c.sbcLost,
      sbcAt := if past (vget c.sbcAt out) then vset c.sbcAt out none else c.sbcAt,
      fn := c.fn.map fun (f : SafeFn) =>
        if past (vget f.sbcDue out) then { f with sbcPast := vset f.sbcPast out true, sbcDue := vset f.sbcDue out none } else f }

/-- SAFE_EN_FALL (R299): STATREQ goes to every booster whose link holds a latch; STATUS frames count as later than the edge
from now on. -/
def evSafeEnFall (s : State) : State :=
  let s := { s with sag := { s.sag with safeEn := false, enFell := if s.sag.safeEn then s.now else s.sag.enFell } }
  s.forEach (List.range 24) fun s g =>
    let s := s.modLink g fun l => { l with status := l.status.map fun b => { b with afterFall := false } }
    if (s.link g).latched then s.sendDown g statreqType [] else s

/-- A channel may clear the latches of function n at a toggle (R397). -/
def State.mayClear (s : State) (chB : Bool) (n : Nat) : Bool :=
  let f := s.safeFn chB n
  f.closed (fnMode s.blk n) && !f.request && (!f.disc || f.discClear) && f.safeAt.isNone

def SafeFn.latched (f : SafeFn) : Bool := f.latch || f.disc

/-- The latches of a function clear. -/
def SafeFn.clear (f : SafeFn) : SafeFn :=
  { f with latch := false, disc := false, discOpened := false, discClear := false, safePassed := false,
           sbcDue := Vector.replicate 2 none, sbcPast := Vector.replicate 2 false }

/-- The decision of the two channels about function n at a toggle (R397, R398): which channels take it, refused clears. -/
def State.clearFn (s : State) (takenA takenB : Bool) (n : Nat) : State :=
  if fnType s.blk n = 0 then s
  else
    let okA := s.mayClear false n
    let okB := s.mayClear true n
    let refused := (takenA && (s.safeFn false n).latched && !okA) || (takenB && (s.safeFn true n).latched && !okB)
    let s := if takenA ∧ okA then s.modFn false n SafeFn.clear else s
    let s := if takenB ∧ okB then s.modFn true n SafeFn.clear else s
    if refused then ({ s with sag := { s.sag with clrRef := satCount (s.sag.clrRef + 1) } }).logEntry 4 0xFF n 0 0 0 0 else s

/-- A channel takes the toggle that ends now (R395): every one of 10 µs or longer, none shorter than 9 µs, and between the
two as `may` says. With SAFE_EN high there is no low phase to end. -/
def State.takesToggle (s : State) (may : Bool) : Bool :=
  !s.sag.safeEn && (decide (s.sag.enFell + 80000 ≤ s.now) || (may && decide (s.sag.enFell + 72000 ≤ s.now)))

/-- A toggle that a channel takes within the window of `SAFE_CONFIRM` counts there (R406). -/
def State.countToggle (s : State) (chB taken : Bool) : State :=
  let inWindow := match s.sag.confirm with | some (_, d) => decide (s.now ≤ d) | none => false
  s.modChannel chB fun c => { c with toggles := c.toggles + bit (taken && inWindow) }

/-- The write of the block, once both channels have taken two toggles (R406, R651). -/
def State.commitQueued (s : State) : State :=
  if s.sag.confirm.isSome ∧ 2 ≤ s.sag.chA.toggles ∧ 2 ≤ s.sag.chB.toggles ∧ ¬ s.svcs.norQueue.contains .block then s.queueNor .block
  else s

/-- SAFE_EN_TOGGLE (R395 to R398, R245, R299 to R301, R406): the rising edge after a low phase; `mayA` and `mayB` say which
channels take a low phase of 9 µs to 10 µs; the trip pins show the given levels. -/
def evSafeEnToggle (mayA mayB : Bool) (tripPins : Byte) (s : State) : State :=
  let takenA := s.takesToggle mayA
  let takenB := s.takesToggle mayB
  let s := ((s.countToggle false takenA).countToggle true takenB).commitQueued
  let s := { s with sag := { s.sag with safeEn := true } }
  let s := s.forEach (List.range 8) fun s k => s.modTrip k fun t => { t with pin := tripPins.getLsbD k }
  let s := s.forEach (List.range 4) fun s n => s.clearFn takenA takenB n
  let s := if takenA then s.forEach (List.range 8) State.clearBridge else s
  s.refreshSsl

/-- BLOCK_COMMIT (R406, R651): both channels took two toggles within the window, and the write to NOR, whose turn it was, ends. -/
def evBlockCommit (ok : Bool) (s : State) : State :=
  match s.sag.confirm, s.sag.staged, s.svcs.norQueue with
  | some (t, _), some blk, .block :: rest =>
    if s.sag.comm = .confirmed ∧ 2 ≤ s.sag.chA.toggles ∧ 2 ≤ s.sag.chB.toggles then
      let old := s.blk
      let s := ({ s with sag := { s.sag with confirm := none } }).modSvc fun v => { v with norQueue := rest }
      if ok then
        let s := { s with sag := { s.sag with nor := some (blk, BitVec.ofNat 32 (crc32c blk)), block := some blk } }
        let s := s.forEach (numbers 4 fun n => fnType blk n ≠ fnType old n ∨ fnMode blk n ≠ fnMode old n) fun s n =>
          (s.freshFn false n).freshFn true n
        (s.setComm .commissioned).ends t .done
      else (s.setComm .staged).ends t .internalFault
    else s
  | _, _, _ => s

/-- CONFIRM_WINDOW_EXPIRY (R406). -/
def evConfirmWindowExpiry (s : State) : State :=
  match s.sag.confirm with
  | some (t, d) =>
    if s.sag.comm = .confirmed ∧ ¬ (2 ≤ s.sag.chA.toggles ∧ 2 ≤ s.sag.chB.toggles) then
      let s := s.advanceTo d
      (({ s with sag := { s.sag with confirm := none } }).setComm .staged).ends t .timedOut
    else s
  | none => s

/-- SBC outputs lose a channel's permission, then both channels', `SBC_DLY` after a fault (R392, R401). -/
def State.faultSbcIn (s : State) (chB : Bool) : State :=
  let d0 := s.sagTime chB (s.sbcDelay 0)
  let d1 := d0.2.sagTime chB (s.sbcDelay 1)
  d1.2.modChannel chB fun c => { c with
    sbcAt := Vector.ofFn fun o : Fin 2 =>
      if vget c.sbcLost o.val ∨ s.sbcDelay o.val = 0 then none
      else some ((vget c.sbcAt o.val).getD (s.now + if o = 0 then d0.1 else d1.1)),
    sbcLost := Vector.ofFn fun o : Fin 2 => vget c.sbcLost o.val || decide (s.sbcDelay o.val = 0) }

def State.faultSbc (s : State) : State := (s.faultSbcIn false).faultSbcIn true

/-- A cross-channel fault (R383, R401). -/
def State.crossFault (s : State) : State :=
  if s.sag.xfault then s else ((({ s with sag := { s.sag with xfault := true } }).faultSbc).refreshSsl).allSafe 0x0811

/-- What the exchange word shows of a function, but for the instants that depend on the channels' own clocks (log 25). -/
def SafeFn.view (f : SafeFn) : Option Bool × Option Bool × Bool × Bool × Bool × Bool :=
  (f.inA, f.inB, f.demanded, f.latch, f.disc, f.tested)

/-- SAG_EXCHANGE (R382, R383, R394, R409): received, or missed; channel A sends nothing after a lockstep mismatch. -/
def evSagExchange (received : Bool) (s : State) : State :=
  if received ∧ ¬ s.sag.lockstep then
    let differ := (List.range 4).any fun n => (s.safeFn false n).view ≠ (s.safeFn true n).view
    let s := { s with sag := { s.sag with missed := 0, differ := if differ then s.sag.differ + 1 else 0 } }
    let s := s.forEach (List.range 4) fun s n =>
      let s := if (s.safeFn true n).disc then s.setDisc false n else s
      let s := if (s.safeFn false n).disc then s.setDisc true n else s
      (s.modFn true n fun f => { f with request := (s.safeFn false n).request }).judgeDemand true n
    (if 3 ≤ s.sag.differ then s.crossFault else s).refreshSsl
  else
    let s := { s with sag := { s.sag with missed := s.sag.missed + 1 } }
    if 3 ≤ s.sag.missed then s.crossFault else s

/-- SAGGAR_INTERNAL_FAULT (R379, R381, R401). -/
def evSaggarInternalFault (s : State) : State :=
  if s.sag.sfault then s else ((({ s with sag := { s.sag with sfault := true } }).faultSbc).refreshSsl).allSafe 0x0812

/-- LOCKSTEP_MISMATCH (R401): the PWM of every bridge is disabled at once. -/
def evLockstepMismatch (s : State) : State := ({ s with sag := { s.sag with lockstep := true } }).allSafe 0x0813

end Sys2Proof.Machine
end

