-- ==== Sys2Proof/Machine/Duplex.lean ====
section
/-! DEFINITION. Duplex operation (14 R590 to R613): roles, health, mirroring, handover, takeover, and the packets of class
DUPLEX that concern the pair. -/

namespace Sys2Proof.Machine

def State.modDpx (s : State) (f : Duplex → Duplex) : State := { s with dpx := f s.dpx }

/-! ### Settings (Table 14-8) -/

def State.partner (s : State) : Nat := field s.dpxCfg 5 2
/-- This device drives booster input B. -/
def State.inputB (s : State) : Bool := s.dpxCfg.testBit 1
def State.takeSafe (s : State) (b : Nat) : Bool := (s.dpxCfg / 65536).testBit b

/-- Duplex is in force (R591). -/
def State.duplexInForce (s : State) : Bool :=
  s.hasDuplex && s.dpxCfg.testBit 0 && s.ringEn && decide (s.partner ≠ s.nodeId)

/-! ### Health and `NO_STANDBY` (R597, R613) -/

/-- The Saggar toggles the SSL line of every duplexed bridge. -/
def State.sslAll (s : State) : Bool := s.duplexedBridges.all s.sag.sslRun.getLsbD

/-- The health word of R613. -/
def State.healthWord (s : State) : Word :=
  word [(bit (!s.flt.conesFail), 0), (bit (!s.dpx.outOfStep), 1), (bit s.sslAll, 2), (bit s.ring.aligned, 3),
        (s.flt.lastFail, 8), (satCount s.flt.rounds, 16)]

/-- The committed safety check value. -/
def State.safetyCheck (s : State) : Word := match s.sag.nor with | some (_, c) => c | none => 0

/-- Gate links of the duplexed bridges on this device are live. -/
def State.linksLive (s : State) : Bool := s.duplexedBridges.all fun b => (s.linksOf b).all fun g => (s.link g).state = .live

/-- The bits of Table 14-10 on this device. What only the partner's messages say is as last received. -/
def State.reasonBits (s : State) : Nat :=
  let p := s.node s.partner
  let d := s.dpx
  let want : DpxRole := if d.role = .standby then .active else .standby
  let pAligned := (byteAt p.beat 0).testBit 2
  let pRing := decide (byteAt p.record 1 % 4 = 2)
  let links := if s.inputB then s.linksLive else d.partnerLinks
  bit (!p.heard) + 2 * bit (decide (d.partnerRole ≠ want))
    + 4 * bit (!(s.ring.aligned && pAligned && decide (s.time.src = 2) && pRing))
    + 8 * bit (decide (d.partnerCheck ≠ s.safetyCheck)) + 16 * bit (!d.partnerHealth.getLsbD 2)
    + 32 * bit (!d.partnerHealth.getLsbD 0 || d.partnerNeeds) + 64 * bit d.outOfStep + 128 * bit (!links)

/-- `REASONS` evaluated on the active and the standby; `NO_STANDBY` on the active, each change an event (R597). -/
def State.judgeStandby (s : State) : State :=
  if s.dpx.role ≠ .active ∧ s.dpx.role ≠ .standby then s
  else
    let r := s.reasonBits
    let no := decide (s.dpx.role = .active) && decide (r ≠ 0)
    let was := s.dpx.noStandby
    let s := s.modDpx fun d => { d with reasons := BitVec.ofNat 8 r, noStandby := no }
    if no = was then s else s.report 0x0E 0 (bit no)

/-- Bits 2 to 7 of the device's own view are clear. -/
def State.fit (s : State) : Bool := decide (s.reasonBits / 4 = 0)

/-! ### Roles (R592, R593) -/

/-- A role is taken; outside handover and takeover only ACTIVE asserts `OWN`. -/
def State.setDuplexRole (s : State) (r : DpxRole) : State :=
  let no := s.dpx.noStandby && decide (r = .active)
  let s := if s.dpx.noStandby && !no then s.report 0x0E 0 0 else s
  let s := s.modDpx fun d => { d with
    role := r, noStandby := no, pairSince := if r = .pairing then s.now else d.pairSince,
    takeoverAt := if r = .active then d.takeoverAt else none }
  s.forEach s.duplexedBridges fun s b => s.modB b fun br => { br with own := decide (r = .active) }

/-- RING_INSERTED (R572, R592, Table 13-14): heartbeats start, link delays are measured, and a device with duplex in force
pairs. -/
def evRingInserted (closed : Bool) (s : State) : State :=
  if ¬ s.ring.relays ∨ s.ring.insertBy.isNone then s
  else
    let st := if closed ∧ ¬ s.isRetired 4 0 ∧ ¬ s.isRetired 4 1 then RingState.ring else RingState.line
    let s := s.modRing fun r => { r with
      state := st, closed := closed, insertBy := none, noBetter := some s.now, reqDue := s.now, retrain := Vector.replicate 2 false }
    if s.duplexInForce ∧ s.dpx.role = .none then s.setDuplexRole .pairing else s

/-- PAIRING_TIMEOUT (R592). -/
def evPairingTimeout (s : State) : State :=
  if s.dpx.role ≠ .pairing then s
  else
    let s := s.advanceTo (s.dpx.pairSince + msSteps 100)
    if s.dpx.partnerRole = .active ∧ s.dpx.heard then s
    else if ¬ s.inputB ∨ ¬ (s.node s.partner).known then (s.setDuplexRole .active).judgeStandby
    else s

/-- STATE_TRANSFER_DONE (R592, R594). -/
def evStateTransferDone (s : State) : State :=
  if s.dpx.role = .pairing ∧ s.dpx.partnerRole = .active then (s.setDuplexRole .standby).judgeStandby else s

/-! ### Mirroring (R562, R599) -/

/-- The hand-off record of 32 bytes at an offset (Table 02-4). -/
def handOffAt (r : List Byte) (o : Nat) : HandOff :=
  { v1a := q15At r o, v1b := q15At r (o + 2), v2a := q15At r (o + 4), v2b := q15At r (o + 6), vha := q15At r (o + 8),
    vhb := q15At r (o + 10), w := BitVec.ofNat 32 (le r (o + 12) 4), theta := BitVec.ofNat 16 (le r (o + 16) 2),
    ihard := q15At r (o + 18), flags := BitVec.ofNat 16 (le r (o + 20) 2), seq := BitVec.ofNat 16 (le r (o + 22) 2),
    tn := BitVec.ofNat 64 (le r (o + 24) 8) }

def phaseOf (k : Nat) : StartPhase :=
  match k with
  | 1 => .classify | 2 => .holdoff | 3 => .closeDead | 4 => .ramp | 5 => .waitLive | 6 => .presync | 7 => .closeLive
  | 8 => .retryWait | _ => .none

def stateOf (k : Nat) : BState :=
  match k with | 1 => .armed | 2 => .precharge | 3 => .running | 4 => .limiting | 5 => .safe | 6 => .retired | _ => .offline

/-- The engine's part of a record is loaded (Table 14-9a). -/
def GfEngine.loadMirror (e : GfEngine) (r : List Byte) (now : Nat) : GfEngine :=
  let q (o : Nat) := ofPu (q15At r o)
  let last := le r 222 2
  { e with
    w := BitVec.ofNat 32 (le r 192 4), wf := (le r 196 4 : Nat) / 0x40000000, theta := BitVec.ofNat 32 (le r 200 4),
    e := q 204, xv := q 206, pf := q 208, qf := q 210, dR := q 212, dX := q 214, dRneg := q 216, r := q 218, pSet := q 220,
    phase := phaseOf (last / 0x1000), limAt := now - msSteps 10 * (last % 0x800),
    latch := handOffAt r 160 :: e.latch.take 1 }

/-- The context's part of a record is loaded. -/
def LoopContext.loadMirror (c : LoopContext) (r : List Byte) : LoopContext :=
  { c with
    xh := Vector.ofFn fun k : Fin 16 => q15At r (64 + 2 * k.val), z := Vector.ofFn fun k : Fin 8 => BitVec.ofNat 32 (le r (96 + 4 * k.val) 4),
    r := Vector.ofFn fun k : Fin 8 => q15At r (128 + 2 * k.val), u := Vector.ofFn fun k : Fin 8 => q15At r (144 + 2 * k.val) }

/-- The compares and the `PER` of a record stand in the shadow group for the next commit point. -/
def PwmGen.loadMirror (w : PwmGen) (r : List Byte) (links now : Nat) : PwmGen :=
  let cmp : Vector (Option Nat) 12 := Vector.ofFn fun k : Fin 12 => if k.val < links then some (le r (12 + 4 * k.val) 4) else none
  { w with shadow := { per := some (le r 60 4), cmp := cmp, after := Vector.replicate 12 true, requested := some (now - 512) } }

/-- The standby takes a record: contexts, engine and compares; the final record of a handover sets its instants (R602). The
record does not name t_d: how long it was under way, less than 8 µs, is free (place 82, log 42). -/
def State.takeMirror (s : State) (r : List Byte) : State :=
  let b := byteAt r 0 % 8
  if byteAt r 0 = 0xFF ∨ ¬ s.duplexed b ∨ s.dpx.role ≠ .standby then s
  else
    let seq := le r 2 2
    let gap := match vget s.dpx.heardSeq b with | some h => (seq + 65536 - h.toNat - 1) % 65536 | none => 0
    let s := s.modDpx fun d => { d with
      mirror := vset d.mirror b r, mirrorAt := some s.now, heardSeq := vset d.heardSeq b (some (BitVec.ofNat 16 seq)),
      lost := satCount (d.lost + gap) }
    let s := match (s.bridge b).lc with | some k => s.modLc k fun c => c.loadMirror r | none => s
    let s := match s.role b, (s.bridge b).gf with
      | some .form, some g => s.modGf g fun e => e.loadMirror r s.now
      | _, _ => s
    let s := s.modPwm b fun w => w.loadMirror r (s.linksOf b).length s.now
    if (byteAt r 0).testBit 7 ∧ s.fit then
      let (way, s) := s.draw 82 (usSteps 8)
      let td := s.now - way
      let c1 := (s.pwm b).commitAfter (td + usSteps 8)
      s.modB b fun br => { br with handover := some (Handover.mk td c1 (c1 + usSteps 8) false false) }
    else s

/-- MIRROR_FRAME (R562, R599): the places of the ring cycle the frame belongs to, the present one of this node. -/
def evMirrorFrame (nb : Bool) (src hops : BitVec 4) (payload : List Byte) (s : State) : State :=
  if ¬ s.ring.inserted ∨ src.toNat = s.nodeId then s
  else if ¬ s.duplexInForce ∨ src.toNat ≠ s.partner then s.forward nb 5 src.toNat hops.toNat payload
  else if s.ns / 5000 % 2 = 0 then
    let s := (s.takeMirror (slice payload 0 256)).takeMirror (slice payload 256 256)
    s.modDpx fun d => { d with heardHalf := slice payload 512 128 }
  else
    let half := s.dpx.heardHalf
    let s := s.modDpx fun d => { d with heardHalf := [] }
    let s := if half = [] then s else s.takeMirror (half ++ slice payload 0 128)
    (s.takeMirror (slice payload 128 256)).takeMirror (slice payload 384 256)

/-! ### Handover (R601 to R604) -/

/-- The standby's units of a bridge run from the mirrored state. -/
def State.runMirrored (s : State) (b : Nat) : State :=
  let r := vget s.dpx.mirror b
  let st := stateOf (byteAt r 1)
  let s := s.modB b fun br => { br with state := st, start := none }
  let s := match (s.bridge b).lc with
    | some k => if st.switching then s.modLc k fun c => { c with state := .running, samples := 0, committed := true, due := [] } else s
    | none => s
  match s.role b, (s.bridge b).gf with
  | some .form, some g =>
    if st.switching then s.turnGf g fun e => { e with
      state := if (le r 222 2).testBit 11 then .limiting else if e.phase ≠ .none then .starting else .forming } else s
  | _, _ => s

/-- `DPX_SWITCH` (R601, R602, R611). -/
def effDpxSwitch (t : Ticket) (_ : Pkt) (s : State) : State :=
  if s.dpx.noStandby then s.ends t .stateRefused
  else if s.dpx.handover.isSome then s.ends t .busyRetry
  else (s.startHandover none).modDpx fun d => { d with switchBy := some t }

/-- HANDOVER_COMMIT (R602 steps 2, 3 and 5): at c1 the standby has committed the frozen compares, claims the bridge and runs
its context. -/
def evHandoverCommit (b : Fin 8) (s : State) : State :=
  match (s.bridge b).handover with
  | some h =>
    if s.dpx.role ≠ .standby ∨ h.claimed then s
    else
      let s := s.advanceTo h.c1
      let s := s.modPwm b fun w => if w.shadow.requested.isSome then w.transfer else w
      let s := s.modDpx fun d => { d with claims := d.claims ||| BitVec.ofNat 8 (2 ^ b.val) }
      (s.runMirrored b).modB b fun br => { br with handover := some { h with claimed := true }, dutyFrom := h.th + usSteps 2 }
  | none => s

/-- HANDOVER_OWN (R602 step 4): the standby asserts `OWN` from t_h on; the active, once claimed, drops it 100 ns later. -/
def evHandoverOwn (b : Fin 8) (s : State) : State :=
  match (s.bridge b).handover with
  | some h =>
    if ¬ h.claimed then s
    else if s.dpx.role = .standby then (s.advanceTo h.th).modB b fun br => { br with own := true }
    else (s.advanceTo (h.th + 800)).modB b fun br => { br with own := false }
  | none => s

/-- Every booster of every duplexed bridge reports the input of this device followed, or the other one (status bit [7]). -/
def State.allFollow (s : State) (mine : Bool) : Bool :=
  let want := if mine then s.inputB else !s.inputB
  s.duplexedBridges.all fun b => (s.linksOf b).all fun g =>
    match (s.link g).status with | some st => st.status.getLsbD 7 = want | none => false

/-- The roles change (R604), on the former active and on the former standby. -/
def State.roleChange (s : State) : State :=
  match s.dpx.handover with
  | some (_, why) =>
    if s.allFollow false then
      let by_ := s.dpx.switchBy
      let s := s.forEach s.duplexedBridges fun s b => s.modB b fun br => { br with handover := none }
      let s := s.forEach s.duplexedBridges fun s b => s.forEach (s.linksOf b) fun s g => s.modLink g fun l => { l with frozen := false }
      let s := s.forEach s.duplexedBridges fun s b => s.enterSafe b 0x0E01
      let s := s.modDpx fun d => { d with handover := none, switchBy := none, switches := satCount (d.switches + 1) }
      let s := (s.setDuplexRole (if by_.isSome then .standby else .relinquished)).logEntry 5 0xFF 0 0x0E01 0 0 0
      (match by_ with | some t => s.ends t .done | none => s).retireServed why
    else s
  | none =>
    let mine := s.duplexedBridges
    if s.dpx.role = .standby ∧ mine ≠ [] ∧ (mine.all fun b => match (s.bridge b).handover with | some h => h.claimed | none => false)
        ∧ s.allFollow true then
      let s := s.forEach mine fun s b => s.modB b fun br => { br with handover := none }
      let s := s.modDpx fun d => { d with claims := 0, switches := satCount (d.switches + 1) }
      ((s.setDuplexRole .active).logEntry 5 0xFF 0 0 0 0 0).judgeStandby
    else s

/-- HANDOVER_ABANDON (R604): no claim has arrived within 1 ms. -/
def evHandoverAbandon (s : State) : State :=
  match s.dpx.handover with
  | some (td, why) =>
    if s.dpx.partnerClaims ≠ 0 then s
    else
      let by_ := s.dpx.switchBy
      let s := s.advanceTo (td + msSteps 1)
      let s := s.forEach s.duplexedBridges fun s b =>
        (s.modB b fun br => { br with handover := none }).forEach (s.linksOf b) fun s g => s.modLink g fun l => { l with frozen := false }
      let s := s.modDpx fun d => { d with handover := none, switchBy := none }
      let s := match by_ with | some t => s.ends t .timedOut | none => s
      match why with
      | some c => s.retire c.kind c.unit.toNat
      | none => s
  | none => s

/-! ### Loss of the active (R606 to R608) -/

/-- A takeover starts (R607): steps 1 and 2, or SAFE on a device that is not fit. -/
def State.startTakeover (s : State) : State :=
  if s.dpx.role ≠ .standby then s
  else if ¬ s.fit then s.forEach s.duplexedBridges fun s b => s.enterSafe b 0x0E03
  else
    let bs := s.duplexedBridges
    let s := s.forEach bs fun s b =>
      match (s.bridge b).defn with
      | some d =>
        let s := (s.drivePattern b d.safe false 0).modB b fun br => { br with own := true, handover := none }
        if h : b < 8 then s.download b d.safe fun _ => AckFor.pattern ⟨b, h⟩ else s
      | none => s
    (s.modDpx fun d => { d with takeover := bs, takeoverAt := some s.now, switches := satCount (d.switches + 1) }).logEntry 6 0xFF 0 0 0 0 0

/-- A bridge whose boosters have all acknowledged: its context starts from the latest record, or it enters SAFE (R607). -/
def State.takeBridge (s : State) (b : Nat) : State :=
  if s.takeSafe b then s.enterSafe b 0x0E02 else s.runMirrored b

/-- After an acknowledgement: bridges of a takeover that await none any more; with the last the role changes. -/
def State.takeoverAcks (s : State) : State :=
  if s.dpx.takeover = [] then s
  else
    let done := s.dpx.takeover.filter fun b => (s.linksOf b).all fun g => (s.link g).acks.isEmpty
    let s := s.modDpx fun d => { d with takeover := d.takeover.filter fun b => !done.contains b }
    let s := s.forEach done State.takeBridge
    if s.dpx.takeover = [] then (s.setDuplexRole .active).judgeStandby else s

/-- STAND_DOWN (R608): a gate link of a duplexed bridge still reports the partner's input 100 µs after a takeover. -/
def evStandDown (g : Fin 24) (s : State) : State :=
  match s.dpx.takeoverAt, s.ownerOf g with
  | some at_, some b =>
    let other : Bool := match (s.link g).status with | some st => st.status.getLsbD 7 ≠ s.inputB | none => false
    if ¬ s.duplexed b ∨ other = false then s
    else
      let s := s.advanceTo (at_ + usSteps 100)
      let s := s.forEach s.duplexedBridges fun s c =>
        match (s.bridge c).defn with | some d => s.drivePattern c d.safe false 0 | none => s
      let s := s.modDpx fun d => { d with takeover := [], takeoverAt := none }
      (s.setDuplexRole .pairing).logEntry 7 3 g 0 0 0 0
  | _, _ => s

/-- NODE_LOST (R565, R597, R607). -/
def evNodeLost (node : Fin 16) (s : State) : State :=
  if ¬ (s.node node).heard ∨ ¬ s.ring.inserted then s
  else
    let s := s.loseNode node
    if s.duplexInForce ∧ node.val = s.partner then
      let s := (s.modDpx fun d => { d with heard := false, partnerLost := true }).judgeStandby
      s.startTakeover
    else s

/-- The role coded in bits [2:0] (Table 14-9). -/
def dpxRoleOf (c : Nat) : DpxRole :=
  match c % 8 with | 1 => .pairing | 2 => .active | 3 => .standby | 4 => .relinquished | _ => .none

/-- A heartbeat of the partner (R592, R597, R602, R606): its role and claims; `CONTROL_LOST` counts as its loss. -/
def State.partnerBeat (s : State) (payload : List Byte) : State :=
  let c := byteAt payload 2
  let role := dpxRoleOf c
  let lostNow := c.testBit 4
  let wasLost := s.dpx.partnerLost
  let claims : Byte := BitVec.ofNat 8 (byteAt payload 3)
  let s := s.modDpx fun d => { d with heard := true, partnerRole := role, partnerClaims := claims, partnerLost := lostNow }
  let s := if s.dpx.role = .active ∧ s.dpx.handover.isSome then
      s.forEach (numbers 8 claims.getLsbD) fun s b =>
        s.modB b fun br => { br with handover := br.handover.map fun (h : Handover) => { h with claimed := true } }
    else s
  let both : Bool := decide (s.dpx.role = .active) && decide (role = .active) && !lostNow && s.inputB
  let s := if both then s.setDuplexRole .pairing else s
  let s := s.judgeStandby
  if lostNow && !wasLost then s.startTakeover else s

/-- HEARTBEAT_FRAME (R560, R565, R566, R592, R597). -/
def evHeartbeatFrame (nb : Bool) (src hops : BitVec 4) (payload : List Byte) (s : State) : State :=
  if ¬ s.ring.inserted ∨ src.toNat = s.nodeId then s
  else
    let n := src.toNat
    let s := (s.forward nb 3 n hops.toNat payload).heardBeat nb n hops.toNat payload
    if s.duplexInForce ∧ n = s.partner then s.partnerBeat payload else s

/-! ### Forwarded packets (R595) -/

/-- FORWARD_TIMEOUT (R595): the active completes with its own status and sets reason bit 6. -/
def evForwardTimeout (qp : Fin 16) (tag : Half) (s : State) : State :=
  match s.dpx.held.find? fun (h : Ticket × Answer × Nat) => decide (h.1.qp = qp) &&
      (s.qp qp).flights.any fun (f : Flight) => decide (f.id = h.1.id) && decide (f.pkt.tag = tag) with
  | some h =>
    let s := (s.advanceTo h.2.2).modDpx fun d => { d with
      held := d.held.erase h, forwarded := d.forwarded.filter fun (p : Ticket × Option Nat) => p.1 ≠ h.1, outOfStep := true }
    (s.answerNow h.1 h.2.1).judgeStandby
  | none => s

/-- The standby's status of a forwarded packet has come. -/
def State.forwardResult (s : State) (q tag code : Nat) : State :=
  let mine (t : Ticket) : Bool := decide (t.qp.val = q) &&
    (s.qp q).flights.any fun (f : Flight) => decide (f.id = t.id) && decide (f.pkt.tag.toNat = tag)
  match s.dpx.held.find? fun (h : Ticket × Answer × Nat) => mine h.1 with
  | some h =>
    let s := s.modDpx fun d => { d with
      held := d.held.erase h, forwarded := d.forwarded.filter fun (p : Ticket × Option Nat) => p.1 ≠ h.1,
      outOfStep := d.outOfStep || decide (code ≠ h.2.1.status.code) }
    s.answerNow h.1 h.2.1
  | none => s.modDpx fun d => { d with
      forwarded := d.forwarded.map fun (p : Ticket × Option Nat) => if mine p.1 then (p.1, some code) else p }

/-! ### Status (R612, R613) -/

/-- Mirror load in 0.1 MB/s (Table 14-9, R600): 256 bytes at the carrier frequency of every duplexed bridge. -/
def State.mirrorLoad (s : State) : Nat :=
  ((s.duplexedBridges.filter fun b => (s.pwm b).perCfg ≠ 0).map fun b => 256 * 80000 / (2 * (s.pwm b).perCfg)).sum

/-- `DPX_STATUS` and `DPX_MIRROR` (Table 14-9). -/
def State.dpxStatus (s : State) : Word :=
  let d := s.dpx
  word [(d.role.code, 0), (bit d.noStandby, 3), (bit d.heard, 4), (d.reasons.toNat, 8), (satCount d.switches, 16)]
def State.dpxMirror (s : State) : Word := word [(satCount s.mirrorLoad, 0), (satCount s.dpx.lost, 16)]

/-- `DPX_REPORT` (R612). -/
def effDpxReport (t : Ticket) (_ : Pkt) (s : State) : State := s.answer t { r0 := s.dpxStatus, r1 := s.dpxMirror }

/-- `DPX_HEALTH` (R613). -/
def effDpxHealth (t : Ticket) (_ : Pkt) (s : State) : State :=
  let age := match s.dpx.mirrorAt with | some a => (s.now - a) / 8000 | none => 0xFFFFFFFF
  s.answer t { r0 := s.healthWord, r1 := s.dpx.partnerHealth, extra := word [(sat32 age, 0)] }

end Sys2Proof.Machine
end

