-- ==== Sys2Proof/Machine/Service.lean ====
section
/-! DEFINITION. Service (16 R650 to R671): firmware banks, the calibration set, service-thread images, and the NOR writes. -/

namespace Sys2Proof.Machine

/-! ### Firmware banks (R652 to R657, R671) -/

def BankState.code : BankState → Nat
  | .empty => 0 | .loading => 1 | .verified => 2 | .trial => 3 | .good => 4 | .invalid => 5

def State.bank (s : State) (k : Nat) : FwBank := vget s.svcs.banks k
def State.modBank (s : State) (k : Nat) (f : FwBank → FwBank) : State :=
  s.modSvc fun v => { v with banks := vmod v.banks k f }
def State.inactive (s : State) : Nat := 1 - s.svcs.running.val

/-- Largest firmware image: 24 MB. -/
def fwMax : Nat := 24 * 2 ^ 20

/-- `FW_LOAD` (R653): offset 0 erases the bank and puts it in LOADING; the bytes are written to NOR. -/
def effFwLoad (t : Ticket) (p : Pkt) (s : State) : State :=
  let k := s.inactive
  let off := prm32 p 0
  if off % 64 ≠ 0 ∨ fwMax < off + p.len.toNat then s.ends t .badField
  else if off ≠ 0 ∧ (s.bank k).state ≠ .loading then s.ends t .stateRefused
  else
    let s := if off = 0 then s.modBank k fun _ => { state := .loading } else s
    s.queueNor (.fwLoad t k off p.payload)

/-- A `FW_LOAD` whose write is not finished. -/
def State.loadsQueued (s : State) : Bool :=
  s.svcs.norQueue.any fun (w : NorWrite) => match w with | .fwLoad _ _ _ _ => true | _ => false

/-- `FW_VERIFY` (R654): it waits for no write of an earlier `FW_LOAD` but asks to be sent again (DESIGN CHOICE, log 56). -/
def effFwVerify (t : Ticket) (_ : Pkt) (s : State) : State :=
  let k := s.inactive
  let h := Config.fwHeader (s.bank k).image
  if s.loadsQueued then s.ends t .busyRetry
  else if ¬ h.2.2 ∨ h.2.1 < s.svcs.secCounter then (s.modBank k fun b => { b with state := .invalid }).ends t .authFailed
  else (s.modBank k fun b => { b with state := .verified }).answer t { r0 := word [(h.1 % 2 ^ 32, 0)], r1 := word [(h.2.1 % 65536, 0)] }

/-- `FW_ACTIVATE` (R655). -/
def effFwActivate (t : Ticket) (p : Pkt) (s : State) : State :=
  let legal := !(s.bridges.toList.any fun b => b.state.beyondArmed) || s.dpx.role = .standby || s.dpx.role = .relinquished
  if 1 < prm p 0 then s.ends t .badField
  else if prm p 0 = 1 ∧ legal = false then s.ends t .stateRefused
  else s.queueNor (.fwActivate t s.inactive (decide (prm p 0 = 1)))

/-- `FW_CONFIRM` (R657). -/
def effFwConfirm (t : Ticket) (_ : Pkt) (s : State) : State := s.queueNor (.fwConfirm t)

def FwBank.version (b : FwBank) : Nat := if b.state = .empty ∨ b.state = .loading then 0 else (Config.fwHeader b.image).1 % 2 ^ 32

/-- `FW_STATUS` (R671). -/
def effFwStatus (t : Ticket) (_ : Pkt) (s : State) : State :=
  s.answer t { r0 := word [((s.bank 0).state.code, 0), ((s.bank 1).state.code, 4), (s.svcs.running.val, 8), (satCount s.svcs.secCounter, 16)],
               r1 := word [((s.bank s.svcs.running.val).version, 0)], extra := word [((s.bank s.inactive).version, 0)] }

/-- The bank chosen at a reset (R656): a TRIAL bank not booted yet, else the GOOD one, each if its check passes; a TRIAL bank
booted before becomes INVALID. -/
def Service.chooseBank (v : Service) : Service × Bool :=
  let ok (b : FwBank) : Bool := (Config.fwHeader b.image).2.2
  let fresh (k : Fin 2) : Bool := let b := vget v.banks k; decide (b.state = .trial) && !b.booted && ok b
  let good (k : Fin 2) : Bool := let b := vget v.banks k; decide (b.state = .good) && ok b
  let banks := v.banks.map fun (b : FwBank) => if b.state = .trial ∧ b.booted then { b with state := BankState.invalid } else b
  let v1 := { v with banks := banks, trial := false }
  match (List.finRange 2).find? fresh with
  | some k => ({ v1 with running := k, trial := true, banks := vmod banks k fun (b : FwBank) => { b with booted := true } }, true)
  | none =>
    match (List.finRange 2).find? good with
    | some k => ({ v1 with running := k }, true)
    | none => (v1, false)

/-! ### Calibration (R658 to R663, Table 16-2) -/

/-- Range of an entry, and the value at delivery and after a bad check (log 4). -/
def calRange (i : Nat) : Int × Int :=
  if i < 0x30 then (-32768, 32767)
  else if i < 0x60 then (0x3000, 0x5000)
  else if i ≤ 0x61 then (-2000, 2000)
  else if i < 0x64 then (0, 0)
  else if i < 0x7C then (3686, 4506)
  else if i = 0x7C then (-128, 127)
  else if i < 0x7F then (0, 63)
  else if i = 0x7F then (0, 0)
  else (0, 31)

def calSigned (i : Nat) : Bool := decide (i < 0x30) || i = 0x60 || i = 0x61 || i = 0x7C

def calDefault (i : Nat) : Nat :=
  if i < 0x30 then 0
  else if i < 0x60 then 0x4000
  else if i < 0x64 then 0
  else if i < 0x7C then 4096
  else if i = 0x7C then 0
  else if i < 0x7F then 32
  else if i = 0x7F then 0
  else 16

def calEntryOk (i v : Nat) : Bool :=
  let x : Int := if calSigned i then signed 16 v else (v : Nat)
  decide (i < 152) && decide ((calRange i).1 ≤ x) && decide (x ≤ (calRange i).2)

/-- Entry i of the set; the slots' entries stand in the slots. -/
def State.calEntry (s : State) (i : Nat) : Nat :=
  if i < 0x30 then (s.slot i).calO.toNat
  else if i < 0x60 then (s.slot (i - 0x30)).calG.toNat
  else (let v := cellGet 0x10000 i s.svcs.cal; if v < 0x10000 then v else calDefault i)

/-- Entry i written. -/
def State.calPut (s : State) (i v : Nat) : State :=
  if i < 0x30 then s.modSlot i fun x => x.setCal s.now (BitVec.ofNat 16 v) x.calG
  else if i < 0x60 then s.modSlot (i - 0x30) fun x => x.setCal s.now x.calO (BitVec.ofNat 16 v)
  else s.modSvc fun x => { x with cal := cellPut 0x10000 i v x.cal }

/-- The 304 bytes of the set and its CRC-32C. -/
def State.calBytes (s : State) : List Byte := (List.range 152).flatMap fun i => bytesOf 2 (s.calEntry i)
def State.calCrc (s : State) : Word := word [(crc32c s.calBytes, 0)]

/-- Every entry holds its factory value. -/
def State.calFactory (s : State) : Bool := (List.range 152).all fun i => s.calEntry i = calDefault i

/-- A range of entries may be written: in range, and no slot in RECAL among them (R659). -/
def State.calWrite (s : State) (t : Ticket) (first : Nat) (es : List Nat) : State :=
  let names (i : Nat) : Bool := decide (first ≤ i) && decide (i < first + es.length)
  let busy := (List.range 48).any fun n => (s.slot n).state = .recal && (names n || names (0x30 + n))
  if ¬ (es.zipIdx.all fun (e : Nat × Nat) => calEntryOk (first + e.2) e.1) then s.ends t .badField
  else if busy then s.ends t .busyRetry
  else s.queueNor (.cal t first (es.map fun (v : Nat) => BitVec.ofNat 16 v))

/-- `CAL_WRITE` (R659). -/
def effCalWrite (t : Ticket) (p : Pkt) (s : State) : State :=
  let n := prm16 p 2
  if n < 1 ∨ 152 < n ∨ 152 < prm16 p 0 + n then s.ends t .badField
  else if p.len.toNat ≠ pad64 (2 * n) then s.ends t .badLength
  else s.calWrite t (prm16 p 0) (wordsOf p.payload n)

/-- `CAL_READ` (R661). -/
def effCalRead (t : Ticket) (_ : Pkt) (s : State) : State :=
  s.answer t { r0 := s.calCrc, r1 := word [(bit s.svcs.calBad, 0), (bit s.calFactory, 1)], payload := s.calBytes }

/-- `CAL_EXPORT` (R662, Table 16-3). -/
def effCalExport (t : Ticket) (_ : Pkt) (s : State) : State :=
  let body := bytesOf 2 1 ++ bytesOf 2 152 ++ bytesOf 8 s.serial.toNat ++ bytesOf 8 s.dtbNs.toNat ++ bytesOf 4 s.calCrc.toNat
    ++ bytesOf 8 0 ++ s.calBytes
  s.answer t { payload := body ++ slice (Config.deviceSign body) 0 64 }

/-- `CAL_IMPORT` (R663). -/
def effCalImport (t : Ticket) (p : Pkt) (s : State) : State :=
  if ¬ Config.deviceVerify (slice p.payload 0 336) (slice p.payload 336 64) ∨ le p.payload 4 8 ≠ s.serial.toNat then s.ends t .authFailed
  else s.calWrite t 0 (wordsOf (slice p.payload 32 304) 152)

/-! ### Service-thread images (R664 to R666, R678) -/

def State.modSvcSlot (s : State) (k : Nat) (f : SvcSlot → SvcSlot) : State := s.modSvc fun v => { v with svc := vmod v.svc k f }

/-- Contexts WC4 to WC7 that name a slot and meet a test of their state. -/
def State.threadsOn (s : State) (slot : Nat) (q : WcState → Bool) : List Nat :=
  numbers 128 fun c => decide (4 ≤ c) && decide (c < 8) && decide ((s.wc c).entry = slot) && q (s.wc c).state

/-- A slot is erased (R665): the contexts that name it and do not run enter FREE. -/
def State.eraseSlot (s : State) (k : Nat) : State :=
  (s.modSvcSlot k fun _ => {}).forEach (s.threadsOn k fun x => x = .idle || x = .delayed || x = .waiting) State.freeContext

/-- `SVC_LOAD` (R664, R665). -/
def effSvcLoad (t : Ticket) (p : Pkt) (s : State) : State :=
  let k := prm p 0
  let off := prm32 p 4
  if 3 < k ∨ 1 < prm p 1 ∨ 2 ^ 20 < off + p.len.toNat then s.ends t .badField
  else if s.threadsOn k (fun x => x = .ready || x = .running) ≠ [] then s.ends t .stateRefused
  else
    let s := if off = 0 then s.eraseSlot k else s
    s.queueNor (.svc t k off p.payload (decide (prm p 1 = 1)))

/-- The header of an image is right (R666, Table 16-5). -/
def svcHeaderOk (bs : List Byte) : Bool :=
  let len := le bs 12 4
  let sec (o n : Nat) : Bool := decide (160 ≤ o) && decide (o + n + 96 ≤ len)
  let code := le bs 20 4
  let data := le bs 28 4
  let stack := le bs 36 4
  decide (le bs 0 4 = 0x48545653) && decide (le bs 4 2 = 1) && zeros bs 6 2 && zeros bs 48 16 &&
  decide (len ≤ 2 ^ 20) && decide (256 ≤ len) && decide (len ≤ bs.length) && (code = 0 || sec (le bs 16 4) code) && (data = 0 || sec (le bs 24 4) data) &&
  decide (code + data + le bs 32 4 + stack ≤ 2 * 2 ^ 20) && decide (4096 ≤ stack) && decide (stack ≤ 0x40000) &&
  decide (le bs 40 4 < code) && decide (1 ≤ le bs 46 2) && decide (le bs 46 2 ≤ 10000)

/-- The enrolled key hash (Table 17-8); all zeros enrols none (R678). -/
def State.keyHash (s : State) : List Byte := (List.range 12).flatMap fun n => bytesOf 4 (s.inUse (0x40 + 4 * n))
def State.enrolled (s : State) (key : List Byte) : Bool :=
  s.keyHash.any (· ≠ 0) && decide (slice (Config.sha384 key) 0 48 = s.keyHash)

/-- The last write's check of an image: header, then key and signature. -/
def State.svcVerdict (s : State) (bs : List Byte) : Status :=
  let len := le bs 12 4
  let key := slice bs 64 96
  if ¬ svcHeaderOk bs then .badField
  else if ¬ s.enrolled key ∨ ¬ Config.verify key (slice bs 0 (len - 96)) (slice bs (len - 96) 96) then .authFailed
  else .done

/-! ### NOR writes (R651) -/

/-- The packet that a write completes. -/
def NorWrite.ticket : NorWrite → Option Ticket
  | .fwLoad t _ _ _ => some t
  | .fwActivate t _ _ => some t
  | .fwConfirm t => some t
  | .cal t _ _ => some t
  | .svc t _ _ _ _ => some t
  | .cycStore t _ _ _ _ _ _ => some t
  | .profile => none
  | .block => none

/-- A write has finished and been read back. -/
def State.norDone (s : State) (w : NorWrite) : State :=
  match w with
  | .fwLoad t k off bs =>
    (s.modBank k fun b => if off = 0 then { state := .loading, image := patch [] 0 bs } else { b with image := patch b.image off bs }).ends t .done
  | .fwActivate t k _ => (s.modBank k fun b => { b with state := .trial, booted := false }).ends t .done
  | .fwConfirm t =>
    let k := s.svcs.running.val
    let sec := (Config.fwHeader (s.bank k).image).2.1 % 65536
    let s := (s.modBank k fun b => { b with state := .good }).modBank (1 - k) fun b => { b with state := .verified }
    (s.modSvc fun v => { v with trial := false, secCounter := max v.secCounter sec }).ends t .done
  | .cal t first es =>
    let s := es.zipIdx.foldl (fun (s : State) (e : Half × Nat) => s.calPut (first + e.2) e.1.toNat) s
    s.answer t { r0 := s.calCrc }
  | .svc t k off bs last =>
    let s := s.modSvcSlot k fun x => if off = 0 then { bytes := patch [] 0 bs } else { x with bytes := patch x.bytes off bs }
    if ¬ last then s.ends t .done
    else
      match s.svcVerdict (vget s.svcs.svc k).bytes with
      | .done => (s.modSvcSlot k fun x => { x with installed := true }).ends t .done
      | st => (s.eraseSlot k).ends t st
  | .cycStore t image config r0 note list stamp =>
    let s := s.modCyc fun c => { c with nor := some (image, config) }
    s.answer t { status := if note.isSome then .doneNote else .done, r0 := r0, extra := word [(note.getD 0, 0)], payload := list,
                 stamp := stamp.map stampOf }
  | .profile => s
  | .block => s

/-- A write whose read-back failed: its packet completes with INTERNAL_FAULT (DESIGN CHOICE, log 56). -/
def State.norFailed (s : State) (w : NorWrite) : State := match w.ticket with | some t => s.ends t .internalFault | none => s

end Sys2Proof.Machine
end

