-- ==== Sys2Proof/Machine/Clocks.lean ====
section
/-! DEFINITION. Clocks (15 R633 to R644): the reference selection, and the locks, losses and re-locks of the PLLs. -/

namespace Sys2Proof.Machine

def State.modPwr (s : State) (f : Power → Power) : State := { s with pwr := f s.pwr }
def State.pll (s : State) (n : Nat) : Pll := vget s.pwr.plls n
def State.modPll (s : State) (n : Nat) (f : Pll → Pll) : State := s.modPwr fun p => { p with plls := vmod p.plls n f }

/-- Every bridge is OFFLINE or ARMED (Table 15-11). -/
def State.allIdle (s : State) : Bool := s.bridges.toList.all fun b => b.state = .offline || b.state = .armed

/-- Gate links whose heartbeats run. -/
def State.liveLinks (s : State) : List Nat := numbers 24 fun g => decide ((s.link g).state = .live)

/-- A re-lock run starts (R638): PLL_CTL's stops the frame sources (R642), PLL_SYS's the gate-link heartbeats (R644). -/
def State.startRelock (s : State) (n : Nat) : State :=
  let s := s.catchUp.modPll n fun p => { p with locked := false, holdover := false, relock := true, relockAt := some s.now }
  match n with
  | 0 => s.forEach s.liveLinks fun s g => s.modLink g fun l => { l with state := .down, downlink := false, uplink := false }
  | 1 => s.forEach (List.range 10) State.slotsStop
  | _ => s

/-- Gate links of bridges that a re-lock of PLL_SYS left without heartbeats train again (R644, R278). -/
def State.retrainLinks (s : State) : State :=
  s.forEach (numbers 24 fun g => decide ((s.link g).state = .down) && (match s.ownerOf g with
    | some b => (s.bridge b).state.beyondOffline && decide ((s.bridge b).state ≠ .retired) | none => false)) fun s g =>
    s.modLink g fun l => { l with state := .training }

/-- PLL_LOCK_LOSS (R635, R640): holdover, an ADMIN event and an upset; PLL_MEM and PLL_IO re-lock at once. -/
def evPllLockLoss (n : Fin 5) (s : State) : State :=
  if ¬ (s.pll n).locked then s
  else
    let s := s.modPll n fun p => { p with locked := false, holdover := true, losses := satCount (p.losses + 1), lossAt := some s.now }
    let s := (s.report 0x00 n 0x0011).detect 11 n
    if 3 ≤ n.val then s.startRelock n else s

/-- PLL_RELOCK_START (R640, R643): of PLL_SYS, PLL_CTL and PLL_PWM once every bridge is OFFLINE or ARMED; of PLL_MEM also
the run that follows a failed one after 1 ms. -/
def evPllRelockStart (n : Fin 5) (s : State) : State :=
  let p := s.pll n
  if ¬ p.holdover ∨ p.relock ∨ s.isRetired 11 n then s
  else if n.val < 3 then (if s.allIdle then s.startRelock n else s)
  else (match p.relockAt with | some a => s.advanceTo (a + msSteps 1) | none => s).startRelock n

/-- PLL_LOCK_DECLARED (R635, R638, R641, R642): the domains return to the PLL; what its re-lock had stopped starts again. -/
def evPllLockDeclared (n : Fin 5) (s : State) : State :=
  let p := s.pll n
  if ¬ p.relock ∧ (s.pwr.ready ∨ p.locked) then s
  else
    let s := s.catchUp.modPll n fun x => { x with locked := true, holdover := false, relock := false, lossAt := none, relockAt := none }
    let s := if n.val = 1 then s.forEach ((List.range 10).filter s.srcRuns) State.slotsStart else s
    let s := if n.val = 0 ∧ p.relock then s.retrainLinks else s
    s.runEnds 11 n true

/-- PLL_RELOCK_TIMEOUT (R641, R643): the run has failed; the next one starts, PLL_MEM's after 1 ms in holdover, unless the PLL
is retired. -/
def evPllRelockTimeout (n : Fin 5) (s : State) : State :=
  let p := s.pll n
  match p.relock, p.relockAt with
  | true, some a =>
    let s := ((s.advanceTo (a + msSteps 2)).catchUp.detect 11 n).runEnds 11 n false
    let hold := s.modPll n fun x => { x with holdover := true, relock := false, relockAt := some s.now }
    if s.isRetired 11 n ∨ n.val = 3 then hold else hold.startRelock n
  | _, _ => s

/-- The PLL longest in holdover whose re-lock waits for the bridges. -/
def State.waitingPll (s : State) : Option (Nat × Nat) :=
  (List.range 3).foldl (fun (best : Option (Nat × Nat)) n =>
    match (s.pll n).holdover && !s.isRetired 11 n, (s.pll n).lossAt, best with
    | true, some a, some (b, _) => if a < b then some (a, n) else best
    | true, some a, none => some (a, n)
    | _, _, _ => best) none

/-- PLL_HOLDOVER_TIMEOUT (R640): bridges beyond ARMED enter SAFE, and the re-lock starts. -/
def evPllHoldoverTimeout (s : State) : State :=
  match s.waitingPll with
  | some (a, n) =>
    if s.bridges.toList.any fun b => b.state.beyondArmed then
      let s := s.advanceTo (a + secSteps 1)
      (s.forEach (s.bridgesWhere fun b => b.state.beyondArmed) fun s b => s.enterSafe b 0x0011).startRelock n
    else s
  | none => s

/-- REF_SWITCH_TO_RING (R633): of a node that takes time from a ring port. -/
def evRefSwitchToRing (s : State) : State :=
  if (s.inUse 0x2000).testBit 0 ∧ s.ringFollower ∧ ¬ s.pwr.refRing then s.modPwr fun p => { p with refRing := true } else s

/-- REF_CLOCK_LOSS (R634). -/
def evRefClockLoss (s : State) : State :=
  if s.pwr.refRing then (s.modPwr fun p => { p with refRing := false }).report 0x0B 0 0 else s

end Sys2Proof.Machine
end

