-- ==== Sys2Proof/Machine/Setup.lean ====
section
/-! DEFINITION. Set-up (17 R672 to R684): register writes by access type, the lock and its effect, the GPIO function map,
and the stored profile. -/

namespace Sys2Proof.Machine

/-! ### Writes (R13, R673, R674) -/

/-- A value as a register keeps it: reserved codes that read as another (Tables 15-4, 17-6, 17-11, R637). -/
def normReg (off v : Nat) : Nat :=
  match off with
  | 0x18 => if v % 4 = 3 then v - 3 else v
  | 0x1000 => (if v % 4 = 3 then v - 3 else v) + (if field v 15 8 = 0 then 0x100 else 0)
  | 0x2010 => v &&& 0xF
  | 0x2018 => v &&& 0x30
  | 0x2020 => v &&& 0x30
  | 0x2028 => v &&& 0xF
  | 0x2030 => v &&& 0xF
  | 0x4000 => if v % 8 = 0 ∨ 4 < v % 8 then v / 8 * 8 + 4 else v
  | _ => v

/-- A write of a register: RWL bits keep their value once the lock is written, RO bits always. -/
def State.writeReg (s : State) (off v : Nat) : State :=
  match regSpec off with
  | some r =>
    let mask := r.rw + (if s.lockWritten then 0 else r.rwl)
    s.regPut off (normReg off ((s.reg off &&& (mask ^^^ 0xFFFFFFFF)) + (v &&& mask)))
  | none => s

/-- A write of `GEN_CTRL` (R683): the lock closes every RWL field at once. -/
def State.writeCtrl (s : State) (v : Nat) : State :=
  let s := s.writeReg 0x10 v
  if (s.reg 0x10).testBit 0 then { s with lockWritten := true } else s

/-- SETUP_LOCK (R683). -/
def evSetupLock (v : Word) (s : State) : State := s.writeCtrl v.toNat

/-- Vector control of an MSI-X entry unmasked: its pending message is sent (R433). -/
def State.unmask (s : State) (v : Nat) : State :=
  if s.pba.getLsbD v ∧ ¬ (s.reg (0x6000 + 16 * v + 12)).testBit 0 then
    { s with pba := s.pba &&& BitVec.ofNat 32 (0xFFFFFFFF - 2 ^ v), vectors := vmod s.vectors v (· + 1) }
  else s

/-! ### The lock takes effect (R649, R682) -/

/-- A GPIO map entry that is treated as none (R679). -/
def State.gpioBad (s : State) (n : Nat) : Bool :=
  let f (k : Nat) := field (s.reg (0x100 + 4 * k)) 7 0
  let c := f n
  if c ≤ 2 then false
  else if 0x10 ≤ c ∧ c ≤ 0x19 then
    (decide (c < 0x18) && decide (s.fitGfes ≤ c % 4)) || (List.range n).any fun k => f k = c
  else true

/-- The source in force at the lock (Table 13-2); the undefined code 3 selects LOCAL (DESIGN CHOICE, log 57). -/
def State.srcInit (s : State) : Nat := let v := field (s.reg 0x10008) 1 0; if v = 3 then 0 else v

/-- Every RWL field takes effect together (R682), and what follows from it: `INCR` (R535), the time source (R536), the GPIO
map (R679), the ring (R572), the queue pairs (R418), PLLs with a changed `REFMODE` (R638), and the profile to be saved. -/
def State.lockEffect (s : State) : State :=
  let errs := (numbers 32 s.gpioBad).foldl (fun (w : Word) n => w ||| BitVec.ofNat 32 (2 ^ n)) 0
  let s := { s with inForce := s.regs, locked := true, lockWritten := true, gpioErr := errs,
                    incr := BitVec.ofNat 64 (s.reg 0x10000 + 2 ^ 32 * s.reg 0x10004) }
  let s := s.modTime fun t => { t with src := s.srcInit }
  let s := if s.ringEn ∧ ¬ (s.isRetired 4 0 ∧ s.isRetired 4 1) then s.modRing fun r => { r with state := .loopback } else s
  let s := s.startQps.refreshLock
  let s := s.forEach ([1, 2].filter fun n => decide (field (s.inUse (0x2010 + 8 * n)) 5 4 ≠ 0)) State.startRelock
  let s := if s.pwr.ready then s.modPwr fun p => { p with stage := 6 } else s
  if (s.reg 0x10).testBit 1 then (s.modPwr fun p => { p with saveBusy := true }).queueNor .profile else s

/-- SETUP_LOCK_EFFECT (R649): only once the self-test has finished. -/
def evSetupLockEffect (s : State) : State :=
  if s.lockWritten ∧ s.pwr.selfTested ∧ ¬ s.locked then s.lockEffect else s

/-! ### The profile (R648, R684) -/

/-- The RWL fields of BAR0 and `AUTO_LOCK`, as a profile holds them; `SAVE` and `SETUP_LOCK` are not kept (DESIGN CHOICE,
log 58). -/
def State.profileCells (s : State) : List (Nat × Nat) :=
  s.inForce.filterMap fun (c : Nat × Nat) =>
    if c.1 = 0x10 then (if c.2.testBit 2 then some (0x10, 4) else none)
    else match regSpec c.1 with | some r => if r.rwl ≠ 0 then some c else none | none => none

/-- PROFILE_SAVE (R684): the write whose turn it is ends; a failed read-back leaves the previous profile in force. -/
def evProfileSave (ok : Bool) (s : State) : State :=
  match s.svcs.norQueue with
  | .profile :: rest =>
    let p := s.profileCells
    let s := s.modSvc fun v => { v with norQueue := rest, profile := if ok then some p else v.profile }
    s.modPwr fun w => { w with saveBusy := false, saveFail := !ok }
  | _ => s

/-- Firmware writes every set-up register from a profile (R648). -/
def State.applyProfile (s : State) (p : List (Nat × Nat)) : State :=
  let s := p.foldl (fun (s : State) (c : Nat × Nat) => s.writeReg c.1 c.2) s
  s.writeCtrl 5

end Sys2Proof.Machine
end

