-- ==== Sys2Proof/Machine/Power.lean ====
section
/-! DEFINITION. Power and reset (15 R617 to R631, R645 to R649): feeds, the power-fail sequence, power states, what a reset
keeps, and the boot. -/

namespace Sys2Proof.Machine

/-! ### Supplies (R617 to R626) -/

def State.feed (s : State) (n : Nat) : Feed := vget s.pwr.feeds n
def State.modFeed (s : State) (n : Nat) (f : Feed → Feed) : State := s.modPwr fun p => { p with feeds := vmod p.feeds n f }

/-- A level in 0.125 V steps lies in the window of R617, 7.6 V to 18.8 V. -/
def inWindow (level : Byte) : Bool := decide (61 ≤ level.toNat) && decide (level.toNat ≤ 150)

/-- VBAK, in 0.02 V steps, lies from 2.0 V to 3.6 V (R625). -/
def Power.vbakOk (p : Power) : Bool := decide (100 ≤ p.vbak.toNat) && decide (p.vbak.toNat ≤ 180)

/-- A feed is in its window, and one carries the common input: its ideal diode is closed (R618, R619). -/
def State.fed (s : State) : Bool := (s.feed 0).ok || (s.feed 1).ok
def State.carried (s : State) : Bool := (s.feed 0).on || (s.feed 1).on

/-- The always-on count: cycles of 32.768 kHz, 48 bits (R626). -/
def State.aonCount (s : State) : Nat := (s.pwr.aon + s.now * 32768 / 8000000000) % 2 ^ 48

/-- The always-on counter restarts at the present instant. -/
def State.restartAon (s : State) : State :=
  s.modPwr fun p => { p with aon := 2 ^ 48 - s.now * 32768 / 8000000000 % 2 ^ 48 }

/-- PWR_AON_LO_READ (R626). -/
def evPwrAonLoRead (s : State) : State :=
  let c := s.aonCount
  { s.modPwr fun p => { p with aonHi := BitVec.ofNat 16 (c / 2 ^ 32) } with lastRead := BitVec.ofNat 32 c }

/-- The main die is powered and out of reset. -/
def State.awake (s : State) : Bool := s.resetN && (s.pwr.state = .ready || s.pwr.state = .run)
def State.asleep (s : State) : Bool := s.pwr.state = .keep || s.pwr.state = .watch

/-! ### What a reset keeps (Table 15-7) -/

/-- The check of the calibration set's CRC-32C at boot (R660): what NOR has kept lies outside the block, so that its outcome is
free (place 83, log 100). After a failed check every entry has the value that R660 names. -/
def State.checkCal (s : State) : State :=
  let d := s.draw 83 2
  let s := d.2
  if d.1 = 1 then
    { s with slots := s.slots.map fun (x : PugSlot) => { x with calO := 0, calG := 0x4000 },
             svcs := { s.svcs with cal := [], calBad := true } }
  else s

/-- A calibration write that a reset interrupts has been applied whole or not at all (R660): free. -/
def State.interruptedCal (s : State) : State :=
  match s.svcs.norQueue with
  | .cal _ first es :: _ =>
    let d := s.draw 73 2
    if d.1 = 1 then es.zipIdx.foldl (fun (s : State) (e : Half × Nat) => s.calPut (first + e.2) e.1.toNat) d.2 else d.2
  | _ => s

/-- Levels of the GON and GST pads of a gate link; GST is weak within its profile's run (R251). -/
def GateLink.pads (l : GateLink) (now : Nat) : Vector (Bool × Bool) 2 :=
  Vector.ofFn fun i : Fin 2 =>
    (vget l.gon i, match vget l.gst i with | some (a, b) => !(decide (a ≤ now) && decide (now < b)) | none => true)

/-- On entry into reset the pads hold their levels for 4 µs (R692); an unpowered main die drives none. -/
def State.holdPads (s : State) : Option (Nat × Vector (Vector (Bool × Bool) 2) 24) :=
  let new := some (s.now + usSteps 4, s.links.map fun (l : GateLink) => l.pads s.now)
  if s.asleep ∨ s.pwr.state = .backup then none
  else match s.pwr.padHold with
    | some h => if s.now < h.1 then some h else new
    | none => new

/-- The registers of both dies at their reset values; NOR, the always-on domain, the retain area, the feeds and the levels at
the pins stay, and the fixed data of the part. -/
def State.resetDies (s : State) : State :=
  let s := s.interruptedCal
  let v := s.svcs
  { pending := s.pending, now := s.now, nextId := s.nextId, freeSeed := s.freeSeed, lastRead := s.lastRead,
    variant := s.variant, serial := s.serial, stepping := s.stepping, gpioLevel := s.gpioLevel, resetN := s.resetN,
    slots := s.slots.map fun (x : PugSlot) => { calO := x.calO, calG := x.calG },
    trips := s.trips.map fun (x : TripSource) => { pin := x.pin },
    poss := s.poss.map fun (x : PosInput) => { a := x.a, b := x.b },
    flt := { norLog := s.flt.norLog },
    svcs := { banks := v.banks, running := v.running, trial := v.trial, secCounter := v.secCounter, cal := v.cal, svc := v.svc,
              profile := v.profile },
    cyc := { nor := s.cyc.nor, retain := s.cyc.retain, retUse := s.cyc.retUse },
    sag := { safeEn := s.sag.safeEn, enFell := s.sag.enFell, sin := s.sag.sin, nor := s.sag.nor },
    pwr := { feeds := s.pwr.feeds.map fun (f : Feed) => { f with on := f.ok }, vhold := s.pwr.vhold, vbak := s.pwr.vbak, rstCause := s.pwr.rstCause, wakeCause := s.pwr.wakeCause,
             aon := s.pwr.aon, failRecord := s.pwr.failRecord, padHold := s.holdPads } }

/-- The boot that follows a reset, up to the choice of the firmware bank (R647, R656, R408, R660). -/
def State.boot (s : State) (cause wake : Nat) : State :=
  let s := s.resetDies.checkCal
  let c := s.svcs.chooseBank
  let s := (s.modSvc fun _ => c.1).modPwr fun p =>
    { p with rstCause := BitVec.ofNat 3 cause, wakeCause := BitVec.ofNat 3 wake, noBank := !c.2 }
  s.resetSaggar

/-- The CK_AON cycle of the present instant. -/
def State.aonCycle (s : State) : Nat := s.now * 32768 / 8000000000

/-- A wake source fires (R631): a sleeping device wakes; of two in the same CK_AON cycle the lowest code stands. -/
def State.wakeUp (s : State) (cause : Nat) : State :=
  if s.asleep then (s.boot 2 cause).modPwr fun p => { p with wokeAt := some s.aonCycle }
  else if s.pwr.wokeAt = some s.aonCycle ∧ cause < s.pwr.wakeCause.toNat then
    s.modPwr fun p => { p with wakeCause := BitVec.ofNat 3 cause }
  else s

/-- The retain area and the always-on count are lost without VBAK (R625, R626). -/
def State.loseBackup (s : State) : State :=
  if s.pwr.vbakOk then s else (s.restartAon).modCyc fun c => { c with retain := Vector.replicate 2 {}, retUse := 0 }

/-! ### Feeds (R617 to R620) -/

/-- FEED_OUT_OF_WINDOW (R617 to R619): the diode opens, and the upset starts. -/
def evFeedOutOfWindow (vfb : Bool) (level : Byte) (s : State) : State :=
  if (s.feed (bit vfb)).ok then
    (s.modFeed (bit vfb) fun f => { f with level := level, ok := false, on := false }).detect 10 (bit vfb)
  else s

/-- FEED_RECONNECT (R619): 10 ms in the window; a retired feed stays disconnected. A device in BACKUP boots (Table 15-2),
with cause 0 (DESIGN CHOICE, log 97). -/
def evFeedReconnect (vfb : Bool) (level : Byte) (s : State) : State :=
  if (s.feed (bit vfb)).ok ∨ ¬ inWindow level then s
  else
    let s := s.modFeed (bit vfb) fun f => { f with level := level, ok := true, on := !s.isRetired 10 (bit vfb) }
    if s.pwr.state = .backup ∧ s.pwr.failing.isNone then s.boot 0 0 else s.runEnds 10 (bit vfb) true

/-- POWER_FAIL (R623, Table 15-1, R572): no feed carries the common input; the sequence starts, the bypass relays drop, the bridges enter
SAFE, the power-fail record is written, and the Saggar's rail monitor raises an internal fault. -/
def evPowerFail (s : State) : State :=
  if s.carried ∨ s.pwr.failing.isSome ∨ s.pwr.state = .backup then s
  else
    let s := s.modPwr fun p => { p with failing := some s.now, failRecord := some (s.dtbSec, s.dtbNano) }
    let s := if s.ring.state = .off then s else s.dropRelays
    evSaggarInternalFault (s.allSafe 0x0010)

/-- POWER_FAIL_END (R623): a feed that has returned boots the device; otherwise it is in BACKUP. -/
def evPowerFailEnd (s : State) : State :=
  if s.pwr.failing.isNone then s
  else if s.fed then s.boot 3 0
  else (s.resetDies.loseBackup).modPwr fun p => { p with state := .backup }

/-- POWER_ON (R647, R625, R626): a feed enters its window from BACKUP or from no power. -/
def evPowerOn (vfa vfb vhold vbak : Byte) (s : State) : State :=
  if s.fed ∨ s.pwr.failing.isSome ∨ ¬ (inWindow vfa ∨ inWindow vfb) then s
  else
    let feed (v : Byte) : Feed := { level := v, ok := inWindow v, on := inWindow v }
    let s := s.modPwr fun p => { p with feeds := #v[feed vfa, feed vfb], vhold := vhold, vbak := vbak }
    (s.loseBackup).boot 0 0

/-! ### RESET_N (R646, R631) -/

/-- RESET_N_LOW (R646): both dies and the Saggar are held in reset; a sleeping device sleeps on. -/
def evResetNLow (s : State) : State :=
  let s1 := { s with resetN := false }
  if ¬ s.resetN then s
  else if s.asleep ∨ s.pwr.state = .backup then s1
  else s1.resetDies.modPwr fun p => { p with rstCause := 1, wakeCause := 0, failing := s.pwr.failing }

/-- RESET_N_RISE (R631, R647): the device boots, or wakes. -/
def evResetNRise (s : State) : State :=
  if s.resetN then s
  else
    let s1 := { s with resetN := true }
    if s.pwr.state = .backup then s1
    else if s.asleep then s1.wakeUp 5
    else (s1.boot 1 0).modPwr fun p => { p with failing := s.pwr.failing }

/-! ### Boot (R586, R647, R648) -/

/-- A unit that fails the self-test is retired (R586). -/
def State.selfTestFail (s : State) (c : ChanRef) : State :=
  if s.chanDefined c.kind c.unit.toNat ∧ s.chanFitted c.kind c.unit.toNat ∧ internalKind c.kind then s.retire c.kind c.unit.toNat else s

/-- A PLL locks at boot, unless it is retired (R638). -/
def Pll.booted (p : Pll) (retired : Bool) : Pll := { p with locked := !retired, holdover := retired, relock := false }

/-- BOOT_READY (R647, R648): clocks run, the self-test has retired its failures, a profile with `AUTO_LOCK` has been applied
and locked. -/
def evBootReady (fails : List ChanRef) (s : State) : State :=
  if ¬ s.awake ∨ s.pwr.ready ∨ s.pwr.noBank ∨ s.pwr.failing.isSome then s
  else
    let s := fails.foldl State.selfTestFail s
    let n := (List.range 13).foldl (fun a k => if internalKind k then a + s.retiredOf k else a) 0
    let s := { s with flt := { s.flt with selfTest := decide (n = 0), conesRun := true } }
    let s := s.modPwr fun p => { p with
      plls := Vector.ofFn fun k : Fin 5 => (vget p.plls k).booted (s.isRetired 11 k),
      xtalOk := true, aonXtal := true, selfTested := true, fail := sat8 n, stage := 4, profile := s.svcs.profile.isSome }
    let s := match s.svcs.profile with
      | some p =>
        if (p.any fun (c : Nat × Nat) => c.1 = 0x10 ∧ c.2.testBit 2) ∧ ¬ s.lockWritten then
          ((s.applyProfile p).lockEffect).modPwr fun w => { w with auto := true }
        else s
      | none => s
    s.modPwr fun p => { p with ready := true, stage := if s.locked then 6 else 5 }

/-! ### RUN, READY and sleep (R627 to R631) -/

/-- A need of RUN holds (R628). -/
def State.runNeed (s : State) : Bool :=
  (s.bridges.toList.any fun b => b.state.beyondOffline) || (List.range 10).any s.srcRuns ||
  s.caps.toList.any fun u => u.state = .armed || u.state = .filling

/-- The conditions of R629 but for the WAKE pin. -/
def State.mayRest (s : State) : Bool :=
  decide (field (s.inUse 0x1000) 1 0 ≠ 0) && decide (s.pwr.state = .ready) && s.pwr.ready &&
  (s.cyc.state = .empty || s.cyc.state = .stop) && s.qps.toList.all (fun q => q.flights.isEmpty) &&
  (s.dpx.role = .none || s.dpx.role = .relinquished) && s.svcs.norQueue.isEmpty

/-- The power state follows its needs: READY to RUN with the first, and since when none holds and the device may rest. -/
def State.refreshPower (s : State) : State :=
  let need := s.runNeed
  let s := s.modPwr fun p =>
    if need then { p with state := if p.state = .ready then .run else p.state, needEnd := none }
    else { p with needEnd := if p.state = .run then some (p.needEnd.getD s.now) else none }
  let rest := s.mayRest
  s.modPwr fun p => { p with sleepSince := if rest then some (p.sleepSince.getD s.now) else none }

/-- READY_RETURN (R628). -/
def evReadyReturn (s : State) : State :=
  match s.pwr.needEnd with
  | some a =>
    if s.pwr.state = .run ∧ ¬ s.runNeed then (s.advanceTo (a + secSteps 1)).modPwr fun p => { p with state := .ready, needEnd := none }
    else s
  | none => s

/-- SLEEP (R629): host queue pairs halt, and the dies power down into KEEP or WATCH; KEEP drops the bypass relays. -/
def evSleep (s : State) : State :=
  match s.pwr.sleepSince with
  | some a =>
    if s.mayRest ∧ s.pwr.failing.isNone then
      let s := s.advanceTo (a + secSteps (field (s.inUse 0x1000) 15 8))
      let s := (List.finRange 16).foldl (fun s (q : Fin 16) => if ¬ s.qpLocal q then s.haltQp q 6 else s) s
      let watch := decide (field (s.inUse 0x1000) 1 0 = 2)
      let s := if watch ∨ s.ring.state = .off then s else s.dropRelays
      s.modPwr fun p => { p with
        state := if watch then .watch else .keep, sleepSince := none, asleepAt := s.now, watchCount := 0 }
    else s
  | none => s

/-- WAKE_PIN (R631). -/
def evWakePin (s : State) : State := s.wakeUp 1

/-- WAKE_INTERVAL (R631). -/
def evWakeInterval (s : State) : State :=
  let m := field (s.inUse 0x1000) 23 16
  if s.asleep ∧ m ≠ 0 then (s.advanceTo (s.pwr.asleepAt + secSteps (60 * m))).wakeUp 2 else s

/-- The calibration of R320 on a converter code. -/
def PugSlot.calibrate (x : PugSlot) (now : Nat) (y : Int) : Int :=
  let c := x.calAt now
  sat16 (roundDiv ((c.2.toNat : Int) * (y - c.1.toInt)) 0x4000)

/-- WATCH_CONVERSION (R630, R631). -/
def evWatchConversion (code : Half) (s : State) : State :=
  if s.pwr.state = .watch then
    let x := s.slot (32 + field (s.inUse 0x1000) 27 24)
    let counted := decide (field (s.inUse 0x1004) 15 0 ≤ (x.calibrate s.now code.toInt).natAbs)
    let n := if counted then s.pwr.watchCount + 1 else 0
    let s := s.modPwr fun p => { p with watchCount := n }
    if counted ∧ field (s.inUse 0x1004) 23 16 ≤ n then s.wakeUp 3 else s
  else s

/-- WAKE_FRAME (R564, R630, R631): forwarded while inserted; a device in WATCH repeats its symbols, and wakes when named. -/
def evWakeFrame (nb : Bool) (src hops : BitVec 4) (target : Byte) (s : State) : State :=
  if s.pwr.state = .watch then
    let s := s.repeatFrame nb 8 src.toNat hops.toNat [target]
    if target.toNat = s.nodeId ∨ target = 0xFF then s.wakeUp 4 else s
  else if s.awake then s.forward nb 8 src.toNat hops.toNat [target]
  else s

/-! ### NOR (R651, R655) -/

/-- NOR_WRITE_DONE (R651): the write whose turn it is ends; an activation in mode 1 resets the device as RESET_N does. -/
def evNorWriteDone (ok : Bool) (s : State) : State :=
  match s.svcs.norQueue with
  | .profile :: _ => s
  | .block :: _ => s
  | w :: rest =>
    let s := s.modSvc fun v => { v with norQueue := rest }
    if ¬ ok then s.norFailed w
    else
      match w with
      | .fwActivate t k true =>
        let s := s.norDone (.fwActivate t k true)
        let s := (List.finRange 16).foldl (fun s (q : Fin 16) => if ¬ s.qpLocal q then s.haltQp q 6 else s) s
        s.boot 1 0
      | w => s.norDone w
  | [] => s

end Sys2Proof.Machine
end

