-- ==== Sys2Proof/Machine/Flags.lean ====
section
/-! DEFINITION. The registers of BAR0 as they are read, status bits among them (10 Tables 10-1 to 10-7, 13, 14, 15, 17, 19). -/

namespace Sys2Proof.Machine

def QpState.code : QpState → Nat | .disabled => 0 | .running => 1 | .halted => 2 | .resetting => 3

/-- The block of a queue pair (Tables 10-1 to 10-7). -/
def State.readQp (s : State) (q off : Nat) : Word :=
  let p := s.qp q
  match off with
  | 0x18 => word [(p.state.code, 0), (p.cause.toNat, 8), (p.flights.length, 16)]
  | 0x1C => word [(p.fetch, 0), (bit p.lap, 16)]
  | 0x20 => lo32 p.faultAddr
  | 0x24 => hi32 p.faultAddr
  | _ => BitVec.ofNat 32 (s.reg (0x8000 + 0x100 * q + off))

/-- `GEN_GPIO_IN` (R681): pins with codes 0x02 and 0x14 to 0x19. -/
def State.gpioIn (s : State) : Word :=
  (List.range 32).foldl (fun (w : Word) n =>
    let f := s.gpioFunc n
    let level : Bool :=
      if 0x14 ≤ f ∧ f ≤ 0x17 then (s.gf (f - 0x14)).joinFb
      else (decide (f = 2) || decide (f = 0x18) || decide (f = 0x19)) && (s.gpioLevel.getLsbD n != s.gpioInv n)
    if level then w ||| BitVec.ofNat 32 (2 ^ n) else w) 0

/-- `PWR_STATUS` and `PWR_FEED` (Table 15-5). -/
def State.pwrStatus (s : State) : Word :=
  word [(s.pwr.state.code, 0), (bit (s.feed 0).ok, 3), (bit (s.feed 1).ok, 4), (bit (s.feed 0).on, 5), (bit (s.feed 1).on, 6),
        (bit s.pwr.vbakOk, 7), (s.pwr.rstCause.toNat, 8), (s.pwr.wakeCause.toNat, 11)]
def State.pwrFeed (s : State) : Word :=
  word [((s.feed 0).level.toNat, 0), ((s.feed 1).level.toNat, 8), (s.pwr.vhold.toNat, 16), (s.pwr.vbak.toNat, 24)]

/-- `CLK_REF` (Table 15-10) and `CLK_PLL_STATn` (Table 15-12). -/
def State.clkRef (s : State) : Word :=
  word [(s.reg 0x2000, 0), (bit s.pwr.refRing, 1), (bit s.pwr.xtalOk, 2), (bit s.pwr.aonXtal, 3)]
def State.pllStat (s : State) (n : Nat) : Word :=
  word [(bit (s.pll n).locked, 0), (bit (s.pll n).holdover, 1), (bit (s.pll n).relock, 2), ((s.pll n).losses, 16)]

/-- `BOOT_STATUS` (Table 15-13). -/
def State.bootStatus (s : State) : Word :=
  word [(s.pwr.stage, 0), (s.svcs.running.val, 4), (bit s.pwr.ready, 5), (bit s.pwr.profile, 6), (bit s.pwr.auto, 7), (s.pwr.fail, 8)]

/-- `NRG_CFG` (Table 13-10). -/
def State.nrgCfg (s : State) : Word :=
  word [(s.reg 0x12000, 0), (bit s.ring.aligned, 13), (bit s.ring.master, 14), (bit s.ring.split, 15), (s.ring.masterId, 16)]

/-- `DBG_STATUS` (Table 19-2). -/
def State.dbgStatus (s : State) : Word :=
  word [(s.dbg.level, 0), (bit s.dbg.lockout.isSome, 2), (bit s.dbg.extRefused, 3), (bit s.dbg.atestRefused, 4), (bit s.dbg.extest, 5)]

/-- The register at an aligned offset of BAR0 below the windows; 0 where there is none (R673). Write-only fields read as 0. -/
def State.readReg (s : State) (off : Nat) : Word :=
  if off % 4 ≠ 0 then 0
  else if 0x8000 ≤ off ∧ off < 0x9000 then s.readQp (off % 0x1000 / 0x100) (off % 0x100)
  else if 0x15010 ≤ off ∧ off ≤ 0x15040 then s.hlthKind ((off - 0x15010) / 4)
  else if 0x2014 ≤ off ∧ off ≤ 0x2034 ∧ off % 8 = 4 then s.pllStat ((off - 0x2014) / 8)
  else if 0x16010 ≤ off ∧ off < 0x16020 then vget s.dbg.chal ((off - 0x16010) / 4)
  else
    match off with
    | 0x00 => word [((variantNumber s.variant).toNat, 0), (s.stepping.toNat, 16)]
    | 0x04 => unitMap s.variant
    | 0x08 => lo32 s.serial
    | 0x0C => hi32 s.serial
    | 0x14 => word [(bit s.locked, 0), (bit s.pwr.saveBusy, 1), (bit s.pwr.saveFail, 2)]
    | 0x180 => s.gpioErr
    | 0x184 => s.gpioIn
    | 0x1008 => s.pwrStatus
    | 0x100C => s.pwrFeed
    | 0x1010 => BitVec.ofNat 32 s.aonCount
    | 0x1014 => s.pwr.aonHi.setWidth 32
    | 0x2000 => s.clkRef
    | 0x3000 => s.bootStatus
    | 0x4004 => word [(bit s.linkUp, 0), (s.linkRate, 1), (s.linkWidth, 4)]
    | 0x7000 => s.pba
    | 0x10008 => word [(s.reg 0x10008, 0), (s.time.src, 2), (bit s.time.valid, 4), (bit s.time.locked, 5)]
    | 0x10010 => lo32 s.time.snapSec
    | 0x10014 => hi32 s.time.snapSec
    | 0x10018 => s.time.snapNs
    | 0x1001C => s.time.snapSub.setWidth 32
    | 0x11000 => word [(s.reg 0x11000, 0), (bit (s.port 0).link, 4), ((s.port 0).speed.toNat, 5)]
    | 0x11020 => word [(s.reg 0x11020, 0), (bit (s.port 1).link, 4), ((s.port 1).speed.toNat, 5)]
    | 0x12000 => s.nrgCfg
    | 0x13004 => s.dpxStatus
    | 0x13008 => s.dpxMirror
    | 0x14000 => s.sagStatus s.sag.chB
    | 0x14004 => s.sagOut
    | 0x14008 => s.sagCrc
    | 0x15000 => s.hlthStatus
    | 0x15048 => s.hlthCones
    | 0x1504C => s.hlthSpare
    | 0x16000 => s.dbgStatus
    | 0x16090 => word [(s.dbg.atest, 0)]
    | _ => BitVec.ofNat 32 (s.reg off)

/-! ### Output pins (R646, 17 R680, 18 R691, R692) -/

/-- What a pin shows: high impedance, a level, or frames or a square wave. -/
inductive PinLevel where
  | hiZ | low | high | running
  deriving DecidableEq, Repr, Inhabited

def pinOf (v : Bool) : PinLevel := if v then .high else .low

/-- The main die is without power: KEEP, WATCH, BACKUP (Table 18-2). -/
def State.unpowered (s : State) : Bool := s.asleep || decide (s.pwr.state = .backup)

/-- The GON and GST pads of a gate link: held for 4 µs from a reset on (R692), else as the generators drive them. -/
def State.pads (s : State) (g : Nat) : Vector (Bool × Bool) 2 :=
  match s.pwr.padHold with
  | some (t, v) => if s.now < t then vget v g else (s.link g).pads s.now
  | none => (s.link g).pads s.now
def State.gonPin (s : State) (g i : Nat) : PinLevel := if s.unpowered then .hiZ else pinOf (vget (s.pads g) i).1
def State.gstPin (s : State) (g i : Nat) : PinLevel := if s.unpowered then .hiZ else pinOf (vget (s.pads g) i).2

/-- GLS_TX, SSL, SBC and SDC, and the bypass relays (Table 18-2). -/
def State.glsTxPin (s : State) (g : Nat) : PinLevel :=
  if s.unpowered then .hiZ else if s.awake ∧ (s.link g).downlink then .running else .low
def State.sslPin (s : State) (b : Nat) : PinLevel :=
  if ¬ s.awake then .low else if s.sslToggling b then .running else pinOf (s.sag.ssl.getLsbD b)
def State.sbcPin (s : State) (n : Nat) : PinLevel := pinOf (s.awake && s.sbcOn n)
def State.sdcPin (s : State) (n : Nat) : PinLevel := pinOf (s.awake && s.sdcOn n)
def State.bypassPin (s : State) : PinLevel := pinOf s.ring.relays

/-- FAULT_N: low in reset, in the power-fail sequence, and while a Saggar fault or a lockstep mismatch stands. -/
def State.faultN (s : State) : Bool :=
  s.awake && s.pwr.failing.isNone && !s.sag.sfault && !s.sag.xfault && !s.sag.lockstep

/-- PGOOD: the rails are in regulation. -/
def State.pgood (s : State) : Bool := !s.asleep && decide (s.pwr.state ≠ .backup)

/-- An output of the GPIO map, after `INV`; none while the pin is high-impedance or an input (R680, R681). -/
def State.gpioOut (s : State) (n : Nat) : Option Bool :=
  let f := s.gpioFunc n
  if ¬ s.awake then none
  else if f = 1 then
    some ((s.bridges.toList.any fun b => match b.defn with | some d => decide (d.preGpio = some n) && b.preGpioOn | none => false)
      != s.gpioInv n)
  else if 0x10 ≤ f ∧ f ≤ 0x13 then some ((s.gf (f - 0x10)).joinReq != s.gpioInv n)
  else none

end Sys2Proof.Machine
end

