-- ==== Sys2Proof/Machine/Debug.lean ====
section
/-! DEFINITION. Debug access (19 R707 to R720): grants, the test multiplexers, ATEST, and the JTAG port; and the write of any
register, which reaches the debug block too. -/

namespace Sys2Proof.Machine

def State.modDbg (s : State) (f : Debug → Debug) : State := { s with dbg := f s.dbg }

/-! ### Grants (R707 to R710) -/

/-- TMX pins and ATEST off, HOLD left (R710). -/
def State.dbgOff (s : State) : State :=
  let s := s.forEach (List.range 4) fun s n => s.regPut (0x16080 + 4 * n) 0
  let s := s.modDbg fun d => { d with atest := 0 }
  if s.cyc.state = .hold then s.leaveHold [] else s

/-- The level changes; a revocation, or leaving level 2 or above, closes what it had opened. -/
def State.setLevel (s : State) (level : Nat) : State :=
  let old := s.dbg.level
  let s := s.modDbg fun d => { d with level := level }
  if level = 0 ∨ (2 ≤ old ∧ level < 2) then s.dbgOff else s

/-- A write of `DBG_CTRL.REQ` (R708): a fresh challenge, whose value is free. -/
def State.request (s : State) (v : Nat) : State :=
  let w (s : State) (n : Nat) : State :=
    let d := s.draw 74 (2 ^ 32)
    d.2.modDbg fun x => { x with chal := vset x.chal n (BitVec.ofNat 32 d.1) }
  let s := ((s.regPut 0x16004 (v % 4)).forEach (List.range 4) w)
  s.modDbg fun d => { d with live := true }

/-- The response as written: key, then signature (R708). -/
def State.response (s : State) : List Byte := (List.range 48).flatMap fun n => bytesOf 4 (cellGet 0 n s.dbg.resp)

/-- The bytes that the signature covers. -/
def State.challenge (s : State) : List Byte :=
  (s.dbg.chal.toList.flatMap fun (w : Word) => bytesOf 4 w.toNat) ++ bytesOf 8 s.serial.toNat ++ bytesOf 1 (s.reg 0x16004)

/-- The submission earns the level requested (R708, Table 19-1). -/
def State.earns (s : State) : Bool :=
  let r := s.response
  let key := slice r 0 96
  let level := s.reg 0x16004
  s.dbg.live && decide (1 ≤ level) && Config.verify key s.challenge (slice r 96 96) &&
    ((s.enrolled key && decide (level ≤ 2)) || Config.iretteKey key)

/-- DBG_SUBMIT (R709): a challenge serves once; three failures in a row close submissions for 60 s. -/
def evDbgSubmit (s : State) : State :=
  if s.dbg.lockout.isSome then s
  else if s.earns then (s.setLevel (s.reg 0x16004)).modDbg fun d => { d with live := false, fails := 0 }
  else s.modDbg fun d => { d with
    live := false, fails := d.fails + 1, lockout := if 3 ≤ d.fails + 1 then some (s.now + secSteps 60) else none }

/-- DBG_REVOKE (R709, R710). -/
def evDbgRevoke (s : State) : State := s.setLevel 0

/-- DBG_LOCKOUT_END (R709). -/
def evDbgLockoutEnd (s : State) : State :=
  match s.dbg.lockout with
  | some a => (s.advanceTo a).modDbg fun d => { d with lockout := none, fails := 0 }
  | none => s

/-- A write of `DBG_CTRL`: one that submits or revokes leaves `REQ` and the challenge (DESIGN CHOICE, log 59). -/
def State.writeDbgCtrl (s : State) (v : Nat) : State :=
  if v.testBit 3 then evDbgRevoke s
  else if v.testBit 2 then evDbgSubmit s
  else s.request v

/-- DBG_REQ (R708). -/
def evDbgReq (v : Word) (s : State) : State := s.request v.toNat

/-! ### TMX pins (R711, Tables 19-3, 19-4) -/

/-- A pulse of a length in 125 ps steps that began at an instant still lasts. -/
def pulse (now at_ length : Nat) : Bool := decide (at_ ≤ now ∧ now < at_ + length)

/-- The newest carrier event of a bridge was a commit point (R217). -/
def PwmGen.lastCommits (w : PwmGen) : Bool :=
  match w.carrier with
  | some c => c.commit = 2 || (c.commit = 1 && !w.nextPeak) || (c.commit = 0 && w.nextPeak)
  | none => false

/-- The level of a signal of Table 19-4 at a unit, none where the unit is not fitted or out of range. The output section of a
context and the step of an engine run within one command, so that between commands both are low (DESIGN CHOICE, log 91). -/
def State.tmxSignal (s : State) (src index : Nat) : Option Bool :=
  let bridge (v : Bool) : Option Bool := if index < s.fitBridges then some v else none
  let w := s.pwm index
  let event : Bool := w.running && decide (w.valleys + w.peaks ≠ 0) && pulse s.now w.lastAt 64
  match src with
  | 1 => if index / 2 < s.fitLinks then some (vget (s.link (index / 2)).gon (index % 2)) else none
  | 2 => bridge (w.running && w.nextPeak)
  | 3 => bridge (event && w.lastCommits)
  | 4 =>
    if index < 8 then bridge event
    else if index < 10 then
      let t := vget s.pugTimers (index - 8)
      some (t.en && decide (t.ticks ≠ 0) && pulse s.now t.lastAt 64)
    else none
  | 5 => if index < s.fitLcs then some false else none
  | 6 => if index < s.fitGfes then some false else none
  | 7 => if index < 4 ∧ s.hasCycle then some (s.run index).active else none
  | 8 => if index < 2 ∧ (index = 0 ∨ s.hasCycle) then
      some (match vget s.wheel.dispAt index with | some a => pulse s.now a 64 | none => false) else none
  | 9 => some (decide (s.dtbNs.toNat % 1000000000 < 1000))
  | 0x0A => bridge (s.faultLatched index)
  | 0x0B => bridge (s.sslToggling index)
  | _ => none

/-- The level of pin TMXn: low while it is off or names a unit that is not there (R711), else the signal, inverted with
`INV`. -/
def State.tmxPin (s : State) (n : Nat) : Bool :=
  let r := s.reg (0x16080 + 4 * n)
  match s.tmxSignal (r % 256) (r / 256 % 256) with
  | some v => v != r.testBit 16
  | none => false

/-! ### ATEST (R713, R714) -/

/-- The slot that ATEST taps, if any. -/
def Debug.tap (d : Debug) : Option Nat := if d.atest % 16 = 8 then some (32 + d.atest / 256 % 16) else none

/-- DBG_ATEST_WRITE (R710, R714). -/
def evDbgAtestWrite (v : Word) (s : State) : State :=
  let a := v.toNat &&& 0xF0F
  let n := 32 + a / 256
  if s.dbg.level = 0 then s
  else if a % 16 = 8 ∧ (s.slotInUse n ∨ (s.slot n).state = .recal) then s.modDbg fun d => { d with atestRefused := true }
  else s.modDbg fun d => { d with atest := a, atestRefused := false }

/-- A recalibration or a use of the slot returns ATEST to off (R714). -/
def State.refreshAtest (s : State) : State :=
  match s.dbg.tap with
  | some n => if s.slotInUse n ∨ (s.slot n).state = .recal then s.modDbg fun d => { d with atest := 0 } else s
  | none => s

/-! ### Writes of the debug block and of any register -/

/-- A write in the debug block (Tables 19-2, 19-3). -/
def State.writeDbg (s : State) (off v : Nat) : State :=
  if off = 0x16004 then s.writeDbgCtrl v
  else if 0x16080 ≤ off ∧ off ≤ 0x1608C then (if s.dbg.level = 0 then s else s.regPut off (v &&& 0x1FFFF))
  else if off = 0x16090 then evDbgAtestWrite (BitVec.ofNat 32 v) s
  else if 0x16100 ≤ off ∧ off < 0x161C0 then s.modDbg fun d => { d with resp := cellPut 0 ((off - 0x16100) / 4) v d.resp }
  else s

/-- REGISTER_WRITE (R13, R673, R674): an offset that is not aligned, or holds no register, is ignored. -/
def evRegisterWrite (off v : Word) (s : State) : State :=
  let o := off.toNat
  if o % 4 ≠ 0 then s
  else if o = 0x10 then s.writeCtrl v.toNat
  else if 0x16000 ≤ o ∧ o < 0x17000 then s.writeDbg o v.toNat
  else
    let s := s.writeReg o v.toNat
    if 0x6000 ≤ o ∧ o < 0x6200 ∧ o % 16 = 12 then s.unmask ((o - 0x6000) / 16) else s

/-! ### JTAG (R715 to R720) -/

/-- EXTEST_END (R719): the balls return to their functional state, GON and GST to that of R250. -/
def evExtestEnd (s : State) : State :=
  if ¬ s.dbg.extest then s
  else
    let s := s.forEach (List.range 24) fun s g => s.modLink g fun l => { l with gon := Vector.replicate 2 false, gst := Vector.replicate 2 none }
    s.modDbg fun d => { d with extest := false, ir := 1 }

/-- DBG_AUTH (R716). -/
def evDbgAuth (dr : BitVec 40) (s : State) : State :=
  let off := 0x16000 + 4 * (dr.toNat / 2 ^ 32 % 128)
  let s := (evExtestEnd s).modDbg fun d => { d with ir := 9, dr := dr }
  if dr.getLsbD 39 then s.writeDbg off (dr.toNat % 2 ^ 32)
  else
    let v := s.readReg off
    s.modDbg fun d => { d with dr := dr - BitVec.ofNat 40 (dr.toNat % 2 ^ 32) + v.setWidth 40 }

/-- EXTEST (R717). -/
def evExtest (s : State) : State :=
  if s.dbg.level = 3 ∧ (s.bridges.toList.all fun b => b.state = .offline) then
    s.modDbg fun d => { d with extest := true, extRefused := false, ir := 0 }
  else (evExtestEnd s).modDbg fun d => { d with extRefused := true, ir := 31 }

/-- The bank of R720. -/
def State.mboxBank (s : State) : Nat := if (s.bank 0).state = .good then 1 else 0

/-- DBG_MBOX (R720): a part of an image; the last is followed by the check of R654. -/
def evDbgMbox (bytes : List Byte) (first last : Bool) (s : State) : State :=
  if s.dbg.level ≠ 3 ∨ s.pwr.stage ≠ 0 ∨ s.pwr.ready then s
  else
    let k := s.mboxBank
    let s := s.modDbg fun d => { d with ir := 8, mbox := (if first then bytes else d.mbox ++ bytes).take fwMax }
    let s := if first then s.modBank k fun _ => { state := .loading } else s
    if ¬ last then s
    else
      let img := s.dbg.mbox
      let h := Config.fwHeader img
      let st : BankState := if h.2.2 ∧ s.svcs.secCounter ≤ h.2.1 then .trial else .invalid
      (s.modBank k fun _ => { state := st, image := img }).modDbg fun d => { d with mbox := [] }

/-- The identity code (R715, R716). -/
def State.idcode (s : State) : Nat :=
  s.stepping.toNat % 16 * 2 ^ 28 + (variantNumber s.variant).toNat * 2 ^ 12 + 0x2B9 * 2 + 1

/-- IDCODE, BYPASS, SAMPLE/PRELOAD (R715): the instruction takes the place of EXTEST (R719). -/
def evIdcode (s : State) : State := (evExtestEnd s).modDbg fun d => { d with ir := 1, dr := BitVec.ofNat 40 s.idcode }
def evBypass (s : State) : State := (evExtestEnd s).modDbg fun d => { d with ir := 31 }
def evSamplePreload (s : State) : State := (evExtestEnd s).modDbg fun d => { d with ir := 2 }

end Sys2Proof.Machine
end

