-- ==== Sys2Proof/Machine/Opcodes.lean ====
section
/-! DEFINITION. The opcodes of the packets (10 R420, Tables 01-6 to 16-4) and the effect of each once its checks have passed. -/

namespace Sys2Proof.Machine

/-- The opcode of a packet command: the class in the high byte (R12, R420). -/
def opcodeOf (i : Instr) : Option Nat :=
  match i with
  | .adminNop _ => some 0x0000
  | .identify _ => some 0x0001
  | .adminPad _ => some 0x0002
  | .adminEventWait _ => some 0x0003
  | .adminAbort _ => some 0x0004
  | .reinstate _ => some 0x0005
  | .fence _ => some 0x1000
  | .barrier _ => some 0x1001
  | .bridgeDefine _ => some 0x0100
  | .bridgeSetRole _ => some 0x0101
  | .bridgeBind _ => some 0x0102
  | .bridgeArm _ => some 0x0103
  | .bridgeDisarm _ => some 0x0104
  | .bridgePrecharge _ => some 0x0105
  | .bridgeStart _ => some 0x0106
  | .bridgeStop _ => some 0x0107
  | .bridgeSafe _ => some 0x0108
  | .bridgeRecover _ => some 0x0109
  | .bridgeStatus _ => some 0x010A
  | .bridgeBindImage _ => some 0x010B
  | .gfConfig _ => some 0x0200
  | .gfTune _ => some 0x0201
  | .gfSetpoint _ => some 0x0202
  | .gfSecondary _ => some 0x0203
  | .gfStatus _ => some 0x0204
  | .loopConfig _ => some 0x0300
  | .loopCoefLoad _ => some 0x0301
  | .loopCoefSwap _ => some 0x0302
  | .loopTableLoad _ => some 0x0303
  | .loopTableSwap _ => some 0x0304
  | .loopStateSet _ => some 0x0305
  | .loopSetpoint _ => some 0x0306
  | .loopSubst _ => some 0x0307
  | .loopInject _ => some 0x0308
  | .loopInjectStop _ => some 0x0309
  | .loopStatus _ => some 0x030A
  | .loopUnload _ => some 0x030B
  | .pwmCarrier _ => some 0x0400
  | .pwmEdges _ => some 0x0401
  | .pwmPeriod _ => some 0x0402
  | .pwmBoot _ => some 0x0403
  | .pwmTripConfig _ => some 0x0404
  | .pwmStatus _ => some 0x0405
  | .gateProfile _ => some 0x0500
  | .gateAdapt _ => some 0x0501
  | .gateStatus _ => some 0x0502
  | .gateTelem _ => some 0x0503
  | .gateBoosterRw _ => some 0x0504
  | .pugSlotConfig _ => some 0x0600
  | .pugFirLoad _ => some 0x0601
  | .pugFirSwap _ => some 0x0602
  | .pugDsmClock _ => some 0x0603
  | .pugTimer _ => some 0x0604
  | .pugPosConfig _ => some 0x0605
  | .pugRecal _ => some 0x0606
  | .pugRead _ => some 0x0607
  | .pugStatus _ => some 0x0608
  | .capConfig _ => some 0x0700
  | .capArm _ => some 0x0701
  | .capDisarm _ => some 0x0702
  | .capForce _ => some 0x0703
  | .capRead _ => some 0x0704
  | .capStatus _ => some 0x0705
  | .capRelease _ => some 0x0706
  | .safeStage _ => some 0x0800
  | .safeConfirm _ => some 0x0801
  | .safeStatus _ => some 0x0802
  | .safeOutput _ => some 0x0803
  | .safeRead _ => some 0x0804
  | .safeRequest _ => some 0x0805
  | .wheelConfig _ => some 0x0900
  | .wheelContext _ => some 0x0901
  | .wheelReady _ => some 0x0902
  | .wheelDelay _ => some 0x0903
  | .wheelWait _ => some 0x0904
  | .wheelCancel _ => some 0x0905
  | .wheelSignal _ => some 0x0906
  | .wheelSigmap _ => some 0x0907
  | .wheelStatus _ => some 0x0908
  | .wheelRelease _ => some 0x0909
  | .cycConfig _ => some 0x0A00
  | .cycLoad _ => some 0x0A01
  | .cycVerify _ => some 0x0A02
  | .cycChange _ => some 0x0A03
  | .cycMode _ => some 0x0A04
  | .cycStation _ => some 0x0A05
  | .cycForce _ => some 0x0A06
  | .cycRead _ => some 0x0A07
  | .cycWrite _ => some 0x0A08
  | .cycDebug _ => some 0x0A09
  | .cycStore _ => some 0x0A0A
  | .cycDiscard _ => some 0x0A0B
  | .cycStatus _ => some 0x0A0C
  | .timeAdj _ => some 0x0B00
  | .timeStep _ => some 0x0B01
  | .timeSource _ => some 0x0B02
  | .timePtpConfig _ => some 0x0B03
  | .timeStatus _ => some 0x0B04
  | .netTx _ => some 0x0C00
  | .netRx _ => some 0x0C01
  | .netFilter _ => some 0x0C02
  | .netGcl _ => some 0x0C03
  | .netStatus _ => some 0x0C04
  | .nrPublish _ => some 0x0D00
  | .nrTelemRead _ => some 0x0D01
  | .nrSend _ => some 0x0D02
  | .nrRecv _ => some 0x0D03
  | .nrStatus _ => some 0x0D04
  | .dpxReport _ => some 0x0E00
  | .dpxSwitch _ => some 0x0E01
  | .dpxHealth _ => some 0x0E02
  | .fltConfig _ => some 0x0E03
  | .fltLogRead _ => some 0x0E04
  | .fltStatus _ => some 0x0E05
  | .fwLoad _ => some 0x0F00
  | .fwVerify _ => some 0x0F01
  | .fwActivate _ => some 0x0F02
  | .fwConfirm _ => some 0x0F03
  | .fwStatus _ => some 0x0F04
  | .calWrite _ => some 0x0F05
  | .calRead _ => some 0x0F06
  | .calExport _ => some 0x0F07
  | .calImport _ => some 0x0F08
  | .svcLoad _ => some 0x0F09
  | _ => none

/-- The packet command of an opcode; none where it is not defined. -/
def packetOf (op : Nat) (p : Pkt) : Option Instr :=
  match op with
  | 0x0000 => some (.adminNop p)
  | 0x0001 => some (.identify p)
  | 0x0002 => some (.adminPad p)
  | 0x0003 => some (.adminEventWait p)
  | 0x0004 => some (.adminAbort p)
  | 0x0005 => some (.reinstate p)
  | 0x1000 => some (.fence p)
  | 0x1001 => some (.barrier p)
  | 0x0100 => some (.bridgeDefine p)
  | 0x0101 => some (.bridgeSetRole p)
  | 0x0102 => some (.bridgeBind p)
  | 0x0103 => some (.bridgeArm p)
  | 0x0104 => some (.bridgeDisarm p)
  | 0x0105 => some (.bridgePrecharge p)
  | 0x0106 => some (.bridgeStart p)
  | 0x0107 => some (.bridgeStop p)
  | 0x0108 => some (.bridgeSafe p)
  | 0x0109 => some (.bridgeRecover p)
  | 0x010A => some (.bridgeStatus p)
  | 0x010B => some (.bridgeBindImage p)
  | 0x0200 => some (.gfConfig p)
  | 0x0201 => some (.gfTune p)
  | 0x0202 => some (.gfSetpoint p)
  | 0x0203 => some (.gfSecondary p)
  | 0x0204 => some (.gfStatus p)
  | 0x0300 => some (.loopConfig p)
  | 0x0301 => some (.loopCoefLoad p)
  | 0x0302 => some (.loopCoefSwap p)
  | 0x0303 => some (.loopTableLoad p)
  | 0x0304 => some (.loopTableSwap p)
  | 0x0305 => some (.loopStateSet p)
  | 0x0306 => some (.loopSetpoint p)
  | 0x0307 => some (.loopSubst p)
  | 0x0308 => some (.loopInject p)
  | 0x0309 => some (.loopInjectStop p)
  | 0x030A => some (.loopStatus p)
  | 0x030B => some (.loopUnload p)
  | 0x0400 => some (.pwmCarrier p)
  | 0x0401 => some (.pwmEdges p)
  | 0x0402 => some (.pwmPeriod p)
  | 0x0403 => some (.pwmBoot p)
  | 0x0404 => some (.pwmTripConfig p)
  | 0x0405 => some (.pwmStatus p)
  | 0x0500 => some (.gateProfile p)
  | 0x0501 => some (.gateAdapt p)
  | 0x0502 => some (.gateStatus p)
  | 0x0503 => some (.gateTelem p)
  | 0x0504 => some (.gateBoosterRw p)
  | 0x0600 => some (.pugSlotConfig p)
  | 0x0601 => some (.pugFirLoad p)
  | 0x0602 => some (.pugFirSwap p)
  | 0x0603 => some (.pugDsmClock p)
  | 0x0604 => some (.pugTimer p)
  | 0x0605 => some (.pugPosConfig p)
  | 0x0606 => some (.pugRecal p)
  | 0x0607 => some (.pugRead p)
  | 0x0608 => some (.pugStatus p)
  | 0x0700 => some (.capConfig p)
  | 0x0701 => some (.capArm p)
  | 0x0702 => some (.capDisarm p)
  | 0x0703 => some (.capForce p)
  | 0x0704 => some (.capRead p)
  | 0x0705 => some (.capStatus p)
  | 0x0706 => some (.capRelease p)
  | 0x0800 => some (.safeStage p)
  | 0x0801 => some (.safeConfirm p)
  | 0x0802 => some (.safeStatus p)
  | 0x0803 => some (.safeOutput p)
  | 0x0804 => some (.safeRead p)
  | 0x0805 => some (.safeRequest p)
  | 0x0900 => some (.wheelConfig p)
  | 0x0901 => some (.wheelContext p)
  | 0x0902 => some (.wheelReady p)
  | 0x0903 => some (.wheelDelay p)
  | 0x0904 => some (.wheelWait p)
  | 0x0905 => some (.wheelCancel p)
  | 0x0906 => some (.wheelSignal p)
  | 0x0907 => some (.wheelSigmap p)
  | 0x0908 => some (.wheelStatus p)
  | 0x0909 => some (.wheelRelease p)
  | 0x0A00 => some (.cycConfig p)
  | 0x0A01 => some (.cycLoad p)
  | 0x0A02 => some (.cycVerify p)
  | 0x0A03 => some (.cycChange p)
  | 0x0A04 => some (.cycMode p)
  | 0x0A05 => some (.cycStation p)
  | 0x0A06 => some (.cycForce p)
  | 0x0A07 => some (.cycRead p)
  | 0x0A08 => some (.cycWrite p)
  | 0x0A09 => some (.cycDebug p)
  | 0x0A0A => some (.cycStore p)
  | 0x0A0B => some (.cycDiscard p)
  | 0x0A0C => some (.cycStatus p)
  | 0x0B00 => some (.timeAdj p)
  | 0x0B01 => some (.timeStep p)
  | 0x0B02 => some (.timeSource p)
  | 0x0B03 => some (.timePtpConfig p)
  | 0x0B04 => some (.timeStatus p)
  | 0x0C00 => some (.netTx p)
  | 0x0C01 => some (.netRx p)
  | 0x0C02 => some (.netFilter p)
  | 0x0C03 => some (.netGcl p)
  | 0x0C04 => some (.netStatus p)
  | 0x0D00 => some (.nrPublish p)
  | 0x0D01 => some (.nrTelemRead p)
  | 0x0D02 => some (.nrSend p)
  | 0x0D03 => some (.nrRecv p)
  | 0x0D04 => some (.nrStatus p)
  | 0x0E00 => some (.dpxReport p)
  | 0x0E01 => some (.dpxSwitch p)
  | 0x0E02 => some (.dpxHealth p)
  | 0x0E03 => some (.fltConfig p)
  | 0x0E04 => some (.fltLogRead p)
  | 0x0E05 => some (.fltStatus p)
  | 0x0F00 => some (.fwLoad p)
  | 0x0F01 => some (.fwVerify p)
  | 0x0F02 => some (.fwActivate p)
  | 0x0F03 => some (.fwConfirm p)
  | 0x0F04 => some (.fwStatus p)
  | 0x0F05 => some (.calWrite p)
  | 0x0F06 => some (.calRead p)
  | 0x0F07 => some (.calExport p)
  | 0x0F08 => some (.calImport p)
  | 0x0F09 => some (.svcLoad p)
  | _ => none

/-- What a packet does once accepted. A pad has no flight of its own: the place stands for an undefined opcode (R451). -/
def State.effect (s : State) (t : Ticket) (i : Instr) : State :=
  match i with
  | .adminNop p => effAdminNop t p s
  | .identify p => effIdentify t p s
  | .adminPad _ => s.ends t .badOpcode
  | .adminEventWait p => effAdminEventWait t p s
  | .adminAbort p => effAdminAbort t p s
  | .reinstate p => effReinstate t p s
  | .fence p => effFence t p s
  | .barrier p => effBarrier t p s
  | .bridgeDefine p => effBridgeDefine t p s
  | .bridgeSetRole p => effBridgeSetRole t p s
  | .bridgeBind p => effBridgeBind t p s
  | .bridgeArm p => effBridgeArm t p s
  | .bridgeDisarm p => effBridgeDisarm t p s
  | .bridgePrecharge p => effBridgePrecharge t p s
  | .bridgeStart p => effBridgeStart t p s
  | .bridgeStop p => effBridgeStop t p s
  | .bridgeSafe p => effBridgeSafe t p s
  | .bridgeRecover p => effBridgeRecover t p s
  | .bridgeStatus p => effBridgeStatus t p s
  | .bridgeBindImage p => effBridgeBindImage t p s
  | .gfConfig p => effGfConfig t p s
  | .gfTune p => effGfTune t p s
  | .gfSetpoint p => effGfSetpoint t p s
  | .gfSecondary p => effGfSecondary t p s
  | .gfStatus p => effGfStatus t p s
  | .loopConfig p => effLoopConfig t p s
  | .loopCoefLoad p => effLoopCoefLoad t p s
  | .loopCoefSwap p => effLoopCoefSwap t p s
  | .loopTableLoad p => effLoopTableLoad t p s
  | .loopTableSwap p => effLoopTableSwap t p s
  | .loopStateSet p => effLoopStateSet t p s
  | .loopSetpoint p => effLoopSetpoint t p s
  | .loopSubst p => effLoopSubst t p s
  | .loopInject p => effLoopInject t p s
  | .loopInjectStop p => effLoopInjectStop t p s
  | .loopStatus p => effLoopStatus t p s
  | .loopUnload p => effLoopUnload t p s
  | .pwmCarrier p => effPwmCarrier t p s
  | .pwmEdges p => effPwmEdges t p s
  | .pwmPeriod p => effPwmPeriod t p s
  | .pwmBoot p => effPwmBoot t p s
  | .pwmTripConfig p => effPwmTripConfig t p s
  | .pwmStatus p => effPwmStatus t p s
  | .gateProfile p => effGateProfile t p s
  | .gateAdapt p => effGateAdapt t p s
  | .gateStatus p => effGateStatus t p s
  | .gateTelem p => effGateTelem t p s
  | .gateBoosterRw p => effGateBoosterRw t p s
  | .pugSlotConfig p => effPugSlotConfig t p s
  | .pugFirLoad p => effPugFirLoad t p s
  | .pugFirSwap p => effPugFirSwap t p s
  | .pugDsmClock p => effPugDsmClock t p s
  | .pugTimer p => effPugTimer t p s
  | .pugPosConfig p => effPugPosConfig t p s
  | .pugRecal p => effPugRecal t p s
  | .pugRead p => effPugRead t p s
  | .pugStatus p => effPugStatus t p s
  | .capConfig p => effCapConfig t p s
  | .capArm p => effCapArm t p s
  | .capDisarm p => effCapDisarm t p s
  | .capForce p => effCapForce t p s
  | .capRead p => effCapRead t p s
  | .capStatus p => effCapStatus t p s
  | .capRelease p => effCapRelease t p s
  | .safeStage p => effSafeStage t p s
  | .safeConfirm p => effSafeConfirm t p s
  | .safeStatus p => effSafeStatus t p s
  | .safeOutput p => effSafeOutput t p s
  | .safeRead p => effSafeRead t p s
  | .safeRequest p => effSafeRequest t p s
  | .wheelConfig p => effWheelConfig t p s
  | .wheelContext p => effWheelContext t p s
  | .wheelReady p => effWheelReady t p s
  | .wheelDelay p => effWheelDelay t p s
  | .wheelWait p => effWheelWait t p s
  | .wheelCancel p => effWheelCancel t p s
  | .wheelSignal p => effWheelSignal t p s
  | .wheelSigmap p => effWheelSigmap t p s
  | .wheelStatus p => effWheelStatus t p s
  | .wheelRelease p => effWheelRelease t p s
  | .cycConfig p => effCycConfig t p s
  | .cycLoad p => effCycLoad t p s
  | .cycVerify p => effCycVerify t p s
  | .cycChange p => effCycChange t p s
  | .cycMode p => effCycMode t p s
  | .cycStation p => effCycStation t p s
  | .cycForce p => effCycForce t p s
  | .cycRead p => effCycRead t p s
  | .cycWrite p => effCycWrite t p s
  | .cycDebug p => effCycDebug t p s
  | .cycStore p => effCycStore t p s
  | .cycDiscard p => effCycDiscard t p s
  | .cycStatus p => effCycStatus t p s
  | .timeAdj p => effTimeAdj t p s
  | .timeStep p => effTimeStep t p s
  | .timeSource p => effTimeSource t p s
  | .timePtpConfig p => effTimePtpConfig t p s
  | .timeStatus p => effTimeStatus t p s
  | .netTx p => effNetTx t p s
  | .netRx p => effNetRx t p s
  | .netFilter p => effNetFilter t p s
  | .netGcl p => effNetGcl t p s
  | .netStatus p => effNetStatus t p s
  | .nrPublish p => effNrPublish t p s
  | .nrTelemRead p => effNrTelemRead t p s
  | .nrSend p => effNrSend t p s
  | .nrRecv p => effNrRecv t p s
  | .nrStatus p => effNrStatus t p s
  | .dpxReport p => effDpxReport t p s
  | .dpxSwitch p => effDpxSwitch t p s
  | .dpxHealth p => effDpxHealth t p s
  | .fltConfig p => effFltConfig t p s
  | .fltLogRead p => effFltLogRead t p s
  | .fltStatus p => effFltStatus t p s
  | .fwLoad p => effFwLoad t p s
  | .fwVerify p => effFwVerify t p s
  | .fwActivate p => effFwActivate t p s
  | .fwConfirm p => effFwConfirm t p s
  | .fwStatus p => effFwStatus t p s
  | .calWrite p => effCalWrite t p s
  | .calRead p => effCalRead t p s
  | .calExport p => effCalExport t p s
  | .calImport p => effCalImport t p s
  | .svcLoad p => effSvcLoad t p s
  | _ => s

end Sys2Proof.Machine
end

