-- ==== Sys2Proof/Machine/Start.lean ====
section
/-! DEFINITION. From a fetched packet to its start (10 R423 to R442): the checks of Table 10-11a with the tables of legal
states, the order rules, the not-before time and the late window, and what a change of the state lets start. -/

namespace Sys2Proof.Machine

/-! ### Checks 3 to 5 (R435, Table 10-11a) -/

/-- Reserved header bytes and flags, the tag and the barrier identifier (check 3). -/
def headerOk (op : Nat) (p : Pkt) : Bool :=
  decide (p.flags.toNat < 16) && decide (p.resv = 0) && decide (p.tag ≠ 0xFFFF) &&
    (if op = 0x1001 then decide (p.barrier.toNat < 8) else decide (p.barrier = 0))

/-- The payload length is legal (check 4); where the legal lengths depend on the parameters, the packet's effect judges them.
A packet whose chapter gives it no payload has length 0 (DEDUCED, log 60). -/
def lengthOk (op : Nat) (p : Pkt) : Bool :=
  let n := p.len.toNat
  match op with
  | 0x0100 => n = 64
  | 0x0200 => n = 128
  | 0x0201 => n = 192
  | 0x0300 => n = 128
  | 0x0305 => n = 64
  | 0x0400 => n = 64
  | 0x0401 => n = 128
  | 0x0700 => n = 384
  | 0x0704 => decide (64 ≤ n) && decide (n ≤ 4032)
  | 0x0800 => n = 128
  | 0x0804 => n = 128
  | 0x0A02 => n = 256
  | 0x0A05 => n = stationLength p
  | 0x0C00 => decide (60 ≤ n) && decide (n ≤ 1518)
  | 0x0C01 => decide (64 ≤ n) && decide (n ≤ 4032)
  | 0x0C03 => decide (8 ≤ n) && decide (n ≤ 512) && decide (n % 8 = 0)
  | 0x0D01 => n = 32
  | 0x0D02 => decide (1 ≤ n) && decide (n ≤ 1024)
  | 0x0D03 => n = 1024
  | 0x0E04 => n % 32 = 0
  | 0x0F06 => n = 304
  | 0x0F07 => n = 400
  | 0x0F08 => n = 400
  | 0x0301 | 0x0303 | 0x0601 | 0x0F05 | 0x0A01 | 0x0A03 | 0x0A07 | 0x0A08 | 0x0F00 | 0x0F09 => true
  | _ => n = 0

/-- Targets of an opcode lie below this; 1 where it addresses no numbered unit (check 5). -/
def targetEnd (op : Nat) : Nat :=
  match op / 256, op % 256 with
  | 0x01, _ => 8
  | 0x02, _ => 4
  | 0x03, _ => 24
  | 0x04, 4 => 16
  | 0x04, _ => 8
  | 0x05, _ => 24
  | 0x06, 3 => 4
  | 0x06, 4 => 2
  | 0x06, 5 => 4
  | 0x06, _ => 48
  | 0x07, 1 | 0x07, 2 | 0x07, 3 => 1
  | 0x07, _ => 4
  | 0x09, 0 | 0x09, 6 | 0x09, 7 => 1
  | 0x09, _ => 128
  | 0x0A, 5 => 32
  | 0x0C, 1 => 3
  | 0x0C, 2 => 16
  | 0x0C, _ => 2
  | 0x0D, 1 => 16
  | _, _ => 1

/-- The target is in range (check 5); `PUG_READ` and `PUG_STATUS` name the position inputs as 0x80 to 0x83. -/
def targetOk (op n : Nat) : Bool :=
  decide (n < targetEnd op) || ((op = 0x0607 || op = 0x0608) && decide (0x80 ≤ n) && decide (n < 0x84))

/-! ### Checks 6 and 7 -/

/-- The target is fitted on this variant (check 6, Table 00-1). -/
def State.fitted (s : State) (op n : Nat) : Bool :=
  match op / 256 with
  | 0x01 => n < s.fitBridges
  | 0x02 => n < s.fitGfes
  | 0x03 => n < s.fitLcs
  | 0x04 => op = 0x0404 || decide (n < s.fitBridges)
  | 0x05 => n < s.fitLinks
  | 0x07 => n < s.fitCaps
  | 0x09 => n < s.fitContexts
  | 0x0A => s.hasCycle
  | 0x0E => s.hasDuplex || (op ≠ 0x0E01 && op ≠ 0x0E02)
  | _ => true

/-- The target is not retired, or the packet serves a retired one (check 7). -/
def State.unitServes (s : State) (op n : Nat) : Bool :=
  match op / 256 with
  | 0x02 => !s.isRetired 8 n
  | 0x03 => !(s.lc n).retired || (op = 0x030A && !(s.lc n).noHost)
  | 0x05 => !s.linkRetired n || op = 0x0502
  | 0x06 =>
    if op = 0x0607 ∨ op = 0x0608 ∨ op = 0x0603 ∨ op = 0x0604 then true
    else if op = 0x0605 then !s.isRetired 2 n else !s.slotRetired n
  | 0x07 => !s.isRetired 9 n || op = 0x0704 || op = 0x0705 || targetEnd op = 1
  | 0x0A => s.cyc.state ≠ .retired || op = 0x0A0C
  | 0x0C =>
    if op = 0x0C02 ∨ op = 0x0C04 then true
    else if n = 2 then !s.isRetired 5 0 || !s.isRetired 5 1 else !s.isRetired 5 n
  | _ => true

/-! ### Check 8: legal states -/

/-- Table 01-6. -/
def bridgeLegal (low : Nat) (x : BState) : Bool :=
  match low with
  | 0 | 3 => x = .offline
  | 1 | 4 | 5 => x = .armed
  | 2 | 11 => x = .offline || x = .armed
  | 6 => x = .precharge
  | 7 => x = .precharge || x = .running || x = .limiting
  | 8 => x ≠ .offline && x ≠ .retired
  | 9 => x = .safe
  | _ => true

/-- Table 02-14. -/
def gfLegal (low : Nat) (x : GfState) : Bool :=
  match low with
  | 0 => x = .free || x = .idle
  | 2 => x ≠ .free
  | 3 => x = .starting || x = .forming || x = .limiting
  | _ => true

/-- Table 04-13. -/
def loopLegal (low : Nat) (x : LcState) : Bool :=
  match low with
  | 0 => x = .empty || x = .loaded
  | 1 | 2 | 3 | 4 | 7 => x ≠ .empty && x ≠ .occupied
  | 5 => x = .loaded || x = .ready || x = .held || x = .fault
  | 6 => x = .loaded || x = .ready || x = .running || x = .held
  | 8 | 9 => x = .running
  | 11 => x = .loaded
  | _ => true

/-- Table 05-12, in the bridge's state. -/
def pwmLegal (low : Nat) (x : BState) : Bool :=
  match low with
  | 0 | 1 | 3 => x = .offline || x = .armed
  | 2 => x = .armed || x = .precharge || x = .running
  | _ => true

/-- Table 06-17, in the owning bridge's state. -/
def gateLegal (low : Nat) (x : BState) : Bool :=
  match low with
  | 0 => x = .offline || x = .armed
  | 1 => x ≠ .retired
  | 3 => x ≠ .offline && x ≠ .retired
  | 4 => x = .armed || x = .safe
  | _ => true

/-- Table 07-11. -/
def slotLegal (low : Nat) (x : SlotState) : Bool :=
  match low with
  | 0 => x = .free || x = .stopped || x = .sampling
  | 1 => x = .stopped || x = .sampling || x = .recal
  | 2 => x = .stopped || x = .sampling
  | 6 => x = .sampling
  | _ => true

/-- Table 08-8; the mask packets are judged per named unit (R365 to R367). -/
def capLegal (low : Nat) (x : CapState) : Bool :=
  match low with
  | 0 => x = .free || x = .idle || x = .full
  | 4 => x ≠ .free
  | 6 => x = .idle || x = .full
  | _ => true

/-- Table 09-10. -/
def safeLegal (low : Nat) (x : CommState) : Bool :=
  match low with
  | 0 => x ≠ .confirmed
  | 1 => x = .staged
  | 5 => x = .commissioned
  | _ => true

/-- Table 11-6, in the context's state. -/
def wheelLegal (low : Nat) (x : WcState) : Bool :=
  match low with
  | 1 => x = .free || x = .idle
  | 2 => x = .idle || x = .ready || x = .running
  | 3 | 4 | 9 => x = .idle
  | 5 => x ≠ .owned && x ≠ .free
  | _ => true

/-- Table 12-11. -/
def cycLegal (low : Nat) (x : CycState) : Bool :=
  match low with
  | 0 | 5 => x = .empty || x = .stop
  | 3 => x = .empty || x = .stop || x = .run
  | 4 | 6 | 7 | 8 => x = .stop || x = .run || x = .hold
  | 9 => x = .hold
  | 10 => x = .stop || x = .run
  | _ => true

/-- Table 13-16: a port that is up, or down. -/
def State.netLegal (s : State) (low n : Nat) : Bool :=
  let open_ (k : Nat) : Bool := s.portState k = .up || s.portState k = .down
  match low with
  | 0 => s.portState n = .up
  | 1 => if n = 2 then open_ 0 || open_ 1 else open_ n
  | 3 => open_ n
  | _ => true

/-- Table 13-17. -/
def ringLegal (low : Nat) (x : RingState) : Bool :=
  match low with
  | 0 | 3 => x ≠ .off
  | 1 | 2 => x = .line || x = .ring
  | _ => true

/-- Table 16-4. -/
def State.updateLegal (s : State) (low : Nat) : Bool :=
  match low with
  | 1 => (s.bank s.inactive).state = .loading
  | 2 => (s.bank s.inactive).state = .verified
  | 3 => s.svcs.trial
  | _ => true

/-- Table 14-14. -/
def dpxLegal (low : Nat) (x : DpxRole) : Bool :=
  match low with
  | 1 => x = .active
  | 2 => x ≠ .none
  | _ => true

/-- The packet is legal in the target's state and on its queue pair (check 8). -/
def State.legal (s : State) (op : Nat) (p : Pkt) : Bool :=
  let n := p.target.toNat
  let low := op % 256
  match op / 256 with
  | 0x00 => low < 3 || p.qp.val = 0
  | 0x01 => bridgeLegal low (s.bridge n).state && !(low = 3 && s.dbg.extest)
  | 0x02 => gfLegal low (s.gf n).state
  | 0x03 => loopLegal low (s.lc n).state
  | 0x04 => low = 4 || pwmLegal low (s.bridge n).state
  | 0x05 => gateLegal low (s.ownerState n)
  | 0x06 => low = 3 || low = 4 || low = 5 || low = 7 || low = 8 || slotLegal low (s.slot n).state
  | 0x07 => low = 1 || low = 2 || low = 3 || capLegal low (s.cap n).state
  | 0x08 => safeLegal low s.sag.comm
  | 0x09 =>
    if low = 0 then !s.wheel.ctx.toList.any fun c => c.state = .delayed
    else low = 6 || low = 7 || wheelLegal low (s.wc n).state
  | 0x0A => cycLegal low s.cyc.state
  | 0x0B => !(low = 0 || low = 1) || s.time.src = 0
  | 0x0C => s.netLegal low n
  | 0x0D => ringLegal low s.ring.state
  | 0x0E => dpxLegal low s.dpx.role
  | 0x0F => s.updateLegal low
  | _ => true

/-! ### Packets that change a duplexed bridge (14 R594 to R596) -/

/-- Packets of classes BRIDGE to PUG that only report. -/
def reportsOnly (op : Nat) : Bool := [0x010A, 0x0204, 0x030A, 0x0405, 0x0502, 0x0503, 0x0607, 0x0608].contains op

/-- The bridges a packet of classes BRIDGE to PUG acts on, itself or a unit bound to it. -/
def State.actsOn (s : State) (op : Nat) (p : Pkt) : List Nat :=
  let n := p.target.toNat
  let readers (k : Nat) : List Nat := numbers 8 fun b => s.bridgeReads b k
  match op / 256 with
  | 0x01 => [n]
  | 0x02 => (s.bridgeOfGf n).toList
  | 0x03 => (s.bridgeOfLc n).toList
  | 0x04 => if op = 0x0404 then numbers 8 fun b => (s.trip n).bmask.getLsbD b || (prm p 3).testBit b else [n]
  | 0x05 => (s.ownerOf n).toList
  | 0x06 =>
    if op = 0x0605 then s.bridgesWhere fun br => br.pos = some n
    else if op = 0x0603 then (List.range 8).flatMap fun k => readers (8 * n + k)
    else if op = 0x0604 then (s.slotsOf (8 + n)).flatMap readers
    else readers n
  | _ => []

/-- The packet would change a duplexed bridge or a unit bound to it. -/
def State.changesDuplexed (s : State) (op : Nat) (p : Pkt) : Bool := !reportsOnly op && (s.actsOn op p).any s.duplexed

/-- R596: refused off the active, and put off while the active hands over after its own finding. -/
def State.duplexCheck (s : State) (op : Nat) (p : Pkt) : Option Status :=
  if s.dpx.role = .none ∨ s.changesDuplexed op p = false then none
  else
    match s.dpx.role, s.dpx.handover with
    | .active, some (_, some _) => some .busyRetry
    | .active, _ => none
    | _, _ => some .stateRefused

/-! ### The checks in order -/

/-- The first check of Table 10-11a from check 3 on that fails; `own` marks a packet of the device's own queue pairs. -/
def State.check (s : State) (op : Nat) (p : Pkt) (own : Bool) : Option Status :=
  let n := p.target.toNat
  if headerOk op p = false then some .badField
  else if lengthOk op p = false then some .badLength
  else if targetOk op n = false then some .badField
  else if s.fitted op n = false then some .unitAbsent
  else if s.unitServes op n = false then some .unitRetired
  else if s.legal op p = false then some .stateRefused
  else if own then s.duplexCheck op p
  else none

/-! ### Starting a packet -/

/-- The late window in 125 ps steps (Table 10-9). -/
def lateSteps (p : Pkt) : Option Nat :=
  match field p.flags.toNat 3 2 with
  | 1 => some (usSteps 10)
  | 2 => some (usSteps 100)
  | 3 => some (msSteps 1)
  | _ => none

/-- The late window of a packet has passed (R438). -/
def State.isLate (s : State) (f : Flight) : Bool :=
  match lateSteps f.pkt with
  | some w =>
    if f.pkt.notBefore = 0 then decide (f.fetched + w < s.now)
    else decide (f.pkt.notBefore.toNat + w / 8 < s.dtbNs.toNat)
  | none => false

/-- The packet is forwarded to the standby (R595). -/
def State.forwards (s : State) (op : Nat) (p : Pkt) : Bool :=
  decide (s.dpx.role = .active) && s.dpx.heard && decide (s.dpx.partnerRole = .standby) && s.changesDuplexed op p

/-- A packet whose completion is held for the standby although its effect refused it: it was not accepted, and completes. -/
def State.unforward (s : State) (t : Ticket) : State :=
  match s.dpx.held.find? fun (h : Ticket × Answer × Nat) => h.1 = t with
  | some (_, a, d) =>
    if a.status = .done ∨ a.status = .doneNote then s
    else
      let s1 := s.modDpx fun x => { x with
        held := x.held.erase (t, a, d), forwarded := x.forwarded.filter fun (q : Ticket × Option Nat) => q.1 ≠ t }
      s1.answerNow t a
  | none => s

/-- An accepted packet has its effect, after it has been forwarded where R595 says so. -/
def State.accept (s : State) (t : Ticket) (op : Nat) (i : Instr) (p : Pkt) : State :=
  if s.forwards op p then
    let s1 := s.modDpx fun x => { x with forwarded := x.forwarded ++ [(t, none)] }
    (s1.effect t i).unforward t
  else s.effect t i

/-- A packet starts: too late, undefined, refused by a check, or accepted (R435, R436, R438). The spec gives no precedence
between R438 and the checks: a packet that is both late and refused by a check ends with TIMED_OUT (DESIGN CHOICE, log 74). -/
def State.start (s : State) (q : Fin 16) (f : Flight) : State :=
  let t : Ticket := ⟨q, f.id⟩
  let s := s.modQp q fun x => { x with flights := x.flights.map fun (g : Flight) => if g.id = f.id then { g with started := true } else g }
  if s.isLate f then s.ends t .timedOut
  else
    match f.cmd, opcodeOf f.cmd with
    | .adminPad _, _ => s.ends t .badOpcode
    | _, none => s.ends t .badOpcode
    | i, some op =>
      match s.check op f.pkt true with
      | some st => s.ends t st
      | none => s.accept t op i f.pkt

/-! ### Order (R439 to R442) -/

/-- `FENCE` and `BARRIER` packets (R440, R441). -/
def Flight.fences (f : Flight) : Bool := match f.cmd with | .fence _ => true | .barrier _ => true | _ => false

/-- A packet waits for every earlier one. -/
def Flight.fenced (f : Flight) : Bool := f.fences || f.pkt.flags.getLsbD 0

/-- The class of a packet: the high byte of its opcode, undefined ones too (R12, Table 00-4). -/
def Flight.cls (f : Flight) : Option Nat :=
  match f.undef with
  | some op => some (op / 256)
  | none => (opcodeOf f.cmd).map (· / 256)

/-- Same class and same target. -/
def Flight.alike (f g : Flight) : Bool := decide (f.cls = g.cls) && decide (f.pkt.target = g.pkt.target)

/-- A bridge whose arming has not ended judges its next packet afterwards (R32, R439). -/
def State.arming (s : State) (f : Flight) : Bool :=
  decide (f.cls = some 1) && (s.bridge f.pkt.target.toNat).arming.isSome

/-- What holds a packet back, given the packets fetched before it and not yet completed. -/
def State.holds (s : State) (before : List Flight) (f : Flight) : Bool :=
  (f.fenced && !before.isEmpty) || before.any (fun g => g.fences || (!g.started && g.alike f)) || s.arming f ||
    (decide (f.pkt.notBefore ≠ 0) && decide (s.dtbNs.toNat < f.pkt.notBefore.toNat))

/-- The first packet of a list that may start. -/
def State.freeFlight (s : State) : List Flight → List Flight → Option Flight
  | _, [] => none
  | before, f :: fs => if !f.started && !s.holds before f then some f else s.freeFlight (before ++ [f]) fs

/-- The packet that starts next: the lowest queue pair first, its packets in ring order (DESIGN CHOICE between queue pairs,
log 61: the spec gives no order among them). -/
def State.nextReady (s : State) : List (Fin 16) → Option (Fin 16 × Flight)
  | [] => none
  | q :: qs =>
    match s.freeFlight [] (s.qp q).flights with
    | some f => some (q, f)
    | none => s.nextReady qs

/-- Packets not started, over all queue pairs. -/
def State.waiting (s : State) : Nat := (s.qps.toList.map fun (x : QueuePair) => x.flights.countP fun f => !f.started).sum

/-- Every packet that may start starts, one after the other. -/
def State.settle : Nat → State → State
  | 0, s => s
  | n + 1, s =>
    match s.nextReady (List.finRange 16) with
    | some (q, f) => State.settle n (s.start q f)
    | none => s

/-- What follows a change: packets that may start do, and the power state and ATEST follow (R439, R628, R714). -/
def State.finish (s : State) : State := ((s.settle s.waiting).refreshPower).refreshAtest

/-- An event of the main die: nothing happens while it is not powered or held in reset. -/
def State.happen (s : State) (f : State → State) : State := if s.awake then (f s).finish else s

/-! ### Fetching (R419 to R426) -/

/-- Granules of a packet. -/
def granules (len : Nat) : Nat := 1 + divUp len 64

/-- A completion entry can be reserved, with one kept for the halt entry (R426). -/
def State.mayReserve (s : State) (q : Fin 16) : Bool :=
  let x := s.qp q
  decide (x.flights.length < min 64 (s.cplSize q - 1)) && decide (x.cpl.length + x.flights.length + 2 ≤ s.cplSize q)

/-- The fetch position moves on (Table 10-6). -/
def State.moveFetch (s : State) (q : Fin 16) (index g : Nat) (lap : Bool) : State :=
  let wraps := decide (s.cmdSize q ≤ index + g)
  s.modQp q fun x => { x with fetch := if wraps then 0 else index + g, lap := if wraps then !lap else lap, readRetry := none }

/-- A packet joins the packets in flight; `undef` is its opcode where no row names it. -/
def State.enlist (s : State) (q : Fin 16) (i : Instr) (p : Pkt) (undef : Option Nat) : State :=
  let f : Flight := { id := s.nextId, cmd := i, pkt := p, started := false, undef := undef, fetched := s.now }
  { s.modQp q fun x => { x with flights := x.flights ++ [f] } with nextId := s.nextId + 1 }

/-- A packet is taken from its position (R419, R426, check 1). -/
def State.takePacket (s : State) (i : Instr) (p : Pkt) (undef : Option Nat) : State :=
  let q := p.qp
  let len := p.len.toNat
  let s1 := s.modQp q fun x => { x with fetch := p.index.toNat, lap := p.lap }
  if 4032 < len then s1.haltQp q 2
  else if s.cmdSize q < p.index.toNat + granules len then s1.haltQp q 3
  else if s.mayReserve q = false then s
  else (s.moveFetch q p.index.toNat (granules len) p.lap).enlist q i p undef

/-- A packet is fetched; only a RUNNING queue pair fetches. A pad occupies the rest of the ring and leaves no entry (R421). -/
def State.fetched (s : State) (i : Instr) (p : Pkt) : State :=
  if (s.qp p.qp).state ≠ .running then s
  else
    match i with
    | .adminPad _ => s.moveFetch p.qp p.index.toNat (s.cmdSize p.qp) p.lap
    | _ => s.takePacket i p none

/-- A packet command: the controller fetches the packet, and starts it as soon as nothing holds it. -/
def State.arrive (s : State) (i : Instr) (p : Pkt) : State := s.happen fun s => s.fetched i p

end Sys2Proof.Machine
end

