-- ==== Sys2Proof/Machine/Windows.lean ====
section
/-! DEFINITION. The status windows (17 R685 to R687): a record shows what the unit's status packets report, with none of their
side effects. -/

namespace Sys2Proof.Machine

/-- The status packet of a class, and how many units its window has; none for ORDER. -/
def windowPacket (cls : Nat) (p : Pkt) : Option (Instr × Nat) :=
  match cls with
  | 0x00 => some (.identify p, 1)
  | 0x01 => some (.bridgeStatus p, 8)
  | 0x02 => some (.gfStatus p, 4)
  | 0x03 => some (.loopStatus p, 24)
  | 0x04 => some (.pwmStatus p, 8)
  | 0x05 => some (.gateStatus p, 24)
  | 0x06 => some (.pugStatus p, 52)
  | 0x07 => some (.capStatus p, 4)
  | 0x08 => some (.safeStatus p, 1)
  | 0x09 => some (.wheelStatus p, 128)
  | 0x0A => some (.cycStatus p, 1)
  | 0x0B => some (.timeStatus p, 1)
  | 0x0C => some (.netStatus p, 2)
  | 0x0D => some (.nrStatus p, 1)
  | 0x0E => some (.dpxReport p, 1)
  | 0x0F => some (.fwStatus p, 1)
  | _ => none

/-- A status packet for a unit, as queue pair 0 would carry it. -/
def windowPkt (unit sel : Nat) : Pkt :=
  { qp := 0, flags := 0, tag := 0, len := 0, target := BitVec.ofNat 16 unit, barrier := 0, resv := 0, notBefore := 0,
    params := BitVec.ofNat 8 sel :: List.replicate 39 0, payload := [], index := 0, lap := false }

/-- What a status packet would answer now, on a queue pair set aside for the reading. -/
def State.reported (s : State) (i : Instr) (p : Pkt) : Word × Word × Word :=
  let f : Flight := { id := 0, cmd := i, pkt := p, started := true, fetched := 0 }
  let q : QueuePair := { state := .running, flights := [f] }
  let s1 := ({ s with qps := vset s.qps 0 q }).modDpx fun d => { d with forwarded := [] }
  match ((s1.effect ⟨0, 0⟩ i).qp 0).cpl with
  | e :: _ => (e.r0, e.r1, e.extra)
  | [] => (0, 0, 0)

/-- The sixteen words of a record (Table 17-12). -/
def State.windowRecord (s : State) (cls unit : Nat) : List Word :=
  let target := if cls = 6 ∧ 48 ≤ unit then 0x80 + (unit - 48) else unit
  let read (sel : Nat) : Word × Word × Word :=
    match windowPacket cls (windowPkt target sel) with
    | some (i, _) => s.reported i (windowPkt target sel)
    | none => (0, 0, 0)
  match windowPacket cls (windowPkt target 0) with
  | some (_, n) =>
    if n ≤ unit ∨ s.fitted (cls * 256) unit = false then List.replicate 16 0
    else
      let w := read 0
      let rest : List Word :=
        if cls = 2 then [s.evtWord unit, (read 1).1, (read 1).2.1]
        else if cls = 3 ∨ cls = 4 then [(read 1).1, (read 1).2.1]
        else if cls = 5 then [(read 2).1, (read 2).2.1]
        else if cls = 7 ∨ cls = 8 ∨ cls = 9 ∨ cls = 10 ∨ cls = 11 ∨ cls = 15 then [w.2.2]
        else []
      ([w.1, w.2.1] ++ rest ++ List.replicate 16 0).take 16
  | none => List.replicate 16 0

/-- WINDOW_WORD0_READ (R687): word 0 is returned, words 1 to 15 are latched. -/
def evWindowWord0Read (cls : Fin 17) (unit : Fin 128) (s : State) : State :=
  let r := s.windowRecord cls unit
  let s := s.modPwr fun p => { p with latched := assocPut (128 * cls + unit) (r.drop 1) p.latched }
  { s with lastRead := r.headD 0 }

/-- What a read of word k returns, as latched from word 1 on. -/
def State.windowWord (s : State) (cls : Fin 17) (unit : Fin 128) (k : Nat) : Word :=
  if k = 0 then (s.windowRecord cls unit).headD 0
  else match assocGet (128 * cls + unit) s.pwr.latched with
    | some r => r.getD (k - 1) 0
    | none => (s.windowRecord cls unit).getD k 0

end Sys2Proof.Machine
end

