-- ==== Sys2Proof/Machine/Events.lean ====
section
/-! DEFINITION. Events that let packets run: a fetch from a ring (10 R423), the times of a waiting packet (R437, R438), and the
fragments of a ring message, which may carry a packet of the duplex partner (13 R563, 14 R594, R595). -/

namespace Sys2Proof.Machine

/-! ### Fetching from a ring (R419 to R425) -/

/-- The packet whose bytes stand at a granule of a ring (Table 10-8). -/
def parsePkt (q : Fin 16) (index : Nat) (lap : Bool) (bs : List Byte) : Pkt :=
  let len := le bs 6 2
  { qp := q, flags := BitVec.ofNat 16 (le bs 2 2), tag := BitVec.ofNat 16 (le bs 4 2), len := BitVec.ofNat 16 len,
    target := BitVec.ofNat 16 (le bs 8 2), barrier := BitVec.ofNat 16 (le bs 10 2), resv := BitVec.ofNat 32 (le bs 12 4),
    notBefore := BitVec.ofNat 64 (le bs 16 8), params := slice bs 24 40, payload := slice bs 64 len,
    index := BitVec.ofNat 16 index, lap := lap }

/-- The bytes of a local ring from a granule to the ring's end. -/
def State.localBytes (s : State) (q granule : Nat) : List Byte :=
  let n := min 4096 (64 * (s.cmdSize q - granule))
  (cellsRead 0 (64 * granule) n (vget s.localRing q)).map fun v => BitVec.ofNat 8 v

/-- PACKET_FETCH (R421, R423): the packet at the fetch position, once the tail covers it. The bytes come from host memory, or
from the local ring while DRAM's clock runs. -/
def evPacketFetch (q : Fin 16) (bytes : List Byte) (s : State) : State :=
  let x := s.qp q
  let size := s.cmdSize q
  let avail := ringDist size x.fetch x.tail
  let bs := if s.qpLocal q then s.localBytes q x.fetch else bytes
  let p := parsePkt q x.fetch x.lap bs
  let len := le bs 6 2
  if x.state ≠ .running ∨ avail = 0 ∨ (s.qpLocal q ∧ (s.pll 3).relock) then s
  else if le bs 0 2 = 0x0002 then (if avail < size - x.fetch then s else s.fetched (.adminPad p) p)
  else if len ≤ 4032 ∧ x.fetch + granules len ≤ size ∧ avail < granules len then s
  else
    match packetOf (le bs 0 2) p with
    | some i => s.fetched i p
    | none => s.takePacket (.adminPad p) p (some (le bs 0 2))

/-! ### Waiting packets (R437, R438) -/

/-- The oldest packet of a queue pair with a tag that has not started. -/
def State.waitingTag (s : State) (q : Fin 16) (tag : Half) : Option Flight :=
  (s.qp q).flights.find? fun (f : Flight) => !f.started && decide (f.pkt.tag = tag)

/-- NOT_BEFORE_REACHED (R437): the DTB reaches the packet's time; what may start then does. -/
def evNotBeforeReached (q : Fin 16) (tag : Half) (s : State) : State :=
  match s.waitingTag q tag with
  | some f => if f.pkt.notBefore = 0 then s else s.advanceToNs f.pkt.notBefore.toNat
  | none => s

/-- LATE_WINDOW_EXPIRY (R438): a packet that could not start within its window. -/
def evLateWindowExpiry (q : Fin 16) (tag : Half) (s : State) : State :=
  match s.waitingTag q tag with
  | some f =>
    match lateSteps f.pkt with
    | some w =>
      let s := if f.pkt.notBefore = 0 then s.advanceTo (f.fetched + w) else s.advanceToNs (f.pkt.notBefore.toNat + w / 8)
      let s := s.settle s.waiting
      if (s.qp q).flights.any fun (g : Flight) => decide (g.id = f.id) && !g.started then s.ends ⟨q, f.id⟩ .timedOut else s
    | none => s
  | none => s

/-! ### Messages of the ring (13 R563, 14 R594, R595) -/

/-- A packet of the partner is applied as if it came from a queue pair, but leaves no completion entry here (R594 step 2). -/
def State.replay (s : State) (bs : List Byte) : State :=
  let p := parsePkt 0 0 false bs
  match packetOf (le bs 0 2) p with
  | some i =>
    let op := le bs 0 2
    if 1 ≤ op / 256 ∧ op / 256 ≤ 6 ∧ s.check op p false = none then s.effect ⟨0, s.nextId⟩ i else s
  | none => s

/-- A message of the partner that belongs to the duplex service. -/
def State.takePartner (s : State) (m : DpxMsg) : State :=
  match m with
  | .result q tag code => (s.forwardResult q tag code).judgeStandby
  | .packet bs => if s.dpx.role = .pairing ∨ s.dpx.role = .standby then s.replay bs else s
  | .health w c needs links =>
    (s.modDpx fun d => { d with partnerHealth := w, partnerCheck := c, partnerNeeds := needs, partnerLinks := links }).judgeStandby

/-- A whole message: the duplex service takes its own, the rest goes to the posted `NR_RECV`. -/
def State.wholeMessage (s : State) (src : Nat) (bs : List Byte) : State × Nat :=
  match (if s.duplexInForce ∧ src = s.partner then Config.dpxMessage bs else none) with
  | some m => (s.takePartner m, 0)
  | none => s.takeMessage src bs

/-- FRAGMENT_FRAME (R563, R571): forwarded; a fragment for this node joins its message, and a message to this node alone is
answered. -/
def evFragmentFrame (nb : Bool) (src hops : BitVec 4) (payload : List Byte) (s : State) : State :=
  if ¬ s.ring.inserted ∨ src.toNat = s.nodeId then s
  else
    let s := s.forward nb 6 src.toNat hops.toNat payload
    let dest := byteAt payload 0
    let mine := decide (dest = s.nodeId)
    if mine = false ∧ dest ≠ 0xFF then s
    else if fragmentOk payload = false then s.modRing fun r => { r with discards := r.discards + 1 }
    else
      let (s, whole, missing) := s.assemble src.toNat payload
      match whole with
      | some bs =>
        let (s, result) := s.wholeMessage src.toNat bs
        if mine then s.oweAck src.toNat (byteAt payload 1) result else s
      | none => if missing && mine then s.oweAck src.toNat (byteAt payload 1) 2 else s

end Sys2Proof.Machine
end

