-- ==== Sys2Proof/Machine/Submit.lean ====
section
/-! DEFINITION. How a command reaches the block: a packet through its queue pair, an event of the main die, an event that the
supplies and the reset pin bring about in any power state; and what follows some events in other units. -/

namespace Sys2Proof.Machine

/-- A packet command: the packet is fetched, checked, and started as soon as nothing holds it (10 R423 to R442). -/
def packet (i : Instr) (p : Pkt) (s : State) : Host.Outcome State Fault Refusal :=
  if p.wf then .next (s.arrive i p) else .refused .illFormed

/-- An event or access of the main die, with whether its operands are well formed (`Instr.wf`). -/
def event (wf : Bool) (f : State → State) (s : State) : Host.Outcome State Fault Refusal :=
  if wf then .next (s.happen f) else .refused .illFormed

/-- A frame that arrives on the ring: taken by the main die while it is awake, repeated in WATCH (R630). -/
def frameEvent (wf : Bool) (again f : State → State) (s : State) : Host.Outcome State Fault Refusal :=
  if wf then .next ((again s).happen f) else .refused .illFormed

/-- An event that reaches the device in any power state. -/
def always (f : State → State) (s : State) : Host.Outcome State Fault Refusal :=
  .next (let t := f s; if t.awake then t.finish else t)

/-- A carrier event: the samples whose deadline a commit point ends are abandoned before it (04 R186), and it is a measurement
instant of the bridge's context and engine (04 R160, 02 R68) and of the capture groups on it (05 R212, 08 R345). -/
def carrierThen (b : Fin 8) (s : State) : State :=
  if (s.pwm b).running then (((evCarrierEvent b (s.expireSamples b)).latchSample b).latchOuter b).capTick b else s

/-- A frame of a timer is an instant of the capture groups on it. -/
def pugFrameThen (src : Fin 10) (inputs : List SlotInput) (s : State) : State :=
  let t := evPugFrame src inputs s
  if 8 ≤ src.val ∧ (vget s.pugTimers (src.val - 8)).en then t.capTick src else t

/-- A lockstep mismatch of channel A: an active device yields its duplexed bridges (14 R606). -/
def lockstepThen (s : State) : State :=
  let t := evLockstepMismatch s
  if s.dpx.role = .active then t.yieldControl else t

end Sys2Proof.Machine
end

