-- ==== Sys2Proof/Machine/BridgeCmd.lean ====
section
/-! DEFINITION. The commands of bridges (01). -/

namespace Sys2Proof.Machine

/-- BRIDGE_DEFINE (R19): Defines an OFFLINE bridge's role, safe state, legs, DC-link slot and precharge settings. -/
def execBridgeDefine (p : Pkt) (s : State) : Host.Outcome State Fault Refusal := packet (.bridgeDefine p) p s

/-- BRIDGE_SET_ROLE (R25): Changes an ARMED bridge's role, safe state and bindings, then waits for the boosters to acknowledge the new fallback. -/
def execBridgeSetRole (p : Pkt) (s : State) : Host.Outcome State Fault Refusal := packet (.bridgeSetRole p) p s

/-- BRIDGE_BIND (R47): Binds a loop context, grid-forming engine and position input to a bridge. -/
def execBridgeBind (p : Pkt) (s : State) : Host.Outcome State Fault Refusal := packet (.bridgeBind p) p s

/-- BRIDGE_ARM (R32): Trains the bridge's gate links, downloads the fallback, starts the heartbeat and the carrier. -/
def execBridgeArm (p : Pkt) (s : State) : Host.Outcome State Fault Refusal := packet (.bridgeArm p) p s

/-- BRIDGE_DISARM (R31): Returns an ARMED bridge to OFFLINE. -/
def execBridgeDisarm (p : Pkt) (s : State) : Host.Outcome State Fault Refusal := packet (.bridgeDisarm p) p s

/-- BRIDGE_PRECHARGE (R36): Enters PRECHARGE, asserts PRE_GPIO and waits for the DC link to qualify. -/
def execBridgePrecharge (p : Pkt) (s : State) : Host.Outcome State Fault Refusal := packet (.bridgePrecharge p) p s

/-- BRIDGE_START (R40): Releases PRE_GPIO, starts the contexts and completes when the first duty is committed. -/
def execBridgeStart (p : Pkt) (s : State) : Host.Outcome State Fault Refusal := packet (.bridgeStart p) p s

/-- BRIDGE_STOP (R41): Ramps the set-points to zero over STOP_RAMP, or joins a ramp already running. -/
def execBridgeStop (p : Pkt) (s : State) : Host.Outcome State Fault Refusal := packet (.bridgeStop p) p s

/-- BRIDGE_SAFE (R46): Puts the bridge into SAFE with cause 0x0100. -/
def execBridgeSafe (p : Pkt) (s : State) : Host.Outcome State Fault Refusal := packet (.bridgeSafe p) p s

/-- BRIDGE_RECOVER (R43): Downloads the configured fallback and waits for the acknowledgements to return a SAFE bridge to ARMED. -/
def execBridgeRecover (p : Pkt) (s : State) : Host.Outcome State Fault Refusal := packet (.bridgeRecover p) p s

/-- BRIDGE_STATUS (R48): Returns the bridge's state, role, safe state, retired-link count and last cause. -/
def execBridgeStatus (p : Pkt) (s : State) : Host.Outcome State Fault Refusal := packet (.bridgeStatus p) p s

/-- BRIDGE_BIND_IMAGE (R58): Binds set-point channels and the status block to process-image offsets. -/
def execBridgeBindImage (p : Pkt) (s : State) : Host.Outcome State Fault Refusal := packet (.bridgeBindImage p) p s

/-- ARM_TIMEOUT (R32): BRIDGE_ARM does not complete within 2 ms and the bridge stays OFFLINE. -/
def execArmTimeout (b : Fin 8) (s : State) : Host.Outcome State Fault Refusal := event true (evArmTimeout b) s

/-- PRECHARGE_DONE (R36): The DC-link slot has stayed above PRE_LEVEL for 5 ms and BRIDGE_PRECHARGE completes. -/
def execPrechargeDone (b : Fin 8) (s : State) : Host.Outcome State Fault Refusal := event true (evPrechargeDone b) s

/-- PRECHARGE_TIMEOUT (R37): PRE_TIMEOUT elapses before the precharge condition is met. -/
def execPrechargeTimeout (b : Fin 8) (s : State) : Host.Outcome State Fault Refusal := event true (evPrechargeTimeout b) s

/-- PRECHARGE_TIMED_DONE (R39): A timed precharge completes after PRE_TIMEOUT. -/
def execPrechargeTimedDone (b : Fin 8) (s : State) : Host.Outcome State Fault Refusal := event true (evPrechargeTimedDone b) s

/-- STOP_RAMP_END (R41): The stop ramp ends, and the bridge applies IDLE and enters ARMED. -/
def execStopRampEnd (b : Fin 8) (s : State) : Host.Outcome State Fault Refusal := event true (evStopRampEnd b) s

/-- SSL_LOSS (R384): An SSL line has not toggled for 60 µs, so the bridge enters SAFE. -/
def execSslLoss (b : Fin 8) (s : State) : Host.Outcome State Fault Refusal := event true (evSslLoss b) s

end Sys2Proof.Machine
end

