-- ==== Sys2Proof/Machine/CaptureCmd.lean ====
section
/-! DEFINITION. The commands of capture units (08). -/

namespace Sys2Proof.Machine

/-- CAP_CONFIG (R362): Configures a capture unit, allocates its segments and sets its group role. -/
def execCapConfig (p : Pkt) (s : State) : Host.Outcome State Fault Refusal := packet (.capConfig p) p s

/-- CAP_ARM (R365): Arms the named capture groups at their first common sample. -/
def execCapArm (p : Pkt) (s : State) : Host.Outcome State Fault Refusal := packet (.capArm p) p s

/-- CAP_DISARM (R366): Stops the named groups and truncates a record that is filling. -/
def execCapDisarm (p : Pkt) (s : State) : Host.Outcome State Fault Refusal := packet (.capDisarm p) p s

/-- CAP_FORCE (R367): Forces a software trigger in the named groups. -/
def execCapForce (p : Pkt) (s : State) : Host.Outcome State Fault Refusal := packet (.capForce p) p s

/-- CAP_READ (R369): Copies segment bytes into the packet's payload area. -/
def execCapRead (p : Pkt) (s : State) : Host.Outcome State Fault Refusal := packet (.capRead p) p s

/-- CAP_STATUS (R372): Returns the capture unit's state and record counts. -/
def execCapStatus (p : Pkt) (s : State) : Host.Outcome State Fault Refusal := packet (.capStatus p) p s

/-- CAP_RELEASE (R370): Releases a unit's segments and returns the unit to FREE. -/
def execCapRelease (p : Pkt) (s : State) : Host.Outcome State Fault Refusal := packet (.capRelease p) p s

/-- CAP_SAMPLE_CLOSE (R346): A capture group closes sample k at t_k + LAG, evaluates its triggers and stores its entries. -/
def execCapSampleClose (u : Fin 4) (s : State) : Host.Outcome State Fault Refusal := event true (evCapSampleClose u) s

/-- CAP_EXT_EDGE (R357): A rising edge on CAP_EXT0 or CAP_EXT1 triggers the enabled groups. -/
def execCapExtEdge (n : Fin 2) (s : State) : Host.Outcome State Fault Refusal := event true (evCapExtEdge n) s

/-- CAPTURE_UPSET (R373): A segment read-back or trigger-comparator mismatch upsets a capture unit. -/
def execCaptureUpset (u : Fin 4) (s : State) : Host.Outcome State Fault Refusal := event true (evCaptureUpset u) s

end Sys2Proof.Machine
end

