-- ==== Sys2Proof/Machine/CycleCmd.lean ====
section
/-! DEFINITION. The commands of the cycle engine (12). -/

namespace Sys2Proof.Machine

/-- CYC_CONFIG (R526): Sets the restart mode, AUTO_RUN, KS_LIMIT and output offsets. -/
def execCycConfig (p : Pkt) (s : State) : Host.Outcome State Fault Refusal := packet (.cycConfig p) p s

/-- CYC_LOAD (R516): Writes image bytes into the greenware staging area. -/
def execCycLoad (p : Pkt) (s : State) : Host.Outcome State Fault Refusal := packet (.cycLoad p) p s

/-- CYC_VERIFY (R517): Verifies the staged image and writes the proof report. -/
def execCycVerify (p : Pkt) (s : State) : Host.Outcome State Fault Refusal := packet (.cycVerify p) p s

/-- CYC_CHANGE (R518): Schedules the switch-in of verified greenware. -/
def execCycChange (p : Pkt) (s : State) : Host.Outcome State Fault Refusal := packet (.cycChange p) p s

/-- CYC_MODE (R508): Sets the engine to STOP, RUN or HOLD. -/
def execCycMode (p : Pkt) (s : State) : Host.Outcome State Fault Refusal := packet (.cycMode p) p s

/-- CYC_STATION (R500): Configures a remote I/O station and its substitute blocks. -/
def execCycStation (p : Pkt) (s : State) : Host.Outcome State Fault Refusal := packet (.cycStation p) p s

/-- CYC_FORCE (R522): Sets or removes a force on a program variable. -/
def execCycForce (p : Pkt) (s : State) : Host.Outcome State Fault Refusal := packet (.cycForce p) p s

/-- CYC_READ (R524): Reads a consistent snapshot of a variable. -/
def execCycRead (p : Pkt) (s : State) : Host.Outcome State Fault Refusal := packet (.cycRead p) p s

/-- CYC_WRITE (R524): Writes a variable at the next input phase of its owning task. -/
def execCycWrite (p : Pkt) (s : State) : Host.Outcome State Fault Refusal := packet (.cycWrite p) p s

/-- CYC_DEBUG (R528): Steps, sets or clears breakpoints, or continues in HOLD. -/
def execCycDebug (p : Pkt) (s : State) : Host.Outcome State Fault Refusal := packet (.cycDebug p) p s

/-- CYC_STORE (R530): Stores the image in force and its configuration to NOR as the boot image. -/
def execCycStore (p : Pkt) (s : State) : Host.Outcome State Fault Refusal := packet (.cycStore p) p s

/-- CYC_DISCARD (R531): Discards the greenware and cancels a pending change. -/
def execCycDiscard (p : Pkt) (s : State) : Host.Outcome State Fault Refusal := packet (.cycDiscard p) p s

/-- CYC_STATUS (R529): Returns the engine state, greenware state, flags and skips. -/
def execCycStatus (p : Pkt) (s : State) : Host.Outcome State Fault Refusal := packet (.cycStatus p) p s

/-- EIC_SUBMIT (R498): EIC packet instruction that copies a packet into its ring and advances the tail. -/
def execEicSubmit (r : Fin 5) (s : State) : Host.Outcome State Fault Refusal := event true (evEicSubmit r) s

/-- EIC_POLL (R498): EIC poll instruction that copies the next completion entry and advances the head. -/
def execEicPoll (r : Fin 5) (s : State) : Host.Outcome State Fault Refusal := event true (evEicPoll r) s

/-- EIC_READY (R499): EIC ready instruction that requests a Wheel context ready and later receives its outcome. -/
def execEicReady (r : Fin 5) (s : State) : Host.Outcome State Fault Refusal := event true (evEicReady r) s

/-- EIC_SIGNAL (R499): EIC signal instruction that raises a Wheel signal mask. -/
def execEicSignal (r : Fin 5) (s : State) : Host.Outcome State Fault Refusal := event true (evEicSignal r) s

/-- RDTIME (R490): EIC instruction that reads the DTB nanoseconds. -/
def execRdtime (r : Fin 5) (s : State) : Host.Outcome State Fault Refusal := event true (evRdtime r) s

/-- RDCNT (R490): EIC instruction that reads a task or engine counter. -/
def execRdcnt (r : Fin 5) (s : State) : Host.Outcome State Fault Refusal := event true (evRdcnt r) s

/-- TRACE (R490): EIC instruction that appends a stamped value to the trace ring. -/
def execTrace (r : Fin 5) (s : State) : Host.Outcome State Fault Refusal := event true (evTrace r) s

/-- EVENT_TASK_END (R464): An event task ends and the event lane becomes free. -/
def execEventTaskEnd (s : State) : Host.Outcome State Fault Refusal := event true evEventTaskEnd s

/-- CYCLE_START (R495): A cyclic task's start instant begins its input phase, or is skipped if the cycle overran. -/
def execCycleStart (k : Fin 4) (s : State) : Host.Outcome State Fault Refusal :=
  event true (fun s => if s.pwr.failing.isSome then s else evCycleStart k s) s

/-- CYCLE_END (R495): A task's logic ends and its output phase publishes outputs and set-points. -/
def execCycleEnd (k : Fin 4) (s : State) : Host.Outcome State Fault Refusal := event true (evCycleEnd k) s

/-- OUTPUT_WINDOW (R501): At t_c + OUT_OFS the output frames go to the task's PRESENT stations. -/
def execOutputWindow (k : Fin 4) (s : State) : Host.Outcome State Fault Refusal := event true (evOutputWindow k) s

/-- KILN_SITTER_TRIP (R514): The watchdog trips on overruns or over-long tasks, and the engine enters STOP. -/
def execKilnSitterTrip (s : State) : Host.Outcome State Fault Refusal := event true evKilnSitterTrip s

/-- CHANGE_SWITCH (R518): At the switch instant the greenware is switched in with carry-over. -/
def execChangeSwitch (s : State) : Host.Outcome State Fault Refusal := event true evChangeSwitch s

/-- IMAGE_BOOT_LOAD (R506): The stored program image is loaded and verified after the lock, and run if AUTO_RUN. -/
def execImageBootLoad (s : State) : Host.Outcome State Fault Refusal := event true evImageBootLoad s

end Sys2Proof.Machine
end

