-- ==== Sys2Proof/Machine/DebugCmd.lean ====
section
/-! DEFINITION. The commands of debug access and JTAG (19). -/

namespace Sys2Proof.Machine

/-- DBG_REQ (R708): Writing DBG_CTRL.REQ loads a fresh challenge. -/
def execDbgReq (v : Word) (s : State) : Host.Outcome State Fault Refusal := event true (evDbgReq v) s

/-- DBG_SUBMIT (R709): Writing DBG_CTRL.SUBMIT checks the response and grants the level or counts a failure. -/
def execDbgSubmit (s : State) : Host.Outcome State Fault Refusal := event true evDbgSubmit s

/-- DBG_REVOKE (R710): Writing DBG_CTRL.REVOKE ends the grant, turns TMX and ATEST off and leaves HOLD. -/
def execDbgRevoke (s : State) : Host.Outcome State Fault Refusal := event true evDbgRevoke s

/-- DBG_LOCKOUT_END (R709): The 60 s submission lockout expires. -/
def execDbgLockoutEnd (s : State) : Host.Outcome State Fault Refusal := event true evDbgLockoutEnd s

/-- DBG_ATEST_WRITE (R714): A write to DBG_ATEST selects an analogue source, or is refused for a slot in use. -/
def execDbgAtestWrite (v : Word) (s : State) : Host.Outcome State Fault Refusal := event true (evDbgAtestWrite v) s

/-- DBG_AUTH (R716): The JTAG DBG_AUTH Update-DR performs a read or write in the DBG block. -/
def execDbgAuth (dr : BitVec 40) (s : State) : Host.Outcome State Fault Refusal := event true (evDbgAuth dr) s

/-- EXTEST (R717): The JTAG EXTEST instruction loads at level 3 with every bridge OFFLINE, or loads BYPASS and is refused. -/
def execExtest (s : State) : Host.Outcome State Fault Refusal := event true evExtest s

/-- EXTEST_END (R719): Ending EXTEST returns every ball to its functional state. -/
def execExtestEnd (s : State) : Host.Outcome State Fault Refusal := event true evExtestEnd s

/-- DBG_MBOX (R720): The JTAG mailbox accepts a firmware image for recovery in boot-ROM stage 0. -/
def execDbgMbox (bytes : List Byte) (first last : Bool) (s : State) : Host.Outcome State Fault Refusal :=
  event true (evDbgMbox bytes first last) s

/-- IDCODE (R715): The JTAG IDCODE instruction returns the identity code. -/
def execIdcode (s : State) : Host.Outcome State Fault Refusal := event true evIdcode s

/-- BYPASS (R715): The JTAG BYPASS instruction. -/
def execBypass (s : State) : Host.Outcome State Fault Refusal := event true evBypass s

/-- SAMPLE_PRELOAD (R715): The JTAG SAMPLE/PRELOAD instruction. -/
def execSamplePreload (s : State) : Host.Outcome State Fault Refusal := event true evSamplePreload s

end Sys2Proof.Machine
end

