-- ==== Sys2Proof/Machine/DuplexCmd.lean ====
section
/-! DEFINITION. The commands of duplex operation and the upset rule (14). -/

namespace Sys2Proof.Machine

/-- DPX_REPORT (R612): Returns DPX_STATUS and DPX_MIRROR. -/
def execDpxReport (p : Pkt) (s : State) : Host.Outcome State Fault Refusal := packet (.dpxReport p) p s

/-- DPX_SWITCH (R601): Starts a handover from the active to the standby. -/
def execDpxSwitch (p : Pkt) (s : State) : Host.Outcome State Fault Refusal := packet (.dpxSwitch p) p s

/-- DPX_HEALTH (R613): Returns the device's own health and the partner's. -/
def execDpxHealth (p : Pkt) (s : State) : Host.Outcome State Fault Refusal := packet (.dpxHealth p) p s

/-- FLT_CONFIG (R614): Sets N and W of the leaky bucket for a channel kind. -/
def execFltConfig (p : Pkt) (s : State) : Host.Outcome State Fault Refusal := packet (.fltConfig p) p s

/-- FLT_LOG_READ (R615): Copies consecutive fault-log entries into the payload area. -/
def execFltLogRead (p : Pkt) (s : State) : Host.Outcome State Fault Refusal := packet (.fltLogRead p) p s

/-- FLT_STATUS (R616): Returns a channel's state, bucket level and upset count. -/
def execFltStatus (p : Pkt) (s : State) : Host.Outcome State Fault Refusal := packet (.fltStatus p) p s

/-- RETRY_RUN_END (R579): A retry run ends, succeeding or failing, and the next run starts if allowed. -/
def execRetryRunEnd (kind : Fin 13) (unit : Word) (ok : Bool) (s : State) : Host.Outcome State Fault Refusal :=
  event true (evRetryRunEnd kind unit ok) s

/-- BUCKET_LEAK (R581): A bucket's leak period ends and one unit leaks. -/
def execBucketLeak (kind : Fin 13) (unit : Word) (s : State) : Host.Outcome State Fault Refusal :=
  event true (evBucketLeak kind unit) s

/-- ECC_ERROR (R584): A DRAM ECC error is corrected and counted, or retires its page. -/
def execEccError (page : Word) (corrected retryOk : Bool) (s : State) : Host.Outcome State Fault Refusal :=
  event true (evEccError page corrected retryOk) s

/-- MIRROR_FRAME (R599): The standby receives mirror records and loads them into its contexts and engines. -/
def execMirrorFrame (nb : Bool) (src hops : BitVec 4) (payload : List Byte) (s : State) : Host.Outcome State Fault Refusal :=
  frameEvent (decide (payload.length = 640)) (fun s => s.repeatFrame nb 5 src.toNat hops.toNat payload)
    (evMirrorFrame nb src hops payload) s

/-- PAIRING_TIMEOUT (R592): No active partner has been heard 100 ms after insertion, so the device may become ACTIVE. -/
def execPairingTimeout (s : State) : Host.Outcome State Fault Refusal := event true evPairingTimeout s

/-- STATE_TRANSFER_DONE (R594): The replay and arming end and mirroring starts, making the device STANDBY. -/
def execStateTransferDone (s : State) : Host.Outcome State Fault Refusal := event true evStateTransferDone s

/-- FORWARD_TIMEOUT (R595): The standby's result to a forwarded packet does not arrive in 1 ms, so reason bit 6 is set. -/
def execForwardTimeout (qp : Fin 16) (tag : Half) (s : State) : Host.Outcome State Fault Refusal :=
  event true (evForwardTimeout qp tag) s

/-- HANDOVER_COMMIT (R602): At c1 the standby commits the frozen compares and starts the context. -/
def execHandoverCommit (b : Fin 8) (s : State) : Host.Outcome State Fault Refusal := event true (evHandoverCommit b) s

/-- HANDOVER_OWN (R602): At t_h the standby asserts OWN. -/
def execHandoverOwn (b : Fin 8) (s : State) : Host.Outcome State Fault Refusal := event true (evHandoverOwn b) s

/-- HANDOVER_ABANDON (R604): No claim arrives within 1 ms and the handover is abandoned. -/
def execHandoverAbandon (s : State) : Host.Outcome State Fault Refusal := event true evHandoverAbandon s

/-- STAND_DOWN (R608): Boosters still follow A 100 µs after a takeover, so the standby gives way. -/
def execStandDown (g : Fin 24) (s : State) : Host.Outcome State Fault Refusal := event true (evStandDown g) s

/-- CONES_ROUND (R589): A 100 ms background test round ends. -/
def execConesRound (failed : List TestFail) (s : State) : Host.Outcome State Fault Refusal := event true (evConesRound failed) s

end Sys2Proof.Machine
end

