-- ==== Sys2Proof/Machine/GateCmd.lean ====
section
/-! DEFINITION. The commands of gate links (06). -/

namespace Sys2Proof.Machine

/-- GATE_PROFILE (R255): Sets the gate profile and the booster fields, committing them to the booster when ARMED. -/
def execGateProfile (p : Pkt) (s : State) : Host.Outcome State Fault Refusal := packet (.gateProfile p) p s

/-- GATE_ADAPT (R298): Configures adaptation of the weak phase toward a dv/dt target. -/
def execGateAdapt (p : Pkt) (s : State) : Host.Outcome State Fault Refusal := packet (.gateAdapt p) p s

/-- GATE_STATUS (R304): Returns the gate-link status for a selector and clears its sticky flags. -/
def execGateStatus (p : Pkt) (s : State) : Host.Outcome State Fault Refusal := packet (.gateStatus p) p s

/-- GATE_TELEM (R305): Returns the booster supply level, temperature and plateau telemetry. -/
def execGateTelem (p : Pkt) (s : State) : Host.Outcome State Fault Refusal := packet (.gateTelem p) p s

/-- GATE_BOOSTER_RW (R303): Reads a maker's booster register, or writes and commits one. -/
def execGateBoosterRw (p : Pkt) (s : State) : Host.Outcome State Fault Refusal := packet (.gateBoosterRw p) p s

/-- TRIP_BREAK (R264): A TRIP break on the uplink is recognised and latched at once, and the bridge enters SAFE. -/
def execTripBreak (g : Fin 24) (s : State) : Host.Outcome State Fault Refusal := event true (evTripBreak g) s

/-- FAULT_CODE_RECEIVED (R266): The code group after a break arrives, or fails to arrive, and is classified and latched. -/
def execFaultCodeReceived (g : Fin 24) (group : Option (BitVec 5)) (s : State) : Host.Outcome State Fault Refusal :=
  event true (evFaultCodeReceived g group) s

/-- BLANK_WINDOW_CLOSE (R282): A switch's blanking window closes and any held DESAT code takes effect. -/
def execBlankWindowClose (sw : Fin 48) (s : State) : Host.Outcome State Fault Refusal := event true (evBlankWindowClose sw) s

/-- ALERT_SYMBOL (R263): An ALERT break with its code arrives and is logged or ignored. -/
def execAlertSymbol (g : Fin 24) (group : BitVec 5) (s : State) : Host.Outcome State Fault Refusal :=
  event true (evAlertSymbol g group) s

/-- BOOT_LOW (R292): A BOOT_LOW alert forces a refresh on a selected link, or is logged. -/
def execBootLow (g : Fin 24) (s : State) : Host.Outcome State Fault Refusal := event true (evBootLow g) s

/-- FORCED_REFRESH_END (R293): The 50 µs repeat window after a forced refresh ends without a repeat, closing the series. -/
def execForcedRefreshEnd (g : Fin 24) (s : State) : Host.Outcome State Fault Refusal := event true (evForcedRefreshEnd g) s

/-- STATUS_FRAME (R261): A booster STATUS frame is received and its condition recorded. -/
def execStatusFrame (g : Fin 24) (supply temp status : Byte) (s : State) : Host.Outcome State Fault Refusal :=
  event true (fun s => ((evStatusFrame g supply temp status s).capPoll).roleChange) s

/-- EDGE_FRAME (R262): A booster EDGE frame reports plateau times used for weak-phase adaptation. -/
def execEdgeFrame (g : Fin 24) (second off : Bool) (entry exit : BitVec 12) (s : State) : Host.Outcome State Fault Refusal :=
  event true (evEdgeFrame g second off entry exit) s

/-- READ_DATA_FRAME (R303): A READ_DATA frame answers a booster READ. -/
def execReadDataFrame (g : Fin 24) (addr data : Byte) (s : State) : Host.Outcome State Fault Refusal :=
  event true (evReadDataFrame g addr data) s

/-- ACK_FRAME (R267): A booster ACK reports a commit as done or refused. -/
def execAckFrame (g : Fin 24) (result : Byte) (s : State) : Host.Outcome State Fault Refusal :=
  event true (fun s => (evAckFrame g result s).takeoverAcks) s

/-- COMMIT_ACK_TIMEOUT (R267): A wait for a booster acknowledgement expires and the waiting operation ends as its rule gives. -/
def execCommitAckTimeout (g : Fin 24) (s : State) : Host.Outcome State Fault Refusal := event true (evCommitAckTimeout g) s

/-- UPLINK_FRAME_DISCARD (R258): An uplink frame with a bad CRC, code, type or length is discarded and counted as an upset. -/
def execUplinkFrameDiscard (f : UplinkFrame) (s : State) : Host.Outcome State Fault Refusal :=
  event true (evUplinkFrameDiscard f) s

/-- STATUS_TIMEOUT (R279): No valid STATUS arrives for 200 µs, so the uplink receiver is reset and STATREQ sent. -/
def execStatusTimeout (g : Fin 24) (s : State) : Host.Outcome State Fault Refusal := event true (evStatusTimeout g) s

/-- TRAINING_COMPLETE (R278): Gate-link training ends with the ACK and heartbeats start, or fails. -/
def execTrainingComplete (g : Fin 24) (ident caps : Byte) (acked : Bool) (s : State) : Host.Outcome State Fault Refusal :=
  event true (evTrainingComplete g ident caps acked) s

end Sys2Proof.Machine
end

