-- ==== Sys2Proof/Machine/GridCmd.lean ====
section
/-! DEFINITION. The commands of grid-forming engines (02, 03). -/

namespace Sys2Proof.Machine

/-- GF_CONFIG (R98): Loads the 128-byte configuration block of a grid-forming engine. -/
def execGfConfig (p : Pkt) (s : State) : Host.Outcome State Fault Refusal := packet (.gfConfig p) p s

/-- GF_TUNE (R102): Changes the masked configuration fields of a running engine. -/
def execGfTune (p : Pkt) (s : State) : Host.Outcome State Fault Refusal := packet (.gfTune p) p s

/-- GF_SETPOINT (R112): Sets the selected set-point channels of a FORM bridge. -/
def execGfSetpoint (p : Pkt) (s : State) : Host.Outcome State Fault Refusal := packet (.gfSetpoint p) p s

/-- GF_SECONDARY (R113): Sets dP_sec and dE_sec with a validity time. -/
def execGfSecondary (p : Pkt) (s : State) : Host.Outcome State Fault Refusal := packet (.gfSecondary p) p s

/-- GF_STATUS (R114): Returns the engine state, flags, rotor and power values for a selector. -/
def execGfStatus (p : Pkt) (s : State) : Host.Outcome State Fault Refusal := packet (.gfStatus p) p s

/-- GF_OUTER_STEP (R73): A grid-forming engine runs its outer step and writes a hand-off record. -/
def execGfOuterStep (g : Fin 4) (s : State) : Host.Outcome State Fault Refusal :=
  event true (fun s => (evGfOuterStep g s).capPoll) s

/-- GF_LIMIT_RELEASE (R84): i_pk has stayed below 0.95 × I_TH for LIM_HOLD, so the limit releases. -/
def execGfLimitRelease (g : Fin 4) (s : State) : Host.Outcome State Fault Refusal := event true (evGfLimitRelease g) s

/-- GF_RT_TIMEOUT (R87): LIMITING has lasted RT_TMAX, so the engine faults with cause 0x0202. -/
def execGfRtTimeout (g : Fin 4) (s : State) : Host.Outcome State Fault Refusal := event true (evGfRtTimeout g) s

/-- GF_W_FAULT (R74): ω has stayed at a clamp for W_FAULT, so the engine faults with cause 0x0203. -/
def execGfWFault (g : Fin 4) (s : State) : Host.Outcome State Fault Refusal := event true (evGfWFault g) s

/-- SEC_EXPIRED (R94): A secondary term is not refreshed within its validity and ramps to zero. -/
def execSecExpired (g : Fin 4) (s : State) : Host.Outcome State Fault Refusal := event true (evSecExpired g) s

/-- DEAD_BUS_SET (R122): The dead-bus timer reaches DEAD_TIME and DEAD_BUS is set. -/
def execDeadBusSet (g : Fin 4) (s : State) : Host.Outcome State Fault Refusal := event true (evDeadBusSet g) s

/-- HOLDOFF_END (R130): The holdoff ends, so the engine enters CLOSE_DEAD and asserts JOIN_REQn. -/
def execHoldoffEnd (g : Fin 4) (s : State) : Host.Outcome State Fault Refusal := event true (evHoldoffEnd g) s

/-- WAIT_LIVE_QUALIFIED (R133): The bus magnitude has stayed in range for 20 ms, so the engine enters PRESYNC. -/
def execWaitLiveQualified (g : Fin 4) (s : State) : Host.Outcome State Fault Refusal := event true (evWaitLiveQualified g) s

/-- JOIN_WINDOWS_QUALIFIED (R135): The join windows have held for 20 ms, so the engine enters CLOSE_LIVE. -/
def execJoinWindowsQualified (g : Fin 4) (s : State) : Host.Outcome State Fault Refusal :=
  event true (evJoinWindowsQualified g) s

/-- JOIN_FB_RISE (R140): The debounced contactor feedback rises and the contactor counts as closed. -/
def execJoinFbRise (g : Fin 4) (s : State) : Host.Outcome State Fault Refusal := event true (evJoinFbRise g) s

/-- JOIN_FB_FALL (R139): The debounced contactor feedback falls, giving a retry or a detachment. -/
def execJoinFbFall (g : Fin 4) (s : State) : Host.Outcome State Fault Refusal := event true (evJoinFbFall g) s

/-- CONTACTOR_ASSUMED_CLOSED (R121): With no JOIN_FBn mapped, the contactor counts as closed 100 ms after JOIN_REQn. -/
def execContactorAssumedClosed (g : Fin 4) (s : State) : Host.Outcome State Fault Refusal :=
  event true (evContactorAssumedClosed g) s

/-- CONTACTOR_TIMEOUT (R138): The contactor has not confirmed within 500 ms, so JOIN_REQn is withdrawn and RETRY_WAIT entered. -/
def execContactorTimeout (g : Fin 4) (s : State) : Host.Outcome State Fault Refusal := event true (evContactorTimeout g) s

/-- RETRY_WAIT_END (R138): RETRY_WAIT ends after 1 s and the engine re-enters CLASSIFY. -/
def execRetryWaitEnd (g : Fin 4) (s : State) : Host.Outcome State Fault Refusal := event true (evRetryWaitEnd g) s

/-- DETACHMENT (R144): A 20 ms mismatch between terminal and bus sets DETACHED. -/
def execDetachment (g : Fin 4) (s : State) : Host.Outcome State Fault Refusal := event true (evDetachment g) s

end Sys2Proof.Machine
end

