-- ==== Sys2Proof/Machine/LoopCmd.lean ====
section
/-! DEFINITION. The commands of loop engines (04). -/

namespace Sys2Proof.Machine

/-- LOOP_CONFIG (R162): Configures a loop context and clears its banks, initial values and substitutions. -/
def execLoopConfig (p : Pkt) (s : State) : Host.Outcome State Fault Refusal := packet (.loopConfig p) p s

/-- LOOP_COEF_LOAD (R168): Writes words into the inactive coefficient bank. -/
def execLoopCoefLoad (p : Pkt) (s : State) : Host.Outcome State Fault Refusal := packet (.loopCoefLoad p) p s

/-- LOOP_COEF_SWAP (R169): Checks the CRC of the inactive bank and swaps it in at a sample boundary, bumpless or direct. -/
def execLoopCoefSwap (p : Pkt) (s : State) : Host.Outcome State Fault Refusal := packet (.loopCoefSwap p) p s

/-- LOOP_TABLE_LOAD (R176): Writes entries into the inactive bank of the friction or cogging table. -/
def execLoopTableLoad (p : Pkt) (s : State) : Host.Outcome State Fault Refusal := packet (.loopTableLoad p) p s

/-- LOOP_TABLE_SWAP (R177): Checks the CRCs and swaps the selected table banks together. -/
def execLoopTableSwap (p : Pkt) (s : State) : Host.Outcome State Fault Refusal := packet (.loopTableSwap p) p s

/-- LOOP_STATE_SET (R206): Sets the initial values X0 and Z0 used at the next start. -/
def execLoopStateSet (p : Pkt) (s : State) : Host.Outcome State Fault Refusal := packet (.loopStateSet p) p s

/-- LOOP_SETPOINT (R203): Sets the selected references of a DRIVE or CONVERT context. -/
def execLoopSetpoint (p : Pkt) (s : State) : Host.Outcome State Fault Refusal := packet (.loopSetpoint p) p s

/-- LOOP_SUBST (R192): Replaces the source of one measured input from the next sample boundary. -/
def execLoopSubst (p : Pkt) (s : State) : Host.Outcome State Fault Refusal := packet (.loopSubst p) p s

/-- LOOP_INJECT (R197): Starts a PRBS or chirp test-signal injection into r, u or y. -/
def execLoopInject (p : Pkt) (s : State) : Host.Outcome State Fault Refusal := packet (.loopInject p) p s

/-- LOOP_INJECT_STOP (R208): Stops the running injection, which then completes with CANCELLED. -/
def execLoopInjectStop (p : Pkt) (s : State) : Host.Outcome State Fault Refusal := packet (.loopInjectStop p) p s

/-- LOOP_STATUS (R210): Returns the context status for a selector and clears its sticky flags. -/
def execLoopStatus (p : Pkt) (s : State) : Host.Outcome State Fault Refusal := packet (.loopStatus p) p s

/-- LOOP_UNLOAD (R204): Returns a LOADED context to EMPTY. -/
def execLoopUnload (p : Pkt) (s : State) : Host.Outcome State Fault Refusal := packet (.loopUnload p) p s

/-- LOOP_SAMPLE (R159): Every input of a context's sample is latched and its output section runs, then its update section. -/
def execLoopSample (c : Fin 24) (s : State) : Host.Outcome State Fault Refusal :=
  event true (fun s => (evLoopSample c s).capPoll) s

/-- COMMIT_DEADLINE_OVERRUN (R186): A sample misses its commit deadline and is abandoned. -/
def execCommitDeadlineOverrun (c : Fin 24) (s : State) : Host.Outcome State Fault Refusal :=
  event true (evCommitDeadlineOverrun c) s

/-- SUBST_TIMEOUT (R190): The substitution timer reaches SUBST_TIME, so the context faults. -/
def execSubstTimeout (c : Fin 24) (s : State) : Host.Outcome State Fault Refusal := event true (evSubstTimeout c) s

/-- INJECTION_END (R201): An injection reaches its LENGTH and LOOP_INJECT completes with DONE. -/
def execInjectionEnd (c : Fin 24) (s : State) : Host.Outcome State Fault Refusal := event true (evInjectionEnd c) s

end Sys2Proof.Machine
end

