-- ==== Sys2Proof/Machine/NetCmd.lean ====
section
/-! DEFINITION. The commands of Ethernet (13). -/

namespace Sys2Proof.Machine

/-- NET_TX (R549): Queues an Ethernet frame for transmission on a port. -/
def execNetTx (p : Pkt) (s : State) : Host.Outcome State Fault Refusal := packet (.netTx p) p s

/-- NET_RX (R548): Posts a receive buffer for a filter on a port. -/
def execNetRx (p : Pkt) (s : State) : Host.Outcome State Fault Refusal := packet (.netRx p) p s

/-- NET_FILTER (R547): Configures one receive filter. -/
def execNetFilter (p : Pkt) (s : State) : Host.Outcome State Fault Refusal := packet (.netFilter p) p s

/-- NET_GCL (R551): Loads a new 802.1Qbv gate-control list for a port. -/
def execNetGcl (p : Pkt) (s : State) : Host.Outcome State Fault Refusal := packet (.netGcl p) p s

/-- NET_STATUS (R577): Returns the port state and frame counters. -/
def execNetStatus (p : Pkt) (s : State) : Host.Outcome State Fault Refusal := packet (.netStatus p) p s

/-- GCL_SWITCH (R551): A new gate-control list takes effect at the start of its cycle. -/
def execGclSwitch (port : Fin 2) (s : State) : Host.Outcome State Fault Refusal := event true (evGclSwitch port) s

/-- ETH_FRAME_RECEIVED (R546): A received Ethernet frame is stamped and goes to the station copier, PTP or a filter. -/
def execEthFrameReceived (port : Fin 2) (bytes : List Byte) (sec : DWord) (ns : Word) (sub : Half) (s : State) : Host.Outcome State Fault Refusal :=
  event (decide (64 ≤ bytes.length) && decide (bytes.length ≤ 1522) && decide (ns.toNat < 1000000000)) (evEthFrameReceived port bytes sec ns sub) s

/-- FRAME_TRANSMITTED (R455): A transmitted frame leaves its port and NET_TX completes with its stamp. -/
def execFrameTransmitted (port : Fin 2) (sec : DWord) (ns : Word) (sub : Half) (s : State) : Host.Outcome State Fault Refusal :=
  event (decide (ns.toNat < 1000000000)) (evFrameTransmitted port sec ns sub) s

/-- NET_TX_TIMEOUT (R549): A frame has not left within 10 ms and NET_TX completes with TIMED_OUT. -/
def execNetTxTimeout (port : Fin 2) (s : State) : Host.Outcome State Fault Refusal := event true (evNetTxTimeout port) s

/-- ETH_LINK_CHANGE (R544): A port's link goes up or down, and stations on a lost link become ABSENT. -/
def execEthLinkChange (port : Fin 2) (up : Bool) (speed : BitVec 2) (s : State) : Host.Outcome State Fault Refusal :=
  event true (evEthLinkChange port up speed) s

/-- ETH_PORT_UPSET (R574): Loss of PCS synchronisation or a MAC parity error upsets an Ethernet port. -/
def execEthPortUpset (port : Fin 2) (s : State) : Host.Outcome State Fault Refusal := event true (evEthPortUpset port) s

/-- GATE_CONTROL_ENTRY (R550): An interval of the running 802.1Qbv gate-control list ends and the next entry's gate mask opens or closes traffic classes 0 to 6. -/
def execGateControlEntry (port : Fin 2) (s : State) : Host.Outcome State Fault Refusal := event true (evGateControlEntry port) s

end Sys2Proof.Machine
end

