-- ==== Sys2Proof/Machine/PowerCmd.lean ====
section
/-! DEFINITION. The commands of power, clocks and boot (15). -/

namespace Sys2Proof.Machine

/-- FEED_OUT_OF_WINDOW (R618): A feed leaves its window and its ideal diode opens. -/
def execFeedOutOfWindow (vfb : Bool) (level : Byte) (s : State) : Host.Outcome State Fault Refusal :=
  always (evFeedOutOfWindow vfb level) s

/-- FEED_RECONNECT (R619): A feed has stayed in its window for 10 ms and its diode recloses. -/
def execFeedReconnect (vfb : Bool) (level : Byte) (s : State) : Host.Outcome State Fault Refusal :=
  always (evFeedReconnect vfb level) s

/-- POWER_FAIL (R623): The common input has stayed low for 20 µs and the power-fail sequence starts. -/
def execPowerFail (s : State) : Host.Outcome State Fault Refusal := always evPowerFail s

/-- POWER_FAIL_END (R623): After 5 ms, or when VHOLD is exhausted, the dies are held in reset. -/
def execPowerFailEnd (s : State) : Host.Outcome State Fault Refusal := always evPowerFailEnd s

/-- POWER_ON (R647): A feed enters its window from BACKUP or no power, and the device boots. -/
def execPowerOn (vfa vfb vhold vbak : Byte) (s : State) : Host.Outcome State Fault Refusal :=
  always (evPowerOn vfa vfb vhold vbak) s

/-- RESET_N_LOW (R646): RESET_N is held low and the device is held in reset. -/
def execResetNLow (s : State) : Host.Outcome State Fault Refusal := always evResetNLow s

/-- RESET_N_RISE (R631): RESET_N rises after a low phase and the device boots or wakes. -/
def execResetNRise (s : State) : Host.Outcome State Fault Refusal := always evResetNRise s

/-- BOOT_READY (R647): Boot completes and BOOT_STATUS.READY is set. -/
def execBootReady (selfTestFails : List ChanRef) (s : State) : Host.Outcome State Fault Refusal :=
  event true (evBootReady selfTestFails) s

/-- READY_RETURN (R628): 1 s after the last need ends, the device returns to READY. -/
def execReadyReturn (s : State) : Host.Outcome State Fault Refusal := event true evReadyReturn s

/-- SLEEP (R629): The sleep conditions have held for SLEEP_DLY and the device enters KEEP or WATCH. -/
def execSleep (s : State) : Host.Outcome State Fault Refusal := event true evSleep s

/-- WAKE_PIN (R631): WAKE has been high for 1 ms and the device wakes. -/
def execWakePin (s : State) : Host.Outcome State Fault Refusal := always evWakePin s

/-- WAKE_INTERVAL (R631): WAKE_INT minutes have elapsed since sleep and the device wakes. -/
def execWakeInterval (s : State) : Host.Outcome State Fault Refusal := always evWakeInterval s

/-- WATCH_CONVERSION (R630): A voltage-watch conversion is counted, and WATCH_N in a row wakes the device. -/
def execWatchConversion (code : Half) (s : State) : Host.Outcome State Fault Refusal := always (evWatchConversion code) s

/-- PLL_LOCK_LOSS (R640): A PLL loses lock and enters holdover. -/
def execPllLockLoss (n : Fin 5) (s : State) : Host.Outcome State Fault Refusal := event true (evPllLockLoss n) s

/-- PLL_RELOCK_START (R640): A re-lock starts once every bridge is OFFLINE or ARMED. -/
def execPllRelockStart (n : Fin 5) (s : State) : Host.Outcome State Fault Refusal := event true (evPllRelockStart n) s

/-- PLL_LOCK_DECLARED (R635): Four good windows declare lock and the domains return from CK_REF / 2. -/
def execPllLockDeclared (n : Fin 5) (s : State) : Host.Outcome State Fault Refusal := event true (evPllLockDeclared n) s

/-- PLL_RELOCK_TIMEOUT (R641): A re-lock run has not declared lock in 2 ms and the run fails. -/
def execPllRelockTimeout (n : Fin 5) (s : State) : Host.Outcome State Fault Refusal := event true (evPllRelockTimeout n) s

/-- PLL_HOLDOVER_TIMEOUT (R640): Holdover has lasted 1 s with bridges beyond ARMED, so they enter SAFE with cause 0x0011. -/
def execPllHoldoverTimeout (s : State) : Host.Outcome State Fault Refusal := event true evPllHoldoverTimeout s

/-- REF_SWITCH_TO_RING (R633): The recovered clock has qualified for 10 ms and CK_REF moves to it. -/
def execRefSwitchToRing (s : State) : Host.Outcome State Fault Refusal := event true evRefSwitchToRing s

/-- REF_CLOCK_LOSS (R634): The recovered clock is lost and CK_REF returns to the crystal. -/
def execRefClockLoss (s : State) : Host.Outcome State Fault Refusal := event true evRefClockLoss s

end Sys2Proof.Machine
end

