-- ==== Sys2Proof/Machine/PugCmd.lean ====
section
/-! DEFINITION. The commands of measurement (07). -/

namespace Sys2Proof.Machine

/-- PUG_SLOT_CONFIG (R335): Configures a slot's frame source, decimation, oversampling and clock. -/
def execPugSlotConfig (p : Pkt) (s : State) : Host.Outcome State Fault Refusal := packet (.pugSlotConfig p) p s

/-- PUG_FIR_LOAD (R321): Writes coefficients into a slot's inactive FIR bank. -/
def execPugFirLoad (p : Pkt) (s : State) : Host.Outcome State Fault Refusal := packet (.pugFirLoad p) p s

/-- PUG_FIR_SWAP (R322): Checks the CRC and swaps the FIR bank in at a frame. -/
def execPugFirSwap (p : Pkt) (s : State) : Host.Outcome State Fault Refusal := packet (.pugFirSwap p) p s

/-- PUG_DSM_CLOCK (R309): Configures group clock DSM_CKg and its alignment source. -/
def execPugDsmClock (p : Pkt) (s : State) : Host.Outcome State Fault Refusal := packet (.pugDsmClock p) p s

/-- PUG_TIMER (R312): Configures Pug timer PT0 or PT1. -/
def execPugTimer (p : Pkt) (s : State) : Host.Outcome State Fault Refusal := packet (.pugTimer p) p s

/-- PUG_POS_CONFIG (R334): Configures a position input as off, encoder or resolver and claims its slots. -/
def execPugPosConfig (p : Pkt) (s : State) : Host.Outcome State Fault Refusal := packet (.pugPosConfig p) p s

/-- PUG_RECAL (R339): Starts a live recalibration of one SAR slot. -/
def execPugRecal (p : Pkt) (s : State) : Host.Outcome State Fault Refusal := packet (.pugRecal p) p s

/-- PUG_READ (R343): Returns the newest output of a slot or position input. -/
def execPugRead (p : Pkt) (s : State) : Host.Outcome State Fault Refusal := packet (.pugRead p) p s

/-- PUG_STATUS (R344): Returns slot or position-input status and clears its sticky flags. -/
def execPugStatus (p : Pkt) (s : State) : Host.Outcome State Fault Refusal := packet (.pugStatus p) p s

/-- PUG_FRAME (R313): A frame instant of a bridge or Pug timer samples every slot of that source. -/
def execPugFrame (src : Fin 10) (inputs : List SlotInput) (s : State) : Host.Outcome State Fault Refusal :=
  event true (pugFrameThen src inputs) s

/-- SLOT_OUTPUT_READY (R325): A slot's filtered, calibrated and stamped output becomes ready for its readers. -/
def execSlotOutputReady (slot : Fin 48) (s : State) : Host.Outcome State Fault Refusal :=
  event true (fun s => (evSlotOutputReady slot s).capPoll) s

/-- RESOLVER_PERIOD (R332): An excitation period ends and the resolver angle and tracker are updated. -/
def execResolverPeriod (n : Fin 4) (pairs : Vector (Half × Half) 16) (s : State) : Host.Outcome State Fault Refusal :=
  event true (evResolverPeriod n pairs) s

/-- Z_EDGE (R331): A Z edge checks or homes the encoder count. -/
def execZEdge (n : Fin 4) (s : State) : Host.Outcome State Fault Refusal := event true (evZEdge n) s

/-- MEASUREMENT_UPSET (R336): A slot or position input is upset and its retry action starts. -/
def execMeasurementUpset (kind : Fin 3) (unit : Fin 48) (s : State) : Host.Outcome State Fault Refusal :=
  event true (evMeasurementUpset kind unit) s

/-- RECAL_END (R340): A recalibration ends at the first valid output and PUG_RECAL completes. -/
def execRecalEnd (off gain : Half) (s : State) : Host.Outcome State Fault Refusal := event true (evRecalEnd off gain) s

/-- QUADRATURE_EDGE (R331): A filtered edge on POSn_A or POSn_B changes the ABZ count and so the mechanical angle of the position input. -/
def execQuadratureEdge (n : Fin 4) (a b : Bool) (s : State) : Host.Outcome State Fault Refusal :=
  event true (evQuadratureEdge n a b) s

end Sys2Proof.Machine
end

