-- ==== Sys2Proof/Machine/PwmCmd.lean ====
section
/-! DEFINITION. The commands of PWM generators and trip sources (05). -/

namespace Sys2Proof.Machine

/-- PWM_CARRIER (R724): Sets the carrier period, phase, commit points, minimum pulse and leg phases. -/
def execPwmCarrier (p : Pkt) (s : State) : Host.Outcome State Fault Refusal := packet (.pwmCarrier p) p s

/-- PWM_EDGES (R225): Sets the dead times and falling delays of every switch of the bridge. -/
def execPwmEdges (p : Pkt) (s : State) : Host.Outcome State Fault Refusal := packet (.pwmEdges p) p s

/-- PWM_PERIOD (R232): Writes a new PER into the shadow group and completes at the commit that applies it. -/
def execPwmPeriod (p : Pkt) (s : State) : Host.Outcome State Fault Refusal := packet (.pwmPeriod p) p s

/-- PWM_BOOT (R234): Configures scheduled bootstrap refresh on the selected gate links. -/
def execPwmBoot (p : Pkt) (s : State) : Host.Outcome State Fault Refusal := packet (.pwmBoot p) p s

/-- PWM_TRIP_CONFIG (R240): Configures one trip pin or slot-comparator source and its bridge mask. -/
def execPwmTripConfig (p : Pkt) (s : State) : Host.Outcome State Fault Refusal := packet (.pwmTripConfig p) p s

/-- PWM_STATUS (R248): Returns the PWM status for a selector and clears PD_MISMATCH. -/
def execPwmStatus (p : Pkt) (s : State) : Host.Outcome State Fault Refusal := packet (.pwmStatus p) p s

/-- CARRIER_EVENT (R212): A bridge carrier valley or peak occurs. -/
def execCarrierEvent (b : Fin 8) (s : State) : Host.Outcome State Fault Refusal := event true (carrierThen b) s

/-- TRIP_SOURCE_ACTIVE (R242): A trip pin or slot comparator becomes active, latches a protection fault and puts its bridges into SAFE. -/
def execTripSourceActive (src : Fin 16) (s : State) : Host.Outcome State Fault Refusal := event true (evTripSourceActive src) s

end Sys2Proof.Machine
end

