-- ==== Sys2Proof/Machine/QueueCmd.lean ====
section
/-! DEFINITION. The commands of queue pairs and the classes ADMIN and ORDER (10, 14 R585). -/

namespace Sys2Proof.Machine

/-- ADMIN_NOP (R451): Admin no-operation packet that completes with DONE. -/
def execAdminNop (p : Pkt) (s : State) : Host.Outcome State Fault Refusal := packet (.adminNop p) p s

/-- IDENTIFY (R7): Returns GEN_UNIT_MAP and the variant number in its result words. -/
def execIdentify (p : Pkt) (s : State) : Host.Outcome State Fault Refusal := packet (.identify p) p s

/-- ADMIN_PAD (R421): Pad header that fills the ring to its end; it writes no completion and fetching continues at granule 0. -/
def execAdminPad (p : Pkt) (s : State) : Host.Outcome State Fault Refusal := packet (.adminPad p) p s

/-- ADMIN_EVENT_WAIT (R452): Waits for the first event of a selected class and completes with its class, unit and code. -/
def execAdminEventWait (p : Pkt) (s : State) : Host.Outcome State Fault Refusal := packet (.adminEventWait p) p s

/-- ADMIN_ABORT (R454): Cancels the oldest unstarted packet with a given tag on a given queue pair. -/
def execAdminAbort (p : Pkt) (s : State) : Host.Outcome State Fault Refusal := packet (.adminAbort p) p s

/-- REINSTATE (R585): Runs the retry action of a retired external channel once and returns the channel to service if it succeeds. -/
def execReinstate (p : Pkt) (s : State) : Host.Outcome State Fault Refusal := packet (.reinstate p) p s

/-- FENCE (R440): Completes once every earlier packet of its queue pair has completed, and holds every later packet until then. -/
def execFence (p : Pkt) (s : State) : Host.Outcome State Fault Refusal := packet (.fence p) p s

/-- BARRIER (R442): Joins or opens a barrier instance across queue pairs, and completes when all named pairs have joined or the time-out expires. -/
def execBarrier (p : Pkt) (s : State) : Host.Outcome State Fault Refusal := packet (.barrier p) p s

/-- COMMAND_TAIL_WRITE (R423): A write to the command-tail doorbell makes granules available and may halt the queue pair. -/
def execCommandTailWrite (qp : Fin 16) (t : Word) (s : State) : Host.Outcome State Fault Refusal :=
  event true (fun s => s.writeTail qp t) s

/-- COMPLETION_HEAD_WRITE (R429): A write to the completion-head doorbell returns entries and may halt the queue pair. -/
def execCompletionHeadWrite (qp : Fin 16) (h : Word) (s : State) : Host.Outcome State Fault Refusal :=
  event true (fun s => s.writeHead qp h) s

/-- QP_RESUME (R448): Writing 0x1 to the control word resumes a HALTED queue pair. -/
def execQpResume (qp : Fin 16) (s : State) : Host.Outcome State Fault Refusal := event true (fun s => s.writeControl qp 1) s

/-- QP_RESET (R449): Writing 0x2 to the control word resets a queue pair. -/
def execQpReset (qp : Fin 16) (s : State) : Host.Outcome State Fault Refusal := event true (fun s => s.writeControl qp 2) s

/-- PACKET_FETCH (R423): The controller fetches a complete packet from the command ring and reserves a completion entry. -/
def execPacketFetch (qp : Fin 16) (bytes : List Byte) (s : State) : Host.Outcome State Fault Refusal :=
  event true (evPacketFetch qp bytes) s

/-- NOT_BEFORE_REACHED (R437): A waiting packet becomes eligible when the DTB reaches its not-before time. -/
def execNotBeforeReached (qp : Fin 16) (tag : Half) (s : State) : Host.Outcome State Fault Refusal :=
  event true (evNotBeforeReached qp tag) s

/-- LATE_WINDOW_EXPIRY (R438): A packet that has not started within its late window completes with TIMED_OUT. -/
def execLateWindowExpiry (qp : Fin 16) (tag : Half) (s : State) : Host.Outcome State Fault Refusal :=
  event true (evLateWindowExpiry qp tag) s

/-- IRQ_MOD_TIME (R434): MOD_TIME elapses after the first uncovered entry and the vector is sent. -/
def execIrqModTime (qp : Fin 16) (s : State) : Host.Outcome State Fault Refusal := event true (evIrqModTime qp) s

/-- RING_READ_FAIL (R445): A failed host ring read is repeated after 10 µs, and a second failure halts the queue pair. -/
def execRingReadFail (qp : Fin 16) (addr : DWord) (s : State) : Host.Outcome State Fault Refusal :=
  event true (evRingReadFail qp addr) s

/-- BARRIER_TIMEOUT (R442): A barrier instance times out and every member completes with TIMED_OUT. -/
def execBarrierTimeout (ident : Fin 8) (s : State) : Host.Outcome State Fault Refusal := event true (evBarrierTimeout ident) s

/-- HOST_UNAVAILABLE (R645): PERST#, a hot reset, an FLR, link down or Bus Master Enable cleared halts host queue pairs with cause 0x06. -/
def execHostUnavailable (linkUp bme : Bool) (s : State) : Host.Outcome State Fault Refusal :=
  event true (evHostUnavailable linkUp bme) s

/-- PCIE_LINK_UP (R448): The PCI Express link comes up with Bus Master Enable set, so a host queue pair halted with cause 0x06 whose resume was written, or one that found no link at SETUP_LOCK, leaves HALTED. -/
def execPcieLinkUp (rate : BitVec 3) (width : BitVec 2) (s : State) : Host.Outcome State Fault Refusal :=
  event true (evPcieLinkUp rate width) s

end Sys2Proof.Machine
end

