-- ==== Sys2Proof/Machine/RegisterCmd.lean ====
section
/-! DEFINITION. The commands of set-up registers and windows (17). -/

namespace Sys2Proof.Machine

/-- SETUP_LOCK (R683): Writing 1 to GEN_CTRL.SETUP_LOCK locks every RWL field from that moment. -/
def execSetupLock (v : Word) (s : State) : Host.Outcome State Fault Refusal := event true (evSetupLock v) s

/-- SETUP_LOCK_EFFECT (R649): The lock takes effect after the self-test, applying every RWL field and starting the queue pairs. -/
def execSetupLockEffect (s : State) : Host.Outcome State Fault Refusal := event true evSetupLockEffect s

/-- PROFILE_SAVE (R684): Writes the set-up profile to NOR after the lock when SAVE is set. -/
def execProfileSave (ok : Bool) (s : State) : Host.Outcome State Fault Refusal := event true (evProfileSave ok) s

/-- REGISTER_WRITE (R13): A write to a register that has no behaviour of its own, subject to its access type. -/
def execRegisterWrite (off v : Word) (s : State) : Host.Outcome State Fault Refusal :=
  event (decide (off.toNat % 4 = 0) && decide (off.toNat < 0x100000)) (evRegisterWrite off v) s

/-- TIME_SNAP_READ (R535): A read of TIME_SNAP_SEC_LO latches the whole DTB into the snapshot registers. -/
def execTimeSnapRead (s : State) : Host.Outcome State Fault Refusal := event true evTimeSnapRead s

/-- PWR_AON_LO_READ (R626): A read of PWR_AON_LO latches the upper always-on counter bits. -/
def execPwrAonLoRead (s : State) : Host.Outcome State Fault Refusal := event true evPwrAonLoRead s

/-- WINDOW_WORD0_READ (R687): A read of word 0 of a status-window record latches words 1 to 15. -/
def execWindowWord0Read (cls : Fin 17) (unit : Fin 128) (s : State) : Host.Outcome State Fault Refusal :=
  event true (evWindowWord0Read cls unit) s

end Sys2Proof.Machine
end

