-- ==== Sys2Proof/Machine/RingCmd.lean ====
section
/-! DEFINITION. The commands of the Nimor ring (13). -/

namespace Sys2Proof.Machine

/-- NR_PUBLISH (R576): Sets the user data of this node's telemetry record. -/
def execNrPublish (p : Pkt) (s : State) : Host.Outcome State Fault Refusal := packet (.nrPublish p) p s

/-- NR_TELEM_READ (R576): Copies a node's newest telemetry record into the payload area. -/
def execNrTelemRead (p : Pkt) (s : State) : Host.Outcome State Fault Refusal := packet (.nrTelemRead p) p s

/-- NR_SEND (R570): Sends a message of up to 1,024 bytes to a node or to all nodes. -/
def execNrSend (p : Pkt) (s : State) : Host.Outcome State Fault Refusal := packet (.nrSend p) p s

/-- NR_RECV (R571): Posts a buffer for a received ring message. -/
def execNrRecv (p : Pkt) (s : State) : Host.Outcome State Fault Refusal := packet (.nrRecv p) p s

/-- NR_STATUS (R577): Returns the ring state, master, nodes heard and link delays. -/
def execNrStatus (p : Pkt) (s : State) : Host.Outcome State Fault Refusal := packet (.nrStatus p) p s

/-- RING_CYCLE (R556): A 5 µs ring cycle starts and the node sends its TIME, heartbeat, telemetry, mirror and message frames. -/
def execRingCycle (s : State) : Host.Outcome State Fault Refusal := event true evRingCycle s

/-- TIME_FRAME (R558): A TIME frame is received, forwarded and used by the follower servo. -/
def execTimeFrame (nb : Bool) (src hops : BitVec 4) (payload : List Byte) (s : State) : Host.Outcome State Fault Refusal :=
  frameEvent (decide (payload.length = 24)) (fun s => s.repeatFrame nb 1 src.toNat hops.toNat payload)
    (evTimeFrame nb src hops payload) s

/-- DELAY_TIMER (R559): The 1 ms timer sends a DELAY request on each port. -/
def execDelayTimer (s : State) : Host.Outcome State Fault Refusal := event true evDelayTimer s

/-- DELAY_FRAME (R559): A DELAY request is answered, or a response gives the link delay. -/
def execDelayFrame (nb : Bool) (response : Bool) (turnaround : BitVec 24) (s : State) : Host.Outcome State Fault Refusal :=
  frameEvent true (fun s => s.repeatDelay nb response turnaround) (evDelayFrame nb response turnaround) s

/-- HEARTBEAT_FRAME (R560): A ring heartbeat is received and updates the node, claim and duplex state. -/
def execHeartbeatFrame (nb : Bool) (src hops : BitVec 4) (payload : List Byte) (s : State) : Host.Outcome State Fault Refusal :=
  frameEvent (decide (payload.length = 6)) (fun s => s.repeatFrame nb 3 src.toNat hops.toNat payload)
    (evHeartbeatFrame nb src hops payload) s

/-- TELEMETRY_FRAME (R561): A telemetry record is received and stored, and raises an event on a new sequence. -/
def execTelemetryFrame (nb : Bool) (src hops : BitVec 4) (record : List Byte) (s : State) : Host.Outcome State Fault Refusal :=
  frameEvent (decide (record.length = 32)) (fun s => s.repeatFrame nb 4 src.toNat hops.toNat record)
    (evTelemetryFrame nb src hops record) s

/-- FRAGMENT_FRAME (R563): A message fragment is received and the message is assembled and acknowledged. -/
def execFragmentFrame (nb : Bool) (src hops : BitVec 4) (payload : List Byte) (s : State) : Host.Outcome State Fault Refusal :=
  frameEvent (decide (7 ≤ payload.length) && decide (payload.length ≤ 262))
    (fun s => s.repeatFrame nb 6 src.toNat hops.toNat payload) (evFragmentFrame nb src hops payload) s

/-- RING_ACK_FRAME (R563): A ring ACK completes the sender's NR_SEND. -/
def execRingAckFrame (nb : Bool) (src hops : BitVec 4) (dest msg result : Byte) (s : State) : Host.Outcome State Fault Refusal :=
  frameEvent true (fun s => s.repeatFrame nb 7 src.toNat hops.toNat [dest, msg, result])
    (evRingAckFrame nb src hops dest msg result) s

/-- NR_SEND_TIMEOUT (R570): No answer to NR_SEND arrives within 1 ms. -/
def execNrSendTimeout (s : State) : Host.Outcome State Fault Refusal := event true evNrSendTimeout s

/-- WAKE_FRAME (R564): A WAKE frame is forwarded or repeated, and wakes a node in WATCH that it names. -/
def execWakeFrame (nb : Bool) (src hops : BitVec 4) (target : Byte) (s : State) : Host.Outcome State Fault Refusal :=
  always (evWakeFrame nb src hops target) s

/-- RING_FRAME_DISCARD (R557): A ring frame with a bad check, type or length is discarded and counted. -/
def execRingFrameDiscard (nb : Bool) (s : State) : Host.Outcome State Fault Refusal := event true (evRingFrameDiscard nb) s

/-- NODE_LOST (R565): Four heartbeats of a node fail to arrive and the node is lost. -/
def execNodeLost (node : Fin 16) (s : State) : Host.Outcome State Fault Refusal := event true (evNodeLost node) s

/-- MASTER_ELECTION (R566): A candidate takes the master role after 20 µs without a better candidate. -/
def execMasterElection (s : State) : Host.Outcome State Fault Refusal := event true evMasterElection s

/-- ALIGNED_CHANGE (R567): ALIGNED is set after 1 ms within 4 ns, or cleared beyond 8 ns. -/
def execAlignedChange (s : State) : Host.Outcome State Fault Refusal := event true evAlignedChange s

/-- RING_PORT_UPSET (R574): A CRC error or loss of symbol lock upsets a ring port, which retrains. -/
def execRingPortUpset (nb : Bool) (s : State) : Host.Outcome State Fault Refusal := event true (evRingPortUpset nb) s

/-- RING_RELAYS_ENERGISE (R572): Loopback training completes and both bypass relays are energised. -/
def execRingRelaysEnergise (s : State) : Host.Outcome State Fault Refusal := event true evRingRelaysEnergise s

/-- RING_INSERTED (R572): Training with both neighbours completes and the node is inserted. -/
def execRingInserted (closed : Bool) (s : State) : Host.Outcome State Fault Refusal := event true (evRingInserted closed) s

/-- RING_INSERT_TIMEOUT (R572): Insertion fails within 10 ms, so the relays are de-energised and retried after 1 s. -/
def execRingInsertTimeout (s : State) : Host.Outcome State Fault Refusal := event true evRingInsertTimeout s

/-- RING_INSERT_RETRY (R572): One second after a failed insertion has de-energised the bypass relays, the node retries loopback training and insertion. -/
def execRingInsertRetry (s : State) : Host.Outcome State Fault Refusal := event true evRingInsertRetry s

end Sys2Proof.Machine
end

