-- ==== Sys2Proof/Machine/SafetyCmd.lean ====
section
/-! DEFINITION. The commands of the Saggar and channel A (09). -/

namespace Sys2Proof.Machine

/-- SAFE_STAGE (R404): Stages a safety parameter block and returns its check value. -/
def execSafeStage (p : Pkt) (s : State) : Host.Outcome State Fault Refusal := packet (.safeStage p) p s

/-- SAFE_CONFIRM (R406): Confirms the staged block's check value and opens the 5 s toggle window. -/
def execSafeConfirm (p : Pkt) (s : State) : Host.Outcome State Fault Refusal := packet (.safeConfirm p) p s

/-- SAFE_STATUS (R413): Returns SAG_STATUS, SAG_OUT and the committed check value. -/
def execSafeStatus (p : Pkt) (s : State) : Host.Outcome State Fault Refusal := packet (.safeStatus p) p s

/-- SAFE_OUTPUT (R410): Sets the brake-release requests for SBC0 and SBC1. -/
def execSafeOutput (p : Pkt) (s : State) : Host.Outcome State Fault Refusal := packet (.safeOutput p) p s

/-- SAFE_READ (R414): Copies the committed or staged block into the payload area. -/
def execSafeRead (p : Pkt) (s : State) : Host.Outcome State Fault Refusal := packet (.safeRead p) p s

/-- SAFE_REQUEST (R409): Sets or withdraws channel-A demands of the named safety functions. -/
def execSafeRequest (p : Pkt) (s : State) : Host.Outcome State Fault Refusal := packet (.safeRequest p) p s

/-- SIN_FILTERED_CHANGE (R376): A safety input shows a new level for FILT and its function's demand changes. -/
def execSinFilteredChange (chB : Bool) (sin : Fin 8) (level : Bool) (s : State) : Host.Outcome State Fault Refusal :=
  event true (evSinFilteredChange chB sin level) s

/-- DISCREPANCY_LATCH (R394): Two inputs disagree for longer than DISC and the discrepancy latch is set. -/
def execDiscrepancyLatch (chB : Bool) (f : Fin 4) (s : State) : Host.Outcome State Fault Refusal :=
  event true (evDiscrepancyLatch chB f) s

/-- SS1_SAFE_INSTANT (R387): T_SS1 elapses and the named bridges enter SAFE. -/
def execSs1SafeInstant (chB : Bool) (f : Fin 4) (s : State) : Host.Outcome State Fault Refusal :=
  event true (evSs1SafeInstant chB f) s

/-- SBC_DELAY_EXPIRY (R392): SBC_DLY elapses after a safe instant or fault and the brake output is de-energised. -/
def execSbcDelayExpiry (chB : Bool) (out : Fin 2) (s : State) : Host.Outcome State Fault Refusal :=
  event true (evSbcDelayExpiry chB out) s

/-- SAFE_EN_FALL (R299): The falling edge of SAFE_EN sends STATREQ to boosters with latches. -/
def execSafeEnFall (s : State) : Host.Outcome State Fault Refusal := event true evSafeEnFall s

/-- SAFE_EN_TOGGLE (R397): The rising edge after a low phase decides the function and bridge latch clears. -/
def execSafeEnToggle (mayA mayB : Bool) (tripPins : Byte) (s : State) : Host.Outcome State Fault Refusal :=
  event true (evSafeEnToggle mayA mayB tripPins) s

/-- BLOCK_COMMIT (R406): Two toggles within the window write the confirmed block to NOR and enter COMMISSIONED. -/
def execBlockCommit (ok : Bool) (s : State) : Host.Outcome State Fault Refusal := event true (evBlockCommit ok) s

/-- CONFIRM_WINDOW_EXPIRY (R406): The 5 s window ends without two toggles and SAFE_CONFIRM completes with TIMED_OUT. -/
def execConfirmWindowExpiry (s : State) : Host.Outcome State Fault Refusal := event true evConfirmWindowExpiry s

/-- SAG_EXCHANGE (R382): The Saggar and channel A exchange status words, or miss an exchange. -/
def execSagExchange (received : Bool) (s : State) : Host.Outcome State Fault Refusal := event true (evSagExchange received) s

/-- SAGGAR_INTERNAL_FAULT (R401): The Saggar detects an internal fault and stops every SSL and SDC. -/
def execSaggarInternalFault (s : State) : Host.Outcome State Fault Refusal := event true evSaggarInternalFault s

/-- LOCKSTEP_MISMATCH (R401): A lockstep mismatch of pair A disables every PWM. -/
def execLockstepMismatch (s : State) : Host.Outcome State Fault Refusal := event true lockstepThen s

end Sys2Proof.Machine
end

