-- ==== Sys2Proof/Machine/ServiceCmd.lean ====
section
/-! DEFINITION. The commands of firmware, calibration, service threads (16). -/

namespace Sys2Proof.Machine

/-- FW_LOAD (R653): Writes firmware image bytes into the inactive bank. -/
def execFwLoad (p : Pkt) (s : State) : Host.Outcome State Fault Refusal := packet (.fwLoad p) p s

/-- FW_VERIFY (R654): Checks the inactive bank's signature and security version. -/
def execFwVerify (p : Pkt) (s : State) : Host.Outcome State Fault Refusal := packet (.fwVerify p) p s

/-- FW_ACTIVATE (R655): Marks the verified bank TRIAL, and in mode 1 resets the device. -/
def execFwActivate (p : Pkt) (s : State) : Host.Outcome State Fault Refusal := packet (.fwActivate p) p s

/-- FW_CONFIRM (R657): Makes the running TRIAL bank GOOD and raises the security counter. -/
def execFwConfirm (p : Pkt) (s : State) : Host.Outcome State Fault Refusal := packet (.fwConfirm p) p s

/-- FW_STATUS (R671): Returns the bank states, the running bank and the versions. -/
def execFwStatus (p : Pkt) (s : State) : Host.Outcome State Fault Refusal := packet (.fwStatus p) p s

/-- CAL_WRITE (R659): Writes calibration entries to NOR. -/
def execCalWrite (p : Pkt) (s : State) : Host.Outcome State Fault Refusal := packet (.calWrite p) p s

/-- CAL_READ (R661): Copies the calibration set into the payload area. -/
def execCalRead (p : Pkt) (s : State) : Host.Outcome State Fault Refusal := packet (.calRead p) p s

/-- CAL_EXPORT (R662): Writes the signed calibration blob into the payload area. -/
def execCalExport (p : Pkt) (s : State) : Host.Outcome State Fault Refusal := packet (.calExport p) p s

/-- CAL_IMPORT (R663): Checks a calibration blob and writes its entries. -/
def execCalImport (p : Pkt) (s : State) : Host.Outcome State Fault Refusal := packet (.calImport p) p s

/-- SVC_LOAD (R664): Writes a service-thread image into a slot, and checks it on the last write. -/
def execSvcLoad (p : Pkt) (s : State) : Host.Outcome State Fault Refusal := packet (.svcLoad p) p s

/-- NOR_WRITE_DONE (R651): A queued NOR write finishes and is read back, completing its packet. -/
def execNorWriteDone (ok : Bool) (s : State) : Host.Outcome State Fault Refusal := event true (evNorWriteDone ok) s

end Sys2Proof.Machine
end

