-- ==== Sys2Proof/Machine/TimeCmd.lean ====
section
/-! DEFINITION. The commands of device time (13). -/

namespace Sys2Proof.Machine

/-- TIME_ADJ (R538): Requests a change of INCR, optionally for a duration. -/
def execTimeAdj (p : Pkt) (s : State) : Host.Outcome State Fault Refusal := packet (.timeAdj p) p s

/-- TIME_STEP (R540): Requests a step or set of the DTB. -/
def execTimeStep (p : Pkt) (s : State) : Host.Outcome State Fault Refusal := packet (.timeStep p) p s

/-- TIME_SOURCE (R576): Changes the DTB source. -/
def execTimeSource (p : Pkt) (s : State) : Host.Outcome State Fault Refusal := packet (.timeSource p) p s

/-- TIME_PTP_CONFIG (R543): Restarts the PTP instance with new settings. -/
def execTimePtpConfig (p : Pkt) (s : State) : Host.Outcome State Fault Refusal := packet (.timePtpConfig p) p s

/-- TIME_STATUS (R577): Returns TIME_CTRL, the last offset and the INCR fraction. -/
def execTimeStatus (p : Pkt) (s : State) : Host.Outcome State Fault Refusal := packet (.timeStatus p) p s

/-- INCR_CHANGE (R539): A requested INCR takes effect at a tick boundary and TIME_ADJ completes. -/
def execIncrChange (s : State) : Host.Outcome State Fault Refusal := event true evIncrChange s

/-- DURATION_EXPIRY (R538): The DURATION of an INCR change runs out and INCR_AFTER takes over. -/
def execDurationExpiry (s : State) : Host.Outcome State Fault Refusal := event true evDurationExpiry s

/-- TIME_STEP_EFFECT (R540): A step of the DTB takes effect at a tick boundary. -/
def execTimeStepEffect (s : State) : Host.Outcome State Fault Refusal := event true evTimeStepEffect s

/-- PTP_SYNC_INTERVAL (R543): The PTP instance's Sync, Announce or delay-request interval expires and it sends the message on its ports. -/
def execPtpSyncInterval (kind : Fin 3) (s : State) : Host.Outcome State Fault Refusal := event true (evPtpSyncInterval kind) s

end Sys2Proof.Machine
end

