-- ==== Sys2Proof/Machine/WheelCmd.lean ====
section
/-! DEFINITION. The commands of the Wheel and user threads (11, 16). -/

namespace Sys2Proof.Machine

/-- WHEEL_CONFIG (R469): Sets the Wheel tick. -/
def execWheelConfig (p : Pkt) (s : State) : Host.Outcome State Fault Refusal := packet (.wheelConfig p) p s

/-- WHEEL_CONTEXT (R478): Configures a Wheel context's priority, timer mode and entry. -/
def execWheelContext (p : Pkt) (s : State) : Host.Outcome State Fault Refusal := packet (.wheelContext p) p s

/-- WHEEL_READY (R466): Requests that a context become ready, and completes at its dispatch. -/
def execWheelReady (p : Pkt) (s : State) : Host.Outcome State Fault Refusal := packet (.wheelReady p) p s

/-- WHEEL_DELAY (R470): Puts a context on the delay list for n ticks. -/
def execWheelDelay (p : Pkt) (s : State) : Host.Outcome State Fault Refusal := packet (.wheelDelay p) p s

/-- WHEEL_WAIT (R471): Puts a context into WAITING on signals, with an optional time-out. -/
def execWheelWait (p : Pkt) (s : State) : Host.Outcome State Fault Refusal := packet (.wheelWait p) p s

/-- WHEEL_CANCEL (R474): Cancels a context's delay, wait, readiness or pending ready. -/
def execWheelCancel (p : Pkt) (s : State) : Host.Outcome State Fault Refusal := packet (.wheelCancel p) p s

/-- WHEEL_SIGNAL (R472): Raises the signals in its mask. -/
def execWheelSignal (p : Pkt) (s : State) : Host.Outcome State Fault Refusal := packet (.wheelSignal p) p s

/-- WHEEL_SIGMAP (R473): Maps events of a class and unit onto a signal. -/
def execWheelSigmap (p : Pkt) (s : State) : Host.Outcome State Fault Refusal := packet (.wheelSigmap p) p s

/-- WHEEL_STATUS (R480): Returns the status of a context or of the whole Wheel. -/
def execWheelStatus (p : Pkt) (s : State) : Host.Outcome State Fault Refusal := packet (.wheelStatus p) p s

/-- WHEEL_RELEASE (R461): Returns an IDLE context to FREE. -/
def execWheelRelease (p : Pkt) (s : State) : Host.Outcome State Fault Refusal := packet (.wheelRelease p) p s

/-- THREAD_END (R668): Thread call END, which ends the run and returns the context to IDLE or READY. -/
def execThreadEnd (c : Fin 4) (s : State) : Host.Outcome State Fault Refusal := event true (evThreadEnd c) s

/-- THREAD_READY (R668): Thread call READY, which requests a Wheel context ready. -/
def execThreadReady (c : Fin 4) (ctx : Word) (s : State) : Host.Outcome State Fault Refusal :=
  event true (evThreadReady c ctx) s

/-- THREAD_SIGNAL (R668): Thread call SIGNAL, which raises signals. -/
def execThreadSignal (c : Fin 4) (mask : Word) (s : State) : Host.Outcome State Fault Refusal :=
  event true (evThreadSignal c mask) s

/-- THREAD_DELAY (R668): Thread call DELAY, which ends the run and delays the context. -/
def execThreadDelay (c : Fin 4) (n : Word) (s : State) : Host.Outcome State Fault Refusal := event true (evThreadDelay c n) s

/-- THREAD_WAIT (R668): Thread call WAIT, which ends the run and waits for signals. -/
def execThreadWait (c : Fin 4) (mask tmo : Word) (s : State) : Host.Outcome State Fault Refusal :=
  event true (evThreadWait c mask tmo) s

/-- THREAD_SUBMIT (R668): Thread call SUBMIT, which writes a packet into a local ring. -/
def execThreadSubmit (c : Fin 4) (qp : Word) (bytes : List Byte) (s : State) : Host.Outcome State Fault Refusal :=
  event true (evThreadSubmit c qp bytes) s

/-- THREAD_POLL (R668): Thread call POLL, which copies a completion entry. -/
def execThreadPoll (c : Fin 4) (qp addr : Word) (s : State) : Host.Outcome State Fault Refusal :=
  event true (evThreadPoll c qp addr) s

/-- THREAD_TIME (R668): Thread call TIME, which returns the DTB nanoseconds. -/
def execThreadTime (c : Fin 4) (s : State) : Host.Outcome State Fault Refusal := event true (evThreadTime c) s

/-- THREAD_IMAGE_READ (R668): Thread call IMAGE_READ, which copies input process image words. -/
def execThreadImageRead (c : Fin 4) (ofs count addr : Word) (s : State) : Host.Outcome State Fault Refusal :=
  event true (evThreadImageRead c ofs count addr) s

/-- THREAD_FAULT (R669): A service thread faults by a bad access, a bad call, a bad queue pair or a RUN_MAX overrun, and is freed. -/
def execThreadFault (c : Fin 4) (s : State) : Host.Outcome State Fault Refusal := event true (evThreadFault c) s

/-- WHEEL_CYCLE (R460): A 40 ns Wheel cycle applies cancels, then ready requests, then each worker's dispatch. -/
def execWheelCycle (s : State) : Host.Outcome State Fault Refusal := event true evWheelCycle s

/-- DELAY_EXPIRY (R470): A tick boundary expires delayed contexts into READY. -/
def execDelayExpiry (s : State) : Host.Outcome State Fault Refusal := event true evDelayExpiry s

/-- WAIT_TIMEOUT (R471): A wait's time-out elapses and the context enters READY. -/
def execWaitTimeout (c : Fin 128) (s : State) : Host.Outcome State Fault Refusal := event true (evWaitTimeout c) s

end Sys2Proof.Machine
end

