-- ==== Sys2Proof/Machine/Dispatch.lean ====
section
/-! DEFINITION. One arm per command of the opcode table. -/

namespace Sys2Proof.Machine

/-- The effect of a command on everything but the queue. -/
def exec (i : Instr) (s : State) : Host.Outcome State Fault Refusal :=
  match i with
  | .adminNop p => Sys2Proof.Machine.execAdminNop p s
  | .identify p => Sys2Proof.Machine.execIdentify p s
  | .adminPad p => Sys2Proof.Machine.execAdminPad p s
  | .adminEventWait p => Sys2Proof.Machine.execAdminEventWait p s
  | .adminAbort p => Sys2Proof.Machine.execAdminAbort p s
  | .reinstate p => Sys2Proof.Machine.execReinstate p s
  | .fence p => Sys2Proof.Machine.execFence p s
  | .barrier p => Sys2Proof.Machine.execBarrier p s
  | .bridgeDefine p => Sys2Proof.Machine.execBridgeDefine p s
  | .bridgeSetRole p => Sys2Proof.Machine.execBridgeSetRole p s
  | .bridgeBind p => Sys2Proof.Machine.execBridgeBind p s
  | .bridgeArm p => Sys2Proof.Machine.execBridgeArm p s
  | .bridgeDisarm p => Sys2Proof.Machine.execBridgeDisarm p s
  | .bridgePrecharge p => Sys2Proof.Machine.execBridgePrecharge p s
  | .bridgeStart p => Sys2Proof.Machine.execBridgeStart p s
  | .bridgeStop p => Sys2Proof.Machine.execBridgeStop p s
  | .bridgeSafe p => Sys2Proof.Machine.execBridgeSafe p s
  | .bridgeRecover p => Sys2Proof.Machine.execBridgeRecover p s
  | .bridgeStatus p => Sys2Proof.Machine.execBridgeStatus p s
  | .bridgeBindImage p => Sys2Proof.Machine.execBridgeBindImage p s
  | .gfConfig p => Sys2Proof.Machine.execGfConfig p s
  | .gfTune p => Sys2Proof.Machine.execGfTune p s
  | .gfSetpoint p => Sys2Proof.Machine.execGfSetpoint p s
  | .gfSecondary p => Sys2Proof.Machine.execGfSecondary p s
  | .gfStatus p => Sys2Proof.Machine.execGfStatus p s
  | .loopConfig p => Sys2Proof.Machine.execLoopConfig p s
  | .loopCoefLoad p => Sys2Proof.Machine.execLoopCoefLoad p s
  | .loopCoefSwap p => Sys2Proof.Machine.execLoopCoefSwap p s
  | .loopTableLoad p => Sys2Proof.Machine.execLoopTableLoad p s
  | .loopTableSwap p => Sys2Proof.Machine.execLoopTableSwap p s
  | .loopStateSet p => Sys2Proof.Machine.execLoopStateSet p s
  | .loopSetpoint p => Sys2Proof.Machine.execLoopSetpoint p s
  | .loopSubst p => Sys2Proof.Machine.execLoopSubst p s
  | .loopInject p => Sys2Proof.Machine.execLoopInject p s
  | .loopInjectStop p => Sys2Proof.Machine.execLoopInjectStop p s
  | .loopStatus p => Sys2Proof.Machine.execLoopStatus p s
  | .loopUnload p => Sys2Proof.Machine.execLoopUnload p s
  | .pwmCarrier p => Sys2Proof.Machine.execPwmCarrier p s
  | .pwmEdges p => Sys2Proof.Machine.execPwmEdges p s
  | .pwmPeriod p => Sys2Proof.Machine.execPwmPeriod p s
  | .pwmBoot p => Sys2Proof.Machine.execPwmBoot p s
  | .pwmTripConfig p => Sys2Proof.Machine.execPwmTripConfig p s
  | .pwmStatus p => Sys2Proof.Machine.execPwmStatus p s
  | .gateProfile p => Sys2Proof.Machine.execGateProfile p s
  | .gateAdapt p => Sys2Proof.Machine.execGateAdapt p s
  | .gateStatus p => Sys2Proof.Machine.execGateStatus p s
  | .gateTelem p => Sys2Proof.Machine.execGateTelem p s
  | .gateBoosterRw p => Sys2Proof.Machine.execGateBoosterRw p s
  | .pugSlotConfig p => Sys2Proof.Machine.execPugSlotConfig p s
  | .pugFirLoad p => Sys2Proof.Machine.execPugFirLoad p s
  | .pugFirSwap p => Sys2Proof.Machine.execPugFirSwap p s
  | .pugDsmClock p => Sys2Proof.Machine.execPugDsmClock p s
  | .pugTimer p => Sys2Proof.Machine.execPugTimer p s
  | .pugPosConfig p => Sys2Proof.Machine.execPugPosConfig p s
  | .pugRecal p => Sys2Proof.Machine.execPugRecal p s
  | .pugRead p => Sys2Proof.Machine.execPugRead p s
  | .pugStatus p => Sys2Proof.Machine.execPugStatus p s
  | .capConfig p => Sys2Proof.Machine.execCapConfig p s
  | .capArm p => Sys2Proof.Machine.execCapArm p s
  | .capDisarm p => Sys2Proof.Machine.execCapDisarm p s
  | .capForce p => Sys2Proof.Machine.execCapForce p s
  | .capRead p => Sys2Proof.Machine.execCapRead p s
  | .capStatus p => Sys2Proof.Machine.execCapStatus p s
  | .capRelease p => Sys2Proof.Machine.execCapRelease p s
  | .safeStage p => Sys2Proof.Machine.execSafeStage p s
  | .safeConfirm p => Sys2Proof.Machine.execSafeConfirm p s
  | .safeStatus p => Sys2Proof.Machine.execSafeStatus p s
  | .safeOutput p => Sys2Proof.Machine.execSafeOutput p s
  | .safeRead p => Sys2Proof.Machine.execSafeRead p s
  | .safeRequest p => Sys2Proof.Machine.execSafeRequest p s
  | .wheelConfig p => Sys2Proof.Machine.execWheelConfig p s
  | .wheelContext p => Sys2Proof.Machine.execWheelContext p s
  | .wheelReady p => Sys2Proof.Machine.execWheelReady p s
  | .wheelDelay p => Sys2Proof.Machine.execWheelDelay p s
  | .wheelWait p => Sys2Proof.Machine.execWheelWait p s
  | .wheelCancel p => Sys2Proof.Machine.execWheelCancel p s
  | .wheelSignal p => Sys2Proof.Machine.execWheelSignal p s
  | .wheelSigmap p => Sys2Proof.Machine.execWheelSigmap p s
  | .wheelStatus p => Sys2Proof.Machine.execWheelStatus p s
  | .wheelRelease p => Sys2Proof.Machine.execWheelRelease p s
  | .cycConfig p => Sys2Proof.Machine.execCycConfig p s
  | .cycLoad p => Sys2Proof.Machine.execCycLoad p s
  | .cycVerify p => Sys2Proof.Machine.execCycVerify p s
  | .cycChange p => Sys2Proof.Machine.execCycChange p s
  | .cycMode p => Sys2Proof.Machine.execCycMode p s
  | .cycStation p => Sys2Proof.Machine.execCycStation p s
  | .cycForce p => Sys2Proof.Machine.execCycForce p s
  | .cycRead p => Sys2Proof.Machine.execCycRead p s
  | .cycWrite p => Sys2Proof.Machine.execCycWrite p s
  | .cycDebug p => Sys2Proof.Machine.execCycDebug p s
  | .cycStore p => Sys2Proof.Machine.execCycStore p s
  | .cycDiscard p => Sys2Proof.Machine.execCycDiscard p s
  | .cycStatus p => Sys2Proof.Machine.execCycStatus p s
  | .timeAdj p => Sys2Proof.Machine.execTimeAdj p s
  | .timeStep p => Sys2Proof.Machine.execTimeStep p s
  | .timeSource p => Sys2Proof.Machine.execTimeSource p s
  | .timePtpConfig p => Sys2Proof.Machine.execTimePtpConfig p s
  | .timeStatus p => Sys2Proof.Machine.execTimeStatus p s
  | .netTx p => Sys2Proof.Machine.execNetTx p s
  | .netRx p => Sys2Proof.Machine.execNetRx p s
  | .netFilter p => Sys2Proof.Machine.execNetFilter p s
  | .netGcl p => Sys2Proof.Machine.execNetGcl p s
  | .netStatus p => Sys2Proof.Machine.execNetStatus p s
  | .nrPublish p => Sys2Proof.Machine.execNrPublish p s
  | .nrTelemRead p => Sys2Proof.Machine.execNrTelemRead p s
  | .nrSend p => Sys2Proof.Machine.execNrSend p s
  | .nrRecv p => Sys2Proof.Machine.execNrRecv p s
  | .nrStatus p => Sys2Proof.Machine.execNrStatus p s
  | .dpxReport p => Sys2Proof.Machine.execDpxReport p s
  | .dpxSwitch p => Sys2Proof.Machine.execDpxSwitch p s
  | .dpxHealth p => Sys2Proof.Machine.execDpxHealth p s
  | .fltConfig p => Sys2Proof.Machine.execFltConfig p s
  | .fltLogRead p => Sys2Proof.Machine.execFltLogRead p s
  | .fltStatus p => Sys2Proof.Machine.execFltStatus p s
  | .fwLoad p => Sys2Proof.Machine.execFwLoad p s
  | .fwVerify p => Sys2Proof.Machine.execFwVerify p s
  | .fwActivate p => Sys2Proof.Machine.execFwActivate p s
  | .fwConfirm p => Sys2Proof.Machine.execFwConfirm p s
  | .fwStatus p => Sys2Proof.Machine.execFwStatus p s
  | .calWrite p => Sys2Proof.Machine.execCalWrite p s
  | .calRead p => Sys2Proof.Machine.execCalRead p s
  | .calExport p => Sys2Proof.Machine.execCalExport p s
  | .calImport p => Sys2Proof.Machine.execCalImport p s
  | .svcLoad p => Sys2Proof.Machine.execSvcLoad p s
  | .eicSubmit r => Sys2Proof.Machine.execEicSubmit r s
  | .eicPoll r => Sys2Proof.Machine.execEicPoll r s
  | .eicReady r => Sys2Proof.Machine.execEicReady r s
  | .eicSignal r => Sys2Proof.Machine.execEicSignal r s
  | .rdtime r => Sys2Proof.Machine.execRdtime r s
  | .rdcnt r => Sys2Proof.Machine.execRdcnt r s
  | .trace r => Sys2Proof.Machine.execTrace r s
  | .threadEnd c => Sys2Proof.Machine.execThreadEnd c s
  | .threadReady c ctx => Sys2Proof.Machine.execThreadReady c ctx s
  | .threadSignal c mask => Sys2Proof.Machine.execThreadSignal c mask s
  | .threadDelay c n => Sys2Proof.Machine.execThreadDelay c n s
  | .threadWait c mask tmo => Sys2Proof.Machine.execThreadWait c mask tmo s
  | .threadSubmit c qp bytes => Sys2Proof.Machine.execThreadSubmit c qp bytes s
  | .threadPoll c qp addr => Sys2Proof.Machine.execThreadPoll c qp addr s
  | .threadTime c => Sys2Proof.Machine.execThreadTime c s
  | .threadImageRead c ofs count addr => Sys2Proof.Machine.execThreadImageRead c ofs count addr s
  | .threadFault c => Sys2Proof.Machine.execThreadFault c s
  | .commandTailWrite qp t => Sys2Proof.Machine.execCommandTailWrite qp t s
  | .completionHeadWrite qp h => Sys2Proof.Machine.execCompletionHeadWrite qp h s
  | .qpResume qp => Sys2Proof.Machine.execQpResume qp s
  | .qpReset qp => Sys2Proof.Machine.execQpReset qp s
  | .setupLock v => Sys2Proof.Machine.execSetupLock v s
  | .setupLockEffect => Sys2Proof.Machine.execSetupLockEffect s
  | .profileSave ok => Sys2Proof.Machine.execProfileSave ok s
  | .registerWrite off v => Sys2Proof.Machine.execRegisterWrite off v s
  | .timeSnapRead => Sys2Proof.Machine.execTimeSnapRead s
  | .pwrAonLoRead => Sys2Proof.Machine.execPwrAonLoRead s
  | .windowWord0Read cls unit => Sys2Proof.Machine.execWindowWord0Read cls unit s
  | .dbgReq v => Sys2Proof.Machine.execDbgReq v s
  | .dbgSubmit => Sys2Proof.Machine.execDbgSubmit s
  | .dbgRevoke => Sys2Proof.Machine.execDbgRevoke s
  | .dbgLockoutEnd => Sys2Proof.Machine.execDbgLockoutEnd s
  | .dbgAtestWrite v => Sys2Proof.Machine.execDbgAtestWrite v s
  | .dbgAuth dr => Sys2Proof.Machine.execDbgAuth dr s
  | .extest => Sys2Proof.Machine.execExtest s
  | .extestEnd => Sys2Proof.Machine.execExtestEnd s
  | .dbgMbox bytes first last => Sys2Proof.Machine.execDbgMbox bytes first last s
  | .idcode => Sys2Proof.Machine.execIdcode s
  | .bypass => Sys2Proof.Machine.execBypass s
  | .samplePreload => Sys2Proof.Machine.execSamplePreload s
  | .packetFetch qp bytes => Sys2Proof.Machine.execPacketFetch qp bytes s
  | .notBeforeReached qp tag => Sys2Proof.Machine.execNotBeforeReached qp tag s
  | .lateWindowExpiry qp tag => Sys2Proof.Machine.execLateWindowExpiry qp tag s
  | .irqModTime qp => Sys2Proof.Machine.execIrqModTime qp s
  | .ringReadFail qp addr => Sys2Proof.Machine.execRingReadFail qp addr s
  | .barrierTimeout ident => Sys2Proof.Machine.execBarrierTimeout ident s
  | .hostUnavailable linkUp bme => Sys2Proof.Machine.execHostUnavailable linkUp bme s
  | .carrierEvent b => Sys2Proof.Machine.execCarrierEvent b s
  | .tripSourceActive src => Sys2Proof.Machine.execTripSourceActive src s
  | .tripBreak g => Sys2Proof.Machine.execTripBreak g s
  | .faultCodeReceived g group => Sys2Proof.Machine.execFaultCodeReceived g group s
  | .blankWindowClose sw => Sys2Proof.Machine.execBlankWindowClose sw s
  | .alertSymbol g group => Sys2Proof.Machine.execAlertSymbol g group s
  | .bootLow g => Sys2Proof.Machine.execBootLow g s
  | .forcedRefreshEnd g => Sys2Proof.Machine.execForcedRefreshEnd g s
  | .statusFrame g supply temp status => Sys2Proof.Machine.execStatusFrame g supply temp status s
  | .edgeFrame g second off entry exit => Sys2Proof.Machine.execEdgeFrame g second off entry exit s
  | .readDataFrame g addr data => Sys2Proof.Machine.execReadDataFrame g addr data s
  | .ackFrame g result => Sys2Proof.Machine.execAckFrame g result s
  | .commitAckTimeout g => Sys2Proof.Machine.execCommitAckTimeout g s
  | .uplinkFrameDiscard f => Sys2Proof.Machine.execUplinkFrameDiscard f s
  | .statusTimeout g => Sys2Proof.Machine.execStatusTimeout g s
  | .trainingComplete g ident caps acked => Sys2Proof.Machine.execTrainingComplete g ident caps acked s
  | .armTimeout b => Sys2Proof.Machine.execArmTimeout b s
  | .prechargeDone b => Sys2Proof.Machine.execPrechargeDone b s
  | .prechargeTimeout b => Sys2Proof.Machine.execPrechargeTimeout b s
  | .prechargeTimedDone b => Sys2Proof.Machine.execPrechargeTimedDone b s
  | .stopRampEnd b => Sys2Proof.Machine.execStopRampEnd b s
  | .sslLoss b => Sys2Proof.Machine.execSslLoss b s
  | .loopSample c => Sys2Proof.Machine.execLoopSample c s
  | .commitDeadlineOverrun c => Sys2Proof.Machine.execCommitDeadlineOverrun c s
  | .substTimeout c => Sys2Proof.Machine.execSubstTimeout c s
  | .injectionEnd c => Sys2Proof.Machine.execInjectionEnd c s
  | .gfOuterStep g => Sys2Proof.Machine.execGfOuterStep g s
  | .gfLimitRelease g => Sys2Proof.Machine.execGfLimitRelease g s
  | .gfRtTimeout g => Sys2Proof.Machine.execGfRtTimeout g s
  | .gfWFault g => Sys2Proof.Machine.execGfWFault g s
  | .secExpired g => Sys2Proof.Machine.execSecExpired g s
  | .deadBusSet g => Sys2Proof.Machine.execDeadBusSet g s
  | .holdoffEnd g => Sys2Proof.Machine.execHoldoffEnd g s
  | .waitLiveQualified g => Sys2Proof.Machine.execWaitLiveQualified g s
  | .joinWindowsQualified g => Sys2Proof.Machine.execJoinWindowsQualified g s
  | .joinFbRise g => Sys2Proof.Machine.execJoinFbRise g s
  | .joinFbFall g => Sys2Proof.Machine.execJoinFbFall g s
  | .contactorAssumedClosed g => Sys2Proof.Machine.execContactorAssumedClosed g s
  | .contactorTimeout g => Sys2Proof.Machine.execContactorTimeout g s
  | .retryWaitEnd g => Sys2Proof.Machine.execRetryWaitEnd g s
  | .detachment g => Sys2Proof.Machine.execDetachment g s
  | .pugFrame src inputs => Sys2Proof.Machine.execPugFrame src inputs s
  | .slotOutputReady slot => Sys2Proof.Machine.execSlotOutputReady slot s
  | .resolverPeriod n pairs => Sys2Proof.Machine.execResolverPeriod n pairs s
  | .zEdge n => Sys2Proof.Machine.execZEdge n s
  | .measurementUpset kind unit => Sys2Proof.Machine.execMeasurementUpset kind unit s
  | .retryRunEnd kind unit ok => Sys2Proof.Machine.execRetryRunEnd kind unit ok s
  | .bucketLeak kind unit => Sys2Proof.Machine.execBucketLeak kind unit s
  | .eccError page corrected retryOk => Sys2Proof.Machine.execEccError page corrected retryOk s
  | .recalEnd off gain => Sys2Proof.Machine.execRecalEnd off gain s
  | .capSampleClose u => Sys2Proof.Machine.execCapSampleClose u s
  | .capExtEdge n => Sys2Proof.Machine.execCapExtEdge n s
  | .captureUpset u => Sys2Proof.Machine.execCaptureUpset u s
  | .sinFilteredChange chB sin level => Sys2Proof.Machine.execSinFilteredChange chB sin level s
  | .discrepancyLatch chB f => Sys2Proof.Machine.execDiscrepancyLatch chB f s
  | .ss1SafeInstant chB f => Sys2Proof.Machine.execSs1SafeInstant chB f s
  | .sbcDelayExpiry chB out => Sys2Proof.Machine.execSbcDelayExpiry chB out s
  | .safeEnFall => Sys2Proof.Machine.execSafeEnFall s
  | .safeEnToggle takenA takenB tripPins => Sys2Proof.Machine.execSafeEnToggle takenA takenB tripPins s
  | .blockCommit ok => Sys2Proof.Machine.execBlockCommit ok s
  | .confirmWindowExpiry => Sys2Proof.Machine.execConfirmWindowExpiry s
  | .sagExchange received => Sys2Proof.Machine.execSagExchange received s
  | .saggarInternalFault => Sys2Proof.Machine.execSaggarInternalFault s
  | .lockstepMismatch => Sys2Proof.Machine.execLockstepMismatch s
  | .wheelCycle => Sys2Proof.Machine.execWheelCycle s
  | .delayExpiry => Sys2Proof.Machine.execDelayExpiry s
  | .waitTimeout c => Sys2Proof.Machine.execWaitTimeout c s
  | .eventTaskEnd => Sys2Proof.Machine.execEventTaskEnd s
  | .cycleStart k => Sys2Proof.Machine.execCycleStart k s
  | .cycleEnd k => Sys2Proof.Machine.execCycleEnd k s
  | .outputWindow k => Sys2Proof.Machine.execOutputWindow k s
  | .kilnSitterTrip => Sys2Proof.Machine.execKilnSitterTrip s
  | .changeSwitch => Sys2Proof.Machine.execChangeSwitch s
  | .imageBootLoad => Sys2Proof.Machine.execImageBootLoad s
  | .incrChange => Sys2Proof.Machine.execIncrChange s
  | .durationExpiry => Sys2Proof.Machine.execDurationExpiry s
  | .timeStepEffect => Sys2Proof.Machine.execTimeStepEffect s
  | .gclSwitch port => Sys2Proof.Machine.execGclSwitch port s
  | .ethFrameReceived port bytes sec ns sub => Sys2Proof.Machine.execEthFrameReceived port bytes sec ns sub s
  | .frameTransmitted port sec ns sub => Sys2Proof.Machine.execFrameTransmitted port sec ns sub s
  | .netTxTimeout port => Sys2Proof.Machine.execNetTxTimeout port s
  | .ethLinkChange port up speed => Sys2Proof.Machine.execEthLinkChange port up speed s
  | .ethPortUpset port => Sys2Proof.Machine.execEthPortUpset port s
  | .ringCycle => Sys2Proof.Machine.execRingCycle s
  | .timeFrame nb src hops payload => Sys2Proof.Machine.execTimeFrame nb src hops payload s
  | .delayTimer => Sys2Proof.Machine.execDelayTimer s
  | .delayFrame nb response turnaround => Sys2Proof.Machine.execDelayFrame nb response turnaround s
  | .heartbeatFrame nb src hops payload => Sys2Proof.Machine.execHeartbeatFrame nb src hops payload s
  | .telemetryFrame nb src hops record => Sys2Proof.Machine.execTelemetryFrame nb src hops record s
  | .mirrorFrame nb src hops payload => Sys2Proof.Machine.execMirrorFrame nb src hops payload s
  | .fragmentFrame nb src hops payload => Sys2Proof.Machine.execFragmentFrame nb src hops payload s
  | .ringAckFrame nb src hops dest msg result => Sys2Proof.Machine.execRingAckFrame nb src hops dest msg result s
  | .nrSendTimeout => Sys2Proof.Machine.execNrSendTimeout s
  | .wakeFrame nb src hops target => Sys2Proof.Machine.execWakeFrame nb src hops target s
  | .ringFrameDiscard nb => Sys2Proof.Machine.execRingFrameDiscard nb s
  | .nodeLost node => Sys2Proof.Machine.execNodeLost node s
  | .masterElection => Sys2Proof.Machine.execMasterElection s
  | .alignedChange => Sys2Proof.Machine.execAlignedChange s
  | .ringPortUpset nb => Sys2Proof.Machine.execRingPortUpset nb s
  | .ringRelaysEnergise => Sys2Proof.Machine.execRingRelaysEnergise s
  | .ringInserted closed => Sys2Proof.Machine.execRingInserted closed s
  | .ringInsertTimeout => Sys2Proof.Machine.execRingInsertTimeout s
  | .pairingTimeout => Sys2Proof.Machine.execPairingTimeout s
  | .stateTransferDone => Sys2Proof.Machine.execStateTransferDone s
  | .forwardTimeout qp tag => Sys2Proof.Machine.execForwardTimeout qp tag s
  | .handoverCommit b => Sys2Proof.Machine.execHandoverCommit b s
  | .handoverOwn b => Sys2Proof.Machine.execHandoverOwn b s
  | .handoverAbandon => Sys2Proof.Machine.execHandoverAbandon s
  | .standDown g => Sys2Proof.Machine.execStandDown g s
  | .conesRound failed => Sys2Proof.Machine.execConesRound failed s
  | .feedOutOfWindow vfb level => Sys2Proof.Machine.execFeedOutOfWindow vfb level s
  | .feedReconnect vfb level => Sys2Proof.Machine.execFeedReconnect vfb level s
  | .powerFail => Sys2Proof.Machine.execPowerFail s
  | .powerFailEnd => Sys2Proof.Machine.execPowerFailEnd s
  | .powerOn vfa vfb vhold vbak => Sys2Proof.Machine.execPowerOn vfa vfb vhold vbak s
  | .resetNLow => Sys2Proof.Machine.execResetNLow s
  | .resetNRise => Sys2Proof.Machine.execResetNRise s
  | .bootReady selfTestFails => Sys2Proof.Machine.execBootReady selfTestFails s
  | .readyReturn => Sys2Proof.Machine.execReadyReturn s
  | .sleep => Sys2Proof.Machine.execSleep s
  | .wakePin => Sys2Proof.Machine.execWakePin s
  | .wakeInterval => Sys2Proof.Machine.execWakeInterval s
  | .watchConversion code => Sys2Proof.Machine.execWatchConversion code s
  | .pllLockLoss n => Sys2Proof.Machine.execPllLockLoss n s
  | .pllRelockStart n => Sys2Proof.Machine.execPllRelockStart n s
  | .pllLockDeclared n => Sys2Proof.Machine.execPllLockDeclared n s
  | .pllRelockTimeout n => Sys2Proof.Machine.execPllRelockTimeout n s
  | .pllHoldoverTimeout => Sys2Proof.Machine.execPllHoldoverTimeout s
  | .refSwitchToRing => Sys2Proof.Machine.execRefSwitchToRing s
  | .refClockLoss => Sys2Proof.Machine.execRefClockLoss s
  | .norWriteDone ok => Sys2Proof.Machine.execNorWriteDone ok s
  | .pcieLinkUp rate width => Sys2Proof.Machine.execPcieLinkUp rate width s
  | .quadratureEdge n a b => Sys2Proof.Machine.execQuadratureEdge n a b s
  | .gateControlEntry port => Sys2Proof.Machine.execGateControlEntry port s
  | .ringInsertRetry => Sys2Proof.Machine.execRingInsertRetry s
  | .ptpSyncInterval kind => Sys2Proof.Machine.execPtpSyncInterval kind s

end Sys2Proof.Machine
end

