-- ==== Sys2Proof/Machine/Step.lean ====
section
/-! DEFINITION. The step: the command at the front of the queue, or one tick of the clock. -/

namespace Sys2Proof.Machine

/-- One step: the command at the front runs with the rest of the queue; on an empty queue one 4 ns tick of the 250 MHz
clock passes (DESIGN CHOICE, log 6). -/
def step (s : State) : Host.Outcome State Fault Refusal :=
  match s.pending with
  | c :: rest => exec c { s with pending := rest }
  | [] => .next (s.advanceTo (s.now + 32))

/-- The opcode table gives no row bits, so that no word spells a command and the state stays as it is. -/
def State.withFetchWord (s : State) (nbits w : Nat) : State :=
  match decodeTableWord nbits w with
  | some c => { s with pending := c :: s.pending }
  | none => s

end Sys2Proof.Machine
end

