-- ==== Sys2Proof/Safety.lean ====
section
/-! DEFINITION. What counts as a safe run, and the words the claims use: when a packet command runs as soon as it is fetched,
the state in which its effect begins, and what follows it. -/

namespace Sys2Proof.Safety

/-- A state from which one step answers a next state. -/
def Live (s : Machine.State) : Prop := ∃ t, Machine.step s = .next t

/-- The queue holds well-formed commands only. -/
def WellQueued (s : Machine.State) : Prop := ∀ c ∈ s.pending, c.wf = true

end Sys2Proof.Safety

namespace Sys2Proof.Machine

/-- The ticket of the packet that is fetched next on a packet's queue pair. -/
def State.ticketOf (s : State) (p : Pkt) : Ticket := ⟨p.qp, s.nextId⟩

/-- The state in which the effect of a packet begins (10 R423, R426, R435): the fetch position has moved past it, and it
is in flight and started. -/
def State.begun (s : State) (i : Instr) (p : Pkt) : State :=
  let f : Flight := { id := s.nextId, cmd := i, pkt := p, started := true, fetched := s.now }
  let past := p.index.toNat + granules p.len.toNat
  { s.modQp p.qp fun x => { x with
      fetch := if s.cmdSize p.qp ≤ past then 0 else past,
      lap := if s.cmdSize p.qp ≤ past then !p.lap else p.lap,
      readRetry := none,
      flights := x.flights ++ [f] }
    with nextId := s.nextId + 1 }

/-- What follows a command when no packet waits: the power state and ATEST follow the change (15 R628, 19 R714). -/
def State.rest (s : State) : State := s.refreshPower.refreshAtest

/-- What follows an event that reaches the device in any power state: nothing, unless the main die is awake after it. -/
def State.onward (s : State) : State := if s.awake then s.finish else s

/-- A packet command that is fetched and starts at once (10 R423 to R442): its queue pair runs and has room for it, nothing
earlier waits or holds it back, and it is neither early nor late. -/
structure State.Reaches (s : State) (i : Instr) (p : Pkt) : Prop where
  wf : p.wf = true
  awake : s.awake = true
  running : (s.qp p.qp).state = .running
  length : p.len.toNat ≤ 4032
  fits : p.index.toNat + granules p.len.toNat ≤ s.cmdSize p.qp
  room : s.mayReserve p.qp = true
  started : ∀ q : Fin 16, ∀ f ∈ (s.qp q).flights, f.started = true
  free : s.holds (s.qp p.qp).flights { id := s.nextId, cmd := i, pkt := p, started := false, fetched := s.now } = false
  timely : s.isLate { id := s.nextId, cmd := i, pkt := p, started := true, fetched := s.now } = false

/-- Such a packet that no check of Table 10-11a refuses, checks 3 to 8 and that of R596, and that is not forwarded to a
standby (14 R595). -/
structure State.Admits (s : State) (i : Instr) (p : Pkt) : Prop extends State.Reaches s i p where
  legal : ∀ op, opcodeOf i = some op → s.check op p true = none
  here : ∀ op, opcodeOf i = some op → s.forwards op p = false

end Sys2Proof.Machine
end

