-- ==== Sys2Proof/Certificates/Slice0/Obligations.lean ====
section
/-! DEFINITION. The statements for the provers. The statements named …Complete say of each command what state its own effect
leaves, for every state and operands that meet conditions on them alone: they are its result and its frame in one, since they
give the whole next state. `State.begun`, `State.ticketOf`, `State.rest` and `State.Admits` are in Sys2Proof/Safety.lean. -/

open Sys2Proof Sys2Proof.Machine

/-- A step with a command at the front of the queue is that command's effect on the state with the queue's rest. -/
def Obligations.StepRunsFrontCommand : Prop :=
  ∀ (s : State) (c : Instr) (rest : List Instr),
    Sys2Proof.Machine.step { s with pending := c :: rest } = exec c { s with pending := rest }

/-- With nothing queued a step is one 4 ns tick of the 250 MHz clock: the model's choice (log 6), not a rule of the spec. -/
def Obligations.IdleStepIsOneTick : Prop :=
  ∀ s : State, s.pending = [] →
    Sys2Proof.Machine.step s = .next (s.advanceTo (s.now + 32)) ∧ (s.advanceTo (s.now + 32)).now = s.now + 32

/-- A command whose operands a sender can spell answers a next state in every state; any other is turned away by name. -/
def Obligations.SpellableCommandsAnswer : Prop :=
  ∀ (s : State) (c : Instr),
    (c.wf = true → ∃ t, exec c s = .next t) ∧ (c.wf = false → exec c s = .refused .illFormed)

/-- A packet command does nothing while the main die is not powered or is held in reset: the model's reading of 15 (log 9), for
every packet command. -/
def Obligations.AsleepPacketsDoNothing : Prop :=
  ∀ (s : State) (i : Instr) (p : Pkt), i.pkt = some p → p.wf = true → s.awake = false → exec i s = .next s

/-- A packet that reaches its checks and fails one completes with the status of the first that fails, and nothing else happens
(10 R435, R436). -/
def Obligations.FailedCheckIsTheStatus : Prop :=
  ∀ (s : State) (i : Instr) (p : Pkt) (op : Nat) (st : Status), i.pkt = some p → opcodeOf i = some op → op ≠ 2 →
    s.Reaches i p → s.check op p true = some st →
    exec i s = .next ((s.begun i p).ends (s.ticketOf p) st).rest

/-- R8: a packet addressed to a unit that is not fitted completes with UNIT_ABSENT, and nothing else happens. -/
def Obligations.UnfittedTargetIsUnitAbsent : Prop :=
  ∀ (s : State) (i : Instr) (p : Pkt) (op : Nat), i.pkt = some p → opcodeOf i = some op → op ≠ 2 → s.Reaches i p →
    headerOk op p = true → lengthOk op p = true → targetOk op p.target.toNat = true → s.fitted op p.target.toNat = false →
    exec i s = .next ((s.begun i p).ends (s.ticketOf p) .unitAbsent).rest

/-- R7: IDENTIFY answers DONE with the value GEN_UNIT_MAP reads as and the variant number in binary-coded decimal. -/
def Obligations.IdentifyAnswersTheUnitMap : Prop :=
  ∀ (s : State) (p : Pkt), s.Admits (.identify p) p →
    exec (.identify p) s = .next ((s.begun (.identify p) p).answer (s.ticketOf p)
      { status := .done, r0 := s.readReg 4,
        r1 := match s.variant with | .cd6340 => 0x00006340 | .cd6320 => 0x00006320 | .cd6310 => 0x00006310 }).rest

/-- R5: GEN_UNIT_MAP (offset 0x4 of BAR0) reads as Table 00-1 gives for the variant, after reset and in every other state, and
no write changes it. -/
def Obligations.GenUnitMapIsReadOnly : Prop :=
  (State.reset.readReg 4 = 0x08FFFFFF) ∧
  ∀ s : State,
    s.readReg 4 = (match s.variant with | .cd6340 => 0x08FFFFFF | .cd6320 => 0x044CC70F | .cd6310 => 0x04044303) ∧
    (s.awake = true → ∀ v, exec (.registerWrite 4 v) s = .next s.finish)

/-- R45: BRIDGE_SAFE in SAFE completes with DONE and changes nothing. -/
def Obligations.SafeInSafeChangesNothing : Prop :=
  ∀ (s : State) (p : Pkt), s.Admits (.bridgeSafe p) p → (s.bridge p.target.toNat).state = .safe →
    exec (.bridgeSafe p) s = .next ((s.begun (.bridgeSafe p) p).ends (s.ticketOf p) .done).rest

/-- R537: TIME_ADJ and TIME_STEP complete with STATE_REFUSED, and have no side effect, unless the source is LOCAL. -/
def Obligations.TimeChangesNeedLocalSource : Prop :=
  ∀ (s : State) (p : Pkt), s.time.src ≠ 0 →
    (s.Reaches (.timeAdj p) p → headerOk 0x0B00 p = true → p.len = 0 → p.target = 0 →
      exec (.timeAdj p) s = .next ((s.begun (.timeAdj p) p).ends (s.ticketOf p) .stateRefused).rest) ∧
    (s.Reaches (.timeStep p) p → headerOk 0x0B01 p = true → p.len = 0 → p.target = 0 →
      exec (.timeStep p) s = .next ((s.begun (.timeStep p) p).ends (s.ticketOf p) .stateRefused).rest)

/-- R611: DPX_SWITCH completes with STATE_REFUSED and has no side effect while NO_STANDBY is set. -/
def Obligations.SwitchNeedsAStandby : Prop :=
  ∀ (s : State) (p : Pkt), s.Admits (.dpxSwitch p) p → s.dpx.noStandby = true →
    exec (.dpxSwitch p) s = .next ((s.begun (.dpxSwitch p) p).ends (s.ticketOf p) .stateRefused).rest

/-- A packet's completion (10 R426, R427, R430, R436): the packet leaves the packets in flight, one entry with its tag, the
status, the instant and the phase of the lap stands behind those already written, the position moves round the ring and the
phase turns with it, and the queue pair runs on; every other queue pair is as before. -/
def Obligations.CompletionEntryIsWritten : Prop :=
  ∀ (s : State) (t : Ticket) (a : Answer) (f : Flight),
    (s.qp t.qp).state = .running → (s.qp t.qp).flights.find? (·.id = t.id) = some f →
    s.dpx.forwarded.find? (fun p => p.1 = t) = none →
    ((s.answer t a).qp t.qp).cpl = (s.qp t.qp).cpl ++
      [({ tag := f.pkt.tag, status := a.status, r0 := a.r0, r1 := a.r1, index := f.pkt.index, lap := f.pkt.lap,
          phase := (s.qp t.qp).phase, sec := (a.stamp.getD (s.dtbSec, s.dtbNano)).1,
          ns := (a.stamp.getD (s.dtbSec, s.dtbNano)).2, extra := a.extra, payload := a.payload } : CplEntry)] ∧
    ((s.answer t a).qp t.qp).flights = (s.qp t.qp).flights.filter (·.id ≠ t.id) ∧
    ((s.answer t a).qp t.qp).cplPos =
      (if (s.qp t.qp).cplPos + 1 = s.cplSize t.qp then 0 else (s.qp t.qp).cplPos + 1) ∧
    ((s.answer t a).qp t.qp).phase =
      (if (s.qp t.qp).cplPos + 1 = s.cplSize t.qp then !(s.qp t.qp).phase else (s.qp t.qp).phase) ∧
    ((s.answer t a).qp t.qp).state = .running ∧
    ∀ r : Nat, r ≠ t.qp → (s.answer t a).qp r = s.qp r

/-- Packets that report or only order others leave every unit as it is: what may differ afterwards is the packet's own queue
pair with its payload area, the MSI-X messages, the wait for a standby, and the power and ATEST words that follow every command.
-/
def Obligations.ReportingPacketsChangeNoUnit : Prop :=
  ∀ (s t : State) (p : Pkt) (i : Instr),
    (i = .adminNop p ∨ i = .identify p ∨ i = .fence p ∨ i = .bridgeStatus p ∨ i = .gfStatus p ∨ i = .capStatus p ∨
      i = .safeStatus p ∨ i = .safeRead p ∨ i = .timeStatus p ∨ i = .netStatus p ∨ i = .nrTelemRead p ∨ i = .nrStatus p ∨
      i = .dpxReport p ∨ i = .dpxHealth p ∨ i = .fltStatus p ∨ i = .fwStatus p ∨ i = .calRead p ∨ i = .calExport p) →
    s.Admits i p → exec i s = .next t →
    t = { s with qps := t.qps, localRing := t.localRing, nextId := t.nextId, pba := t.pba, vectors := t.vectors, dpx := t.dpx,
                 pwr := t.pwr, dbg := t.dbg } ∧
    ∀ r : Nat, r ≠ p.qp → t.qp r = s.qp r ∧ vget t.localRing r = vget s.localRing r

/-- Events (10 R452): one that no waiting packet selects joins the 32 that queue, and is counted as lost behind 32; one that a
waiting packet selects answers the oldest such packet and is not queued. -/
def Obligations.EventsQueueOrAreLost : Prop :=
  ∀ (s : State) (cls unit code : Nat),
    ((∀ w ∈ s.waits, w.2.getLsbD cls = false) → s.events.length < 32 →
      (s.report cls unit code).events = s.events ++
        [({ cls := BitVec.ofNat 8 cls, unit := BitVec.ofNat 16 unit, code := BitVec.ofNat 16 code, sec := s.dtbSec,
            ns := s.dtbNano } : DevEvent)] ∧
      (s.report cls unit code).lostEvents = s.lostEvents ∧ (s.report cls unit code).waits = s.waits) ∧
    ((∀ w ∈ s.waits, w.2.getLsbD cls = false) → 32 ≤ s.events.length →
      (s.report cls unit code).events = s.events ∧ (s.report cls unit code).lostEvents = s.lostEvents + 1) ∧
    (∀ w, s.waits.find? (fun w => w.2.getLsbD cls) = some w →
      (s.report cls unit code).events = s.events ∧ (s.report cls unit code).lostEvents = 0 ∧
      (s.report cls unit code).waits = s.waits.filter (·.1 ≠ w.1))

/-- MSI-X vectors (10 R433): a vector whose mask bit is set only sets its pending bit, any other is sent at once; a write of its
vector control that clears the mask sends a pending one and clears the bit. -/
def Obligations.MaskedVectorIsPending : Prop :=
  ∀ (s : State) (v : Fin 32),
    ((s.reg (0x6000 + 16 * v + 12)).testBit 0 = true →
      s.sendVector v = { s with pba := s.pba ||| BitVec.ofNat 32 (2 ^ v.val) }) ∧
    ((s.reg (0x6000 + 16 * v + 12)).testBit 0 = false →
      s.sendVector v = { s with vectors := vmod s.vectors v (· + 1) }) ∧
    (s.awake = true → s.pba.getLsbD v = true → regsFrom 0 s.regs = true →
      exec (.registerWrite (BitVec.ofNat 32 (0x6000 + 16 * v + 12)) 0) s = .next
        ({ s.writeReg (0x6000 + 16 * v + 12) 0 with
            pba := s.pba &&& BitVec.ofNat 32 (0xFFFFFFFF - 2 ^ v.val), vectors := vmod s.vectors v (· + 1) }).finish)

/-- What the spec names after reset (13 R535, 11 R469, 09 R410, 10 R452, 01 R22, 14 R587): the DTB is zero, its rate that of
TIME_INCR, VALID 0, the Wheel tick four steps of 250 ns, no output of the Saggar requested, no event queued, no bridge defined,
the fault log's sequence number 0. -/
def Obligations.ResetLeavesTheBlockIdle : Prop :=
  State.reset.dtb = 0 ∧ State.reset.incr.toNat = State.reset.reg 0x10000 + 2 ^ 32 * State.reset.reg 0x10004 ∧
  State.reset.time.valid = false ∧ State.reset.wheel.tick = 4 ∧ State.reset.sag.sbcReq = 0 ∧ State.reset.events = [] ∧
  State.reset.flt.seq = 0 ∧ ∀ b : Fin 8, (State.reset.bridge b).defn = none

/-- The part never changes: in every state a step leaves the variant, and with it GEN_UNIT_MAP (00 R6), the serial number and
the stepping as they are, and takes exactly the front command off the queue. -/
def Obligations.PartNeverChanges : Prop :=
  ∀ s t : State, Sys2Proof.Machine.step s = .next t →
    t.variant = s.variant ∧ t.readReg 4 = s.readReg 4 ∧ t.serial = s.serial ∧ t.stepping = s.stepping ∧
    t.pending = s.pending.tail

/-- The queue of the model's reset state is empty, its part the CD-6340 (log 1) with serial number 0 (log 2), and its unit map
that of Table 00-1. -/
def Obligations.PartAtReset : Prop :=
  State.reset.pending = [] ∧ State.reset.variant = .cd6340 ∧ State.reset.serial = 0 ∧ State.reset.stepping = 0 ∧
  State.reset.readReg 4 = 0x08FFFFFF

/-- The opcode of every packet command (10 R420, Tables 01-6 to 16-4) names that command again and no other, its high byte is a
class of Table 00-6 (00 R12), and no word with a higher one names a command. -/
def Obligations.OpcodesNameTheirCommands : Prop :=
  (∀ (i : Instr) (p : Pkt), i.pkt = some p →
    ∃ op, opcodeOf i = some op ∧ op / 256 ≤ 0x10 ∧ packetOf op p = some i) ∧
  ∀ (op : Nat) (p : Pkt), 0x10 < op / 256 → packetOf op p = none

/-- A bridge is defined, bound, given a role and armed (01 R19 to R33, R47, R58, R220): what each packet leaves when its fields
are legal. -/
def Obligations.BridgeSetupPacketsComplete : Prop :=
  ∀ (s : State) (p : Pkt),
    (∀ d, s.Admits (.bridgeDefine p) p → parseDef p.payload = some d → d.links.Nodup →
      (∀ g ∈ d.links, (s.ownerOf g = none ∨ s.ownerOf g = some p.target.toNat) ∧ g < s.fitLinks ∧ s.linkRetired g = false) →
      exec (.bridgeDefine p) s = .next
        (let s1 := (s.begun (.bridgeDefine p) p).forEach (s.linksOf p.target.toNat) fun s g => s.modLink g fun l =>
          if l.state = .retired then l else { l with state := .unassigned }
         let s2 := s1.modB p.target.toNat fun br => { br with defn := some d }
         let s3 := s2.forEach d.links fun s g => s.modLink g fun l => { l with state := .down }
         let s4 := s3.modPwm p.target.toNat fun w => { w with
           carrier := none, perCfg := 0, dt1 := Vector.replicate 12 64000, dt2 := Vector.replicate 12 64000,
           fall1 := Vector.replicate 12 0, fall2 := Vector.replicate 12 0, bootMask := 0, bootN := 0, bootW := 0 }
         (s4.ends (s.ticketOf p) .done).rest)) ∧
    (∀ d r x i, s.Admits (.bridgeSetRole p) p → (s.bridge p.target.toNat).setRole = none →
      (s.bridge p.target.toNat).defn = some d → parseRole (prm p 0) (prm p 1) (prm p 2) = some (r, x, i) →
      prm p 3 = 0 → prmZero p 7 33 = true → below 24 (opt16 (prm16 p 4)) = true → below 4 (opt8 (prm p 6)) = true →
      s.bindAbsent (opt16 (prm16 p 4)) (opt8 (prm p 6)) = false →
      s.boundElsewhere p.target.toNat (opt16 (prm16 p 4)) (opt8 (prm p 6)) = false →
      s.bindingsOk p.target.toNat r d.legs.length (opt16 (prm16 p 4)) (opt8 (prm p 6)) (s.bridge p.target.toNat).pos = true →
      (r = .form → s.engineSuits (opt16 (prm16 p 4)) (opt8 (prm p 6)) = true) →
      s.roleAllowed p.target.toNat r x = true →
      exec (.bridgeSetRole p) s = .next
        (((s.begun (.bridgeSetRole p) p).modB p.target.toNat fun br => { br with
            defn := some { d with role := r, safe := x, idleSafe := i }, lc := opt16 (prm16 p 4), gf := opt8 (prm p 6),
            setRole := some { ticket := s.ticketOf p, need := d.links, deadline := s.now + msSteps 1,
                              old := some (d, br.lc, br.gf) } }).download p.target.toNat x .setRole).rest) ∧
    (s.Admits (.bridgeBind p) p → prmZero p 0 4 = true → prmZero p 8 32 = true → below 24 (opt16 (prm16 p 4)) = true →
      below 4 (opt8 (prm p 6)) = true → below 4 (opt8 (prm p 7)) = true →
      s.bindAbsent (opt16 (prm16 p 4)) (opt8 (prm p 6)) = false →
      s.boundElsewhere p.target.toNat (opt16 (prm16 p 4)) (opt8 (prm p 6)) = false →
      exec (.bridgeBind p) s = .next
        (((((s.begun (.bridgeBind p) p).modB p.target.toNat fun br => { br with
            lc := opt16 (prm16 p 4), gf := opt8 (prm p 6), pos := opt8 (prm p 7) }).releaseOld p.target.toNat
              (s.bridge p.target.toNat).lc (s.bridge p.target.toNat).gf).bindUnits p.target.toNat).ends (s.ticketOf p) .done).rest) ∧
    (∀ d, s.Admits (.bridgeArm p) p → (s.bridge p.target.toNat).defn = some d →
      s.bindingsOk p.target.toNat d.role d.legs.length (s.bridge p.target.toNat).lc (s.bridge p.target.toNat).gf
        (s.bridge p.target.toNat).pos = true →
      (s.pwm p.target.toNat).carrier ≠ none →
      (d.role = .form → s.engineSuits (s.bridge p.target.toNat).lc (s.bridge p.target.toNat).gf = true) →
      s.framesSuit p.target.toNat = true → s.mirrorFits = true → s.sourceOk p.target.toNat = true →
      (∀ g ∈ d.links, s.linkRetired g = false) →
      exec (.bridgeArm p) s = .next
        (let s1 := (s.begun (.bridgeArm p) p).modB p.target.toNat fun br => { br with
          arming := some { ticket := s.ticketOf p, need := d.links, deadline := s.now + msSteps 2 } }
         (s1.forEach d.links fun u g => u.modLink g fun l =>
          { l with state := .training, fbNext := u.fbRecord p.target.toNat g d.safe }).rest)) ∧
    (s.Admits (.bridgeBindImage p) p → s.hasCycle = true → prmZero p 18 22 = true →
      (s.cyc.image = [] ∨ spWordsOk s.cyc.image
        (((List.range 8).map fun k => (k, prm16 p (2 * k))).filter fun (w : Nat × Nat) => decide (w.2 ≠ 0xFFFF)) = true) →
      exec (.bridgeBindImage p) s = .next
        (((s.begun (.bridgeBindImage p) p).modB p.target.toNat fun br => { br with
            spOfs := Vector.ofFn fun k => BitVec.ofNat 16 (prm16 p (2 * k.val)),
            statusOfs := BitVec.ofNat 16 (prm16 p 16) }).ends (s.ticketOf p) .done).rest) ∧
    (s.Admits (.bridgeStatus p) p →
      exec (.bridgeStatus p) s = .next
        ((s.begun (.bridgeStatus p) p).answer (s.ticketOf p)
          { r0 := s.bridgeWord p.target.toNat, r1 := word [((s.bridge p.target.toNat).cause.toNat, 0)] }).rest)

/-- A bridge is precharged, started, stopped, made safe, recovered and disarmed (01 R31, R34 to R46): what each packet leaves
where its rule lets it act. -/
def Obligations.BridgeRunPacketsComplete : Prop :=
  ∀ (s : State) (p : Pkt),
    (s.Admits (.bridgeDisarm p) p →
      exec (.bridgeDisarm p) s = .next
        (((s.begun (.bridgeDisarm p) p).toOffline p.target.toNat).ends (s.ticketOf p) .done).rest) ∧
    (∀ d, s.Admits (.bridgePrecharge p) p → (s.bridge p.target.toNat).defn = some d → s.startAllowed p.target.toNat = true →
      d.role ≠ .spare → (d.preGpio ≠ none ∨ d.vdcSlot ≠ none) →
      exec (.bridgePrecharge p) s = .next
        (let u := (s.begun (.bridgePrecharge p) p).undoSetRole p.target.toNat .cancelled
         (u.modB p.target.toNat fun br => { br with
            state := .precharge, preGpioOn := d.preGpio.isSome, prechargeDone := false,
            pre := some { ticket := s.ticketOf p, since := if u.vdcReached p.target.toNat then some u.now else none,
                          deadline := u.now + msSteps d.preTimeout, timed := d.vdcSlot.isNone } }).rest)) ∧
    (∀ d, s.Admits (.bridgePrecharge p) p → (s.bridge p.target.toNat).defn = some d → s.startAllowed p.target.toNat = true →
      d.role ≠ .spare → d.preGpio = none → d.vdcSlot = none →
      exec (.bridgePrecharge p) s = .next
        ((((s.begun (.bridgePrecharge p) p).undoSetRole p.target.toNat .cancelled).modB p.target.toNat fun br => { br with
            state := .precharge, preGpioOn := false, prechargeDone := true }).ends (s.ticketOf p) .done).rest) ∧
    (s.Admits (.bridgeStart p) p → s.startAllowed p.target.toNat = true → (s.bridge p.target.toNat).prechargeDone = true →
      exec (.bridgeStart p) s = .next
        (let s1 := ((s.begun (.bridgeStart p) p).modB p.target.toNat fun br => { br with
            state := .running, preGpioOn := false, prechargeDone := false, start := some (s.ticketOf p) }).modPwm
              p.target.toNat fun w => { w with runPeaks := 0 }
         let s2 := match (s.bridge p.target.toNat).lc with
          | some k => s1.modLc k fun c => if c.state = LcState.ready then { c with
              state := .running, samples := 0, sampleAt := (s.pwm p.target.toNat).lastAt, consec := 0, committed := true,
              lastSeq := none, substMask := 0, substSince := none, due := [], xh := c.x0,
              z := c.z0.map fun (q : Q15) => BitVec.ofInt 32 (q.toInt * 0x8000) } else c
          | none => s1
         (match (s.bridge p.target.toNat).gf with | some g => s2.enterStarting g | none => s2).rest)) ∧
    (s.Admits (.bridgeStop p) p → (s.bridge p.target.toNat).state = .running ∨ (s.bridge p.target.toNat).state = .limiting →
      exec (.bridgeStop p) s = .next
        (((s.begun (.bridgeStop p) p).endStartPhase p.target.toNat).startRamp p.target.toNat [s.ticketOf p]).rest) ∧
    (s.Admits (.bridgeStop p) p → (s.bridge p.target.toNat).state = .precharge →
      exec (.bridgeStop p) s = .next
        (let s1 := ((s.begun (.bridgeStop p) p).modB p.target.toNat fun br => { br with pre := none }).stopToArmed p.target.toNat
         let s2 := match (s.bridge p.target.toNat).pre with | some w => s1.ends w.ticket .cancelled | none => s1
         (s2.ends (s.ticketOf p) .done).rest)) ∧
    (s.Admits (.bridgeSafe p) p →
      exec (.bridgeSafe p) s = .next
        (((s.begun (.bridgeSafe p) p).enterSafe p.target.toNat 0x0100).ends (s.ticketOf p) .done).rest) ∧
    (∀ d, s.Admits (.bridgeRecover p) p → (s.bridge p.target.toNat).defn = some d → s.recoverAllowed p.target.toNat = true →
      (s.bridge p.target.toNat).recover = none →
      exec (.bridgeRecover p) s = .next
        (((s.begun (.bridgeRecover p) p).modB p.target.toNat fun br => { br with
            recover := some { ticket := s.ticketOf p, need := d.links, deadline := s.now + msSteps 1 } }).download
              p.target.toNat d.safe .recover).rest)

/-- The bridge's own timers and its SSL line (01 R32, R36 to R41; 09 R384): what each event leaves while it applies. -/
def Obligations.BridgeEventsComplete : Prop :=
  ∀ (s : State) (b : Fin 8), s.awake = true →
    (∀ w, (s.bridge b).arming = some w →
      exec (.armTimeout b) s = .next
        ((((s.advanceTo w.deadline).modB b fun br => { br with arming := none }).stopLinks b).ends w.ticket .timedOut).finish) ∧
    (∀ w d t0 o ready later, ∀ n : Fin 48, (s.bridge b).pre = some w → (s.bridge b).defn = some d → w.since = some t0 →
      d.vdcSlot = some n.val → (s.slot n).next = (o, ready) :: later → w.timed = false → o.valid = true →
      d.preLevel.toInt ≤ o.value.toInt → t0 + msSteps 5 ≤ ready →
      exec (.prechargeDone b) s = .next (evSlotOutputReady n s).finish) ∧
    (∀ w, (s.bridge b).pre = some w → w.timed = false →
      exec (.prechargeTimeout b) s = .next
        ((((s.advanceTo w.deadline).modB b fun br => { br with pre := none }).stopToArmed b).ends w.ticket .timedOut).finish) ∧
    (∀ w, (s.bridge b).pre = some w → w.timed = true →
      exec (.prechargeTimedDone b) s = .next
        (((s.advanceTo w.deadline).modB b fun br => { br with pre := none, prechargeDone := true }).ends w.ticket .done).finish) ∧
    (∀ w, (s.bridge b).stop = some w →
      exec (.stopRampEnd b) s = .next
        (let s0 := (s.advanceTo w.finish).zeroSetpoints b
         let s1 := ((s0.modB b fun br => { br with start := none }).stopToArmed b).endAll w.waiters .done
         (match (s.bridge b).start with | some t => s1.ends t .cancelled | none => s1).finish)) ∧
    (s.sslToggling b = false → (s.bridge b).state ≠ .offline → (s.bridge b).state ≠ .safe → (s.bridge b).state ≠ .retired →
      exec (.sslLoss b) s = .next
        ((s.advanceTo (max (vget s.sag.sslEdge b) (s.bridge b).armedAt + usSteps 60)).enterSafe b 0x0810).finish)

/-- Packets of classes ADMIN and ORDER (10 R440 to R454, 00 R7, 14 R585): what each leaves when it is accepted. -/
def Obligations.AdminPacketsComplete : Prop :=
  ∀ (s : State) (p : Pkt),
    (s.Admits (.adminNop p) p →
      exec (.adminNop p) s = .next ((s.begun (.adminNop p) p).ends (s.ticketOf p) .done).rest) ∧
    (s.Admits (.identify p) p →
      exec (.identify p) s = .next ((s.begun (.identify p) p).answer (s.ticketOf p)
        { r0 := unitMap s.variant, r1 := variantNumber s.variant }).rest) ∧
    (s.Admits (.adminEventWait p) p → s.waits.length < 4 →
      (∀ e ∈ s.events, (BitVec.ofNat 32 (prm32 p 0)).getLsbD e.cls.toNat = false) →
      exec (.adminEventWait p) s = .next
        ({ s.begun (.adminEventWait p) p with waits := s.waits ++ [(s.ticketOf p, BitVec.ofNat 32 (prm32 p 0))] }).rest) ∧
    (∀ e, s.Admits (.adminEventWait p) p →
      s.events.find? (fun e => (BitVec.ofNat 32 (prm32 p 0)).getLsbD e.cls.toNat) = some e →
      exec (.adminEventWait p) s = .next
        (({ s.begun (.adminEventWait p) p with events := s.events.erase e, lostEvents := 0 }).answer (s.ticketOf p)
          { r0 := word [(e.cls.toNat, 0), (e.unit.toNat, 16)], r1 := word [(e.code.toNat, 0)],
            extra := word [(sat32 s.lostEvents, 0)], stamp := some (e.sec, e.ns) }).rest) ∧
    (∀ (q : Fin 16) (f : Flight), s.Admits (.adminAbort p) p → prm16 p 0 = q →
      ((s.begun (.adminAbort p) p).qp q).flights.find? (fun g =>
        g.unstarted ∧ g.pkt.tag.toNat = prm16 p 2 ∧ (⟨q, g.id⟩ : Ticket) ≠ s.ticketOf p) = some f →
      exec (.adminAbort p) s = .next
        (((s.begun (.adminAbort p) p).cancelFlight ⟨q, f.id⟩).answer (s.ticketOf p)
          { r0 := word [(f.pkt.index.toNat, 0)] }).rest) ∧
    (s.Admits (.reinstate p) p → s.chanDefined (prm p 0) (prm16 p 2) = true → s.chanFitted (prm p 0) (prm16 p 2) = true →
      internalKind (prm p 0) = false → s.isRetired (prm p 0) (prm16 p 2) = true →
      (∀ r ∈ s.reinst, r.2 ≠ (prm p 0, prm16 p 2)) →
      exec (.reinstate p) s = .next
        ({ s.begun (.reinstate p) p with reinst := s.reinst ++ [(s.ticketOf p, prm p 0, prm16 p 2)] }).rest) ∧
    (s.Admits (.fence p) p →
      exec (.fence p) s = .next ((s.begun (.fence p) p).ends (s.ticketOf p) .done).rest) ∧
    (s.Admits (.barrier p) p → (prm16 p 0).testBit p.qp.val = true → 2 ≤ (bitsOf 16 (prm16 p 0)).length →
      prm32 p 4 ≤ 10000000 → vget s.barriers p.barrier.toNat = none →
      exec (.barrier p) s = .next
        ({ s.begun (.barrier p) p with barriers := vset s.barriers p.barrier.toNat (some
            { mask := BitVec.ofNat 16 (prm16 p 0),
              deadline := if prm32 p 4 = 0 then none else some (s.now + usSteps (prm32 p 4)),
              members := [s.ticketOf p] }) }).rest) ∧
    (∀ i, s.Admits (.barrier p) p → (prm16 p 0).testBit p.qp.val = true → 2 ≤ (bitsOf 16 (prm16 p 0)).length →
      prm32 p 4 ≤ 10000000 → vget s.barriers p.barrier.toNat = some i → i.mask.toNat = prm16 p 0 →
      exec (.barrier p) s = .next
        (({ s.begun (.barrier p) p with barriers := vset s.barriers p.barrier.toNat (some
            { i with members := i.members ++ [s.ticketOf p] }) }).barrierMet p.barrier.toNat).rest) ∧
    (p.wf = true → s.awake = true → (s.qp p.qp).state = .running →
      exec (.adminPad p) s = .next (s.moveFetch p.qp p.index.toNat (s.cmdSize p.qp) p.lap).finish)

/-- Doorbells, fetches and the timers of queue pairs (10 R423 to R449, 14 R645): what each event leaves while it applies.
Barrier time-outs and the host link (10 R442, R444, R448; 15 R645): what each event leaves. -/
def Obligations.QueueAndHostEventsComplete : Prop :=
  (
    ∀ (s : State) (q : Fin 16), s.awake = true →
      (∀ v : Word, (s.qp q).state ≠ .disabled → s.badTail q v.toNat = false →
        exec (.commandTailWrite q v) s = .next
          (s.modQp q fun x => { x with tailReg := v, tail := v.toNat }).finish) ∧
      (∀ v : Word, (s.qp q).state ≠ .disabled → v.toNat % 65536 < s.cplSize q →
        ringDist (s.cplSize q) (s.qp q).head (v.toNat % 65536) ≤ (s.qp q).cpl.length →
        exec (.completionHeadWrite q v) s = .next
          (s.modQp q fun x => { x with headReg := v, head := v.toNat % 65536,
                                       cpl := x.cpl.drop (ringDist (s.cplSize q) (s.qp q).head (v.toNat % 65536)) }).finish) ∧
      ((s.qp q).state = .halted → ((s.qp q).cause ≠ 6 ∨ s.hostUp = true) →
        exec (.qpResume q) s = .next
          (s.modQp q fun x => { x with ctlReg := 1, state := .running, resumeWait := false }).finish) ∧
      ((s.qp q).state = .running ∨ (s.qp q).state = .halted →
        exec (.qpReset q) s = .next
          (((s.modQp q fun x => { x with ctlReg := 2, state := .resetting, resumeWait := false, readRetry := none }).cancelUnstarted
            q).endReset q).finish) ∧
      (∀ bytes i, (s.qp q).state = .running → s.qpLocal q = false →
        packetOf (le bytes 0 2) (parsePkt q (s.qp q).fetch (s.qp q).lap bytes) = some i → le bytes 0 2 ≠ 2 →
        (s.qp q).fetch + granules (le bytes 6 2) ≤ s.cmdSize q → le bytes 6 2 ≤ 4032 →
        granules (le bytes 6 2) ≤ ringDist (s.cmdSize q) (s.qp q).fetch (s.qp q).tail →
        exec (.packetFetch q bytes) s = .next
          (s.takePacket i (parsePkt q (s.qp q).fetch (s.qp q).lap bytes) none).finish) ∧
      (∀ bytes, (s.qp q).state = .running → s.qpLocal q = false →
        packetOf (le bytes 0 2) (parsePkt q (s.qp q).fetch (s.qp q).lap bytes) = none → le bytes 0 2 ≠ 2 →
        (s.qp q).fetch + granules (le bytes 6 2) ≤ s.cmdSize q → le bytes 6 2 ≤ 4032 →
        granules (le bytes 6 2) ≤ ringDist (s.cmdSize q) (s.qp q).fetch (s.qp q).tail →
        exec (.packetFetch q bytes) s = .next
          (s.takePacket (.adminPad (parsePkt q (s.qp q).fetch (s.qp q).lap bytes)) (parsePkt q (s.qp q).fetch (s.qp q).lap bytes)
            (some (le bytes 0 2))).finish) ∧
      (∀ tag f, s.waitingTag q tag = some f → f.pkt.notBefore ≠ 0 →
        exec (.notBeforeReached q tag) s = .next (s.advanceToNs f.pkt.notBefore.toNat).finish) ∧
      (∀ tag f w, s.waitingTag q tag = some f → lateSteps f.pkt = some w → f.pkt.notBefore = 0 →
        ((((s.advanceTo (f.fetched + w)).settle (s.advanceTo (f.fetched + w)).waiting).qp q).flights.any fun (g : Flight) =>
          decide (g.id = f.id) && !g.started) = true →
        exec (.lateWindowExpiry q tag) s = .next
          (((s.advanceTo (f.fetched + w)).settle (s.advanceTo (f.fetched + w)).waiting).ends ⟨q, f.id⟩ .timedOut).finish) ∧
      (∀ first, (s.qp q).irqFirst = some first → s.qpIrqEn q = true → s.qpModTime q ≠ 0 →
        exec (.irqModTime q) s = .next ((s.advanceTo (first + usSteps (4 * s.qpModTime q))).interrupt q).finish) ∧
      (∀ addr, (s.qp q).state = .running → s.qpLocal q = false → (s.qp q).readRetry = none →
        exec (.ringReadFail q addr) s = .next
          (s.modQp q fun x => { x with readRetry := some (addr, s.now + usSteps 10) }).finish) ∧
      (∀ addr a at_, (s.qp q).state = .running → s.qpLocal q = false → (s.qp q).readRetry = some (a, at_) →
        exec (.ringReadFail q addr) s = .next
          (((s.advanceTo at_).modQp q fun x => { x with faultAddr := addr, readRetry := none }).haltQp q 1).finish)) ∧
  (
    ∀ (s : State), s.awake = true →
      (∀ (k : Fin 8) i d, vget s.barriers k = some i → i.deadline = some d →
        exec (.barrierTimeout k) s = .next
          ((({ s with barriers := vset s.barriers k none }).advanceTo d).endAll i.members .timedOut).finish) ∧
      (∀ up bme, exec (.hostUnavailable up bme) s = .next
        ((List.finRange 16).foldl (fun (u : State) (q : Fin 16) => if u.qpLocal q then u else u.haltQp q 6)
          { s with linkUp := up, busMaster := bme }).finish) ∧
      (∀ rate width, exec (.pcieLinkUp rate width) s = .next
        (({ s with linkUp := true, busMaster := true, linkRate := min rate.toNat (field (s.reg 0x4000) 2 0),
                   linkWidth := width.toNat }).resumeWaiting).finish))

/-- Set-up registers, the lock and reads with a side effect (17 R673 to R687, 15 R626, R649, 13 R535): what each access leaves.
-/
def Obligations.RegisterAccessesComplete : Prop :=
  ∀ (s : State), s.awake = true →
    (∀ v : Word, (s.writeReg 0x10 v.toNat).reg 0x10 % 2 = 1 →
      exec (.setupLock v) s = .next ({ s.writeReg 0x10 v.toNat with lockWritten := true }).finish) ∧
    (s.lockWritten = true → s.pwr.selfTested = true → s.locked = false →
      exec .setupLockEffect s = .next s.lockEffect.finish) ∧
    (∀ ok rest, s.svcs.norQueue = .profile :: rest →
      exec (.profileSave ok) s = .next
        ((s.modSvc fun v => { v with norQueue := rest, profile := if ok then some s.profileCells else v.profile }).modPwr
          fun w => { w with saveBusy := false, saveFail := !ok }).finish) ∧
    (∀ (off v : Word) r, off.toNat % 4 = 0 → off.toNat < 0x100000 → off.toNat ≠ 0x10 →
      ¬ (0x16000 ≤ off.toNat ∧ off.toNat < 0x17000) → ¬ (0x6000 ≤ off.toNat ∧ off.toNat < 0x6200 ∧ off.toNat % 16 = 12) →
      regSpec off.toNat = some r →
      exec (.registerWrite off v) s = .next
        (s.regPut off.toNat (normReg off.toNat
          ((s.reg off.toNat &&& ((r.rw + (if s.lockWritten then 0 else r.rwl)) ^^^ 0xFFFFFFFF))
            + (v.toNat &&& (r.rw + (if s.lockWritten then 0 else r.rwl)))))).finish) ∧
    exec .timeSnapRead s = .next
      ({ s.modTime fun x => { x with snapSec := s.dtbSec, snapNs := s.dtbNano, snapSub := s.dtbSub }
         with lastRead := lo32 s.dtbSec }).finish ∧
    exec .pwrAonLoRead s = .next
      ({ s.modPwr fun p => { p with aonHi := BitVec.ofNat 16 (s.aonCount / 2 ^ 32) }
         with lastRead := BitVec.ofNat 32 s.aonCount }).finish ∧
    (∀ (cls : Fin 17) (unit : Fin 128), exec (.windowWord0Read cls unit) s = .next
      ({ s.modPwr fun p => { p with latched := assocPut (128 * cls + unit) ((s.windowRecord cls unit).drop 1) p.latched }
         with lastRead := (s.windowRecord cls unit).headD 0 }).finish)

/-- Debug grants, ATEST and the JTAG instructions (19 R707 to R720): what each event leaves. A JTAG instruction other than
EXTEST ends an EXTEST that holds. -/
def Obligations.DebugEventsComplete : Prop :=
  ∀ (s : State), s.awake = true →
    (∀ v, exec (.dbgReq v) s = .next (s.request v.toNat).finish) ∧
    (s.dbg.lockout = none →
      exec .dbgSubmit s = .next
        (if s.earns = true then (s.setLevel (s.reg 0x16004)).modDbg fun d => { d with live := false, fails := 0 }
         else s.modDbg fun d => { d with
          live := false, fails := d.fails + 1,
          lockout := if 3 ≤ d.fails + 1 then some (s.now + secSteps 60) else none }).finish) ∧
    exec .dbgRevoke s = .next (s.setLevel 0).finish ∧
    (∀ a, s.dbg.lockout = some a →
      exec .dbgLockoutEnd s = .next ((s.advanceTo a).modDbg fun d => { d with lockout := none, fails := 0 }).finish) ∧
    (∀ v : Word, s.dbg.level ≠ 0 → ((v.toNat &&& 0xF0F) % 16 = 8 →
        s.slotInUse (32 + (v.toNat &&& 0xF0F) / 256) = false ∧ (s.slot (32 + (v.toNat &&& 0xF0F) / 256)).state ≠ .recal) →
      exec (.dbgAtestWrite v) s = .next
        (s.modDbg fun d => { d with atest := v.toNat &&& 0xF0F, atestRefused := false }).finish) ∧
    (∀ dr : BitVec 40, dr.getLsbD 39 = true →
      exec (.dbgAuth dr) s = .next
        (((evExtestEnd s).modDbg fun d => { d with ir := 9, dr := dr }).writeDbg (0x16000 + 4 * (dr.toNat / 2 ^ 32 % 128))
          (dr.toNat % 2 ^ 32)).finish) ∧
    (s.dbg.level = 3 → (∀ b ∈ s.bridges.toList, b.state = .offline) →
      exec .extest s = .next (s.modDbg fun d => { d with extest := true, extRefused := false, ir := 0 }).finish) ∧
    (s.dbg.extest = true →
      exec .extestEnd s = .next
        ((s.forEach (List.range 24) fun u g => u.modLink g fun l => { l with
            gon := Vector.replicate 2 false, gst := Vector.replicate 2 none }).modDbg fun d => { d with
              extest := false, ir := 1 }).finish) ∧
    (∀ bytes, s.dbg.level = 3 → s.pwr.stage = 0 → s.pwr.ready = false →
      exec (.dbgMbox bytes true false) s = .next
        ((s.modDbg fun d => { d with ir := 8, mbox := bytes.take fwMax }).modBank s.mboxBank fun _ => { state := .loading }).finish) ∧
    exec .idcode s = .next ((evExtestEnd s).modDbg fun d => { d with ir := 1, dr := BitVec.ofNat 40 s.idcode }).finish ∧
    exec .bypass s = .next ((evExtestEnd s).modDbg fun d => { d with ir := 31 }).finish ∧
    exec .samplePreload s = .next ((evExtestEnd s).modDbg fun d => { d with ir := 2 }).finish

/-- Supplies and RESET_N (15 R617 to R626, R646, R647): what each event leaves; these reach the device in any power state. -/
def Obligations.SupplyEventsComplete : Prop :=
  ∀ (s : State),
    (∀ vfb level, (s.feed (bit vfb)).ok = true →
      exec (.feedOutOfWindow vfb level) s = .next (State.onward
        ((s.modFeed (bit vfb) fun f => { f with level := level, ok := false, on := false }).detect 10 (bit vfb)))) ∧
    (∀ vfb level, (s.feed (bit vfb)).ok = false → inWindow level = true → s.pwr.state ≠ .backup →
      exec (.feedReconnect vfb level) s = .next (State.onward
        ((s.modFeed (bit vfb) fun f => { f with level := level, ok := true, on := !s.isRetired 10 (bit vfb) }).runEnds 10
          (bit vfb) true))) ∧
    (∀ vfb level, (s.feed (bit vfb)).ok = false → inWindow level = true → s.pwr.state = .backup → s.pwr.failing = none →
      exec (.feedReconnect vfb level) s = .next (State.onward
        ((s.modFeed (bit vfb) fun f => { f with level := level, ok := true, on := !s.isRetired 10 (bit vfb) }).boot 0 0))) ∧
    (s.carried = false → s.pwr.failing = none → s.pwr.state ≠ .backup →
      exec .powerFail s = .next (State.onward
        (let s1 := s.modPwr fun p => { p with failing := some s.now, failRecord := some (s.dtbSec, s.dtbNano) }
         evSaggarInternalFault ((if s.ring.state = .off then s1 else s1.dropRelays).allSafe 0x0010)))) ∧
    (s.pwr.failing ≠ none → s.fed = true → exec .powerFailEnd s = .next (State.onward (s.boot 3 0))) ∧
    (s.pwr.failing ≠ none → s.fed = false →
      exec .powerFailEnd s = .next (State.onward ((s.resetDies.loseBackup).modPwr fun p => { p with state := .backup }))) ∧
    (∀ vfa vfb vhold vbak : Byte, s.fed = false → s.pwr.failing = none → (inWindow vfa = true ∨ inWindow vfb = true) →
      exec (.powerOn vfa vfb vhold vbak) s = .next (State.onward
        (((s.modPwr fun p => { p with
            feeds := #v[{ level := vfa, ok := inWindow vfa, on := inWindow vfa },
                        { level := vfb, ok := inWindow vfb, on := inWindow vfb }],
            vhold := vhold, vbak := vbak }).loseBackup).boot 0 0))) ∧
    (s.resetN = true → s.asleep = false → s.pwr.state ≠ .backup →
      exec .resetNLow s = .next (State.onward
        (({ s with resetN := false }).resetDies.modPwr fun p => { p with
          rstCause := 1, wakeCause := 0, failing := s.pwr.failing }))) ∧
    (s.resetN = true → s.asleep = true → exec .resetNLow s = .next { s with resetN := false }) ∧
    (s.resetN = false → s.pwr.state ≠ .backup → s.asleep = false →
      exec .resetNRise s = .next (State.onward ((({ s with resetN := true }).boot 1 0).modPwr fun p => { p with
        failing := s.pwr.failing }))) ∧
    (s.resetN = false → s.pwr.state ≠ .backup → s.asleep = true →
      exec .resetNRise s = .next (State.onward ((({ s with resetN := true }).boot 2 5).modPwr fun p => { p with
        wokeAt := some s.aonCycle })))

/-- Sleep, wakes and the return to READY (15 R627 to R631): what each event leaves. -/
def Obligations.SleepAndWakeEventsComplete : Prop :=
  ∀ (s : State),
    (∀ a, s.awake = true → s.pwr.needEnd = some a → s.pwr.state = .run → s.runNeed = false →
      exec .readyReturn s = .next
        ((s.advanceTo (a + secSteps 1)).modPwr fun p => { p with state := .ready, needEnd := none }).finish) ∧
    (∀ a, s.awake = true → s.pwr.sleepSince = some a → s.mayRest = true → s.pwr.failing = none →
      exec .sleep s = .next
        (let s1 := s.advanceTo (a + secSteps (field (s.inUse 0x1000) 15 8))
         let s2 := (List.finRange 16).foldl (fun (u : State) (q : Fin 16) => if u.qpLocal q then u else u.haltQp q 6) s1
         let watch := decide (field (s2.inUse 0x1000) 1 0 = 2)
         let s3 := if watch ∨ s2.ring.state = .off then s2 else s2.dropRelays
         (s3.modPwr fun p => { p with
           state := if watch then .watch else .keep, sleepSince := none, asleepAt := s3.now, watchCount := 0 }).finish)) ∧
    (s.asleep = true → exec .wakePin s = .next (State.onward ((s.boot 2 1).modPwr fun p => { p with
      wokeAt := some s.aonCycle }))) ∧
    (s.asleep = false → s.pwr.wokeAt = some s.aonCycle → 1 < s.pwr.wakeCause.toNat →
      exec .wakePin s = .next (State.onward (s.modPwr fun p => { p with wakeCause := 1 }))) ∧
    (s.asleep = true → field (s.inUse 0x1000) 23 16 ≠ 0 →
      exec .wakeInterval s = .next
        (State.onward (let u := s.advanceTo (s.pwr.asleepAt + secSteps (60 * field (s.inUse 0x1000) 23 16))
          (u.boot 2 2).modPwr fun p => { p with wokeAt := some u.aonCycle }))) ∧
    (∀ code : Half, s.pwr.state = .watch →
      ((s.slot (32 + field (s.inUse 0x1000) 27 24)).calibrate s.now code.toInt).natAbs < field (s.inUse 0x1004) 15 0 →
      exec (.watchConversion code) s = .next (s.modPwr fun p => { p with watchCount := 0 })) ∧
    (∀ code : Half, s.pwr.state = .watch →
      field (s.inUse 0x1004) 15 0 ≤ ((s.slot (32 + field (s.inUse 0x1000) 27 24)).calibrate s.now code.toInt).natAbs →
      field (s.inUse 0x1004) 23 16 ≤ s.pwr.watchCount + 1 →
      exec (.watchConversion code) s = .next
        (State.onward (((s.modPwr fun p => { p with watchCount := s.pwr.watchCount + 1 }).boot 2 3).modPwr fun p => { p with
          wokeAt := some s.aonCycle })))

/-- Boot and the clocks (15 R633 to R649): what each event leaves while it applies. -/
def Obligations.BootAndClockEventsComplete : Prop :=
  ∀ (s : State), s.awake = true →
    (∀ fails : List ChanRef, s.pwr.ready = false → s.pwr.noBank = false → s.pwr.failing = none →
      (fails.foldl State.selfTestFail s).svcs.profile = none →
      exec (.bootReady fails) s = .next
        (let s1 := fails.foldl State.selfTestFail s
         let n := (List.range 13).foldl (fun a k => if internalKind k then a + s1.retiredOf k else a) 0
         let s2 := { s1 with flt := { s1.flt with selfTest := decide (n = 0), conesRun := true } }
         (s2.modPwr fun p => { p with
           plls := Vector.ofFn fun k : Fin 5 => (vget p.plls k).booted (s2.isRetired 11 k),
           xtalOk := true, aonXtal := true, selfTested := true, fail := sat8 n, profile := false,
           ready := true, stage := if s2.locked then 6 else 5 }).finish)) ∧
    (∀ n : Fin 5, (s.pll n).locked = true → n.val < 3 →
      exec (.pllLockLoss n) s = .next
        (((s.modPll n fun p => { p with locked := false, holdover := true, losses := satCount (p.losses + 1),
                                        lossAt := some s.now }).report 0x00 n 0x0011).detect 11 n).finish) ∧
    (∀ n : Fin 5, (s.pll n).locked = true → 3 ≤ n.val →
      exec (.pllLockLoss n) s = .next
        ((((s.modPll n fun p => { p with locked := false, holdover := true, losses := satCount (p.losses + 1),
                                         lossAt := some s.now }).report 0x00 n 0x0011).detect 11 n).startRelock n).finish) ∧
    (∀ n : Fin 5, (s.pll n).holdover = true → (s.pll n).relock = false → s.isRetired 11 n = false → n.val < 3 →
      s.allIdle = true → exec (.pllRelockStart n) s = .next (s.startRelock n).finish) ∧
    (∀ n : Fin 5, (s.pll n).relock = true →
      exec (.pllLockDeclared n) s = .next
        (let s1 := s.catchUp.modPll n fun x => { x with
          locked := true, holdover := false, relock := false, lossAt := none, relockAt := none }
         let s2 := if n.val = 1 then s1.forEach ((List.range 10).filter s1.srcRuns) State.slotsStart else s1
         ((if n.val = 0 then s2.retrainLinks else s2).runEnds 11 n true).finish)) ∧
    (∀ (n : Fin 5) a, (s.pll n).relock = true → (s.pll n).relockAt = some a →
      exec (.pllRelockTimeout n) s = .next
        (let s1 := ((s.advanceTo (a + msSteps 2)).catchUp.detect 11 n).runEnds 11 n false
         let s2 := s1.modPll n fun x => { x with holdover := true, relock := false, relockAt := some s1.now }
         (if s1.isRetired 11 n ∨ n.val = 3 then s2 else s2.startRelock n).finish)) ∧
    (∀ a n, s.waitingPll = some (a, n) → (s.bridges.toList.any fun b => b.state.beyondArmed) = true →
      exec .pllHoldoverTimeout s = .next
        (let s1 := s.advanceTo (a + secSteps 1)
         ((s1.forEach (s1.bridgesWhere fun b => b.state.beyondArmed) fun u b => u.enterSafe b 0x0011).startRelock n).finish)) ∧
    ((s.inUse 0x2000).testBit 0 = true → s.ringFollower = true → s.pwr.refRing = false →
      exec .refSwitchToRing s = .next (s.modPwr fun p => { p with refRing := true }).finish) ∧
    (s.pwr.refRing = true →
      exec .refClockLoss s = .next ((s.modPwr fun p => { p with refRing := false }).report 0x0B 0 0).finish)

/-- Packets of class GFE (02 R98 to R114): what each leaves when its fields are legal. -/
def Obligations.GfPacketsComplete : Prop :=
  ∀ (s : State) (p : Pkt),
    (s.Admits (.gfConfig p) p → gfChecks p.payload = true → gfBudgetOk p.payload 0 = true →
      (gfSlots p.payload).any s.slotRetired = false →
      exec (.gfConfig p) s = .next
        (((s.begun (.gfConfig p) p).modGf p.target.toNat fun e => { e with
            config := some p.payload, tunes := [], moves := [], sp := gfSetpoints p.payload, spNext := [], xv := 0, pSet := 0 }).ends (s.ticketOf p) .done).rest) ∧
    (s.Admits (.gfTune p) p → zeros p.payload 144 48 = true → maskOk (slice p.payload 128 16) = true →
      (s.gf p.target.toNat).config ≠ none →
      gfChecks (tuned (s.gf p.target.toNat).pendingConfig (slice p.payload 0 128) (slice p.payload 128 16)) = true →
      gfBudgetOk (tuned (s.gf p.target.toNat).pendingConfig (slice p.payload 0 128) (slice p.payload 128 16))
        ((s.gf p.target.toNat).fading ||| (s.gf p.target.toNat).pathsInUse) = true →
      ((s.gf p.target.toNat).state = .limiting →
        ([96, 98, 100, 102, 107].any (maskSelects (slice p.payload 128 16))) = false) →
      ((s.gf p.target.toNat).state = .starting →
        ((List.range 14).any fun k => maskSelects (slice p.payload 128 16) (112 + k)) = false) →
      exec (.gfTune p) s = .next
        (((s.begun (.gfTune p) p).modGf p.target.toNat fun e => { e with
            tunes := e.tunes ++ [(slice p.payload 0 128, slice p.payload 128 16)] }).ends (s.ticketOf p) .done).rest) ∧
    (s.Admits (.gfSetpoint p) p → prm p 1 = 0 → prmZero p 18 22 = true →
      (∀ v ∈ spValues p, ((s.gf p.target.toNat).spRange v.1).1 ≤ v.2.toInt ∧ v.2.toInt ≤ ((s.gf p.target.toNat).spRange v.1).2) →
      (∀ b, s.bridgeOfGf p.target.toNat = some b → ∀ v ∈ spValues p, vget (s.bridge b).spOfs v.1 = 0xFFFF) →
      exec (.gfSetpoint p) s = .next
        (((s.begun (.gfSetpoint p) p).modGf p.target.toNat fun e => { e with spNext := e.spNext ++ spValues p }).ends
          (s.ticketOf p) .done).rest) ∧
    (s.Admits (.gfSecondary p) p → -8192 ≤ (prmQ p 0).toInt → (prmQ p 0).toInt ≤ 8192 → -1638 ≤ (prmQ p 2).toInt →
      (prmQ p 2).toInt ≤ 1638 → 10 ≤ prm16 p 4 → prm16 p 4 ≤ 60000 → prmZero p 6 34 = true →
      exec (.gfSecondary p) s = .next
        (((s.begun (.gfSecondary p) p).modGf p.target.toNat fun e => { e with
            secNext := some (prmQ p 0, prmQ p 2, s.now + msSteps (prm16 p 4)), secExpired := false }).ends
          (s.ticketOf p) .done).rest) ∧
    (s.Admits (.gfStatus p) p → prm p 0 ≤ 2 →
      exec (.gfStatus p) s = .next
        ((s.begun (.gfStatus p) p).answer (s.ticketOf p)
          { r0 := ((s.gf p.target.toNat).words (prm p 0)).1, r1 := ((s.gf p.target.toNat).words (prm p 0)).2 }).rest)

/-- Timers of an engine (02 R68, R73, R74, R84, R87, R94; 03 R122, R130, R133, R135, R138): what each event leaves while it
applies. The contactor of an engine (03 R121, R138 to R140, R144): what each event leaves while it applies. -/
def Obligations.GfEventsComplete : Prop :=
  (
    ∀ (s : State) (g : Fin 4), s.awake = true →
      (∀ tn, s.outerDue g = some tn → (s.gf g).config ≠ none →
        (∀ b, s.bridgeOfGf g = some b → s.frozenBridge b = false) →
        exec (.gfOuterStep g) s = .next (s.outerStep g tn).capPoll.finish) ∧
      (∀ t0, (s.gf g).belowSince = some t0 → (s.gf g).state = .limiting →
        exec (.gfLimitRelease g) s = .next
          ((s.advanceTo ((s.gf g).outerAt (t0 + msSteps ((s.gf g).c16 104)))).releaseLimit g).finish) ∧
      ((s.gf g).state = .limiting → (s.gf g).belowSince = none →
        exec (.gfRtTimeout g) s = .next
          ((s.advanceTo ((s.gf g).outerAt ((s.gf g).limAt + msSteps ((s.gf g).c16 108)))).gfFault g 0x0202).finish) ∧
      (∀ t0, (s.gf g).clampSince = some t0 →
        ((s.gf g).state = .starting ∨ (s.gf g).state = .forming ∨ (s.gf g).state = .limiting) →
        exec (.gfWFault g) s = .next ((s.advanceTo (t0 + msSteps ((s.gf g).c16 110))).gfFault g 0x0203).finish) ∧
      (∀ t0, (s.gf g).secUntil = some t0 →
        exec (.secExpired g) s = .next
          ((s.advanceTo t0).modGf g fun e => { e with secUntil := none, secExpired := true }).finish) ∧
      (∀ t0, (s.gf g).deadSince = some t0 → (s.gf g).deadBus = false →
        ((s.gf g).state = .tracking ∨ (s.gf g).state = .starting) →
        exec (.deadBusSet g) s = .next ((s.advanceTo (t0 + msSteps ((s.gf g).c16 116))).setDeadBus g).finish) ∧
      ((s.gf g).phase = .holdoff →
        exec (.holdoffEnd g) s = .next
          ((s.advanceTo ((s.gf g).phaseAt + usSteps (s.gf g).holdoff.toNat)).holdoffDone g).finish) ∧
      (∀ t0, (s.gf g).okSince = some t0 → (s.gf g).phase = .waitLive →
        exec (.waitLiveQualified g) s = .next ((s.advanceTo (t0 + msSteps 20)).enterPhase g .presync).finish) ∧
      (∀ t0, (s.gf g).okSince = some t0 → (s.gf g).phase = .presync →
        exec (.joinWindowsQualified g) s = .next ((s.advanceTo (t0 + msSteps 20)).closeLive g).finish) ∧
      ((s.gf g).phase = .retryWait →
        exec (.retryWaitEnd g) s = .next ((s.advanceTo ((s.gf g).phaseAt + secSteps 1)).takePath g).finish)) ∧
  (
    ∀ (s : State) (g : Fin 4), s.awake = true →
      (s.fbMapped g = true → (s.gf g).state = .starting → (s.gf g).phase = .closeDead →
        exec (.joinFbRise g) s = .next ((s.modGf g fun e => { e with joinFb := true }).rampFromDead g).finish) ∧
      (s.fbMapped g = true → (s.gf g).state = .starting → (s.gf g).phase = .closeLive →
        exec (.joinFbRise g) s = .next ((s.modGf g fun e => { e with joinFb := true }).rampFromLive g).finish) ∧
      (s.fbMapped g = true → (s.gf g).state = .starting → (s.gf g).phase = .ramp → (s.gf g).hasBus = true →
        exec (.joinFbFall g) s = .next ((s.modGf g fun e => { e with joinFb := false }).enterPhase g .retryWait).finish) ∧
      (s.fbMapped g = true → (s.gf g).state = .forming → (s.gf g).hasBus = true →
        exec (.joinFbFall g) s = .next ((s.modGf g fun e => { e with joinFb := false }).detach g).finish) ∧
      ((s.gf g).joinReq = true → s.fbMapped g = false → ((s.gf g).phase = .closeDead ∨ (s.gf g).phase = .closeLive) →
        exec (.contactorAssumedClosed g) s = .next
          (((s.advanceTo ((s.gf g).joinReqAt + msSteps 100)).modGf g fun e => { e with taken := true }).contactorClosed g).finish) ∧
      ((s.gf g).joinReq = true → s.gfClosed g = false → ((s.gf g).phase = .closeDead ∨ (s.gf g).phase = .closeLive) →
        exec (.contactorTimeout g) s = .next
          ((s.advanceTo ((s.gf g).joinReqAt + msSteps 500)).enterPhase g .retryWait).finish) ∧
      (∀ t0, (s.gf g).awaySince = some t0 → (s.gf g).hasBus = true → s.fbMapped g = false →
        ((s.gf g).state = .forming ∨ (s.gf g).state = .limiting) →
        exec (.detachment g) s = .next ((s.advanceTo (t0 + msSteps 20)).detach g).finish))

/-- Loop contexts are configured and loaded (04 R162 to R177, R206): what each packet leaves when its fields are legal. -/
def Obligations.LoopSetupPacketsComplete : Prop :=
  ∀ (s : State) (p : Pkt),
    (∀ c : LoopContext, s.Admits (.loopConfig p) p →
      c = { state := .loaded, host := (s.lc p.target.toNat).host, config := p.payload, r := (s.lc p.target.toNat).r,
            spNext := (s.lc p.target.toNat).spNext, satCount := (s.lc p.target.toNat).satCount, overruns := (s.lc p.target.toNat).overruns,
            cycMost := (s.lc p.target.toNat).cycMost } →
      c.configOk = true →
      s.engineLoad (s.lc p.target.toNat).host (some p.target.toNat) + s.lcLoad p.target.toNat c ≤ loopBudget →
      (∀ i < 16, s.srcRetired (c.msrc i) = false) →
      exec (.loopConfig p) s = .next
        (((s.begun (.loopConfig p) p).modLc p.target.toNat fun _ => c).ends (s.ticketOf p) .done).rest) ∧
    (s.Admits (.loopCoefLoad p) p → prm16 p 2 ≠ 0 → prm16 p 0 + prm16 p 2 ≤ 1336 → prmZero p 4 36 = true →
      p.len.toNat = pad64 (2 * prm16 p 2) → (s.lc p.target.toNat).coefSwap = none →
      exec (.loopCoefLoad p) s = .next
        (((s.begun (.loopCoefLoad p) p).modLc p.target.toNat fun c => { c with
            bank := vmod c.bank (other c.active) (cellsWrite 0 (prm16 p 0) (wordsOf p.payload (prm16 p 2))) }).ends
          (s.ticketOf p) .done).rest) ∧
    (s.Admits (.loopCoefSwap p) p → (s.lc p.target.toNat).coefSwap = none → prm p 0 ≤ 1 → prmZero p 1 3 = true →
      prmZero p 8 32 = true →
      prm32 p 4 = bankCrc 1336 (vget (s.lc p.target.toNat).bank (other (s.lc p.target.toNat).active)) →
      (s.lc p.target.toNat).limitsOk (other (s.lc p.target.toNat).active) = true → (s.lc p.target.toNat).state = .running →
      exec (.loopCoefSwap p) s = .next
        ((s.begun (.loopCoefSwap p) p).modLc p.target.toNat fun c => { c with
            coefSwap := some { ticket := s.ticketOf p, bumpless := decide (prm p 0 = 1), armed := false } }).rest) ∧
    (s.Admits (.loopCoefSwap p) p → (s.lc p.target.toNat).coefSwap = none → prm p 0 ≤ 1 → prmZero p 1 3 = true →
      prmZero p 8 32 = true →
      prm32 p 4 = bankCrc 1336 (vget (s.lc p.target.toNat).bank (other (s.lc p.target.toNat).active)) →
      (s.lc p.target.toNat).limitsOk (other (s.lc p.target.toNat).active) = true → (s.lc p.target.toNat).state ≠ .running →
      exec (.loopCoefSwap p) s = .next
        ((s.begun (.loopCoefSwap p) p).finishCoef p.target.toNat (s.ticketOf p) false s.dtbNs).rest) ∧
    (s.Admits (.loopTableLoad p) p → prm p 0 ≤ 1 → prm p 1 = 0 → prm16 p 4 ≠ 0 → prm16 p 2 + prm16 p 4 ≤ 1024 →
      prmZero p 6 34 = true → p.len.toNat = pad64 (2 * prm16 p 4) → (s.lc p.target.toNat).tabSwap = [] →
      exec (.loopTableLoad p) s = .next
        (((s.begun (.loopTableLoad p) p).modLc p.target.toNat fun c =>
            if prm p 0 = 0 then
              { c with fric := vmod c.fric (other c.fricAct) (cellsWrite 0 (prm16 p 2) (wordsOf p.payload (prm16 p 4))) }
            else
              { c with cogg := vmod c.cogg (other c.coggAct) (cellsWrite 0 (prm16 p 2) (wordsOf p.payload (prm16 p 4))) }).ends
          (s.ticketOf p) .done).rest) ∧
    (s.Admits (.loopTableSwap p) p → prm p 0 ≤ 3 → prmZero p 1 3 = true → prmZero p 12 28 = true →
      ((prm p 0).testBit 0 = true →
        prm32 p 4 = bankCrc 1024 (vget (s.lc p.target.toNat).fric (other (s.lc p.target.toNat).fricAct))) →
      ((prm p 0).testBit 1 = true →
        prm32 p 8 = bankCrc 1024 (vget (s.lc p.target.toNat).cogg (other (s.lc p.target.toNat).coggAct))) →
      (∀ w ∈ (s.lc p.target.toNat).tabSwap, w.2 &&& prm p 0 = 0) → (s.lc p.target.toNat).state = .running →
      exec (.loopTableSwap p) s = .next
        ((s.begun (.loopTableSwap p) p).modLc p.target.toNat fun c => { c with
            tabSwap := c.tabSwap ++ [(s.ticketOf p, prm p 0)] }).rest) ∧
    (s.Admits (.loopStateSet p) p → zeros p.payload 48 16 = true →
      exec (.loopStateSet p) s = .next
        (((s.begun (.loopStateSet p) p).modLc p.target.toNat fun c => { c with
            x0 := Vector.ofFn fun i => q15At p.payload (2 * i.val),
            z0 := Vector.ofFn fun j => q15At p.payload (32 + 2 * j.val) }).ends (s.ticketOf p) .done).rest)

/-- Loop contexts in use (04 R192, R197 to R210): what each packet leaves when its fields are legal. -/
def Obligations.LoopRunPacketsComplete : Prop :=
  ∀ (s : State) (p : Pkt),
    (s.Admits (.loopSetpoint p) p → prm p 1 = 0 → prmZero p 18 22 = true →
      (∀ b, s.bridgeOfLc p.target.toNat = some b →
        s.role b ≠ some .form ∧ ∀ v ∈ spValues p, vget (s.bridge b).spOfs v.1 = 0xFFFF) →
      exec (.loopSetpoint p) s = .next
        (((s.begun (.loopSetpoint p) p).modLc p.target.toNat fun c => { c with spNext := c.spNext ++ spValues p }).ends
          (s.ticketOf p) .done).rest) ∧
    (s.Admits (.loopSubst p) p → prm p 0 < (s.lc p.target.toNat).nm → msrcOk (prm p 1) = true → prmZero p 2 38 = true →
      s.srcRetired (prm p 1) = false → p.target.toNat < 24 → (s.lc p.target.toNat).state = .running →
      exec (.loopSubst p) s = .next
        (((s.begun (.loopSubst p) p).modLc p.target.toNat fun c => { c with
            substNext := c.substNext ++ [(prm p 0, BitVec.ofNat 8 (prm p 1))] }).ends (s.ticketOf p) .done).rest) ∧
    (s.Admits (.loopInject p) p → (s.lc p.target.toNat).injEn = true → (s.lc p.target.toNat).inj = none →
      injectOk p (s.lc p.target.toNat) = true →
      exec (.loopInject p) s = .next
        ((s.begun (.loopInject p) p).modLc p.target.toNat fun c => { c with
            inj := some { ticket := s.ticketOf p, kind := prm p 0, point := prm p 1, entry := prm p 2, order := prm p 3,
                          ampl := prmQ p 4, chip := prm16 p 6, f0 := prm32 p 8, f1 := prm32 p 12, length := prm32 p 16,
                          lfsr := 2 ^ prm p 3 - 1, k := 0, first := none,
                          from_ := p.notBefore.toNat } }).rest) ∧
    (∀ j, s.Admits (.loopInjectStop p) p → (s.lc p.target.toNat).inj = some j →
      exec (.loopInjectStop p) s = .next
        ((((s.begun (.loopInjectStop p) p).modLc p.target.toNat fun c => { c with inj := none, injVal := 0 }).ends j.ticket
          .cancelled).ends (s.ticketOf p) .done).rest) ∧
    (s.Admits (.loopStatus p) p → prm p 0 = 0 → prmZero p 1 39 = true →
      exec (.loopStatus p) s = .next
        (((s.begun (.loopStatus p) p).modLc p.target.toNat fun c => { c with
            swapClipped := false, modSat := false, vdcLow := false }).answer (s.ticketOf p)
          { r0 := (s.loopWords p.target.toNat 0).1, r1 := (s.loopWords p.target.toNat 0).2 }).rest) ∧
    (s.Admits (.loopStatus p) p → prm p 0 = 1 ∨ prm p 0 = 2 → prmZero p 1 39 = true →
      exec (.loopStatus p) s = .next
        ((s.begun (.loopStatus p) p).answer (s.ticketOf p)
          { r0 := (s.loopWords p.target.toNat (prm p 0)).1, r1 := (s.loopWords p.target.toNat (prm p 0)).2 }).rest) ∧
    (s.Admits (.loopUnload p) p →
      exec (.loopUnload p) s = .next
        (((s.begun (.loopUnload p) p).modLc p.target.toNat fun c => { c with state := .empty }).ends (s.ticketOf p) .done).rest)

/-- A loop context's sample, its missed deadline, its substitution timer and the end of an injection (04 R159, R160, R186, R187,
R190, R201): what each event leaves while it applies. Carrier events and trip sources (05 R212 to R218, R230, R239, R242): what
each event leaves while it applies. -/
def Obligations.LoopAndPwmEventsComplete : Prop :=
  (
    ∀ (s : State) (k : Fin 24), s.awake = true →
      (∀ b d, s.sampleDue k = some (b, d) → s.now ≤ s.deadline b d → s.role b ≠ some .form →
        (s.boundary k b d.ns).role b ≠ some .form → ((s.boundary k b d.ns).lc k).state = .running →
        exec (.loopSample k) s = .next ((s.boundary k b d.ns).runSample k b d).capPoll.finish) ∧
      (∀ b d, s.sampleDue k = some (b, d) → s.deadline b d < s.now →
        exec (.loopSample k) s = .next (s.abandon k).capPoll.finish) ∧
      (∀ b d, s.sampleDue k = some (b, d) →
        exec (.commitDeadlineOverrun k) s = .next
          (let s1 := ((s.advanceTo (s.deadline b d)).boundary k b d.ns).modLc k fun c => { c with
             overruns := satCount (c.overruns + 1), consec := c.consec + 1, lastOverran := true, samples := c.samples + 1,
             sampleAt := d.at_, sampleNs := d.ns, due := c.due.tail }
           (if (s1.lc k).ovrLimit ≤ (s1.lc k).consec then s1.enterSafe b 0x0301 else s1).finish)) ∧
      (∀ t0 b, (s.lc k).substSince = some t0 → s.bridgeOfLc k = some b → (s.lc k).state = .running →
        exec (.substTimeout k) s = .next ((s.advanceTo (t0 + msSteps (s.lc k).substTime)).enterSafe b 0x0302).finish) ∧
      (∀ j, (s.lc k).inj = some j → j.total (s.lc k).fs ≤ j.k →
        exec (.injectionEnd k) s = .next
          ((s.modLc k fun c => { c with inj := none, injVal := 0 }).doneAt j.ticket (j.first.getD s.dtbNs)).finish)) ∧
  (
    ∀ (s : State), s.awake = true →
      (∀ b : Fin 8, (s.pwm b).running = true → ((s.expireSamples b).pwm b).running = true →
        exec (.carrierEvent b) s = .next
          (let s0 := s.expireSamples b
           let s1 := (s0.advanceTo (s0.pwm b).nextAt).alignClocks b
           let peak := (s1.pwm b).nextPeak
           let s2 := s1.applyEdges b
           let commits := (s2.pwm b).nextCommits
           let s3 := s2.modPwm b fun w => { w with misPrev := w.misNow }
           let s4 := if commits = true then s3.commitPoint b else s3
           let s5 := s4.modPwm b fun w => w.turn s4.now s4.dtbSteps
           let s6 := s5.modPwm b fun w => { w with runPeaks := if peak = true then w.runPeaks + 1 else w.runPeaks }
           let s7 := if (s5.bridge b).state.switching = true ∧ (s5.bridge b).start = none then
               (if (s6.pwm b).driving = true then s6.placeEdges b peak commits else s6)
             else s5
           let s8 := if peak = false ∧ s7.duplexed b = true ∧ s7.dpx.role = .active then s7.sendMirror b (s7.frozenBridge b) false else s7
           (((s8.latchSample b).latchOuter b).capTick b).finish)) ∧
      (∀ src : Fin 16, src.val < 8 →
        exec (.tripSourceActive src) s = .next
          ((s.modTrip src fun t => { t with pin := t.pol, active := t.en }).tripActive src).finish) ∧
      (∀ src : Fin 16, 8 ≤ src.val → s.tripMet src = true →
        exec (.tripSourceActive src) s = .next (s.tripActive src).finish))

/-- Packets of class PWM (05 R212 to R248, R724): what each leaves when its fields are legal. -/
def Obligations.PwmPacketsComplete : Prop :=
  ∀ (s : State) (p : Pkt),
    (∀ c, s.Admits (.pwmCarrier p) p → parseCarrier p.payload (s.legCount p.target.toNat) = some c →
      pulsesFit c.tmin (s.pwm p.target.toNat).dt1 (s.pwm p.target.toNat).dt2 (s.linksOf p.target.toNat).length (2 * c.per) = true →
      bootFits (s.pwm p.target.toNat).bootMask.toNat (s.pwm p.target.toNat).bootW (s.pwm p.target.toNat).dt1
        (s.pwm p.target.toNat).dt2 (2 * c.per) = true →
      (let s1 := (s.begun (.pwmCarrier p) p).modPwm p.target.toNat fun w => { w with perCfg := c.per }
       s1.sourceOk p.target.toNat = true ∧ s1.mirrorFits = true ∧ s1.pugFits = true) →
      (s.bridge p.target.toNat).state = .offline →
      exec (.pwmCarrier p) s = .next
        (((s.begun (.pwmCarrier p) p).modPwm p.target.toNat fun w => { w with perCfg := c.per, carrier := some c }).ends
          (s.ticketOf p) .done).rest) ∧
    (∀ c, s.Admits (.pwmCarrier p) p → parseCarrier p.payload (s.legCount p.target.toNat) = some c →
      pulsesFit c.tmin (s.pwm p.target.toNat).dt1 (s.pwm p.target.toNat).dt2 (s.linksOf p.target.toNat).length (2 * c.per) = true →
      bootFits (s.pwm p.target.toNat).bootMask.toNat (s.pwm p.target.toNat).bootW (s.pwm p.target.toNat).dt1
        (s.pwm p.target.toNat).dt2 (2 * c.per) = true →
      (let s1 := (s.begun (.pwmCarrier p) p).modPwm p.target.toNat fun w => { w with perCfg := c.per }
       s1.sourceOk p.target.toNat = true ∧ s1.mirrorFits = true ∧ s1.pugFits = true ∧ s1.rateKept p.target.toNat = true) →
      (s.bridge p.target.toNat).state = .armed →
      exec (.pwmCarrier p) s = .next
        (((s.begun (.pwmCarrier p) p).modPwm p.target.toNat fun w => { w with perCfg := c.per }).modPwm p.target.toNat fun w =>
          { w with carNext := w.carNext ++ [(s.ticketOf p, c)], shadow := w.shadow.writePer c.per s.now }).rest) ∧
    (∀ dt1 dt2 fall1 fall2 : Vector Nat 12, s.Admits (.pwmEdges p) p →
      dt1 = Vector.ofFn (fun g : Fin 12 => le p.payload (8 * g.val) 2) →
      dt2 = Vector.ofFn (fun g : Fin 12 => le p.payload (8 * g.val + 2) 2) →
      fall1 = Vector.ofFn (fun g : Fin 12 => le p.payload (8 * g.val + 4) 2) →
      fall2 = Vector.ofFn (fun g : Fin 12 => le p.payload (8 * g.val + 6) 2) →
      (∀ g < 12, if g < (s.linksOf p.target.toNat).length then
          vget dt1 g ≤ 64000 ∧ vget dt2 g ≤ 64000 ∧ vget fall1 g ≤ 8000 ∧ vget fall2 g ≤ 8000
        else zeros p.payload (8 * g) 8 = true) →
      zeros p.payload 96 32 = true →
      (∀ c, (s.pwm p.target.toNat).carrier = some c →
        pulsesFit c.tmin dt1 dt2 (s.linksOf p.target.toNat).length (s.carrierT p.target.toNat) = true ∧
        bootFits (s.pwm p.target.toNat).bootMask.toNat (s.pwm p.target.toNat).bootW dt1 dt2 (s.carrierT p.target.toNat) = true) →
      exec (.pwmEdges p) s = .next
        (((s.begun (.pwmEdges p) p).modPwm p.target.toNat fun w => { w with
            dt1 := dt1, dt2 := dt2, fall1 := fall1, fall2 := fall2 }).ends (s.ticketOf p) .done).rest) ∧
    (s.Admits (.pwmPeriod p) p → (s.pwm p.target.toNat).perCfg ≤ prm32 p 0 → prm32 p 0 ≤ 4000000 → prm p 4 = 0 →
      prmZero p 5 35 = true → s.role p.target.toNat ≠ some .form →
      exec (.pwmPeriod p) s = .next
        ((s.begun (.pwmPeriod p) p).modPwm p.target.toNat fun w => { w with
            perNext := w.perNext ++ [(s.ticketOf p, prm32 p 0, false)], shadow := w.shadow.writePer (prm32 p 0) s.now }).rest) ∧
    (s.Admits (.pwmPeriod p) p → (s.pwm p.target.toNat).perCfg ≤ prm32 p 0 → prm32 p 0 ≤ 4000000 → prm p 4 = 1 →
      prmZero p 5 35 = true → s.role p.target.toNat ≠ some .form →
      exec (.pwmPeriod p) s = .next
        ((s.begun (.pwmPeriod p) p).modPwm p.target.toNat fun w => { w with
            perSync := w.perSync ++ [(s.ticketOf p, prm32 p 0)] }).rest) ∧
    (s.Admits (.pwmBoot p) p → prm p 3 = 0 → prmZero p 8 32 = true →
      (prm16 p 0 = 0 ∨ (1 ≤ prm p 2 ∧ prm p 2 ≤ 64 ∧
        ((s.pwm p.target.toNat).carrier.map (·.tmin)).getD 0 ≤ prm32 p 4 ∧ prm32 p 4 ≤ 80000 ∧
        prm16 p 0 < 2 ^ (s.linksOf p.target.toNat).length ∧
        (∀ g ∈ (s.linksOf p.target.toNat).zipIdx, (prm16 p 0).testBit g.2 = true →
          ∀ l, s.legOf p.target.toNat g.1 = some l → l.kind = 0) ∧
        ((s.pwm p.target.toNat).carrier = none ∨
          bootFits (prm16 p 0) (prm32 p 4) (s.pwm p.target.toNat).dt1 (s.pwm p.target.toNat).dt2 (s.carrierT p.target.toNat) = true))) →
      exec (.pwmBoot p) s = .next
        (((s.begun (.pwmBoot p) p).modPwm p.target.toNat fun w => { w with
            bootMask := BitVec.ofNat 16 (prm16 p 0), bootN := prm p 2, bootW := prm32 p 4 }).ends (s.ticketOf p) .done).rest) ∧
    (s.Admits (.pwmTripConfig p) p → prm p 0 = 0 → prmZero p 10 30 = true → p.target.toNat < 8 → prm p 1 ≤ 1 →
      prmZero p 4 6 = true → prm p 3 < 2 ^ s.fitBridges →
      (∀ b < s.fitBridges, ((s.trip p.target.toNat).bmask.getLsbD b = true ∨ (prm p 3).testBit b = true) →
        (s.bridge b).state = .offline ∨ (s.bridge b).state = .armed) →
      exec (.pwmTripConfig p) s = .next
        (let s1 := ((s.begun (.pwmTripConfig p) p).modTrip p.target.toNat fun o => { o with
            en := false, pol := decide (prm p 1 = 1), filt := prm p 2, bmask := BitVec.ofNat 8 (prm p 3), slot := prm16 p 4,
            hi := prmQ p 6, lo := prmQ p 8, count := 0, active := false }).ends (s.ticketOf p) .done
         (if (s1.trip p.target.toNat).en = true ∧ s1.tripMet p.target.toNat = true then s1.tripActive p.target.toNat else s1).rest)) ∧
    (s.Admits (.pwmTripConfig p) p → prm p 0 = 1 → prmZero p 10 30 = true → 8 ≤ p.target.toNat → p.target.toNat < 16 →
      prm p 1 = 0 → 1 ≤ prm p 2 → prm p 2 ≤ 8 → prm16 p 4 < 48 → (prmQ p 8).toInt < (prmQ p 6).toInt →
      prm p 3 < 2 ^ s.fitBridges → s.slotRetired (prm16 p 4) = false →
      (∀ b < s.fitBridges, ((s.trip p.target.toNat).bmask.getLsbD b = true ∨ (prm p 3).testBit b = true) →
        (s.bridge b).state = .offline ∨ (s.bridge b).state = .armed) →
      exec (.pwmTripConfig p) s = .next
        (let s1 := ((s.begun (.pwmTripConfig p) p).modTrip p.target.toNat fun o => { o with
            en := true, pol := false, filt := prm p 2, bmask := BitVec.ofNat 8 (prm p 3), slot := prm16 p 4,
            hi := prmQ p 6, lo := prmQ p 8, active := false,
            count := runOutside (prmQ p 6) (prmQ p 8) (s.slot (prm16 p 4)).recent }).ends (s.ticketOf p) .done
         (if (s1.trip p.target.toNat).en = true ∧ s1.tripMet p.target.toNat = true then s1.tripActive p.target.toNat else s1).rest)) ∧
    (s.Admits (.pwmStatus p) p → prm p 0 = 0 →
      exec (.pwmStatus p) s = .next
        (((s.begun (.pwmStatus p) p).modPwm p.target.toNat fun w => { w with pdMismatch := false }).answer (s.ticketOf p)
          { r0 := (s.pwmWords p.target.toNat 0).1, r1 := (s.pwmWords p.target.toNat 0).2 }).rest) ∧
    (s.Admits (.pwmStatus p) p → prm p 0 = 1 →
      exec (.pwmStatus p) s = .next
        ((s.begun (.pwmStatus p) p).answer (s.ticketOf p)
          { r0 := (s.pwmWords p.target.toNat 1).1, r1 := (s.pwmWords p.target.toNat 1).2 }).rest)

/-- Packets of class GATE (06 R255, R295 to R298, R303 to R305): what each leaves when its fields are legal. -/
def Obligations.GatePacketsComplete : Prop :=
  ∀ (s : State) (p : Pkt),
    (∀ f, s.Admits (.gateProfile p) p → parseProfile p = some f → s.ownerState p.target.toNat = .armed →
      exec (.gateProfile p) s = .next
        ((s.begun (.gateProfile p) p).commitTo p.target.toNat f.writes (.profile (s.ticketOf p) f) false).rest) ∧
    (∀ f, s.Admits (.gateProfile p) p → parseProfile p = some f → s.ownerState p.target.toNat = .offline →
      exec (.gateProfile p) s = .next
        (((s.begun (.gateProfile p) p).modLink p.target.toNat fun l => { l with
            profile := f, milNext := Vector.replicate 4 none }).ends (s.ticketOf p) .done).rest) ∧
    (s.Admits (.gateAdapt p) p → prm p 0 ≤ 15 → 1 ≤ prm p 1 → prm p 1 ≤ 64 → 1 ≤ prm16 p 2 → prm16 p 2 ≤ 4095 →
      1 ≤ prm16 p 4 → prm16 p 4 ≤ 4095 → 1 ≤ prm16 p 6 → prm16 p 6 ≤ 0x7FFF → 1 ≤ prm p 8 → prm p 8 ≤ 16 → prm p 9 = 0 →
      prm16 p 10 ≤ 2047 → prm16 p 10 ≤ prm16 p 12 → prm16 p 12 ≤ 2047 → prmZero p 14 26 = true →
      ((s.link p.target.toNat).profile.telDiv = 0 → prm p 0 = 0) →
      exec (.gateAdapt p) s = .next
        (((s.begun (.gateAdapt p) p).modLink p.target.toNat fun l => { l with
            adapt := { en := BitVec.ofNat 4 (prm p 0), n := prm p 1, tplOn := prm16 p 2, tplOff := prm16 p 4, vref := prmQ p 6,
                       step := prm p 8, milMin := prm16 p 10, milMax := prm16 p 12 },
            plCount := Vector.replicate 4 0, plSum := Vector.replicate 4 0 }).ends (s.ticketOf p) .done).rest) ∧
    (s.Admits (.gateStatus p) p → prm p 0 = 0 →
      exec (.gateStatus p) s = .next
        (((s.begun (.gateStatus p) p).modLink p.target.toNat fun l => { l with
            blankViol := false, weakMiss := false, adaptLimit := false }).answer (s.ticketOf p)
          { r0 := (s.gateWords p.target.toNat 0).1, r1 := (s.gateWords p.target.toNat 0).2 }).rest) ∧
    (s.Admits (.gateStatus p) p → prm p 0 = 1 ∨ prm p 0 = 2 →
      exec (.gateStatus p) s = .next
        ((s.begun (.gateStatus p) p).answer (s.ticketOf p)
          { r0 := (s.gateWords p.target.toNat (prm p 0)).1, r1 := (s.gateWords p.target.toNat (prm p 0)).2 }).rest) ∧
    (∀ st, s.Admits (.gateTelem p) p → prm p 0 ≤ 3 → (s.link p.target.toNat).status = some st →
      exec (.gateTelem p) s = .next
        ((s.begun (.gateTelem p) p).answer (s.ticketOf p)
          { r0 := word [(st.supply.toNat, 0), (st.temp.toNat, 8), (satCount ((s.now - st.at_) / 8000), 16)],
            r1 := word [(satCount (vget (s.link p.target.toNat).plMean (2 * (prm p 0 % 2) + prm p 0 / 2)), 0),
                        (vget (s.link p.target.toNat).plEntry (2 * (prm p 0 % 2) + prm p 0 / 2), 16)] }).rest) ∧
    (s.Admits (.gateTelem p) p → prm p 0 ≤ 3 → (s.link p.target.toNat).status = none →
      exec (.gateTelem p) s = .next
        ((s.begun (.gateTelem p) p).answer (s.ticketOf p)
          { r0 := word [(0, 0), (0, 8), (0xFFFF, 16)],
            r1 := word [(satCount (vget (s.link p.target.toNat).plMean (2 * (prm p 0 % 2) + prm p 0 / 2)), 0),
                        (vget (s.link p.target.toNat).plEntry (2 * (prm p 0 % 2) + prm p 0 / 2), 16)] }).rest) ∧
    (s.Admits (.gateBoosterRw p) p → prm p 0 = 1 → 0x40 ≤ prm p 1 → prm p 1 ≤ 0x7F →
      exec (.gateBoosterRw p) s = .next
        ((s.begun (.gateBoosterRw p) p).commitTo p.target.toNat [(BitVec.ofNat 8 (prm p 1), BitVec.ofNat 8 (prm p 2))]
          (.write (s.ticketOf p) (BitVec.ofNat 8 (prm p 1)) (BitVec.ofNat 8 (prm p 2))) false).rest) ∧
    (s.Admits (.gateBoosterRw p) p → prm p 0 = 0 → 0x40 ≤ prm p 1 → prm p 1 ≤ 0x7F →
      exec (.gateBoosterRw p) s = .next
        (((s.begun (.gateBoosterRw p) p).sendDown p.target.toNat readType [BitVec.ofNat 8 (prm p 1)]).modLink
          p.target.toNat fun l => { l with
            acks := l.acks ++ [(.read (s.ticketOf p) (BitVec.ofNat 8 (prm p 1)), s.now + msSteps 1, false)] }).rest)

/-- Breaks, codes, alerts and bootstrap refreshes of a gate link (06 R263 to R266, R282, R292 to R294): what each event leaves
while it applies. -/
def Obligations.GateProtectionEventsComplete : Prop :=
  ∀ (s : State) (g : Fin 24), s.awake = true →
    (∀ b, s.ownerOf g = some b → (s.bridge b).state ≠ .offline → (s.bridge b).state ≠ .safe →
      exec (.tripBreak g) s = .next
        (((s.modLink g fun l => { l with breakAt := some s.now }).modB b fun br => { br with
            patternWait := true, causeBy := if (s.bridge b).state ≠ .retired then some g.val else br.causeBy }).enterSafeWith
          b 0 false).finish) ∧
    (∀ b, s.ownerOf g = some b → (s.bridge b).state = .safe →
      exec (.tripBreak g) s = .next
        (((s.modLink g fun l => { l with breakAt := some s.now }).modB b fun br => { br with patternWait := true }).drivePattern
          b .opened true safeLag).finish) ∧
    (∀ (c : BitVec 5) n t, (s.link g).breakAt = some t → nibbleOf c = some n → 2 ≤ n → n < 8 →
      exec (.faultCodeReceived g (some c)) s = .next
        ((((s.advanceTo (t + 800)).linkNow g).modLink g fun l => { l with breakAt := none }).latchCode g n).finish) ∧
    (∀ t, (s.link g).breakAt = some t →
      exec (.faultCodeReceived g none) s = .next
        ((((s.advanceTo (t + 960)).linkNow g).modLink g fun l => { l with breakAt := none }).latchCode g 7).finish) ∧
    (∀ (c : BitVec 5) n t w, (s.link g).breakAt = some t → nibbleOf c = some n → n < 2 →
      (let s1 := ((s.advanceTo (t + 800)).linkNow g).modLink g fun l => { l with breakAt := none }
       vget (s1.link g).window n = some w ∧ s1.now < w) →
      exec (.faultCodeReceived g (some c)) s = .next
        (((((s.advanceTo (t + 800)).linkNow g).modLink g fun l => { l with breakAt := none }).modLink g fun l => { l with
          heldDesat := vset l.heldDesat n true, blankViol := true }).countUpset 3 g).finish) ∧
    (∀ (sw : Fin 48) w, vget (s.link (sw.val / 2)).window (sw.val % 2) = some w →
      exec (.blankWindowClose sw) s = .next
        (let s1 := ((s.advanceTo w).linkNow (sw.val / 2)).modLink (sw.val / 2) fun l => { l with
           window := vset l.window (sw.val % 2) none, heldDesat := vset l.heldDesat (sw.val % 2) false }
         (if vget (s.link (sw.val / 2)).heldDesat (sw.val % 2) = true then s1.latchCode (sw.val / 2) (sw.val % 2)
          else s1).finish)) ∧
    (∀ (group : BitVec 5) n, nibbleOf group = some n → 9 ≤ n → n ≤ 11 →
      exec (.alertSymbol g group) s = .next (s.logAlert g n).finish) ∧
    (((s.linkNow g).closeSeries g).ownerOf g = none →
      exec (.bootLow g) s = .next (((s.linkNow g).closeSeries g).logAlert g 8).finish) ∧
    (∀ b, ((s.linkNow g).closeSeries g).ownerOf g = some b →
      (let s1 := (s.linkNow g).closeSeries g
       (s1.bridge b).state.switching = true ∧ (s1.pwm b).bootMask.getLsbD (s1.linkIndex b g) = true ∧
       (s1.link g).refreshEnd = none ∧ (s1.link g).series < 3) →
      exec (.bootLow g) s = .next
        (let s1 := (s.linkNow g).closeSeries g
         let w := s1.pwm b
         let i := s1.linkIndex b g
         let off := s1.now + 224 + vget w.fall1 i
         let on := off + vget w.dt2 i
         ((s1.modLink g fun l => { l with
            refreshEnd := some (on + w.bootW), series := l.series + 1, refreshes := satCount (l.refreshes + 1),
            want := l.gon }).modPwm b fun w => { w with
            edges := w.edges ++ [{ at_ := off, link := i, second := false, on := false, boot := true, forced := true },
                                 { at_ := on, link := i, second := true, on := true, boot := true, forced := true }] }).finish)) ∧
    (∀ e, (s.link g).refreshEnd = none → (s.link g).lastRefresh = some e → (s.link g).series ≠ 0 →
      exec (.forcedRefreshEnd g) s = .next
        ((((s.advanceTo (e + usSteps 50)).linkNow g).modLink g fun l => { l with series := 0 }).countUpset 3 g).finish)

/-- Uplink frames, acknowledgements and training of a gate link (06 R258 to R262, R267, R278, R279, R303): what each event
leaves while it applies. -/
def Obligations.GateUplinkEventsComplete : Prop :=
  ∀ (s : State) (g : Fin 24), s.awake = true →
    (∀ supply temp status : Byte, exec (.statusFrame g supply temp status) s = .next
      (((((s.frameOk g true).modLink g fun l => { l with
          status := some { supply := supply, temp := temp, status := status, at_ := (s.frameOk g true).now,
                           afterFall := true } }).closeSeries g).capPoll).roleChange).finish) ∧
    (∀ second off (entry exit : BitVec 12),
      (((s.frameOk g false).linkNow g).link g).adapt.en.getLsbD (2 * bit second + bit off) = false ∨ entry = 0xFFF ∨ exit = 0xFFF ∨
        (((s.frameOk g false).linkNow g).link g).edgeUnfit (2 * bit second + bit off) = true →
      exec (.edgeFrame g second off entry exit) s = .next
        (((s.frameOk g false).linkNow g).modLink g fun l => { l with
            plEntry := vset l.plEntry (2 * bit second + bit off) entry.toNat }).finish) ∧
    (∀ addr data : Byte, (∀ a ∈ ((s.frameOk g false).link g).acks, ∀ t, a.1 ≠ .read t addr) →
      exec (.readDataFrame g addr data) s = .next (s.frameOk g false).finish) ∧
    (∀ (addr data : Byte) t d r,
      ((s.frameOk g false).link g).acks.find? (fun a => match a.1 with | .read _ x => x = addr | _ => false) =
        some (.read t addr, d, r) →
      exec (.readDataFrame g addr data) s = .next
        (((s.frameOk g false).modLink g fun l => { l with acks := l.acks.erase (.read t addr, d, r) }).answer t
          { r0 := word [(data.toNat, 0)] }).finish) ∧
    (∀ why d, ((s.frameOk g false).link g).acks.find? (fun a => !a.1.isRead) = some (why, d, false) →
      exec (.ackFrame g 0) s = .next
        ((((s.frameOk g false).modLink g fun l => { l with acks := l.acks.erase (why, d, false) }).ackDone g why).takeoverAcks).finish) ∧
    (∀ (result : Byte) why d r, result ≠ 0 →
      ((s.frameOk g false).link g).acks.find? (fun a => !a.1.isRead) = some (why, d, r) →
      exec (.ackFrame g result) s = .next
        ((((s.frameOk g false).modLink g fun l => { l with acks := l.acks.erase (why, d, r) }).commitFailed g
          (why, d, r)).takeoverAcks).finish) ∧
    (∀ t addr d r as, (s.link g).acks = (.read t addr, d, r) :: as →
      exec (.commitAckTimeout g) s = .next
        (((s.advanceTo d).modLink g fun l => { l with acks := l.acks.erase (.read t addr, d, r) }).ackFailed (.read t addr)).finish) ∧
    (∀ why d r as, (s.link g).acks = (why, d, r) :: as → why.isRead = false →
      exec (.commitAckTimeout g) s = .next
        (((s.advanceTo d).modLink g fun l => { l with acks := l.acks.erase (why, d, r) }).commitFailed g (why, d, r)).finish) ∧
    (∀ groups, (s.link g).state ≠ .retired → uplinkFrame groups = none →
      exec (.uplinkFrameDiscard { link := g, groups := groups }) s = .next
        ((s.modLink g fun l => { l with
          discarded := satCount (l.discarded + 1), retry := some ((l.retry.getD (false, 0)).1, s.now) }).detect 3 g).finish) ∧
    (∀ groups, (uplinkFrame groups).isSome = true →
      exec (.uplinkFrameDiscard { link := g, groups := groups }) s = .next s.finish) ∧
    ((s.link g).state = .live →
      exec (.statusTimeout g) s = .next
        (((s.modLink g fun l => { l with uplink := false, retry := some (true, s.now) }).sendDown g statreqType []).detect 3 g).finish) ∧
    (∀ b w (ident caps : Byte), s.ownerOf g = some b → (s.link g).state = .training → ident.toNat / 16 = 1 →
      (let s0 := s.trainFrames g ident
       (s0.bridge b).arming = some w ∧ (s0.link g).state = .training ∧ s0.duplexed b = false) →
      exec (.trainingComplete g ident caps true) s = .next
        (let s1 := ((((s.trainFrames g ident).modLink g fun l => { l with
            state := .live, uplink := true, downlink := true, ident := ident, caps := caps }).commitRecord g).modB b fun br =>
              { br with arming := some { w with need := w.need.filter (· ≠ g.val) } })
         (if w.need.filter (· ≠ g.val) = [] then s1.doneArm b else s1).finish))

/-- Slots, filters, group clocks and timers of the Pug are set up (07 R309, R312, R321 to R324, R329, R330, R335): what each
packet leaves when its fields are legal. -/
def Obligations.PugSetupPacketsComplete : Prop :=
  ∀ (s : State) (p : Pkt),
    (∀ c, s.Admits (.pugSlotConfig p) p → s.slotInUse p.target.toNat = false → parseSlot p p.target.toNat = some c →
      ¬ (s.fitBridges ≤ c.src ∧ c.src < 8) → s.slotTimesOk p.target.toNat c = true → s.slotClockOk p.target.toNat c = true →
      ((s.begun (.pugSlotConfig p) p).modSlot p.target.toNat fun x => { x with
        cfg := c, state := .stopped, bank := Vector.replicate 2 {}, g := 0, next := [], recent := [], hist := [], fresh := 0,
        retry := false, swap := none, out := { x.out with valid := false } }).pugFits = true →
      exec (.pugSlotConfig p) s = .next
        (let s1 := (s.begun (.pugSlotConfig p) p).modSlot p.target.toNat fun x => { x with
        cfg := c, state := .stopped, bank := Vector.replicate 2 {}, g := 0, next := [], recent := [], hist := [], fresh := 0,
        retry := false, swap := none, out := { x.out with valid := false } }
         let s2 := ((s.begun (.pugSlotConfig p) p).dropFir p.target.toNat).modSlot p.target.toNat fun _ => s1.slot p.target.toNat
         ((if s2.srcRuns c.src = true then s2.startSlot p.target.toNat else s2).ends (s.ticketOf p) .done).rest)) ∧
    (s.Admits (.pugFirLoad p) p → 1 ≤ prm16 p 2 → prm16 p 0 + prm16 p 2 ≤ 512 → prmZero p 4 36 = true →
      p.len.toNat = pad64 (2 * prm16 p 2) → (s.slot p.target.toNat).swap = none →
      exec (.pugFirLoad p) s = .next
        (((s.begun (.pugFirLoad p) p).modSlot p.target.toNat fun x => { x with bank := vmod x.bank (other x.active) fun b =>
          { b with h := cellsWrite 0 (prm16 p 0) (wordsOf p.payload (prm16 p 2)) b.h } }).ends (s.ticketOf p) .done).rest) ∧
    (s.Admits (.pugFirSwap p) p → 1 ≤ prm16 p 0 → prm16 p 0 ≤ 512 → prm p 2 ≤ 15 → prm p 3 = 0 → prmZero p 8 32 = true →
      prm32 p 4 = bankCrc (prm16 p 0) (vget (s.slot p.target.toNat).bank (other (s.slot p.target.toNat).active)).h →
      ((s.begun (.pugFirSwap p) p).modSlot p.target.toNat fun x => { x with
        swap := some (s.ticketOf p, prm16 p 0, prm p 2, 0) }).pugFits = true →
      (s.slot p.target.toNat).swap = none →
      exec (.pugFirSwap p) s = .next
        (let b := vget (s.slot p.target.toNat).bank (other (s.slot p.target.toNat).active)
         let s1 := (s.begun (.pugFirSwap p) p).modSlot p.target.toNat fun x => { x with
           swap := some (s.ticketOf p, prm16 p 0, prm p 2, b.centroid (prm16 p 0) (prm p 2)), swapAt := s.now }
         (if (s.slot p.target.toNat).state = .sampling then s1 else s1.finishFir p.target.toNat s1.dtbNs).rest)) ∧
    (s.Admits (.pugDsmClock p) p → prm p 0 ≤ 1 → prm p 1 = 0 → 320 ≤ prm16 p 2 → prm16 p 2 ≤ 1600 →
      (prm p 4 ≤ 9 ∨ prm p 4 = 0xFF) → prmZero p 5 35 = true → ¬ (s.fitBridges ≤ prm p 4 ∧ prm p 4 < 8) →
      (∀ k, k < 8 → (s.slot (8 * p.target.toNat + k)).state = .sampling → (s.slot (8 * p.target.toNat + k)).cfg.clk ≠ 0) →
      exec (.pugDsmClock p) s = .next
        (({ s.begun (.pugDsmClock p) p with
            dsm := vset s.dsm p.target.toNat { en := decide (prm p 0 = 1), period := prm16 p 2, align := prm p 4,
                                                       edgeAt := s.now } }).ends
          (s.ticketOf p) .done).rest) ∧
    (s.Admits (.pugTimer p) p → s.timerInUse p.target.toNat = false → prm p 0 = 0 →
      prmZero p 1 3 = true → prmZero p 14 26 = true →
      exec (.pugTimer p) s = .next
        ((({ s.begun (.pugTimer p) p with
            pugTimers := vset s.pugTimers p.target.toNat { (vget s.pugTimers p.target.toNat) with en := false } }).slotsStop
          (8 + p.target.toNat)).ends (s.ticketOf p) .done).rest) ∧
    (s.Admits (.pugTimer p) p → s.timerInUse p.target.toNat = false → prm p 0 = 1 →
      prmZero p 1 3 = true → prmZero p 14 26 = true → 8000 ≤ prm64 p 4 → prm64 p 4 ≤ 8000000000 →
      (let w : PugTimer := { en := true, period := prm64 p 4, phase := prm16 p 12, ticks := 0,
                             nextAt := s.now + s.localSteps (toPlacement s.dtbSteps (phaseSteps (prm16 p 12) (prm64 p 4)) (prm64 p 4)) }
       { s.begun (.pugTimer p) p with pugTimers := vset s.pugTimers p.target.toNat w }.sourceOk (8 + p.target.toNat) = true ∧
       { s.begun (.pugTimer p) p with pugTimers := vset s.pugTimers p.target.toNat w }.pugFits = true) →
      exec (.pugTimer p) s = .next
        (let w : PugTimer := { en := true, period := prm64 p 4, phase := prm16 p 12, ticks := 0,
                               nextAt := s.now + s.localSteps (toPlacement s.dtbSteps (phaseSteps (prm16 p 12) (prm64 p 4)) (prm64 p 4)) }
         ((({ s.begun (.pugTimer p) p with pugTimers := vset s.pugTimers p.target.toNat w }.slotsStop
           (8 + p.target.toNat)).slotsStart (8 + p.target.toNat)).ends (s.ticketOf p) .done).rest))

/-- Position inputs, recalibration and the reading of slots (07 R334, R339, R343, R344): what each packet leaves when its fields
are legal. -/
def Obligations.PugRunPacketsComplete : Prop :=
  ∀ (s : State) (p : Pkt),
    (∀ c, s.Admits (.pugPosConfig p) p → parsePos p = some c → s.posBusy p.target.toNat = false →
      (∀ k ∈ c.claims, (s.slot k).state = .free ∨ (s.slot k).state = .stopped ∨
        k ∈ (s.position p.target.toNat).cfg.claims ∧ (s.slot k).state = .claimed) →
      exec (.pugPosConfig p) s = .next
        (let old := (s.position p.target.toNat).cfg.claims
         let s1 := (s.begun (.pugPosConfig p) p).forEach (old.filter fun k => !c.claims.contains k) fun s k =>
           s.modSlot k fun x => if x.state = .claimed then { x with state := .free } else x
         let s2 := s1.forEach c.claims fun s k => s.modSlot k fun x => { x with state := .claimed }
         ((s2.modPos p.target.toNat fun x => { x with
            cfg := c, count := 0, homed := false, valid := decide (c.mode = 1), retry := false, retryPeriods := 0,
            goodPeriods := 0, angle := c.zero, speed := 0, elec := 0, turns := 0, seen := false,
            trk := { angle := turnsOf c.zero }, trkAt := s2.now, amplitude := 0, zError := 0, at_ := s2.now }).ends (s.ticketOf p) .done).rest)) ∧
    (s.Admits (.pugRecal p) p → 32 ≤ p.target.toNat → prmZero p 0 40 = true →
      usSteps 150 + (s.slot p.target.toNat).fir.n * (s.slot p.target.toNat).tIn ≤ usSteps 2000 → s.recal = none →
      exec (.pugRecal p) s = .next
        ({ ((s.begun (.pugRecal p) p).modSlot p.target.toNat fun x => { x with
              state := .recal, out := { x.out with valid := false },
              next := x.next.map fun (o : SlotOut × Nat) => ({ o.1 with valid := false, recal := true }, o.2) }).finishFir p.target.toNat
             s.dtbNs with
           recal := some { slot := p.target.toNat, ticket := s.ticketOf p, oldO := (s.slot p.target.toNat).calO,
                           oldG := (s.slot p.target.toNat).calG } }).rest) ∧
    (s.Admits (.pugRead p) p → p.target.toNat < 48 →
      exec (.pugRead p) s = .next
        (let o := (s.slot p.target.toNat).out
         let ns : DWord := BitVec.ofNat 64 (o.stamp / 65536)
         ((s.begun (.pugRead p) p).answer (s.ticketOf p)
           { r0 := lo32 ns, r1 := hi32 ns,
             extra := word [(o.value.toNat, 0), (bit o.valid, 16), (bit o.sat, 17), (bit o.slip, 18), (bit o.recal, 19)] }).rest)) ∧
    (s.Admits (.pugRead p) p → 0x80 ≤ p.target.toNat →
      exec (.pugRead p) s = .next
        (let s1 := (s.begun (.pugRead p) p).posUpTo (p.target.toNat - 0x80)
         let a := s1.posNow (p.target.toNat - 0x80)
         let x := s1.position (p.target.toNat - 0x80)
         (s1.answer (s.ticketOf p)
           { r0 := word [(a.1.toNat, 0), (a.2.toNat, 16)],
             r1 := word [(bit x.valid, 0), (bit x.spdSat, 1)] }).rest)) ∧
    (s.Admits (.pugStatus p) p → p.target.toNat < 48 → prm p 0 = 0 →
      exec (.pugStatus p) s = .next
        (((s.begun (.pugStatus p) p).modSlot p.target.toNat fun x => { x with sat := false, slip := false }).answer
          (s.ticketOf p) { r0 := (s.slotWords p.target.toNat 0).1, r1 := (s.slotWords p.target.toNat 0).2 }).rest) ∧
    (s.Admits (.pugStatus p) p → p.target.toNat < 48 → prm p 0 = 1 →
      exec (.pugStatus p) s = .next
        ((s.begun (.pugStatus p) p).answer (s.ticketOf p)
          { r0 := (s.slotWords p.target.toNat 1).1, r1 := (s.slotWords p.target.toNat 1).2 }).rest) ∧
    (s.Admits (.pugStatus p) p → 0x80 ≤ p.target.toNat → prm p 0 = 0 →
      exec (.pugStatus p) s = .next
        (let s1 := (s.begun (.pugStatus p) p).posUpTo (p.target.toNat - 0x80)
         ((s1.modPos (p.target.toNat - 0x80) fun x => { x with spdSat := false }).answer (s.ticketOf p)
          { r0 := (s1.posWords (p.target.toNat - 0x80)).1, r1 := (s1.posWords (p.target.toNat - 0x80)).2 }).rest))

/-- Frames and outputs of slots, and the events of position inputs (07 R313, R325, R331, R332, R336, R339, R340): what each
leaves while it applies. -/
def Obligations.MeasurementEventsComplete : Prop :=
  ∀ s : State, s.awake = true →
    (∀ (src : Fin 10) inputs, src.val < 8 → (s.pwm src).running = true → (s.pwm src).lastAt = s.now →
      (∀ n ∈ s.frameSlots src, (s.slot n).frameAt ≠ s.now ∨ (s.slot n).prev = none) →
      exec (.pugFrame src inputs) s = .next (s.frame src inputs).finish) ∧
    (∀ (k : Fin 2) inputs, (vget s.pugTimers k).en = true →
      exec (.pugFrame ⟨8 + k, by omega⟩ inputs) s = .next
        (let w := vget s.pugTimers k
         let s1 := (s.advanceTo w.nextAt).alignClocks (8 + k)
         let e := placeError s1.dtbSteps (phaseSteps w.phase w.period) w.period
         let w1 := { w with ticks := w.ticks + 1, lastAt := s1.now,
                             nextAt := s1.now + s1.localSteps ((w.period : Int) - e).toNat }
         let s2 := { s1 with pugTimers := vset s1.pugTimers k w1 }
         (((s2.frame (8 + k) inputs)).capTick (8 + k)).finish)) ∧
    (∀ (n : Fin 48) o ready later, (s.slot n).next = (o, ready) :: later → s.recal = none →
      exec (.slotOutputReady n) s = .next
        (let s1 := (s.advanceTo ready).modSlot n fun x => { x with
           out := o, next := later, recent := if o.valid then (o.value :: x.recent).take 8 else x.recent,
           state := if x.state = .recal ∧ o.valid then .sampling else x.state }
         let s0 := s1.notePeak n
         let s2 := s0.forEach (numbers 16 fun k => 8 ≤ k ∧ (s1.trip k).en ∧ (s1.trip k).slot = n) State.compare
         (s2.forEach (numbers 8 fun b => match (s2.bridge b).defn with
            | some d => decide (d.vdcSlot = some n.val) && o.valid | none => false) State.judgePrecharge).capPoll.finish)) ∧
    (∀ (n : Fin 4) pairs, (s.position n).cfg.mode = 2 → s.isRetired 2 n = false → (s.position n).retry = false →
      exec (.resolverPeriod n pairs) s = .next
        (let x := s.position n
         let s1 := s.advanceTo (s.excEnd x.cfg.excF)
         let sn := demodulate 40 x.cfg.rphase (pairs.toList.map (·.1))
         let cs := demodulate 41 x.cfg.rphase (pairs.toList.map (·.2))
         let amp := satTo 0x7FFF (roundR (ratSqrt (sn * sn + cs * cs))).toNat
         let s2 := s1.modPos n fun x => { x with amplitude := BitVec.ofNat 16 amp, at_ := s1.now }
         (if x.cfg.ampLo.toNat ≤ amp ∧ amp ≤ x.cfg.ampHi.toNat then
            s2.modPos n fun x => ({ x with valid := true }).follow s2.now sn cs else s2.posUpset n).finish)) ∧
    (∀ n : Fin 4, (s.position n).cfg.mode = 1 → (s.position n).cfg.zmode = 2 → (s.position n).homed = false →
      s.isRetired 2 n = false →
      exec (.zEdge n) s = .next
        ((s.posUpTo n).modPos n fun x => { x with homed := true, count := 0, angle := x.cfg.mech 0, zError := 0 }).finish) ∧
    (∀ (n : Fin 4) a b, (s.position n).cfg.mode = 1 → s.isRetired 2 n = false → a ≠ (s.position n).a → b = (s.position n).b →
      exec (.quadratureEdge n a b) s = .next
        ((s.posUpTo n).modPos n fun x =>
          let c := x.count + (if a ≠ (s.position n).b then 1 else -1 : Int)
          { x with a := a, b := b, count := c, angle := x.cfg.mech c }).finish) ∧
    (∀ unit : Fin 48, (s.slot unit).state = .sampling → ∀ kind : Fin 3, slotKind unit = kind.val → kind.val < 2 →
      exec (.measurementUpset kind unit) s = .next
        ((s.detect kind unit).modSlot unit fun x => { x with retry := true }).finish) ∧
    (∀ r off gain, s.recal = some r → r.measured = false → 0x3000 ≤ gain.toNat → gain.toNat ≤ 0x5000 →
      exec (.recalEnd off gain) s = .next
        (({ (s.modSlot r.slot fun x => { x with fresh := 0, hist := [] }) with recal := some { r with measured := true } }).modSlot
          r.slot fun x => x.setCal s.now off gain).finish)

/-- Packets of class CAPTURE (08 R362 to R370, R372): what each leaves when its fields are legal. Samples, external edges and
upsets of capture units (08 R346, R355 to R360, R373): what each event leaves while it applies. -/
def Obligations.CaptureCommandsComplete : Prop :=
  (
    ∀ (s : State) (p : Pkt),
      (∀ c : CapUnit, s.Admits (.capConfig p) p →
        c = { state := .idle, config := p.payload, leader := p.target.toNat } → byteAt p.payload 0 = p.target.toNat →
        p.target.toNat < 4 → leaderOk p.payload = true → c.chmask ≠ 0 → zeros p.payload 22 42 = true → (∀ i, i < 4 → c.tcOk i = true) →
        (∀ k, k < 16 → c.chanOk (capL p.payload) k = true) →
        capNseg p.payload * c.segSize (capL p.payload) + ((numbers 4 fun v =>
          !(p.target.toNat :: s.membersOf p.target.toNat).contains v).map s.capBytes).sum ≤ s.partitions.1 * 2 ^ 20 →
        ¬ (capSrc p.payload < 8 ∧ s.fitBridges ≤ capSrc p.payload) →
        ¬ (capSrc p.payload < 8 ∧ (s.bridge (capSrc p.payload)).state = .retired) →
        (∀ k ∈ c.chans, s.selAbsent (c.sel k) = false ∧ s.selRetired (c.sel k) = false) →
        exec (.capConfig p) s = .next
          (((((s.begun (.capConfig p) p).forEach (s.membersOf p.target.toNat) State.freeUnit).dropCapWaits p.target.toNat).modCap
            p.target.toNat fun _ => c).ends (s.ticketOf p) .done).rest) ∧
      (s.Admits (.capArm p) p → s.maskCheck p (fun x => x = .idle || x = .full) = none → bitsOf 16 (prm16 p 0) ≠ [] →
        exec (.capArm p) s = .next
          ({ s.begun (.capArm p) p with
              armWaits := s.armWaits ++ [({ ticket := s.ticketOf p, groups := bitsOf 16 (prm16 p 0),
                                            lowest := lowestOf (prm16 p 0), first := none } : ArmWait)] }).rest) ∧
      (s.Admits (.capDisarm p) p →
        s.maskCheck p (fun x => x = .idle || x = .armed || x = .filling || x = .full) = none →
        exec (.capDisarm p) s = .next
          (((s.begun (.capDisarm p) p).forEach (bitsOf 4 (prm16 p 0)) fun u l =>
              if u.groupState l = .idle then u
              else
                let u1 := if u.groupState l = .filling then u.forEach (u.groupOf l) fun v k => v.closeUnit k true else u
                let forces := u1.forceWaits.filter fun w => w.groups.contains l
                let u2 := ({ u1 with forceWaits := u1.forceWaits.filter (fun w => !w.groups.contains l) }).endAll
                  (forces.map fun (w : ForceWait) => w.ticket) .cancelled
                (u2.modGroup l fun c => { c with due := [] }).setGroup l .idle).ends (s.ticketOf p) .done).rest) ∧
      (s.Admits (.capForce p) p → s.maskCheck p (fun x => x = .armed || x = .filling) = none → bitsOf 16 (prm16 p 0) ≠ [] →
        exec (.capForce p) s = .next
          ({ s.begun (.capForce p) p with
              forceWaits := s.forceWaits ++ [({ ticket := s.ticketOf p, groups := bitsOf 16 (prm16 p 0),
                                                lowest := lowestOf (prm16 p 0), since := s.now, recno := 0, seg := 0,
                                                note := false } : ForceWait)] }).rest) ∧
      (∀ g, s.Admits (.capRead p) p → prmZero p 2 2 = true → prmZero p 12 28 = true → prm32 p 8 % 64 = 0 →
        prm16 p 0 < capNseg (s.shape p.target.toNat) →
        prm32 p 8 + p.len.toNat ≤ (s.cap p.target.toNat).segSize (capL (s.shape p.target.toNat)) →
        assocGet (prm16 p 0) (s.cap p.target.toNat).segs = some g → g.recno.toNat = prm32 p 4 → g.filling = false →
        exec (.capRead p) s = .next
          ((s.begun (.capRead p) p).answer (s.ticketOf p) { payload := slice g.bytes (prm32 p 8) p.len.toNat }).rest) ∧
      (∀ c, s.Admits (.capStatus p) p → s.cap p.target.toNat = c →
        exec (.capStatus p) s = .next
          ((s.begun (.capStatus p) p).answer (s.ticketOf p)
            { r0 := word [(c.state.code, 0), (bit (!c.config.isEmpty && decide (c.leader = p.target.toNat)), 3), (c.leader % 4, 4),
                          (sat8 (s.chan 9 p.target.toNat).bucket, 8), (satCount c.withdrawn.length, 16)],
              r1 := word [(satCount c.complete, 0), (c.newest, 16)], extra := c.newestRec }).rest) ∧
      (s.Admits (.capRelease p) p →
        exec (.capRelease p) s = .next
          (((if (s.cap p.target.toNat).leader = p.target.toNat then
              ((s.begun (.capRelease p) p).forEach (s.membersOf p.target.toNat) State.freeUnit).dropCapWaits p.target.toNat
             else s.begun (.capRelease p) p).freeUnit p.target.toNat).ends (s.ticketOf p) .done).rest)) ∧
  (
    ∀ (s : State) (u : Fin 4), s.awake = true →
      (∀ row rows, (s.cap (s.cap u).leader).due = row :: rows →
        exec (.capSampleClose u) s = .next (s.closeSample (s.cap u).leader row).finish) ∧
      (∀ n : Fin 2, s.gpioMapped (0x18 + n.val) = true →
        exec (.capExtEdge n) s = .next
          (s.forEach (numbers 4 fun l => decide ((s.cap l).leader = l) && capExt (s.cap l).config n.val && s.groupRuns l) fun s l =>
            s.modCap l fun c => { c with ext := vset c.ext n.val (some ((vget c.ext n.val).getD s.now)) }).finish) ∧
      (u.val < s.fitCaps → exec (.captureUpset u) s = .next (s.detect 9 u).finish))

/-- Retry runs, leaks, DRAM errors and rounds of the Cones (14 R579 to R589): what each event leaves while it applies. -/
def Obligations.FaultEventsComplete : Prop :=
  ∀ s : State, s.awake = true →
    (∀ (kind : Fin 13) (u : Word) ok t, s.chanDefined kind u.toNat = true → s.chanFitted kind u.toNat = true →
      s.reinst = [(t, kind.val, u.toNat)] →
      exec (.retryRunEnd kind u ok) s = .next
        ((if ok = true then ({ s with reinst := [] }.reinstated kind u.toNat).ends t .done
          else { s with reinst := [] }.ends t .unitRetired)).finish) ∧
    (∀ (kind : Fin 13) (u : Word) ok, s.chanDefined kind u.toNat = true → s.chanFitted kind u.toNat = true → s.reinst = [] →
      selfDetected kind = false → (s.chan kind u.toNat).state = .retrying →
      exec (.retryRunEnd kind u ok) s = .next
        (let s0 := if kind.val = 7 then s.chargeBlock u.toNat else s
         let s1 := if ok = true then (s0.restored kind u.toNat).countUpset kind u.toNat else s0.runFailed kind u.toNat
         (if s0.isRetired kind u.toNat = false ∧ s1.isRetired kind u.toNat = true then s1.withdrawn kind else s1).finish)) ∧
    (∀ (kind : Fin 13) (u : Word), s.chanDefined kind u.toNat = true → 0 < (s.chan kind u.toNat).bucket →
      exec (.bucketLeak kind u) s = .next ((s.advanceTo (s.chan kind u.toNat).leakAt).leak kind u.toNat).finish) ∧
    (∀ (u : Word) ok, u.toNat < s.pageCount → s.isRetired 6 u.toNat = false →
      exec (.eccError u true ok) s = .next ((s.detect 6 u.toNat).runEnds 6 u.toNat ok).finish ∧
      exec (.eccError u false ok) s = .next (((s.retire 6 u.toNat).withdrawn 6).losePage).finish) ∧
    (∀ failed, s.flt.conesRun = true → (∀ f ∈ failed, s.runsTest f.test = false) →
      exec (.conesRound failed) s = .next
        ({ s with flt := { s.flt with rounds := satCount (s.flt.rounds + 1), conesFail := false } }).finish) ∧
    (∀ (f : TestFail) c, s.flt.conesRun = true → s.runsTest f.test = true → f.chan = some c → c.kind.val ≠ 6 →
      exec (.conesRound [f]) s = .next
        (let s1 := ({ s with flt := { s.flt with rounds := satCount (s.flt.rounds + 1), conesFail := true,
                                                 lastFail := f.test } }).logEntry 8 c.kind c.unit.toNat 0 0 0 0
         (if s1.chanDefined c.kind c.unit.toNat then s1.detect c.kind c.unit.toNat else s1).finish))

/-- Packets of class FAULT (14 R614 to R616): what each leaves when its fields are legal. Packets of class DUPLEX (14 R601,
R602, R611 to R613): what each leaves when it is legal. -/
def Obligations.FaultAndDuplexPacketsComplete : Prop :=
  (
    ∀ (s : State) (p : Pkt),
      (s.Admits (.fltConfig p) p → prm p 0 ≤ 12 → 1 ≤ prm p 1 → prm p 1 ≤ 64 → 1 ≤ prm16 p 2 → prm16 p 2 ≤ 3600 →
        exec (.fltConfig p) s = .next
          (({ s.begun (.fltConfig p) p with
              flt := { s.flt with n := vset s.flt.n (prm p 0) (prm p 1), w := vset s.flt.w (prm p 0) (prm16 p 2) } }).ends
            (s.ticketOf p) .done).rest) ∧
      (s.Admits (.fltLogRead p) p → (BitVec.ofNat 32 (prm32 p 0) - s.flt.seq).toNat < 2 ^ 31 →
        exec (.fltLogRead p) s = .next
          ((s.begun (.fltLogRead p) p).answer (s.ticketOf p) { r0 := BitVec.ofNat 32 (prm32 p 0), r1 := 0 }).rest) ∧
      (∀ es, s.Admits (.fltLogRead p) p → 2 ^ 31 ≤ (BitVec.ofNat 32 (prm32 p 0) - s.flt.seq).toNat →
        (s.flt.seq - BitVec.ofNat 32 (prm32 p 0)).toNat ≤ s.flt.log.length →
        es = (s.flt.log.reverse.drop
          (BitVec.ofNat 32 (prm32 p 0) - (s.flt.seq - BitVec.ofNat 32 s.flt.log.length)).toNat).take (p.len.toNat / 32) →
        es ≠ [] →
        exec (.fltLogRead p) s = .next
          ((s.begun (.fltLogRead p) p).answer (s.ticketOf p)
            { r0 := BitVec.ofNat 32 (prm32 p 0), r1 := BitVec.ofNat 32 es.length, payload := es.flatMap LogEntry.bytes }).rest) ∧
      (s.Admits (.fltStatus p) p → s.chanDefined (prm p 0) (prm16 p 2) = true → s.chanFitted (prm p 0) (prm16 p 2) = true →
        exec (.fltStatus p) s = .next
          ((s.begun (.fltStatus p) p).answer (s.ticketOf p)
            { r0 := word [((s.chan (prm p 0) (prm16 p 2)).state.code, 0), (sat8 (s.chan (prm p 0) (prm16 p 2)).bucket, 8)],
              r1 := word [(sat32 (s.chan (prm p 0) (prm16 p 2)).upsets, 0)] }).rest)) ∧
  (
    ∀ (s : State) (p : Pkt),
      (s.Admits (.dpxReport p) p →
        exec (.dpxReport p) s = .next
          ((s.begun (.dpxReport p) p).answer (s.ticketOf p) { r0 := s.dpxStatus, r1 := s.dpxMirror }).rest) ∧
      (s.Admits (.dpxSwitch p) p → s.dpx.noStandby = false → s.dpx.handover = none →
        exec (.dpxSwitch p) s = .next
          (((s.begun (.dpxSwitch p) p).startHandover none).modDpx fun d => { d with switchBy := some (s.ticketOf p) }).rest) ∧
      (s.Admits (.dpxHealth p) p →
        exec (.dpxHealth p) s = .next
          ((s.begun (.dpxHealth p) p).answer (s.ticketOf p)
            { r0 := s.healthWord, r1 := s.dpx.partnerHealth,
              extra := word [(sat32 (match s.dpx.mirrorAt with | some a => (s.now - a) / 8000 | none => 0xFFFFFFFF), 0)] }).rest))

/-- Packets of class SAFETY (09 R404 to R414): what each leaves when its fields are legal. Inputs, latches and times of the
safety functions (09 R376, R386 to R394): what each event leaves while it applies. -/
def Obligations.SafetyCommandsComplete : Prop :=
  (
    ∀ (s : State) (p : Pkt),
      (s.Admits (.safeStage p) p → (s.bridgesWhere fun b => b.state.beyondArmed) = [] → s.safetyFault = false →
        prmZero p 0 40 = true → blockOk p.payload = true → s.blockAbsent p.payload = false →
        exec (.safeStage p) s = .next
          ((({ s.begun (.safeStage p) p with sag := { s.sag with staged := some p.payload } }).setComm .staged).answer (s.ticketOf p)
            { r0 := BitVec.ofNat 32 (crc32c p.payload) }).rest) ∧
      (s.Admits (.safeConfirm p) p → s.safetyFault = false → prmZero p 4 36 = true →
        prm32 p 0 = crc32c (s.sag.staged.getD []) →
        exec (.safeConfirm p) s = .next
          (({ s.begun (.safeConfirm p) p with sag := { s.sag with
               confirm := some (s.ticketOf p, s.now + secSteps 5), chA := { s.sag.chA with toggles := 0 },
               chB := { s.sag.chB with toggles := 0 } } }).setComm .confirmed).rest) ∧
      (s.Admits (.safeStatus p) p →
        exec (.safeStatus p) s = .next
          ((s.begun (.safeStatus p) p).answer (s.ticketOf p)
            { r0 := s.sagStatus s.sag.chA, r1 := s.sagOut, extra := s.sagCrc }).rest) ∧
      (s.Admits (.safeOutput p) p → prm p 0 ≤ 3 → prmZero p 1 39 = true →
        exec (.safeOutput p) s = .next
          (({ s.begun (.safeOutput p) p with sag := { s.sag with sbcReq := BitVec.ofNat 2 (prm p 0) } }).ends
            (s.ticketOf p) .done).rest) ∧
      (∀ bs, s.Admits (.safeRead p) p → prm p 0 ≤ 1 → prmZero p 1 39 = true →
        (if prm p 0 = 0 then s.sag.block else s.sag.staged) = some bs →
        exec (.safeRead p) s = .next ((s.begun (.safeRead p) p).answer (s.ticketOf p) { payload := bs }).rest) ∧
      (s.Admits (.safeRequest p) p → prm p 0 ≤ 15 → prm p 1 ≤ 1 → prmZero p 2 38 = true →
        (prm p 1 = 0 → s.safetyFault = false) →
        exec (.safeRequest p) s = .next
          (((s.begun (.safeRequest p) p).forEach ((bitsOf 4 (prm p 0)).filter fun n => fnType s.blk n ≠ 0) fun u n =>
              (u.modFn false n fun f => { f with request := decide (prm p 1 = 1) }).judgeDemand false n).ends
            (s.ticketOf p) .done).rest)) ∧
  (
    ∀ (s : State) (chB : Bool), s.awake = true →
      (∀ (sin : Fin 8) level, exec (.sinFilteredChange chB sin level) s = .next
        (let bit_ : Byte := BitVec.ofNat 8 (2 ^ sin.val)
         let s1 := { s with sag := { s.sag with sin := if level then s.sag.sin ||| bit_ else s.sag.sin &&& ~~~bit_ } }
         let s2 := s1.modFn chB (sin.val / 2) fun f =>
           let f := if sin.val % 2 = 0 then { f with inA := some level } else { f with inB := some level }
           if fnType s.blk (sin.val / 2) = 0 then f else f.note (fnMode s.blk (sin.val / 2)) s.now
         ((s2.judgeDemand chB (sin.val / 2)).refreshSsl).finish)) ∧
      (∀ (f : Fin 4) t0, (s.safeFn chB f).discSince = some t0 →
        exec (.discrepancyLatch chB f) s = .next
          (let w := s.sagTime chB (msSteps (fnDisc s.blk f))
           ((w.2.advanceTo (t0 + w.1)).setDisc chB f).refreshSsl.finish)) ∧
      (∀ (f : Fin 4) d, (s.safeFn chB f).safeAt = some d →
        exec (.ss1SafeInstant chB f) s = .next
          (let s1 := (s.advanceTo d).passSafe chB f
           ((if chB then s1 else s1.forEach (s1.fnBridges f) fun s b => s.enterSafe b (0x0804 + f.val)).refreshSsl).finish)) ∧
      (∀ (out : Fin 2) d ds, (s.channel chB).sbcDues out = d :: ds →
        exec (.sbcDelayExpiry chB out) s = .next
          (let s1 := s.advanceTo (ds.foldl min d)
           let past (x : Option Nat) : Bool := match x with | some t => decide (t ≤ s1.now) | none => false
           (s1.modChannel chB fun c => { c with
             sbcLost := if past (vget c.sbcAt out) then vset c.sbcLost out true else c.sbcLost,
             sbcAt := if past (vget c.sbcAt out) then vset c.sbcAt out none else c.sbcAt,
             fn := c.fn.map fun (f : SafeFn) =>
               if past (vget f.sbcDue out) then { f with sbcPast := vset f.sbcPast out true, sbcDue := vset f.sbcDue out none }
               else f }).finish)))

/-- SAFE_EN, commissioning, the exchange between the channels and their faults (09 R299, R382, R383, R395 to R398, R401, R406;
14 R606): what each event leaves while it applies. -/
def Obligations.SaggarEventsComplete : Prop :=
  ∀ s : State, s.awake = true →
    exec .safeEnFall s = .next
      (let s1 := { s with sag := { s.sag with safeEn := false, enFell := if s.sag.safeEn then s.now else s.sag.enFell } }
       (s1.forEach (List.range 24) fun u g =>
         let u1 := u.modLink g fun l => { l with status := l.status.map fun (b : BoosterStatus) => { b with afterFall := false } }
         if (u1.link g).latched then u1.sendDown g statreqType [] else u1).finish) ∧
    (∀ mayA mayB pins, exec (.safeEnToggle mayA mayB pins) s = .next
      (let taken (may : Bool) : Bool :=
         !s.sag.safeEn && (decide (s.sag.enFell + 80000 ≤ s.now) || (may && decide (s.sag.enFell + 72000 ≤ s.now)))
       let s0 := ((s.countToggle false (taken mayA)).countToggle true (taken mayB)).commitQueued
       let s1 := { s0 with sag := { s0.sag with safeEn := true } }
       let s2 := s1.forEach (List.range 8) fun s k => s.modTrip k fun t => { t with pin := pins.getLsbD k }
       let s3 := s2.forEach (List.range 4) fun s n => s.clearFn (taken mayA) (taken mayB) n
       ((if taken mayA = true then s3.forEach (List.range 8) State.clearBridge else s3).refreshSsl).finish)) ∧
    (∀ t d blk rest, s.sag.confirm = some (t, d) → s.sag.staged = some blk → s.svcs.norQueue = .block :: rest →
      s.sag.comm = .confirmed → 2 ≤ s.sag.chA.toggles → 2 ≤ s.sag.chB.toggles →
      exec (.blockCommit true) s = .next
        (let s0 := ({ s with sag := { s.sag with confirm := none } }).modSvc fun v => { v with norQueue := rest }
         let s1 := { s0 with sag := { s0.sag with nor := some (blk, BitVec.ofNat 32 (crc32c blk)), block := some blk } }
         let s2 := s1.forEach (numbers 4 fun n => fnType blk n ≠ fnType s.blk n ∨ fnMode blk n ≠ fnMode s.blk n) fun s n =>
           (s.freshFn false n).freshFn true n
         ((s2.setComm .commissioned).ends t .done).finish) ∧
      exec (.blockCommit false) s = .next
        (((({ s with sag := { s.sag with confirm := none } }).modSvc fun v => { v with norQueue := rest }).setComm .staged).ends t
          .internalFault).finish) ∧
    (∀ t d, s.sag.confirm = some (t, d) → s.sag.comm = .confirmed → ¬ (2 ≤ s.sag.chA.toggles ∧ 2 ≤ s.sag.chB.toggles) →
      exec .confirmWindowExpiry s = .next
        (let s1 := s.advanceTo d
         ((({ s1 with sag := { s1.sag with confirm := none } }).setComm .staged).ends t .timedOut).finish)) ∧
    (s.sag.lockstep = false → exec (.sagExchange true) s = .next
      (let differ := (List.range 4).any fun n => (s.safeFn false n).view ≠ (s.safeFn true n).view
       let s1 := { s with sag := { s.sag with missed := 0, differ := if differ then s.sag.differ + 1 else 0 } }
       let s2 := s1.forEach (List.range 4) fun u n =>
         let u1 := if (u.safeFn true n).disc then u.setDisc false n else u
         let u2 := if (u1.safeFn false n).disc then u1.setDisc true n else u1
         (u2.modFn true n fun f => { f with request := (u2.safeFn false n).request }).judgeDemand true n
       ((if 3 ≤ s2.sag.differ then s2.crossFault else s2).refreshSsl).finish)) ∧
    exec (.sagExchange false) s = .next
      (let s1 := { s with sag := { s.sag with missed := s.sag.missed + 1 } }
       (if 3 ≤ s1.sag.missed then s1.crossFault else s1).finish) ∧
    (s.sag.sfault = false → exec .saggarInternalFault s = .next
      (((({ s with sag := { s.sag with sfault := true } }).faultSbc).refreshSsl).allSafe 0x0812).finish) ∧
    exec .lockstepMismatch s = .next
      (let s1 := ({ s with sag := { s.sag with lockstep := true } }).allSafe 0x0813
       (if s.dpx.role = .active then s1.yieldControl else s1).finish)

/-- Packets of class WHEEL (11 R461, R466 to R480): what each leaves when its fields are legal. The Wheel cycle and the timers
that bring it about (11 R460, R470, R471): cancels first, then readiness, then the dispatches of pair B and of the event lane.
-/
def Obligations.WheelCommandsComplete : Prop :=
  (
    ∀ (s : State) (p : Pkt),
      (s.Admits (.wheelConfig p) p → 1 ≤ prm16 p 0 → prm16 p 0 ≤ 4000 →
        exec (.wheelConfig p) s = .next
          (((s.begun (.wheelConfig p) p).modWheel fun w => { w with tick := prm16 p 0 }).ends (s.ticketOf p) .done).rest) ∧
      (s.Admits (.wheelContext p) p → prm p 0 ≤ 15 → (8 ≤ p.target.toNat ∨ 4 ≤ prm p 0) → prm p 1 ≤ 1 →
        s.entryOk p.target.toNat (prm16 p 2) = true →
        exec (.wheelContext p) s = .next
          (let s1 := (s.begun (.wheelContext p) p).modWc p.target.toNat fun x => { x with
             state := .idle, prio := prm p 0, tmode := prm p 1, entry := prm16 p 2 }
           ((if p.target.toNat < 8 then s1.modThread (p.target.toNat - 4) fun _ => {} else s1).ends (s.ticketOf p) .done).rest)) ∧
      (s.Admits (.wheelReady p) p →
        exec (.wheelReady p) s = .next
          ((s.begun (.wheelReady p) p).modWheel fun w => { w with
            readies := w.readies ++ [(p.target.toNat, .ready (s.ticketOf p))] }).rest) ∧
      (s.Admits (.wheelDelay p) p → (s.wc p.target.toNat).tmode = 0 → 1 ≤ prm32 p 0 → prm32 p 0 ≤ 16777216 →
        exec (.wheelDelay p) s = .next
          ((s.begun (.wheelDelay p) p).modWc p.target.toNat fun x => { x with
            state := .delayed, timer := some (s.ticketOf p), mask := 0,
            due := some (tickAfter s.wheel.tick (prm32 p 0) s.wheelStart) }).rest) ∧
      (s.Admits (.wheelWait p) p → prm32 p 4 = 0 → prm32 p 0 ≠ 0 → (s.wc p.target.toNat).tmode = 0 →
        exec (.wheelWait p) s = .next
          ((s.begun (.wheelWait p) p).modWc p.target.toNat fun x => { x with
            state := .waiting, timer := some (s.ticketOf p), mask := BitVec.ofNat 32 (prm32 p 0), due := none }).rest) ∧
      (s.Admits (.wheelWait p) p → prm32 p 4 ≠ 0 → (s.wc p.target.toNat).tmode = 1 →
        exec (.wheelWait p) s = .next
          ((s.begun (.wheelWait p) p).modWc p.target.toNat fun x => { x with
            state := .waiting, timer := some (s.ticketOf p), mask := BitVec.ofNat 32 (prm32 p 0),
            due := some (s.wheelStart + 1000 * prm32 p 4) }).rest) ∧
      (s.Admits (.wheelCancel p) p →
        exec (.wheelCancel p) s = .next
          ((s.begun (.wheelCancel p) p).modWheel fun w => { w with
            cancels := w.cancels ++ [(s.ticketOf p, p.target.toNat)] }).rest) ∧
      (s.Admits (.wheelSignal p) p →
        exec (.wheelSignal p) s = .next
          (((s.begun (.wheelSignal p) p).modWheel fun w => { w with raised := w.raised ||| BitVec.ofNat 32 (prm32 p 0) }).ends
            (s.ticketOf p) .done).rest) ∧
      (∀ m, s.Admits (.wheelSigmap p) p → prm p 0 ≤ 31 →
        (prm p 1 = 0xFF ∧ m = none ∨ prm p 1 ≤ 0x10 ∧
          m = some (BitVec.ofNat 8 (prm p 1), if prm16 p 2 = 0xFFFF then none else some (BitVec.ofNat 16 (prm16 p 2)))) →
        exec (.wheelSigmap p) s = .next
          (((s.begun (.wheelSigmap p) p).modWheel fun w => { w with map := vset w.map (prm p 0) m }).ends (s.ticketOf p) .done).rest) ∧
      (∀ x, s.Admits (.wheelStatus p) p → prm p 0 = 0 → s.wc p.target.toNat = x →
        exec (.wheelStatus p) s = .next
          ((s.begun (.wheelStatus p) p).answer (s.ticketOf p)
            { r0 := word [(x.state.code, 0), (x.prio, 4), (x.tmode, 8), (bit x.pend, 9), (x.entry, 16)],
              r1 := word [(x.dispatches, 0)], extra := if x.state = .waiting then x.mask else 0 }).rest) ∧
      (∀ w, s.Admits (.wheelStatus p) p → prm p 0 = 1 → p.target = 0 → s.wheel = w →
        exec (.wheelStatus p) s = .next
          ((s.begun (.wheelStatus p) p).answer (s.ticketOf p)
            { r0 := word [(w.cancelPre, 0), (w.cancelRdy, 16)], r1 := word [(w.coalesced, 0), (w.waitTos, 16)],
              extra := w.pending }).rest) ∧
      (∀ w, s.Admits (.wheelStatus p) p → prm p 0 = 2 → p.target = 0 → s.wheel = w →
        exec (.wheelStatus p) s = .next
          ((s.begun (.wheelStatus p) p).answer (s.ticketOf p)
            { r0 := word [(w.dispB, 0)], r1 := word [(w.dispL, 0)], extra := word [(w.longest, 0), (w.tick, 16)] }).rest) ∧
      (s.Admits (.wheelRelease p) p →
        exec (.wheelRelease p) s = .next
          (((s.begun (.wheelRelease p) p).modWc p.target.toNat fun x => { x with state := .free }).ends (s.ticketOf p) .done).rest)) ∧
  (
    ∀ s : State, s.awake = true →
      exec .wheelCycle s = .next
        (let n := s.wheelNow
         let s1 := s.advanceToNs (40 * n)
         let s2 := s1.modWheel fun w => { w with cancels := [], lastCycle := some n }
         let s3 := s1.wheel.cancels.foldl (fun (u : State) (c : Ticket × Nat) => u.applyCancel (40 * n) c.1 c.2) s2
         ((((s3.applyReadies (40 * n)).dispatchB (40 * n)).dispatchLane (40 * n)).finish)) ∧
      (∀ d, s.firstDue .delayed = some d →
        exec .delayExpiry s = .next (evWheelCycle (s.advanceToNs (40 * divUp d 40))).finish) ∧
      (∀ (c : Fin 128) d, (s.wc c).state = .waiting → (s.wc c).due = some d →
        exec (.waitTimeout c) s = .next (evWheelCycle (s.advanceToNs (40 * divUp d 40))).finish))

/-- The calls of a user service thread (16 R667 to R669): what each leaves while the thread runs and its arguments are legal,
and the fault that ends a thread. -/
def Obligations.ThreadCallsComplete : Prop :=
  ∀ (s : State) (c : Fin 4), s.awake = true →
    (s.threadRuns c = true →
      exec (.threadEnd c) s = .next ((s.leaveB c).endContext (4 + c)).finish ∧
      (∀ ctx : Word, 4 ≤ ctx.toNat → ctx.toNat ≤ 127 →
        exec (.threadReady c ctx) s = .next
          (((s.modThread c fun x => { x with waits := true }).modWheel fun w => { w with
            readies := w.readies ++ [(ctx.toNat, .call (4 + c))] }).finish)) ∧
      (∀ mask, exec (.threadSignal c mask) s = .next
        (((s.modWheel fun w => { w with raised := w.raised ||| mask }).callResult c Status.done.code).finish)) ∧
      (∀ n : Word, (s.wc (4 + c)).tmode = 0 → 1 ≤ n.toNat → n.toNat ≤ 16777216 →
        exec (.threadDelay c n) s = .next ((s.leaveB c).delayContext (4 + c) n.toNat none).finish) ∧
      (∀ mask tmo : Word, (tmo = 0 → mask ≠ 0) → ((s.wc (4 + c)).tmode = 1 ↔ tmo ≠ 0) →
        exec (.threadWait c mask tmo) s = .next ((s.leaveB c).waitContext (4 + c) mask tmo.toNat none).finish) ∧
      (∀ (qp : Word) (h : qp.toNat < 16) bytes, s.threadQp c qp.toNat = true →
        exec (.threadSubmit c qp bytes) s = .next
          ((s.submit ⟨qp.toNat, h⟩ bytes).2.callResult c (s.submit ⟨qp.toNat, h⟩ bytes).1).finish) ∧
      (∀ (qp addr : Word) (h : qp.toNat < 16) bs u, s.threadQp c qp.toNat = true → addr.toNat + 32 ≤ s.threadSize c →
        s.pollRing ⟨qp.toNat, h⟩ = (some bs, u) →
        exec (.threadPoll c qp addr) s = .next
          ((u.modThread c fun x => { x with
            mem := cellsWrite 0 addr.toNat (bs.map fun (b : Byte) => b.toNat) x.mem }).callResult c 1).finish) ∧
      (∀ (qp addr : Word) (h : qp.toNat < 16) u, s.threadQp c qp.toNat = true → addr.toNat + 32 ≤ s.threadSize c →
        s.pollRing ⟨qp.toNat, h⟩ = (none, u) →
        exec (.threadPoll c qp addr) s = .next (u.callResult c 0).finish) ∧
      exec (.threadTime c) s = .next (s.callResult c s.dtbNs.toNat).finish ∧
      (∀ ofs count addr : Word, s.hasCycle = true → 1 ≤ count.toNat → count.toNat ≤ 4096 → ofs.toNat + count.toNat ≤ 65535 →
        addr.toNat + 2 * count.toNat ≤ s.threadSize c →
        exec (.threadImageRead c ofs count addr) s = .next
          ((s.modThread c fun x => { x with
            mem := cellsWrite 0 addr.toNat (cellsRead 0 (2 * ofs.toNat) (2 * count.toNat) s.cyc.inp) x.mem }).callResult c
              Status.done.code).finish)) ∧
    (s.wheel.pairB = some (4 + c.val) →
      exec (.threadFault c) s = .next
        (((((s.leaveB c).freeContext (4 + c)).modThread c fun x => { x with waits := false }).report 0x09 (4 + c) 0x0901).finish))

/-- The system instructions of a program (12 R498, R499, Table 12-4a): what each leaves when it is the next one its runner comes
to; before it, the runner has executed the ordinary instructions in front of it. -/
def Obligations.EicInstructionsComplete : Prop :=
  ∀ (s u : State) (r : Fin 5) (i : EicIns), s.awake = true → s.executes r = true →
    u = { s.runPlain r (s.fuelOf r) with freeSeed := (s.runPlain r (s.fuelOf r)).freeSeed + 1 } →
    i = (s.runPlain r (s.fuelOf r)).insOf r →
    (i.cls = 10 → i.op = 0 → exec (.eicSubmit r) s = .next (u.eicSubmitIns r i).finish) ∧
    (i.cls = 10 → i.op = 1 → exec (.eicPoll r) s = .next (u.eicPollIns r i).finish) ∧
    (i.cls = 11 → i.op = 0 → exec (.eicReady r) s = .next
      ((((u.assign r i.ty i.a 0xFFFF).modWheel fun w => { w with
          readies := w.readies ++ [(i.c.imm, .eic (u.placeOf r i.ty i.a))] }).modRun r fun x => { x with pc := i.next }).finish)) ∧
    (i.cls = 11 → i.op = 1 → exec (.eicSignal r) s = .next
      ((((u.noteBound r i.ty i.b).raise (BitVec.ofNat 32 (u.operand r i.ty i.b))).modRun r fun x => { x with pc := i.next }).finish)) ∧
    (i.cls = 12 → i.op = 0 → exec (.rdtime r) s = .next (u.finishIns r i i.ty u.dtbNs.toNat).finish) ∧
    (i.cls = 12 → i.op = 1 → u.operand r i.ty i.c ≤ 3 → exec (.rdcnt r) s = .next
      (u.finishIns r i i.ty (match u.operand r i.ty i.c with
        | 0 => (u.run r).cycles | 1 => (u.run r).skips | 2 => u.wheel.dispL | _ => (u.chan 12 0).upsets)).finish) ∧
    (i.cls = 12 → i.op = 2 → exec (.trace r) s = .next
      (let v : DWord := BitVec.ofNat 64 (u.operand r i.ty i.b)
       let u1 := u.noteBound r i.ty i.b
       ((u1.modCyc fun c => { c with trace := ((u1.dtbNs, v) :: c.trace).take 256 }).modRun r fun x =>
         { x with pc := i.next }).finish))

/-- Packets that configure the cycle engine, stage an image and change over to it (12 R500, R516 to R521, R526, R530, R531):
what each leaves when its fields are legal. -/
def Obligations.CycleSetupPacketsComplete : Prop :=
  ∀ (s : State) (p : Pkt),
    (s.Admits (.cycConfig p) p → prm p 0 ≤ 1 → prm p 1 ≤ 1 → 1 ≤ prm p 2 → prm p 2 ≤ 8 → prm p 3 = 0 →
      prmZero p 20 20 = true → (∀ k, k < 4 → 10 ≤ prm32 p (4 + 4 * k) ∧ prm32 p (4 + 4 * k) ≤ 999999) →
      exec (.cycConfig p) s = .next
        (((s.begun (.cycConfig p) p).modCyc fun c => { c with
            restart := prm p 0, autoRun := decide (prm p 1 = 1), ksLimit := prm p 2,
            outOfs := Vector.ofFn fun k => prm32 p (4 + 4 * k.val) }).ends (s.ticketOf p) .done).rest) ∧
    (s.Admits (.cycLoad p) p → s.cyc.change = none → prm32 p 0 + p.payload.length ≤ 16 * 2 ^ 20 →
      exec (.cycLoad p) s = .next
        (((s.begun (.cycLoad p) p).modCyc fun c => { c with
            staged := some (patch (if prm32 p 0 = 0 then [] else s.cyc.staged.getD []) (prm32 p 0) p.payload),
            verified := false }).ends (s.ticketOf p) .done).rest) ∧
    (∀ img, s.Admits (.cycVerify p) p → img = s.cyc.staged.getD [] →
      exec (.cycVerify p) s = .next
        (match s.verdict img with
         | some (n, some off) => ((s.begun (.cycVerify p) p).modCyc fun c => { c with verified := false }).answer (s.ticketOf p)
             { status := .badField, r0 := word [(n, 0)], r1 := word [(off, 0)] }
         | some (n, none) =>
           let d := ((s.begun (.cycVerify p) p).modCyc fun c => { c with verified := false }).draw 80 (2 ^ 32)
           d.2.answer (s.ticketOf p) { status := .badField, r0 := word [(n, 0)], r1 := word [(d.1, 0)] }
         | none => ((s.begun (.cycVerify p) p).modCyc fun c => { c with verified := true }).answer (s.ticketOf p)
             { payload := slice (Config.eicReport (((List.range (imgNcyc img)).flatMap fun k =>
                 [eicC img k, eicResponse img k, carryTime s.cyc.image img k]) ++ [eicBudget img])) 0 256 }).rest) ∧
    (s.Admits (.cycChange p) p → s.cyc.change = none → s.changeOk (s.cyc.staged.getD []) = true → s.cyc.state ≠ .run →
      exec (.cycChange p) s = .next
        (let r := (s.begun (.cycChange p) p).switchImage
         ((r.1.modCyc fun x => { x with state := .stop }).endChange
           { ticket := s.ticketOf p, store := decide (prm p 0 ≠ 0), at_ := s.ns, moves := 0, room := p.len.toNat } r.2 s.ns).rest)) ∧
    (s.Admits (.cycChange p) p → s.cyc.change = none → s.changeOk (s.cyc.staged.getD []) = true → s.cyc.state = .run →
      exec (.cycChange p) s = .next
        (let longest (i : List Byte) :=
           (List.range (imgNcyc i)).foldl (fun a k => max a (1000 * (Config.eicCyclic i k).period)) 0
         let l := max (longest s.cyc.image) (longest (s.cyc.staged.getD []))
         ((s.begun (.cycChange p) p).modCyc fun x => { x with
           change := some { ticket := s.ticketOf p, store := decide (prm p 0 ≠ 0), at_ := multipleFrom l (s.ns + l), moves := 0,
                            room := p.len.toNat } }).rest)) ∧
    (∀ c, s.Admits (.cycStation p) p → stationOf p = c → prm p 0 ≤ 2 → prm p 1 ≤ 3 → c.inLen ≤ 1024 → c.inLen % 2 = 0 →
      c.outLen ≤ 1024 → c.outLen % 2 = 0 → c.inOfs + c.inLen / 2 ≤ 65535 → c.outOfs + c.outLen / 2 ≤ 65535 →
      c.statOfs ≤ 65534 → 1 ≤ c.missMax → c.missMax ≤ 8 → prm p 20 ≤ 1 → prm p 21 ≤ 1 → prm p 22 ≤ 1 →
      prmZero p 23 17 = true →
      (∀ m d, m < 32 → m ≠ p.target.toNat → (vget s.cyc.stations m).cfg = some d → d.en = true →
        overlaps c.inOfs (c.inLen / 2) d.inOfs (d.inLen / 2) = false) →
      (s.cyc.image ≠ [] → stationFits s.cyc.image c = true) →
      exec (.cycStation p) s = .next
        (((s.begun (.cycStation p) p).modStation p.target.toNat fun x => { cfg := some c, absences := x.absences }).ends
          (s.ticketOf p) .done).rest) ∧
    (s.Admits (.cycStore p) p →
      exec (.cycStore p) s = .next
        ({ s.begun (.cycStore p) p with svcs := { s.svcs with norQueue := s.svcs.norQueue ++
            [NorWrite.cycStore (s.ticketOf p) s.cyc.image s.cyc.configBytes (word [(imgId s.cyc.image, 0)]) none [] none] } }).rest) ∧
    (s.Admits (.cycDiscard p) p → s.cyc.staged = none →
      exec (.cycDiscard p) s = .next
        ((s.begun (.cycDiscard p) p).answer (s.ticketOf p) { status := .doneNote, extra := 1 }).rest) ∧
    (s.Admits (.cycDiscard p) p → s.cyc.staged ≠ none →
      exec (.cycDiscard p) s = .next
        (let s1 := (s.begun (.cycDiscard p) p).modCyc fun c => { c with staged := none, verified := false, change := none }
         ((match s.cyc.change with | some c => s1.ends c.ticket .cancelled | none => s1).ends (s.ticketOf p) .done).rest))

/-- Modes, forces, variables, debugging and status of the cycle engine (12 R506 to R510, R522 to R525, R528, R529): what each
packet leaves when its fields are legal. -/
def Obligations.CycleRunPacketsComplete : Prop :=
  ∀ (s : State) (p : Pkt),
    (s.Admits (.cycMode p) p → prm p 0 = 1 → prm p 1 = 0 → prmZero p 2 38 = true → s.cyc.state = .stop →
      exec (.cycMode p) s = .next
        (((s.begun (.cycMode p) p).startTasks).modCyc fun c => { c with
          state := .run, stopping := false, modeWait := [s.ticketOf p] }).rest) ∧
    (s.Admits (.cycMode p) p → prm p 0 = 0 → prm p 1 = 0 → prmZero p 2 38 = true → s.cyc.state = .run →
      s.cyc.stopping = false →
      exec (.cycMode p) s = .next
        ((((s.begun (.cycMode p) p).modCyc fun c => { c with stopping := true, modeWait := [s.ticketOf p] }).endAll
          s.cyc.modeWait .cancelled).stopIfIdle).rest) ∧
    (s.Admits (.cycMode p) p → prm p 0 = 2 → prm p 1 = 0 → prmZero p 2 38 = true → s.cyc.state = .stop →
      2 ≤ s.dbg.level → s.boundRunning = false →
      exec (.cycMode p) s = .next
        (((((s.begun (.cycMode p) p).modCyc fun c => { c with state := .hold, stopping := false, modeWait := [] }).endAll
          s.cyc.modeWait .cancelled)).ends (s.ticketOf p) .done).rest) ∧
    (∀ v, s.Admits (.cycForce p) p → prm p 4 = 1 → s.cyc.change = none → v = symOf s.cyc.image (prm32 p 0) →
      exec (.cycForce p) s = .next
        (match v with
         | none => (s.begun (.cycForce p) p).ends (s.ticketOf p) .badField
         | some v =>
           let others := s.cyc.forces.filter fun (f : Force) => decide (f.sym.id ≠ prm32 p 0)
           if 8 < symBytes v then (s.begun (.cycForce p) p).ends (s.ticketOf p) .badField
           else if 64 ≤ others.length then (s.begun (.cycForce p) p).ends (s.ticketOf p) .busyRetry
           else ((s.begun (.cycForce p) p).modCyc fun c => { c with forces := others ++
             [({ sym := v, value := BitVec.ofNat 64 (prm64 p 8), active := false, removing := false } : Force)] }).ends
               (s.ticketOf p) .done).rest) ∧
    (s.Admits (.cycRead p) p → prm32 p 0 = 0xFFFFFFFF → prm32 p 8 * 16 ≤ p.payload.length → 1 ≤ prm32 p 8 →
      prm32 p 4 + prm32 p 8 ≤ 256 → prmZero p 12 28 = true →
      exec (.cycRead p) s = .next
        ((s.begun (.cycRead p) p).answer (s.ticketOf p) { payload := s.traceBytes (prm32 p 4) (prm32 p 8) }).rest) ∧
    (s.Admits (.cycRead p) p → prm32 p 0 ≠ 0xFFFFFFFF →
      exec (.cycRead p) s = .next
        (match s.varOf p with
         | .inl st => (s.begun (.cycRead p) p).ends (s.ticketOf p) st
         | .inr v =>
           let w : VarWait := { ticket := s.ticketOf p, sym := v, first := prm32 p 4, count := prm32 p 8, value := [] }
           if s.cyc.state = CycState.run then (s.begun (.cycRead p) p).modCyc fun c => { c with reads := c.reads ++ [w] }
           else (s.begun (.cycRead p) p).applyRead w).rest) ∧
    (s.Admits (.cycWrite p) p → prm32 p 0 ≠ 0xFFFFFFFF →
      exec (.cycWrite p) s = .next
        (match s.varOf p with
         | .inl st => (s.begun (.cycWrite p) p).ends (s.ticketOf p) st
         | .inr v =>
           let w : VarWait := { ticket := s.ticketOf p, sym := v, first := prm32 p 4, count := prm32 p 8, value := p.payload }
           if s.cyc.state = CycState.stop then (s.begun (.cycWrite p) p).applyWrite w
           else (s.begun (.cycWrite p) p).modCyc fun c => { c with writes := c.writes ++ [w] }).rest) ∧
    (∀ r, s.Admits (.cycDebug p) p → s.heldTask = some r →
      (prm p 0 = 0 → exec (.cycDebug p) s = .next (((s.begun (.cycDebug p) p).stepHeld r).ends (s.ticketOf p) .done).rest) ∧
      (prm p 0 = 3 → exec (.cycDebug p) s = .next
        (((s.begun (.cycDebug p) p).continueHeld r (s.fuelOf r)).ends (s.ticketOf p) .done).rest)) ∧
    (s.Admits (.cycDebug p) p → prm p 0 = 1 → prm32 p 4 ∉ s.cyc.breaks → s.cyc.breaks.length < 8 →
      exec (.cycDebug p) s = .next
        (((s.begun (.cycDebug p) p).modCyc fun c => { c with breaks := c.breaks ++ [prm32 p 4] }).ends (s.ticketOf p) .done).rest) ∧
    (s.Admits (.cycDebug p) p → prm p 0 = 2 →
      exec (.cycDebug p) s = .next
        (((s.begun (.cycDebug p) p).modCyc fun c => { c with breaks := c.breaks.filter (· ≠ prm32 p 4) }).ends
          (s.ticketOf p) .done).rest) ∧
    (∀ c green, s.Admits (.cycStatus p) p → s.cyc = c →
      green = (if c.staged = none then 0 else if c.change ≠ none then 3 else if c.verified then 2 else 1) →
      exec (.cycStatus p) s = .next
        (((s.begun (.cycStatus p) p).modCyc fun c => { c with div0 := false, bound := false, coldNote := false }).answer
          (s.ticketOf p)
          { status := if c.coldNote then .doneNote else .done,
            r0 := word [(c.state.code, 0), (green, 3), (bit c.div0, 5), (bit c.bound, 6), (c.cause.toNat % 256, 8),
                        (satCount (s.chan 12 0).bucket, 16)],
            r1 := word (((List.range 4).map fun k => (satTo 3 (s.run k).skips, 2 * k)) ++ [(c.retUse.val, 8)] ++
                        (List.range 16).map fun n => (bit (vget c.stations n).absent, 16 + n)),
            extra := if c.coldNote then 2 else if c.image = [] then 0 else word [(imgId c.image, 0)] }).rest)

/-- Cycles, event tasks, output windows, the Kiln sitter and changes of image (12 R464, R495 to R503, R506, R513, R514, R518):
what each event leaves while it applies. -/
def Obligations.CycleEventsComplete : Prop :=
  ∀ s : State, s.awake = true →
    (∀ (k : Fin 4) tc, s.pwr.failing = none → k.val ∈ s.cyclicTasks → s.cyc.state = .run → s.cyc.stopping = false →
      (s.run k).active = false → s.nextStart k = tc → (s.run k).firstStart ≤ tc →
      exec (.cycleStart k) s = .next ((s.advanceToNs tc).beginCycle k tc).finish) ∧
    (∀ (k : Fin 4) tc, s.pwr.failing = none → k.val ∈ s.cyclicTasks → s.cyc.state = .stop ∨ s.cyc.state = .hold →
      s.nextStart k = tc →
      exec (.cycleStart k) s = .next (((s.advanceToNs tc).inputPhase k tc).readsTurn (turnAt k)).finish) ∧
    (∀ k : Fin 4, (s.run k).active = true → s.cyc.state = .run →
      exec (.cycleEnd k) s = .next
        (let s1 := s.runToEnd k (s.fuelOf k)
         let inTime := decide (s1.ns ≤ (s1.run k).start + s1.period k)
         let s2 := ((s1.endRun k).transfer k).modRun k fun x => { x with overruns := if inTime then 0 else x.overruns }
         (s2.readsTurn fun v => turnAt k v && (eventOwner v).isNone).stopIfIdle.finish)) ∧
    ((s.run 4).active = true →
      exec .eventTaskEnd s = .next
        (let s1 := s.runToEnd 4 (s.fuelOf 4)
         (((s1.endRun 4).freeLane).readsTurn fun v => eventOwner v = some (s.run 4).task).stopIfIdle.finish)) ∧
    (∀ (k : Fin 4) tc, (s.run k).phaseAt = some tc → k.val ∈ s.cyclicTasks → s.cyc.state ≠ .retired →
      exec (.outputWindow k) s = .next
        (let s1 := s.advanceToNs (tc + 1000 * vget s.cyc.outOfs k)
         (s1.modCyc fun c => { c with sent := s1.windowFrames k tc }).finish)) ∧
    (∀ k, k < 4 → s.cyc.state = .run → s.cyc.ksLimit ≤ (s.run k).overruns →
      exec .kilnSitterTrip s = .next (s.stopEngine 0x0A01 .stop).finish) ∧
    (∀ c, s.cyc.change = some c → s.cyc.state ≠ .hold →
      (∀ r, r < 5 → (s.run r).active = false) →
      exec .changeSwitch s = .next
        (let r := (s.advanceToNs c.at_).switchImage
         ((r.1.forEach (List.range 4) fun s k => s.modRun k fun x => { x with firstStart := c.at_, overruns := 0 }).endChange
           c r.2 c.at_).finish)) ∧
    (∀ img cfg, s.cyc.nor = some (img, cfg) → s.hasCycle = true → s.locked = true → s.cyc.state = .empty →
      exec .imageBootLoad s = .next
        (let s1 := s.modCyc fun c => c.withConfig cfg
         if (s1.verdict img).isSome then s
         else
           let s2 := (s1.modCyc fun c => { c with image := img, state := .stop }).restoreRetain
           if s2.cyc.autoRun then (s2.startTasks).modCyc fun c => { c with state := .run } else s2).finish)

/-- Packets of class TIME (13 R538 to R543, R576, R577): what each leaves when its fields are legal. Changes of the rate, steps
and the intervals of the PTP instance (13 R538 to R543): what each event leaves while it applies. -/
def Obligations.TimeCommandsComplete : Prop :=
  (
    ∀ (s : State) (p : Pkt),
      (s.Admits (.timeAdj p) p → incrOk (prm64 p 0) = true → prm32 p 8 ≤ 250000000 →
        (prm32 p 8 ≠ 0 → incrOk (prm64 p 12) = true) →
        exec (.timeAdj p) s = .next
          ((s.begun (.timeAdj p) p).modTime fun x => { x with changes := x.changes ++
            [({ ticket := s.ticketOf p, move := .incr (BitVec.ofNat 64 (prm64 p 0)) (prm32 p 8) (BitVec.ofNat 64 (prm64 p 12)),
                at_ := s.changeTick } : TimeChange)] }).rest) ∧
      (s.Admits (.timeStep p) p → prm p 0 = 0 → s.stepRefused = false →
        exec (.timeStep p) s = .next
          ((s.begun (.timeStep p) p).modTime fun x => { x with changes := x.changes ++
            [({ ticket := s.ticketOf p, move := .offset (BitVec.ofNat 64 (prm64 p 8)), at_ := s.changeTick } : TimeChange)] }).rest) ∧
      (s.Admits (.timeStep p) p → prm p 0 = 1 → prm32 p 16 ≤ 999999999 → s.stepRefused = false →
        exec (.timeStep p) s = .next
          ((s.begun (.timeStep p) p).modTime fun x => { x with changes := x.changes ++
            [({ ticket := s.ticketOf p, move := .set (BitVec.ofNat 64 (prm64 p 8)) (BitVec.ofNat 32 (prm32 p 16)),
                at_ := s.changeTick } : TimeChange)] }).rest) ∧
      (s.Admits (.timeSource p) p → prm p 0 ≤ 2 →
        exec (.timeSource p) s = .next
          (((s.begun (.timeSource p) p).takeSource (prm p 0)).ends (s.ticketOf p) .done).rest) ∧
      (s.Admits (.timePtpConfig p) p → ptpOk p = true →
        exec (.timePtpConfig p) s = .next
          ((((s.begun (.timePtpConfig p) p).modTime fun x => { x with
              ptp := some p.params, ptpInRow := 0, ptpSent := Vector.replicate 3 0,
              ptpNext := Vector.ofFn fun k => s.now + ptpInterval p.params k.val }).refreshLock).ends (s.ticketOf p) .done).rest) ∧
      (s.Admits (.timeStatus p) p →
        exec (.timeStatus p) s = .next
          ((s.begun (.timeStatus p) p).answer (s.ticketOf p)
            { r0 := s.timeCtrl, r1 := BitVec.ofInt 32 (limitI s.time.offset (-0x80000000) 0x7FFFFFFF), extra := lo32 s.incr }).rest)) ∧
  (
    ∀ s : State, s.awake = true →
      (∀ c v d after, s.firstChange TimeMove.isIncr = some c → c.move = .incr v d after →
        exec .incrChange s = .next
          (let s1 := { (s.durationBy c.at_).advanceTo c.at_ with incr := v }
           ((s1.modTime fun t => { t with
              changes := t.changes.erase c, duration := if d = 0 then none else some (c.at_ + 32 * d, after) }).doneAt c.ticket
                s1.dtbNs).finish)) ∧
      (∀ e v, s.time.duration = some (e, v) →
        exec .durationExpiry s = .next
          (({ s.advanceTo e with incr := v }).modTime fun t => { t with duration := none }).finish) ∧
      (∀ c o, (s.firstChange fun m => !m.isIncr) = some c → c.move = .offset o →
        (((s.durationBy c.at_).advanceTo c.at_).modTime fun t => { t with changes := t.changes.erase c }).stepRefused = false →
        exec .timeStepEffect s = .next
          (let s1 := ((s.durationBy c.at_).advanceTo c.at_).modTime fun t => { t with changes := t.changes.erase c }
           let s2 := s1.setDtb (((s1.ns : Int) + o.toInt) % (dtbModulus / 2 ^ 32 : Nat)).toNat
           (s2.doneAt c.ticket s2.dtbNs).finish)) ∧
      (∀ c sec ns, (s.firstChange fun m => !m.isIncr) = some c → c.move = .set sec ns →
        (((s.durationBy c.at_).advanceTo c.at_).modTime fun t => { t with changes := t.changes.erase c }).stepRefused = false →
        exec .timeStepEffect s = .next
          (let s1 := ((s.durationBy c.at_).advanceTo c.at_).modTime fun t => { t with changes := t.changes.erase c }
           let s2 := s1.setDtb (sec.toNat * 1000000000 + ns.toNat)
           (s2.doneAt c.ticket s2.dtbNs).finish)) ∧
      (∀ (kind : Fin 3) c, s.time.ptp = some c → byteAt c 2 ≠ 0 → (byteAt c 7 = 1 → kind = 2) →
        exec (.ptpSyncInterval kind) s = .next
          (let s1 := if kind = 2 then s else s.advanceTo (vget s.time.ptpNext kind)
           (s1.modTime fun t => { t with
             ptpSent := vmod t.ptpSent kind (· + 1), ptpNext := vset t.ptpNext kind (s1.now + ptpInterval c kind) }).finish)))

/-- Packets of class NET (13 R547 to R551, R577): what each leaves when its fields are legal. -/
def Obligations.NetPacketsComplete : Prop :=
  ∀ (s : State) (p : Pkt),
    (s.Admits (.netTx p) p → prm p 0 = p.target.toNat → prm p 1 ≤ 6 →
      exec (.netTx p) s = .next
        ((s.begun (.netTx p) p).modPort p.target.toNat fun x => { x with txq := x.txq ++
          [({ ticket := s.ticketOf p, cls := prm p 1, stamp := (prm p 2).testBit 0, length := p.len.toNat,
              bytes := p.payload, deadline := s.now + msSteps 10 } : TxWait)] }).rest) ∧
    (s.Admits (.netRx p) p → prm p 0 = p.target.toNat → (prm p 1 < 16 ∨ prm p 1 = 0xFF) →
      exec (.netRx p) s = .next
        ({ s.begun (.netRx p) p with netRx := s.netRx ++
          [({ ticket := s.ticketOf p, port := prm p 0, filter := prm p 1, room := p.len.toNat } : RxWait)] }).rest) ∧
    (s.Admits (.netFilter p) p → prm p 0 ≤ 1 → prm p 1 ≤ 3 →
      exec (.netFilter p) s = .next
        (let f : NetFilter := { en := decide (prm p 0 = 1), ports := prm p 1, addr := slice p.params 2 6,
                                mask := slice p.params 8 6, etype := prm16 p 14 }
         (({ s.begun (.netFilter p) p with filters := vset s.filters p.target.toNat f }).ends (s.ticketOf p) .done).rest)) ∧
    (∀ g : Gcl, s.Admits (.netGcl p) p → gclOk p = true → (s.port p.target.toNat).gclNext = none →
      g = { base := prm64 p 0, entries := gclEntries p } →
      exec (.netGcl p) s = .next
        ((s.begun (.netGcl p) p).modPort p.target.toNat fun x => { x with
          gclNext := some (s.ticketOf p, g, g.startFrom (s.ns + 1000000)) }).rest) ∧
    (∀ x, s.Admits (.netStatus p) p → s.port p.target.toNat = x →
      exec (.netStatus p) s = .next
        ((s.begun (.netStatus p) p).answer (s.ticketOf p)
          { r0 := word [((s.portState p.target.toNat).code, 0), (x.speed.toNat, 4), (sat8 (s.chan 5 p.target.toNat).bucket, 8),
                        (satCount x.discarded, 16)],
            r1 := word [(sat32 x.badFcs, 0)] }).rest)

/-- Frames, gate-control lists and links of the Ethernet ports (13 R455, R502, R544 to R554, R574): what each event leaves while
it applies. -/
def Obligations.NetEventsComplete : Prop :=
  ∀ (s : State) (port : Fin 2), s.awake = true →
    (∀ t g at_, (s.port port).gclNext = some (t, g, at_) →
      exec (.gclSwitch port) s = .next
        (let s1 := s.advanceToNs at_
         ((s1.modPort port fun x => ({ x with gcl := some g, gclNext := none }).place s1.ns).ends t .done).finish)) ∧
    ((s.port port).gcl ≠ none →
      exec (.gateControlEntry port) s = .next
        (let s1 := s.advanceToNs (s.port port).entryEnd
         (s1.modPort port fun x => x.place s1.ns).finish)) ∧
    (∀ bytes sec (ns : Word) sub, 64 ≤ bytes.length → bytes.length ≤ 1522 → ns.toNat < 1000000000 → s.portState port = .up →
      (let f := bytes.take (bytes.length - 4)
       let stamp := stampValue sec ns sub - latValue (s.rxLat port)
       (fcs f ≠ le bytes (bytes.length - 4) 4 → exec (.ethFrameReceived port bytes sec ns sub) s = .next
         (s.modPort port fun x => { x with badFcs := x.badFcs + 1 }).finish) ∧
       (fcs f = le bytes (bytes.length - 4) 4 → etypeOf f ≠ 0x8808 →
         (∀ n c, s.stationOf port f = some (n, c) → exec (.ethFrameReceived port bytes sec ns sub) s = .next
           (s.copyStation n c f (stamp / 65536)).finish) ∧
         (s.stationOf port f = none →
           (∀ o, s.ptpOf port f = some o → exec (.ethFrameReceived port bytes sec ns sub) s = .next (s.takePtp f o).finish) ∧
           (s.ptpOf port f = none →
             (∀ k, (List.range 16).find? (fun k => (vget s.filters k).matches port f) = some k →
               exec (.ethFrameReceived port bytes sec ns sub) s = .next (s.deliver port k f stamp).finish) ∧
             ((∀ k, k < 16 → (vget s.filters k).matches port f = false) →
               exec (.ethFrameReceived port bytes sec ns sub) s = .next (s.discardFrame port).finish)))))) ∧
    (∀ w sec (ns : Word) sub, ns.toNat < 1000000000 → s.portState port = .up → s.nextTx port = some w →
      exec (.frameTransmitted port sec ns sub) s = .next
        (let st := stampParts (stampValue sec ns sub + latValue (s.txLat port))
         let s1 := s.modPort port fun x => { x with txq := x.txq.erase w, sent := w.bytes ++ bytesOf 4 (fcs w.bytes) }
         (if w.stamp then
            s1.answer w.ticket { r0 := word [(w.length, 0)], extra := word [(st.2, 0), (port.val, 16)], stamp := some st.1 }
          else s1.answer w.ticket { r0 := word [(w.length, 0)] }).finish)) ∧
    (∀ w rest, (s.port port).txq = w :: rest →
      exec (.netTxTimeout port) s = .next
        (((s.advanceTo w.deadline).modPort port fun x => { x with txq := rest }).ends w.ticket .timedOut).finish) ∧
    (∀ up speed, s.portEn port = true →
      exec (.ethLinkChange port up speed) s = .next
        (let s1 := s.modPort port fun x => { x with link := up, speed := speed }
         (if (s.port port).link = up then s1 else s1.report 0x0C port (bit up)).dropStations.finish)) ∧
    (s.portState port = .up → exec (.ethPortUpset port) s = .next (s.detect 5 port).finish)

/-- Packets of class RING (13 R569 to R571, R576, R577): what each leaves when its fields are legal. -/
def Obligations.RingPacketsComplete : Prop :=
  ∀ (s : State) (p : Pkt),
    (s.Admits (.nrPublish p) p →
      exec (.nrPublish p) s = .next
        (((s.begun (.nrPublish p) p).modRing fun r => { r with data := slice p.params 0 22, seq := r.seq + 1 }).ends
          (s.ticketOf p) .done).rest) ∧
    (s.Admits (.nrTelemRead p) p → p.target.toNat = s.nodeId →
      exec (.nrTelemRead p) s = .next ((s.begun (.nrTelemRead p) p).answer (s.ticketOf p) { payload := s.ownRecord }).rest) ∧
    (s.Admits (.nrTelemRead p) p → p.target.toNat ≠ s.nodeId → (s.node p.target.toNat).heard = true →
      exec (.nrTelemRead p) s = .next
        ((s.begun (.nrTelemRead p) p).answer (s.ticketOf p) { payload := (s.node p.target.toNat).record }).rest) ∧
    (∀ lost, s.Admits (.nrSend p) p → (prm p 0 < 16 ∨ prm p 0 = 0xFF) →
      lost = decide (prm p 0 < 16 ∧ (s.node (prm p 0)).known = true ∧ (s.node (prm p 0)).heard = false) →
      exec (.nrSend p) s = .next
        ((s.begun (.nrSend p) p).modRing fun r => { r with
          sends := r.sends ++ [({ ticket := s.ticketOf p, dest := prm p 0, number := r.msgNo.toNat, bytes := p.payload, next := 0,
                                  deadline := none } : RingSend)],
          msgNo := r.msgNo + 1, wakes := if lost then r.wakes ++ [(prm p 0, 3)] else r.wakes }).rest) ∧
    (s.Admits (.nrRecv p) p →
      exec (.nrRecv p) s = .next
        ((s.begun (.nrRecv p) p).modRing fun r => { r with recvs := r.recvs ++ [s.ticketOf p] }).rest) ∧
    (∀ r mask, s.Admits (.nrStatus p) p → s.ring = r →
      mask = (numbers 16 fun n => (s.node n).heard).foldl (fun a n => a + 2 ^ n) 0 →
      exec (.nrStatus p) s = .next
        ((s.begun (.nrStatus p) p).answer (s.ticketOf p)
          { r0 := word [(r.state.code, 0), (bit r.aligned, 3), (bit r.master, 4), (bit r.split, 5), (r.masterId, 6), (mask, 16)],
            r1 := word [(satCount (vget r.delay 0), 0), (satCount (vget r.delay 1), 16)] }).rest)

/-- The ring cycle and the timers, relays and roles of a ring node (13 R556, R559, R562, R565 to R574): what each event leaves
while it applies. -/
def Obligations.RingEventsComplete : Prop :=
  ∀ s : State, s.awake = true →
    (s.ring.inserted = true →
      exec .ringCycle s = .next
        (let count := if s.ring.cycle < s.ns / 5000 ∧ s.ns % 5000 = 0 then s.ns / 5000 else s.ns / 5000 + 1
         let s1 := (s.advanceToNs (5000 * count)).modRing fun r => { r with cycle := count, sent := [] }
         let s2 := if s1.ring.master then s1.sendBoth (ringFrame 1 s1.nodeId 0 (s1.timePayload count)) else s1
         let s3 := s2.sendBoth (ringFrame 3 s2.nodeId 0 (s2.beatPayload count))
         let s4 := if count % 16 = s3.nodeId then s3.sendBoth (ringFrame 4 s3.nodeId 0 s3.ownRecord) else s3
         let s5 := s4.sendMirrorFrame count
         (if s5.ring.wakes ≠ [] then s5.sendOwed else s5.sendOwed.sendFragment).finish)) ∧
    (s.ring.inserted = true →
      exec .delayTimer s = .next
        (let s1 := s.advanceTo s.ring.reqDue
         let s2 := s1.modRing fun r => { r with reqAt := Vector.replicate 2 (some s1.now), reqDue := s1.now + msSteps 1 }
         (s2.sendBoth (delayFrameBytes s2 0 0)).finish)) ∧
    (∀ m d, s.ring.sends = [m] → m.deadline = some d →
      exec .nrSendTimeout s = .next
        ((((s.advanceTo d).modRing fun r => { r with sends := r.sends.erase m }).ends m.ticket .timedOut).finish)) ∧
    (∀ nb, exec (.ringFrameDiscard nb) s = .next (s.modRing fun r => { r with discards := r.discards + 1 }).finish) ∧
    (∀ node : Fin 16, (s.node node).heard = true → s.ring.inserted = true →
      exec (.nodeLost node) s = .next
        (let s1 := s.loseNode node
         (if s1.duplexInForce ∧ node.val = s1.partner then
            ((s1.modDpx fun d => { d with heard := false, partnerLost := true }).judgeStandby).startTakeover
          else s1).finish)) ∧
    (∀ at_, s.ring.noBetter = some at_ → s.ring.inserted = true → s.ringPrio < 0xFF → s.ring.master = false →
      exec .masterElection s = .next ((s.advanceTo (at_ + usSteps 20)).setMaster (s.advanceTo (at_ + usSteps 20)).nodeId).finish) ∧
    (∀ at_, s.ring.inSince = some at_ → s.ringFollower = true → s.ring.aligned = false →
      exec .alignedChange s = .next
        (((s.advanceTo (at_ + msSteps 1)).modRing fun r => { r with aligned := true }).refreshLock).finish) ∧
    (s.ring.inSince = none → s.ring.aligned = true → 8 * 65536 < Int.natAbs s.ring.offset →
      exec .alignedChange s = .next ((s.modRing fun r => { r with aligned := false }).refreshLock).finish) ∧
    (∀ nb, s.ring.state ≠ .off → s.isRetired 4 (bit nb) = false →
      exec (.ringPortUpset nb) s = .next
        ((s.modRing fun r => { r with
            retrain := vset r.retrain (bit nb) true, state := if r.state = .ring then .line else r.state,
            nodes := r.nodes.map fun (x : RingNode) => if nb then { x with hopsB := none } else { x with hopsA := none } }).detect
          4 (bit nb)).finish) ∧
    (s.ring.state = .loopback → s.ring.relays = false → s.ring.retryAt = none → 3 ≤ s.pwr.state.code →
      exec .ringRelaysEnergise s = .next
        (s.modRing fun r => { r with relays := true, insertBy := some (s.now + msSteps 10) }).finish) ∧
    (∀ closed st, s.ring.relays = true → s.ring.insertBy ≠ none →
      st = (if closed = true ∧ s.isRetired 4 0 = false ∧ s.isRetired 4 1 = false then RingState.ring else RingState.line) →
      exec (.ringInserted closed) s = .next
        (let s1 := s.modRing fun r => { r with
           state := st, closed := closed, insertBy := none, noBetter := some s.now, reqDue := s.now,
           retrain := Vector.replicate 2 false }
         (if s1.duplexInForce ∧ s.dpx.role = .none then s1.setDuplexRole .pairing else s1).finish)) ∧
    (∀ d, s.ring.insertBy = some d →
      exec .ringInsertTimeout s = .next
        (let s1 := (s.advanceTo d).dropRelays
         (s1.modRing fun r => { r with retryAt := some (s1.now + secSteps 1) }).finish)) ∧
    (∀ d, s.ring.retryAt = some d →
      exec .ringInsertRetry s = .next ((s.advanceTo d).modRing fun r => { r with retryAt := none }).finish)

/-- Frames received on the ring (13 R556 to R571, 14 R592, R595, R599, R600; 15 R630, R631): what each leaves at an awake node
that is inserted and did not send it, and what a WAKE frame does in WATCH. -/
def Obligations.RingFramesComplete : Prop :=
  ∀ (s : State) (nb : Bool) (src hops : BitVec 4),
    (∀ at_ (turn : BitVec 24), s.awake = true → vget s.ring.reqAt (bit nb) = some at_ →
      exec (.delayFrame nb true turn) s = .next
        (s.modRing fun r => { r with
          delay := vset r.delay (bit nb) ((s.now - at_ - turn.toNat / 32) / 2), reqAt := vset r.reqAt (bit nb) none }).finish) ∧
    (∀ turn : BitVec 24, s.awake = true →
      exec (.delayFrame nb false turn) s = .next
        ((s.draw 71 (2 ^ 24)).2.sendOn nb (delayFrameBytes s 1 (s.draw 71 (2 ^ 24)).1)).finish) ∧
    (∀ payload : List Byte, s.awake = true → s.ring.inserted = true → src.toNat ≠ s.nodeId → payload.length = 24 →
      exec (.timeFrame nb src hops payload) s = .next
        (let m := byteAt payload 15 % 16
         let link := vget s.ring.delay (bit nb) * 8192
         let corr := signed 64 (le payload 16 8)
         let s1 := (s.draw 70 (200 * 65536 + 1)).2.forward nb 1 src.toNat hops.toNat
           (slice payload 0 16 ++ bytesOfInt 8 (corr + (s.draw 70 (200 * 65536 + 1)).1 + link))
         let s2 := s1.modNode m fun n => { n with
           hopsA := if nb then n.hopsA else some hops.toNat, hopsB := if nb then some hops.toNat else n.hopsB }
         if s2.ringFollower = false ∨ m ≠ s2.ring.masterId ∨ s2.byNb m ≠ nb then s2.finish
         else
           let master : Int := ((le payload 0 8 * 1000000000 + le payload 8 4) * 65536 + le payload 12 2 : Nat) + corr + link
           let off : Int := (s2.dtb / 65536 : Nat) - master
           let s3 := (s2.modRing fun r => r.judge off s2.now).modTime fun t => { t with offset := off / 65536 }
           ((s3.ringServo off).refreshLock).finish)) ∧
    (∀ payload : List Byte, s.awake = true → s.ring.inserted = true → src.toNat ≠ s.nodeId → payload.length = 6 →
      exec (.heartbeatFrame nb src hops payload) s = .next
        (let s1 := (s.forward nb 3 src.toNat hops.toNat payload).heardBeat nb src.toNat hops.toNat payload
         (if s1.duplexInForce ∧ src.toNat = s1.partner then s1.partnerBeat payload else s1).finish)) ∧
    (∀ record : List Byte, s.awake = true → s.ring.inserted = true → src.toNat ≠ s.nodeId → record.length = 32 →
      exec (.telemetryFrame nb src hops record) s = .next
        (let s1 := s.forward nb 4 src.toNat hops.toNat record
         let s2 := s1.modNode src.toNat fun x => { x with record := record }
         (if le record 8 2 ≠ le (s.node src.toNat).record 8 2 then s2.report 0x0D src.toNat 3 else s2).finish)) ∧
    (∀ payload : List Byte, s.awake = true → s.ring.inserted = true → src.toNat ≠ s.nodeId → payload.length = 640 →
      (s.duplexInForce = false ∨ src.toNat ≠ s.partner) →
      exec (.mirrorFrame nb src hops payload) s = .next (s.forward nb 5 src.toNat hops.toNat payload).finish) ∧
    (∀ payload : List Byte, s.awake = true → s.ring.inserted = true → src.toNat ≠ s.nodeId → payload.length = 640 →
      s.duplexInForce = true → src.toNat = s.partner → s.ns / 5000 % 2 = 0 →
      exec (.mirrorFrame nb src hops payload) s = .next
        (((s.takeMirror (slice payload 0 256)).takeMirror (slice payload 256 256)).modDpx fun d =>
          { d with heardHalf := slice payload 512 128 }).finish) ∧
    (∀ payload : List Byte, s.awake = true → s.ring.inserted = true → src.toNat ≠ s.nodeId → payload.length = 640 →
      s.duplexInForce = true → src.toNat = s.partner → s.ns / 5000 % 2 = 1 →
      exec (.mirrorFrame nb src hops payload) s = .next
        (let s1 := s.modDpx fun d => { d with heardHalf := [] }
         let s2 := if s.dpx.heardHalf = [] then s1 else s1.takeMirror (s.dpx.heardHalf ++ slice payload 0 128)
         ((s2.takeMirror (slice payload 128 256)).takeMirror (slice payload 384 256)).finish)) ∧
    (∀ payload : List Byte, s.awake = true → s.ring.inserted = true → src.toNat ≠ s.nodeId →
      7 ≤ payload.length → payload.length ≤ 262 → byteAt payload 0 ≠ s.nodeId → byteAt payload 0 ≠ 0xFF →
      exec (.fragmentFrame nb src hops payload) s = .next (s.forward nb 6 src.toNat hops.toNat payload).finish) ∧
    (∀ payload : List Byte, s.awake = true → s.ring.inserted = true → src.toNat ≠ s.nodeId →
      7 ≤ payload.length → payload.length ≤ 262 → byteAt payload 0 = s.nodeId → fragmentOk payload = true →
      exec (.fragmentFrame nb src hops payload) s = .next
        (let a := (s.forward nb 6 src.toNat hops.toNat payload).assemble src.toNat payload
         (match a.2.1 with
          | some bs => (a.1.wholeMessage src.toNat bs).1.oweAck src.toNat (byteAt payload 1) (a.1.wholeMessage src.toNat bs).2
          | none => if a.2.2 then a.1.oweAck src.toNat (byteAt payload 1) 2 else a.1).finish)) ∧
    (∀ payload : List Byte, s.awake = true → s.ring.inserted = true → src.toNat ≠ s.nodeId →
      7 ≤ payload.length → payload.length ≤ 262 → byteAt payload 0 = 0xFF → fragmentOk payload = true →
      exec (.fragmentFrame nb src hops payload) s = .next
        (let a := (s.forward nb 6 src.toNat hops.toNat payload).assemble src.toNat payload
         (match a.2.1 with
          | some bs => (a.1.wholeMessage src.toNat bs).1
          | none => a.1).finish)) ∧
    (∀ dest msg result : Byte, s.awake = true → s.ring.inserted = true → src.toNat ≠ s.nodeId → dest.toNat ≠ s.nodeId →
      exec (.ringAckFrame nb src hops dest msg result) s = .next
        (s.forward nb 7 src.toNat hops.toNat [dest, msg, result]).finish) ∧
    (∀ (dest msg result : Byte) m, s.awake = true → s.ring.inserted = true → src.toNat ≠ s.nodeId → dest.toNat = s.nodeId →
      s.ring.sends = [m] → m.dest = src.toNat → m.number = msg.toNat → m.deadline ≠ none →
      exec (.ringAckFrame nb src hops dest msg result) s = .next
        (((s.forward nb 7 src.toNat hops.toNat [dest, msg, result]).modRing fun r => { r with sends := r.sends.erase m }).ends
          m.ticket (if result = 0 then .done else .busyRetry)).finish) ∧
    (∀ target : Byte, s.awake = true →
      exec (.wakeFrame nb src hops target) s = .next
        (s.forward nb 8 src.toNat hops.toNat [target]).onward) ∧
    (∀ target : Byte, s.resetN = true → s.pwr.state = .watch → target.toNat ≠ s.nodeId → target ≠ 0xFF →
      exec (.wakeFrame nb src hops target) s = .next
        (s.sendOn (!nb) (ringFrame 8 src.toNat hops.toNat [target])).onward) ∧
    (∀ target : Byte, s.resetN = true → s.pwr.state = .watch → (target.toNat = s.nodeId ∨ target = 0xFF) →
      exec (.wakeFrame nb src hops target) s = .next
        (let s1 := s.sendOn (!nb) (ringFrame 8 src.toNat hops.toNat [target])
         State.onward ((s1.boot 2 4).modPwr fun p => { p with wokeAt := some s1.aonCycle })))

/-- Pairing, handover and takeover (14 R592, R595, R602 to R608): what each event leaves while it applies. -/
def Obligations.DuplexEventsComplete : Prop :=
  ∀ s : State, s.awake = true →
    (s.dpx.role = .pairing → ¬ (s.dpx.partnerRole = .active ∧ s.dpx.heard = true) → s.inputB = false →
      exec .pairingTimeout s = .next
        ((s.advanceTo (s.dpx.pairSince + msSteps 100)).setDuplexRole .active).judgeStandby.finish) ∧
    (s.dpx.role = .pairing → s.dpx.partnerRole = .active →
      exec .stateTransferDone s = .next ((s.setDuplexRole .standby).judgeStandby).finish) ∧
    (∀ (qp : Fin 16) tag h, s.dpx.held = [h] → h.1.qp = qp →
      (s.qp qp).flights.any (fun (f : Flight) => decide (f.id = h.1.id) && decide (f.pkt.tag = tag)) = true →
      exec (.forwardTimeout qp tag) s = .next
        (let s1 := (s.advanceTo h.2.2).modDpx fun d => { d with
           held := d.held.erase h, forwarded := d.forwarded.filter fun (p : Ticket × Option Nat) => p.1 ≠ h.1, outOfStep := true }
         ((s1.answerNow h.1 h.2.1).judgeStandby).finish)) ∧
    (∀ (b : Fin 8) h, (s.bridge b).handover = some h → s.dpx.role = .standby → h.claimed = false →
      exec (.handoverCommit b) s = .next
        (let s1 := (s.advanceTo h.c1).modPwm b fun w => if w.shadow.requested.isSome then w.transfer else w
         let s2 := s1.modDpx fun d => { d with claims := d.claims ||| BitVec.ofNat 8 (2 ^ b.val) }
         ((s2.runMirrored b).modB b fun br => { br with
           handover := some { h with claimed := true }, dutyFrom := h.th + usSteps 2 }).finish)) ∧
    (∀ (b : Fin 8) h, (s.bridge b).handover = some h → h.claimed = true →
      exec (.handoverOwn b) s = .next
        (if s.dpx.role = .standby then (s.advanceTo h.th).modB b fun br => { br with own := true }
         else (s.advanceTo (h.th + 800)).modB b fun br => { br with own := false }).finish) ∧
    (∀ td, s.dpx.handover = some (td, none) → s.dpx.partnerClaims = 0 → s.dpx.switchBy = none →
      exec .handoverAbandon s = .next
        (let s1 := s.advanceTo (td + msSteps 1)
         let s2 := s1.forEach s1.duplexedBridges fun u b =>
           (u.modB b fun br => { br with handover := none }).forEach (u.linksOf b) fun v g =>
             v.modLink g fun l => { l with frozen := false }
         (s2.modDpx fun d => { d with handover := none, switchBy := none }).finish)) ∧
    (∀ td t, s.dpx.handover = some (td, none) → s.dpx.partnerClaims = 0 → s.dpx.switchBy = some t →
      exec .handoverAbandon s = .next
        (let s1 := s.advanceTo (td + msSteps 1)
         let s2 := s1.forEach s1.duplexedBridges fun u b =>
           (u.modB b fun br => { br with handover := none }).forEach (u.linksOf b) fun v g =>
             v.modLink g fun l => { l with frozen := false }
         ((s2.modDpx fun d => { d with handover := none, switchBy := none }).ends t .timedOut).finish)) ∧
    (∀ (g : Fin 24) b at_ st, s.dpx.takeoverAt = some at_ → s.ownerOf g = some b → s.duplexed b = true →
      (s.link g).status = some st → st.status.getLsbD 7 ≠ s.inputB →
      exec (.standDown g) s = .next
        (let s1 := s.advanceTo (at_ + usSteps 100)
         let s2 := s1.forEach s1.duplexedBridges fun u c =>
           match (u.bridge c).defn with | some d => u.drivePattern c d.safe false 0 | none => u
         let s3 := s2.modDpx fun d => { d with takeover := [], takeoverAt := none }
         ((s3.setDuplexRole .pairing).logEntry 7 3 g 0 0 0 0).finish))

/-- Firmware banks, the calibration set and service threads (16 R653 to R665, R671): what each packet leaves when its fields are
legal. What an image's or a blob's signature says is not for the model to know, so both outcomes stand. The write to NOR whose
turn it is ends (16 R651 to R666): firmware, calibration, a service image, a program image, and a write whose read-back fails.
-/
def Obligations.ServiceCommandsComplete : Prop :=
  (
    ∀ (s : State) (p : Pkt),
      (s.Admits (.fwLoad p) p → prm32 p 0 = 0 → p.len.toNat ≤ fwMax →
        exec (.fwLoad p) s = .next
          (((s.begun (.fwLoad p) p).modBank s.inactive fun _ => { state := .loading }).queueNor
            (.fwLoad (s.ticketOf p) s.inactive 0 p.payload)).rest) ∧
      (s.Admits (.fwLoad p) p → prm32 p 0 ≠ 0 → prm32 p 0 % 64 = 0 → prm32 p 0 + p.len.toNat ≤ fwMax →
        (s.bank s.inactive).state = .loading →
        exec (.fwLoad p) s = .next
          ((s.begun (.fwLoad p) p).queueNor (.fwLoad (s.ticketOf p) s.inactive (prm32 p 0) p.payload)).rest) ∧
      (∀ h, s.Admits (.fwVerify p) p → s.loadsQueued = false → Config.fwHeader (s.bank s.inactive).image = h →
        exec (.fwVerify p) s = .next
          (if h.2.2 = true ∧ s.svcs.secCounter ≤ h.2.1 then
             ((s.begun (.fwVerify p) p).modBank s.inactive fun b => { b with state := .verified }).answer (s.ticketOf p)
               { r0 := word [(h.1 % 2 ^ 32, 0)], r1 := word [(h.2.1 % 65536, 0)] }
           else ((s.begun (.fwVerify p) p).modBank s.inactive fun b => { b with state := .invalid }).ends (s.ticketOf p)
             .authFailed).rest) ∧
      (s.Admits (.fwActivate p) p → prm p 0 ≤ 1 →
        (prm p 0 = 1 → s.dpx.role = .standby ∨ s.dpx.role = .relinquished ∨
          s.bridges.toList.any (fun b => b.state.beyondArmed) = false) →
        exec (.fwActivate p) s = .next
          ((s.begun (.fwActivate p) p).queueNor (.fwActivate (s.ticketOf p) s.inactive (decide (prm p 0 = 1)))).rest) ∧
      (s.Admits (.fwConfirm p) p →
        exec (.fwConfirm p) s = .next ((s.begun (.fwConfirm p) p).queueNor (.fwConfirm (s.ticketOf p))).rest) ∧
      (s.Admits (.fwStatus p) p →
        exec (.fwStatus p) s = .next
          ((s.begun (.fwStatus p) p).answer (s.ticketOf p)
            { r0 := word [((s.bank 0).state.code, 0), ((s.bank 1).state.code, 4), (s.svcs.running.val, 8),
                          (satCount s.svcs.secCounter, 16)],
              r1 := word [((s.bank s.svcs.running.val).version, 0)], extra := word [((s.bank s.inactive).version, 0)] }).rest) ∧
      (s.Admits (.calWrite p) p → 1 ≤ prm16 p 2 → prm16 p 0 + prm16 p 2 ≤ 152 → p.len.toNat = pad64 (2 * prm16 p 2) →
        (∀ e ∈ (wordsOf p.payload (prm16 p 2)).zipIdx, calEntryOk (prm16 p 0 + e.2) e.1 = true) →
        (∀ n, n < 48 → (s.slot n).state = .recal →
          ¬ (prm16 p 0 ≤ n ∧ n < prm16 p 0 + prm16 p 2) ∧ ¬ (prm16 p 0 ≤ 0x30 + n ∧ 0x30 + n < prm16 p 0 + prm16 p 2)) →
        exec (.calWrite p) s = .next
          ((s.begun (.calWrite p) p).queueNor (.cal (s.ticketOf p) (prm16 p 0)
            ((wordsOf p.payload (prm16 p 2)).map fun (v : Nat) => BitVec.ofNat 16 v))).rest) ∧
      (s.Admits (.calRead p) p →
        exec (.calRead p) s = .next
          ((s.begun (.calRead p) p).answer (s.ticketOf p)
            { r0 := s.calCrc, r1 := word [(bit s.svcs.calBad, 0), (bit s.calFactory, 1)], payload := s.calBytes }).rest) ∧
      (s.Admits (.calExport p) p →
        exec (.calExport p) s = .next
          (let body := bytesOf 2 1 ++ bytesOf 2 152 ++ bytesOf 8 s.serial.toNat ++ bytesOf 8 s.dtbNs.toNat
             ++ bytesOf 4 s.calCrc.toNat ++ bytesOf 8 0 ++ s.calBytes
           ((s.begun (.calExport p) p).answer (s.ticketOf p) { payload := body ++ slice (Config.deviceSign body) 0 64 }).rest)) ∧
      (s.Admits (.calImport p) p →
        exec (.calImport p) s = .next
          (if Config.deviceVerify (slice p.payload 0 336) (slice p.payload 336 64) = true ∧ le p.payload 4 8 = s.serial.toNat then
             (s.begun (.calImport p) p).calWrite (s.ticketOf p) 0 (wordsOf (slice p.payload 32 304) 152)
           else (s.begun (.calImport p) p).ends (s.ticketOf p) .authFailed).rest) ∧
      (s.Admits (.svcLoad p) p → prm p 0 ≤ 3 → prm p 1 ≤ 1 → prm32 p 4 + p.len.toNat ≤ 2 ^ 20 →
        s.threadsOn (prm p 0) (fun x => x = .ready || x = .running) = [] →
        exec (.svcLoad p) s = .next
          ((if prm32 p 4 = 0 then (s.begun (.svcLoad p) p).eraseSlot (prm p 0) else s.begun (.svcLoad p) p).queueNor
            (.svc (s.ticketOf p) (prm p 0) (prm32 p 4) p.payload (decide (prm p 1 = 1)))).rest)) ∧
  (
    ∀ s : State, s.awake = true →
      (∀ w rest, s.svcs.norQueue = w :: rest → w ≠ .profile → w ≠ .block → (∀ t k, w ≠ .fwActivate t k true) →
        exec (.norWriteDone true) s = .next ((s.modSvc fun v => { v with norQueue := rest }).norDone w).finish) ∧
      (∀ w rest t, s.svcs.norQueue = w :: rest → w.ticket = some t →
        exec (.norWriteDone false) s = .next
          (((s.modSvc fun v => { v with norQueue := rest }).ends t .internalFault).finish)) ∧
      (∀ t k off bs rest, s.svcs.norQueue = .fwLoad t k off bs :: rest →
        exec (.norWriteDone true) s = .next
          (((s.modSvc fun v => { v with norQueue := rest }).modBank k fun b =>
            if off = 0 then { state := .loading, image := patch [] 0 bs } else { b with image := patch b.image off bs }).ends t
            .done).finish) ∧
      (∀ t first es rest, s.svcs.norQueue = .cal t first es :: rest →
        exec (.norWriteDone true) s = .next
          (let s1 := es.zipIdx.foldl (fun (u : State) (e : Half × Nat) => u.calPut (first + e.2) e.1.toNat)
             (s.modSvc fun v => { v with norQueue := rest })
           (s1.answer t { r0 := s1.calCrc }).finish)))
end

