-- ==== Sys2Proof/Laws/Units.lean ====
section
/-! SUPPORT. Laws of fixed unit sets and of canonical cell lists. -/

namespace Sys2Proof.Machine

/-! ### Fixed unit sets -/

theorem vget_lt {α : Type} {n : Nat} [Inhabited α] (v : Vector α n) {k : Nat} (h : k < n) : vget v k = v[k] := by
  simp [vget, h]

@[simp] theorem vget_vset_same {α : Type} {n : Nat} [Inhabited α] (v : Vector α n) {k : Nat} (x : α) (h : k < n) :
    vget (vset v k x) k = x := by
  simp [vget, vset, h]

@[simp] theorem vget_vset_other {α : Type} {n : Nat} [Inhabited α] (v : Vector α n) {j k : Nat} (x : α) (h : j ≠ k) :
    vget (vset v k x) j = vget v j := by
  by_cases hj : j < n <;> by_cases hk : k < n <;> simp [vget, vset, hj, hk, Ne.symm h]

@[simp] theorem vget_vmod_same {α : Type} {n : Nat} [Inhabited α] (v : Vector α n) {k : Nat} (f : α → α) (h : k < n) :
    vget (vmod v k f) k = f (vget v k) := by
  simp [vmod, h]

@[simp] theorem vget_vmod_other {α : Type} {n : Nat} [Inhabited α] (v : Vector α n) {j k : Nat} (f : α → α) (h : j ≠ k) :
    vget (vmod v k f) j = vget v j := by
  simp [vmod, h]

theorem vmod_vmod {α : Type} {n : Nat} [Inhabited α] (v : Vector α n) (k : Nat) (f g : α → α) :
    vmod (vmod v k f) k g = vmod v k (fun x => g (f x)) := by
  by_cases h : k < n
  · simp [vmod, vset, vget, h]
  · simp [vmod, vset, h]

/-! ### Canonical cell lists -/

theorem cellsFrom_mono {d lo hi : Nat} {m : Cells} (h : cellsFrom d hi m = true) (hl : lo ≤ hi) : cellsFrom d lo m = true := by
  cases m with
  | nil => rfl
  | cons c m =>
    simp only [cellsFrom, Bool.and_eq_true, decide_eq_true_eq] at h ⊢
    exact ⟨⟨by omega, h.1.2⟩, h.2⟩

/-- A store keeps the list canonical from any bound below its address. -/
theorem cellPut_from {d lo a v : Nat} {m : Cells} (h : cellsFrom d lo m = true) (hl : lo ≤ a) :
    cellsFrom d lo (cellPut d a v m) = true := by
  induction m generalizing lo with
  | nil =>
    unfold cellPut
    split <;> simp_all [cellsFrom]
  | cons c m ih =>
    obtain ⟨k, w⟩ := c
    simp only [cellsFrom, Bool.and_eq_true, decide_eq_true_eq] at h
    unfold cellPut
    split
    · split
      · simp only [cellsFrom, Bool.and_eq_true, decide_eq_true_eq]; exact h
      · simp only [cellsFrom, Bool.and_eq_true, decide_eq_true_eq]
        refine ⟨⟨hl, by assumption⟩, ⟨by omega, h.1.2⟩, h.2⟩
    · split
      · subst_vars
        split
        · exact cellsFrom_mono h.2 (by omega)
        · simp only [cellsFrom, Bool.and_eq_true, decide_eq_true_eq]
          exact ⟨⟨h.1.1, by assumption⟩, h.2⟩
      · simp only [cellsFrom, Bool.and_eq_true, decide_eq_true_eq]
        exact ⟨h.1, ih h.2 (by omega)⟩

/-- Every store keeps the canonical form. -/
theorem cellPut_wf {d a v : Nat} {m : Cells} (h : Memory.wf d m = true) : Memory.wf d (cellPut d a v m) = true :=
  cellPut_from h (Nat.zero_le a)

/-- Writing a run of values keeps the canonical form. -/
theorem cellsWrite_wf {d a : Nat} {vs : List Nat} {m : Cells} (h : Memory.wf d m = true) :
    Memory.wf d (cellsWrite d a vs m) = true := by
  unfold cellsWrite
  induction vs generalizing a m with
  | nil => exact h
  | cons v vs ih => exact ih (cellPut_wf h)

/-- Below a list's bound everything reads as the default. -/
theorem cellGet_below {d lo a : Nat} {m : Cells} (h : cellsFrom d lo m = true) (ha : a < lo) : cellGet d a m = d := by
  cases m with
  | nil => rfl
  | cons c m =>
    simp only [cellsFrom, Bool.and_eq_true, decide_eq_true_eq] at h
    unfold cellGet
    split
    · omega
    · split
      · rfl
      · omega

/-- A cell stored is read back. -/
theorem cellGet_cellPut_same {d lo a v : Nat} {m : Cells} (h : cellsFrom d lo m = true) : cellGet d a (cellPut d a v m) = v := by
  induction m generalizing lo with
  | nil =>
    unfold cellPut
    split <;> simp_all [cellGet]
  | cons c m ih =>
    obtain ⟨k, w⟩ := c
    simp only [cellsFrom, Bool.and_eq_true, decide_eq_true_eq] at h
    unfold cellPut
    split
    · split
      · subst_vars; unfold cellGet; split
        · omega
        · simp [*]
      · simp [cellGet]
    · split
      · split
        · subst_vars; exact cellGet_below h.2 (by omega)
        · simp [cellGet]
      · unfold cellGet
        rw [if_neg (by assumption), if_neg (by assumption)]
        exact ih h.2

/-- Every other cell reads as before. -/
theorem cellGet_cellPut_other {d lo a b v : Nat} {m : Cells} (h : cellsFrom d lo m = true) (hab : b ≠ a) :
    cellGet d b (cellPut d a v m) = cellGet d b m := by
  induction m generalizing lo with
  | nil =>
    unfold cellPut
    split
    · rfl
    · simp only [cellGet]; split <;> (try split) <;> first | rfl | omega
  | cons c m ih =>
    obtain ⟨k, w⟩ := c
    simp only [cellsFrom, Bool.and_eq_true, decide_eq_true_eq] at h
    unfold cellPut
    split
    · split
      · rfl
      · conv_lhs => unfold cellGet
        split
        · omega
        · split
          · symm; exact cellGet_below (lo := b + 1) (by simp only [cellsFrom, Bool.and_eq_true, decide_eq_true_eq]; exact ⟨⟨by omega, h.1.2⟩, h.2⟩) (by omega)
          · rfl
    · split
      · subst_vars
        split
        · simp only [cellGet]
          rw [if_neg hab]
          split
          · exact cellGet_below h.2 (by omega)
          · rfl
        · simp only [cellGet]; split
          · omega
          · rfl
      · simp only [cellGet]
        split
        · rfl
        · split
          · rfl
          · exact ih h.2

end Sys2Proof.Machine
end

