-- ==== Sys2Proof/Laws/State.lean ====
section
/-! SUPPORT. One lemma per field per update of the state, true by rfl, and what each unit update does to the unit it names. -/

namespace Sys2Proof.Machine

variable (s : State)

/-! ### `modQp` -/

@[simp] theorem State.modQp_pending (k : Nat) (f : QueuePair → QueuePair) : (s.modQp k f).pending = s.pending := rfl
@[simp] theorem State.modQp_now (k : Nat) (f : QueuePair → QueuePair) : (s.modQp k f).now = s.now := rfl
@[simp] theorem State.modQp_nextId (k : Nat) (f : QueuePair → QueuePair) : (s.modQp k f).nextId = s.nextId := rfl
@[simp] theorem State.modQp_freeSeed (k : Nat) (f : QueuePair → QueuePair) : (s.modQp k f).freeSeed = s.freeSeed := rfl
@[simp] theorem State.modQp_lastRead (k : Nat) (f : QueuePair → QueuePair) : (s.modQp k f).lastRead = s.lastRead := rfl
@[simp] theorem State.modQp_variant (k : Nat) (f : QueuePair → QueuePair) : (s.modQp k f).variant = s.variant := rfl
@[simp] theorem State.modQp_serial (k : Nat) (f : QueuePair → QueuePair) : (s.modQp k f).serial = s.serial := rfl
@[simp] theorem State.modQp_stepping (k : Nat) (f : QueuePair → QueuePair) : (s.modQp k f).stepping = s.stepping := rfl
@[simp] theorem State.modQp_dtb (k : Nat) (f : QueuePair → QueuePair) : (s.modQp k f).dtb = s.dtb := rfl
@[simp] theorem State.modQp_incr (k : Nat) (f : QueuePair → QueuePair) : (s.modQp k f).incr = s.incr := rfl
@[simp] theorem State.modQp_regs (k : Nat) (f : QueuePair → QueuePair) : (s.modQp k f).regs = s.regs := rfl
@[simp] theorem State.modQp_inForce (k : Nat) (f : QueuePair → QueuePair) : (s.modQp k f).inForce = s.inForce := rfl
@[simp] theorem State.modQp_lockWritten (k : Nat) (f : QueuePair → QueuePair) : (s.modQp k f).lockWritten = s.lockWritten := rfl
@[simp] theorem State.modQp_locked (k : Nat) (f : QueuePair → QueuePair) : (s.modQp k f).locked = s.locked := rfl
@[simp] theorem State.modQp_gpioErr (k : Nat) (f : QueuePair → QueuePair) : (s.modQp k f).gpioErr = s.gpioErr := rfl
@[simp] theorem State.modQp_gpioLevel (k : Nat) (f : QueuePair → QueuePair) : (s.modQp k f).gpioLevel = s.gpioLevel := rfl
@[simp] theorem State.modQp_linkUp (k : Nat) (f : QueuePair → QueuePair) : (s.modQp k f).linkUp = s.linkUp := rfl
@[simp] theorem State.modQp_linkRate (k : Nat) (f : QueuePair → QueuePair) : (s.modQp k f).linkRate = s.linkRate := rfl
@[simp] theorem State.modQp_linkWidth (k : Nat) (f : QueuePair → QueuePair) : (s.modQp k f).linkWidth = s.linkWidth := rfl
@[simp] theorem State.modQp_busMaster (k : Nat) (f : QueuePair → QueuePair) : (s.modQp k f).busMaster = s.busMaster := rfl
@[simp] theorem State.modQp_vectors (k : Nat) (f : QueuePair → QueuePair) : (s.modQp k f).vectors = s.vectors := rfl
@[simp] theorem State.modQp_pba (k : Nat) (f : QueuePair → QueuePair) : (s.modQp k f).pba = s.pba := rfl
@[simp] theorem State.modQp_barriers (k : Nat) (f : QueuePair → QueuePair) : (s.modQp k f).barriers = s.barriers := rfl
@[simp] theorem State.modQp_waits (k : Nat) (f : QueuePair → QueuePair) : (s.modQp k f).waits = s.waits := rfl
@[simp] theorem State.modQp_events (k : Nat) (f : QueuePair → QueuePair) : (s.modQp k f).events = s.events := rfl
@[simp] theorem State.modQp_lostEvents (k : Nat) (f : QueuePair → QueuePair) : (s.modQp k f).lostEvents = s.lostEvents := rfl
@[simp] theorem State.modQp_reinst (k : Nat) (f : QueuePair → QueuePair) : (s.modQp k f).reinst = s.reinst := rfl
@[simp] theorem State.modQp_bridges (k : Nat) (f : QueuePair → QueuePair) : (s.modQp k f).bridges = s.bridges := rfl
@[simp] theorem State.modQp_gfes (k : Nat) (f : QueuePair → QueuePair) : (s.modQp k f).gfes = s.gfes := rfl
@[simp] theorem State.modQp_lcs (k : Nat) (f : QueuePair → QueuePair) : (s.modQp k f).lcs = s.lcs := rfl
@[simp] theorem State.modQp_pwms (k : Nat) (f : QueuePair → QueuePair) : (s.modQp k f).pwms = s.pwms := rfl
@[simp] theorem State.modQp_trips (k : Nat) (f : QueuePair → QueuePair) : (s.modQp k f).trips = s.trips := rfl
@[simp] theorem State.modQp_links (k : Nat) (f : QueuePair → QueuePair) : (s.modQp k f).links = s.links := rfl
@[simp] theorem State.modQp_slots (k : Nat) (f : QueuePair → QueuePair) : (s.modQp k f).slots = s.slots := rfl
@[simp] theorem State.modQp_dsm (k : Nat) (f : QueuePair → QueuePair) : (s.modQp k f).dsm = s.dsm := rfl
@[simp] theorem State.modQp_pugTimers (k : Nat) (f : QueuePair → QueuePair) : (s.modQp k f).pugTimers = s.pugTimers := rfl
@[simp] theorem State.modQp_poss (k : Nat) (f : QueuePair → QueuePair) : (s.modQp k f).poss = s.poss := rfl
@[simp] theorem State.modQp_recal (k : Nat) (f : QueuePair → QueuePair) : (s.modQp k f).recal = s.recal := rfl
@[simp] theorem State.modQp_caps (k : Nat) (f : QueuePair → QueuePair) : (s.modQp k f).caps = s.caps := rfl
@[simp] theorem State.modQp_armWaits (k : Nat) (f : QueuePair → QueuePair) : (s.modQp k f).armWaits = s.armWaits := rfl
@[simp] theorem State.modQp_forceWaits (k : Nat) (f : QueuePair → QueuePair) : (s.modQp k f).forceWaits = s.forceWaits := rfl
@[simp] theorem State.modQp_sag (k : Nat) (f : QueuePair → QueuePair) : (s.modQp k f).sag = s.sag := rfl
@[simp] theorem State.modQp_resetN (k : Nat) (f : QueuePair → QueuePair) : (s.modQp k f).resetN = s.resetN := rfl
@[simp] theorem State.modQp_flt (k : Nat) (f : QueuePair → QueuePair) : (s.modQp k f).flt = s.flt := rfl
@[simp] theorem State.modQp_dpx (k : Nat) (f : QueuePair → QueuePair) : (s.modQp k f).dpx = s.dpx := rfl
@[simp] theorem State.modQp_wheel (k : Nat) (f : QueuePair → QueuePair) : (s.modQp k f).wheel = s.wheel := rfl
@[simp] theorem State.modQp_cyc (k : Nat) (f : QueuePair → QueuePair) : (s.modQp k f).cyc = s.cyc := rfl
@[simp] theorem State.modQp_svcs (k : Nat) (f : QueuePair → QueuePair) : (s.modQp k f).svcs = s.svcs := rfl
@[simp] theorem State.modQp_time (k : Nat) (f : QueuePair → QueuePair) : (s.modQp k f).time = s.time := rfl
@[simp] theorem State.modQp_ports (k : Nat) (f : QueuePair → QueuePair) : (s.modQp k f).ports = s.ports := rfl
@[simp] theorem State.modQp_netRx (k : Nat) (f : QueuePair → QueuePair) : (s.modQp k f).netRx = s.netRx := rfl
@[simp] theorem State.modQp_filters (k : Nat) (f : QueuePair → QueuePair) : (s.modQp k f).filters = s.filters := rfl
@[simp] theorem State.modQp_ring (k : Nat) (f : QueuePair → QueuePair) : (s.modQp k f).ring = s.ring := rfl
@[simp] theorem State.modQp_dbg (k : Nat) (f : QueuePair → QueuePair) : (s.modQp k f).dbg = s.dbg := rfl
@[simp] theorem State.modQp_pwr (k : Nat) (f : QueuePair → QueuePair) : (s.modQp k f).pwr = s.pwr := rfl
@[simp] theorem State.modQp_localRing (k : Nat) (f : QueuePair → QueuePair) : (s.modQp k f).localRing = s.localRing := rfl

@[simp] theorem State.modQp_qp_same {k : Nat} (f : QueuePair → QueuePair) (h : k < 16) : (s.modQp k f).qp k = f (s.qp k) :=
  vget_vmod_same s.qps f h
@[simp] theorem State.modQp_qp_other {j k : Nat} (f : QueuePair → QueuePair) (h : j ≠ k) : (s.modQp k f).qp j = s.qp j :=
  vget_vmod_other s.qps f h

/-! ### `modB` -/

@[simp] theorem State.modB_pending (k : Nat) (f : Bridge → Bridge) : (s.modB k f).pending = s.pending := rfl
@[simp] theorem State.modB_now (k : Nat) (f : Bridge → Bridge) : (s.modB k f).now = s.now := rfl
@[simp] theorem State.modB_nextId (k : Nat) (f : Bridge → Bridge) : (s.modB k f).nextId = s.nextId := rfl
@[simp] theorem State.modB_freeSeed (k : Nat) (f : Bridge → Bridge) : (s.modB k f).freeSeed = s.freeSeed := rfl
@[simp] theorem State.modB_lastRead (k : Nat) (f : Bridge → Bridge) : (s.modB k f).lastRead = s.lastRead := rfl
@[simp] theorem State.modB_variant (k : Nat) (f : Bridge → Bridge) : (s.modB k f).variant = s.variant := rfl
@[simp] theorem State.modB_serial (k : Nat) (f : Bridge → Bridge) : (s.modB k f).serial = s.serial := rfl
@[simp] theorem State.modB_stepping (k : Nat) (f : Bridge → Bridge) : (s.modB k f).stepping = s.stepping := rfl
@[simp] theorem State.modB_dtb (k : Nat) (f : Bridge → Bridge) : (s.modB k f).dtb = s.dtb := rfl
@[simp] theorem State.modB_incr (k : Nat) (f : Bridge → Bridge) : (s.modB k f).incr = s.incr := rfl
@[simp] theorem State.modB_regs (k : Nat) (f : Bridge → Bridge) : (s.modB k f).regs = s.regs := rfl
@[simp] theorem State.modB_inForce (k : Nat) (f : Bridge → Bridge) : (s.modB k f).inForce = s.inForce := rfl
@[simp] theorem State.modB_lockWritten (k : Nat) (f : Bridge → Bridge) : (s.modB k f).lockWritten = s.lockWritten := rfl
@[simp] theorem State.modB_locked (k : Nat) (f : Bridge → Bridge) : (s.modB k f).locked = s.locked := rfl
@[simp] theorem State.modB_gpioErr (k : Nat) (f : Bridge → Bridge) : (s.modB k f).gpioErr = s.gpioErr := rfl
@[simp] theorem State.modB_gpioLevel (k : Nat) (f : Bridge → Bridge) : (s.modB k f).gpioLevel = s.gpioLevel := rfl
@[simp] theorem State.modB_linkUp (k : Nat) (f : Bridge → Bridge) : (s.modB k f).linkUp = s.linkUp := rfl
@[simp] theorem State.modB_linkRate (k : Nat) (f : Bridge → Bridge) : (s.modB k f).linkRate = s.linkRate := rfl
@[simp] theorem State.modB_linkWidth (k : Nat) (f : Bridge → Bridge) : (s.modB k f).linkWidth = s.linkWidth := rfl
@[simp] theorem State.modB_busMaster (k : Nat) (f : Bridge → Bridge) : (s.modB k f).busMaster = s.busMaster := rfl
@[simp] theorem State.modB_qps (k : Nat) (f : Bridge → Bridge) : (s.modB k f).qps = s.qps := rfl
@[simp] theorem State.modB_vectors (k : Nat) (f : Bridge → Bridge) : (s.modB k f).vectors = s.vectors := rfl
@[simp] theorem State.modB_pba (k : Nat) (f : Bridge → Bridge) : (s.modB k f).pba = s.pba := rfl
@[simp] theorem State.modB_barriers (k : Nat) (f : Bridge → Bridge) : (s.modB k f).barriers = s.barriers := rfl
@[simp] theorem State.modB_waits (k : Nat) (f : Bridge → Bridge) : (s.modB k f).waits = s.waits := rfl
@[simp] theorem State.modB_events (k : Nat) (f : Bridge → Bridge) : (s.modB k f).events = s.events := rfl
@[simp] theorem State.modB_lostEvents (k : Nat) (f : Bridge → Bridge) : (s.modB k f).lostEvents = s.lostEvents := rfl
@[simp] theorem State.modB_reinst (k : Nat) (f : Bridge → Bridge) : (s.modB k f).reinst = s.reinst := rfl
@[simp] theorem State.modB_gfes (k : Nat) (f : Bridge → Bridge) : (s.modB k f).gfes = s.gfes := rfl
@[simp] theorem State.modB_lcs (k : Nat) (f : Bridge → Bridge) : (s.modB k f).lcs = s.lcs := rfl
@[simp] theorem State.modB_pwms (k : Nat) (f : Bridge → Bridge) : (s.modB k f).pwms = s.pwms := rfl
@[simp] theorem State.modB_trips (k : Nat) (f : Bridge → Bridge) : (s.modB k f).trips = s.trips := rfl
@[simp] theorem State.modB_links (k : Nat) (f : Bridge → Bridge) : (s.modB k f).links = s.links := rfl
@[simp] theorem State.modB_slots (k : Nat) (f : Bridge → Bridge) : (s.modB k f).slots = s.slots := rfl
@[simp] theorem State.modB_dsm (k : Nat) (f : Bridge → Bridge) : (s.modB k f).dsm = s.dsm := rfl
@[simp] theorem State.modB_pugTimers (k : Nat) (f : Bridge → Bridge) : (s.modB k f).pugTimers = s.pugTimers := rfl
@[simp] theorem State.modB_poss (k : Nat) (f : Bridge → Bridge) : (s.modB k f).poss = s.poss := rfl
@[simp] theorem State.modB_recal (k : Nat) (f : Bridge → Bridge) : (s.modB k f).recal = s.recal := rfl
@[simp] theorem State.modB_caps (k : Nat) (f : Bridge → Bridge) : (s.modB k f).caps = s.caps := rfl
@[simp] theorem State.modB_armWaits (k : Nat) (f : Bridge → Bridge) : (s.modB k f).armWaits = s.armWaits := rfl
@[simp] theorem State.modB_forceWaits (k : Nat) (f : Bridge → Bridge) : (s.modB k f).forceWaits = s.forceWaits := rfl
@[simp] theorem State.modB_sag (k : Nat) (f : Bridge → Bridge) : (s.modB k f).sag = s.sag := rfl
@[simp] theorem State.modB_resetN (k : Nat) (f : Bridge → Bridge) : (s.modB k f).resetN = s.resetN := rfl
@[simp] theorem State.modB_flt (k : Nat) (f : Bridge → Bridge) : (s.modB k f).flt = s.flt := rfl
@[simp] theorem State.modB_dpx (k : Nat) (f : Bridge → Bridge) : (s.modB k f).dpx = s.dpx := rfl
@[simp] theorem State.modB_wheel (k : Nat) (f : Bridge → Bridge) : (s.modB k f).wheel = s.wheel := rfl
@[simp] theorem State.modB_cyc (k : Nat) (f : Bridge → Bridge) : (s.modB k f).cyc = s.cyc := rfl
@[simp] theorem State.modB_svcs (k : Nat) (f : Bridge → Bridge) : (s.modB k f).svcs = s.svcs := rfl
@[simp] theorem State.modB_time (k : Nat) (f : Bridge → Bridge) : (s.modB k f).time = s.time := rfl
@[simp] theorem State.modB_ports (k : Nat) (f : Bridge → Bridge) : (s.modB k f).ports = s.ports := rfl
@[simp] theorem State.modB_netRx (k : Nat) (f : Bridge → Bridge) : (s.modB k f).netRx = s.netRx := rfl
@[simp] theorem State.modB_filters (k : Nat) (f : Bridge → Bridge) : (s.modB k f).filters = s.filters := rfl
@[simp] theorem State.modB_ring (k : Nat) (f : Bridge → Bridge) : (s.modB k f).ring = s.ring := rfl
@[simp] theorem State.modB_dbg (k : Nat) (f : Bridge → Bridge) : (s.modB k f).dbg = s.dbg := rfl
@[simp] theorem State.modB_pwr (k : Nat) (f : Bridge → Bridge) : (s.modB k f).pwr = s.pwr := rfl
@[simp] theorem State.modB_localRing (k : Nat) (f : Bridge → Bridge) : (s.modB k f).localRing = s.localRing := rfl

@[simp] theorem State.modB_bridge_same {k : Nat} (f : Bridge → Bridge) (h : k < 8) : (s.modB k f).bridge k = f (s.bridge k) :=
  vget_vmod_same s.bridges f h
@[simp] theorem State.modB_bridge_other {j k : Nat} (f : Bridge → Bridge) (h : j ≠ k) : (s.modB k f).bridge j = s.bridge j :=
  vget_vmod_other s.bridges f h

/-! ### `modGf` -/

@[simp] theorem State.modGf_pending (k : Nat) (f : GfEngine → GfEngine) : (s.modGf k f).pending = s.pending := rfl
@[simp] theorem State.modGf_now (k : Nat) (f : GfEngine → GfEngine) : (s.modGf k f).now = s.now := rfl
@[simp] theorem State.modGf_nextId (k : Nat) (f : GfEngine → GfEngine) : (s.modGf k f).nextId = s.nextId := rfl
@[simp] theorem State.modGf_freeSeed (k : Nat) (f : GfEngine → GfEngine) : (s.modGf k f).freeSeed = s.freeSeed := rfl
@[simp] theorem State.modGf_lastRead (k : Nat) (f : GfEngine → GfEngine) : (s.modGf k f).lastRead = s.lastRead := rfl
@[simp] theorem State.modGf_variant (k : Nat) (f : GfEngine → GfEngine) : (s.modGf k f).variant = s.variant := rfl
@[simp] theorem State.modGf_serial (k : Nat) (f : GfEngine → GfEngine) : (s.modGf k f).serial = s.serial := rfl
@[simp] theorem State.modGf_stepping (k : Nat) (f : GfEngine → GfEngine) : (s.modGf k f).stepping = s.stepping := rfl
@[simp] theorem State.modGf_dtb (k : Nat) (f : GfEngine → GfEngine) : (s.modGf k f).dtb = s.dtb := rfl
@[simp] theorem State.modGf_incr (k : Nat) (f : GfEngine → GfEngine) : (s.modGf k f).incr = s.incr := rfl
@[simp] theorem State.modGf_regs (k : Nat) (f : GfEngine → GfEngine) : (s.modGf k f).regs = s.regs := rfl
@[simp] theorem State.modGf_inForce (k : Nat) (f : GfEngine → GfEngine) : (s.modGf k f).inForce = s.inForce := rfl
@[simp] theorem State.modGf_lockWritten (k : Nat) (f : GfEngine → GfEngine) : (s.modGf k f).lockWritten = s.lockWritten := rfl
@[simp] theorem State.modGf_locked (k : Nat) (f : GfEngine → GfEngine) : (s.modGf k f).locked = s.locked := rfl
@[simp] theorem State.modGf_gpioErr (k : Nat) (f : GfEngine → GfEngine) : (s.modGf k f).gpioErr = s.gpioErr := rfl
@[simp] theorem State.modGf_gpioLevel (k : Nat) (f : GfEngine → GfEngine) : (s.modGf k f).gpioLevel = s.gpioLevel := rfl
@[simp] theorem State.modGf_linkUp (k : Nat) (f : GfEngine → GfEngine) : (s.modGf k f).linkUp = s.linkUp := rfl
@[simp] theorem State.modGf_linkRate (k : Nat) (f : GfEngine → GfEngine) : (s.modGf k f).linkRate = s.linkRate := rfl
@[simp] theorem State.modGf_linkWidth (k : Nat) (f : GfEngine → GfEngine) : (s.modGf k f).linkWidth = s.linkWidth := rfl
@[simp] theorem State.modGf_busMaster (k : Nat) (f : GfEngine → GfEngine) : (s.modGf k f).busMaster = s.busMaster := rfl
@[simp] theorem State.modGf_qps (k : Nat) (f : GfEngine → GfEngine) : (s.modGf k f).qps = s.qps := rfl
@[simp] theorem State.modGf_vectors (k : Nat) (f : GfEngine → GfEngine) : (s.modGf k f).vectors = s.vectors := rfl
@[simp] theorem State.modGf_pba (k : Nat) (f : GfEngine → GfEngine) : (s.modGf k f).pba = s.pba := rfl
@[simp] theorem State.modGf_barriers (k : Nat) (f : GfEngine → GfEngine) : (s.modGf k f).barriers = s.barriers := rfl
@[simp] theorem State.modGf_waits (k : Nat) (f : GfEngine → GfEngine) : (s.modGf k f).waits = s.waits := rfl
@[simp] theorem State.modGf_events (k : Nat) (f : GfEngine → GfEngine) : (s.modGf k f).events = s.events := rfl
@[simp] theorem State.modGf_lostEvents (k : Nat) (f : GfEngine → GfEngine) : (s.modGf k f).lostEvents = s.lostEvents := rfl
@[simp] theorem State.modGf_reinst (k : Nat) (f : GfEngine → GfEngine) : (s.modGf k f).reinst = s.reinst := rfl
@[simp] theorem State.modGf_bridges (k : Nat) (f : GfEngine → GfEngine) : (s.modGf k f).bridges = s.bridges := rfl
@[simp] theorem State.modGf_lcs (k : Nat) (f : GfEngine → GfEngine) : (s.modGf k f).lcs = s.lcs := rfl
@[simp] theorem State.modGf_pwms (k : Nat) (f : GfEngine → GfEngine) : (s.modGf k f).pwms = s.pwms := rfl
@[simp] theorem State.modGf_trips (k : Nat) (f : GfEngine → GfEngine) : (s.modGf k f).trips = s.trips := rfl
@[simp] theorem State.modGf_links (k : Nat) (f : GfEngine → GfEngine) : (s.modGf k f).links = s.links := rfl
@[simp] theorem State.modGf_slots (k : Nat) (f : GfEngine → GfEngine) : (s.modGf k f).slots = s.slots := rfl
@[simp] theorem State.modGf_dsm (k : Nat) (f : GfEngine → GfEngine) : (s.modGf k f).dsm = s.dsm := rfl
@[simp] theorem State.modGf_pugTimers (k : Nat) (f : GfEngine → GfEngine) : (s.modGf k f).pugTimers = s.pugTimers := rfl
@[simp] theorem State.modGf_poss (k : Nat) (f : GfEngine → GfEngine) : (s.modGf k f).poss = s.poss := rfl
@[simp] theorem State.modGf_recal (k : Nat) (f : GfEngine → GfEngine) : (s.modGf k f).recal = s.recal := rfl
@[simp] theorem State.modGf_caps (k : Nat) (f : GfEngine → GfEngine) : (s.modGf k f).caps = s.caps := rfl
@[simp] theorem State.modGf_armWaits (k : Nat) (f : GfEngine → GfEngine) : (s.modGf k f).armWaits = s.armWaits := rfl
@[simp] theorem State.modGf_forceWaits (k : Nat) (f : GfEngine → GfEngine) : (s.modGf k f).forceWaits = s.forceWaits := rfl
@[simp] theorem State.modGf_sag (k : Nat) (f : GfEngine → GfEngine) : (s.modGf k f).sag = s.sag := rfl
@[simp] theorem State.modGf_resetN (k : Nat) (f : GfEngine → GfEngine) : (s.modGf k f).resetN = s.resetN := rfl
@[simp] theorem State.modGf_flt (k : Nat) (f : GfEngine → GfEngine) : (s.modGf k f).flt = s.flt := rfl
@[simp] theorem State.modGf_dpx (k : Nat) (f : GfEngine → GfEngine) : (s.modGf k f).dpx = s.dpx := rfl
@[simp] theorem State.modGf_wheel (k : Nat) (f : GfEngine → GfEngine) : (s.modGf k f).wheel = s.wheel := rfl
@[simp] theorem State.modGf_cyc (k : Nat) (f : GfEngine → GfEngine) : (s.modGf k f).cyc = s.cyc := rfl
@[simp] theorem State.modGf_svcs (k : Nat) (f : GfEngine → GfEngine) : (s.modGf k f).svcs = s.svcs := rfl
@[simp] theorem State.modGf_time (k : Nat) (f : GfEngine → GfEngine) : (s.modGf k f).time = s.time := rfl
@[simp] theorem State.modGf_ports (k : Nat) (f : GfEngine → GfEngine) : (s.modGf k f).ports = s.ports := rfl
@[simp] theorem State.modGf_netRx (k : Nat) (f : GfEngine → GfEngine) : (s.modGf k f).netRx = s.netRx := rfl
@[simp] theorem State.modGf_filters (k : Nat) (f : GfEngine → GfEngine) : (s.modGf k f).filters = s.filters := rfl
@[simp] theorem State.modGf_ring (k : Nat) (f : GfEngine → GfEngine) : (s.modGf k f).ring = s.ring := rfl
@[simp] theorem State.modGf_dbg (k : Nat) (f : GfEngine → GfEngine) : (s.modGf k f).dbg = s.dbg := rfl
@[simp] theorem State.modGf_pwr (k : Nat) (f : GfEngine → GfEngine) : (s.modGf k f).pwr = s.pwr := rfl
@[simp] theorem State.modGf_localRing (k : Nat) (f : GfEngine → GfEngine) : (s.modGf k f).localRing = s.localRing := rfl

@[simp] theorem State.modGf_gf_same {k : Nat} (f : GfEngine → GfEngine) (h : k < 4) : (s.modGf k f).gf k = f (s.gf k) :=
  vget_vmod_same s.gfes f h
@[simp] theorem State.modGf_gf_other {j k : Nat} (f : GfEngine → GfEngine) (h : j ≠ k) : (s.modGf k f).gf j = s.gf j :=
  vget_vmod_other s.gfes f h

/-! ### `modLc` -/

@[simp] theorem State.modLc_pending (k : Nat) (f : LoopContext → LoopContext) : (s.modLc k f).pending = s.pending := rfl
@[simp] theorem State.modLc_now (k : Nat) (f : LoopContext → LoopContext) : (s.modLc k f).now = s.now := rfl
@[simp] theorem State.modLc_nextId (k : Nat) (f : LoopContext → LoopContext) : (s.modLc k f).nextId = s.nextId := rfl
@[simp] theorem State.modLc_freeSeed (k : Nat) (f : LoopContext → LoopContext) : (s.modLc k f).freeSeed = s.freeSeed := rfl
@[simp] theorem State.modLc_lastRead (k : Nat) (f : LoopContext → LoopContext) : (s.modLc k f).lastRead = s.lastRead := rfl
@[simp] theorem State.modLc_variant (k : Nat) (f : LoopContext → LoopContext) : (s.modLc k f).variant = s.variant := rfl
@[simp] theorem State.modLc_serial (k : Nat) (f : LoopContext → LoopContext) : (s.modLc k f).serial = s.serial := rfl
@[simp] theorem State.modLc_stepping (k : Nat) (f : LoopContext → LoopContext) : (s.modLc k f).stepping = s.stepping := rfl
@[simp] theorem State.modLc_dtb (k : Nat) (f : LoopContext → LoopContext) : (s.modLc k f).dtb = s.dtb := rfl
@[simp] theorem State.modLc_incr (k : Nat) (f : LoopContext → LoopContext) : (s.modLc k f).incr = s.incr := rfl
@[simp] theorem State.modLc_regs (k : Nat) (f : LoopContext → LoopContext) : (s.modLc k f).regs = s.regs := rfl
@[simp] theorem State.modLc_inForce (k : Nat) (f : LoopContext → LoopContext) : (s.modLc k f).inForce = s.inForce := rfl
@[simp] theorem State.modLc_lockWritten (k : Nat) (f : LoopContext → LoopContext) : (s.modLc k f).lockWritten = s.lockWritten := rfl
@[simp] theorem State.modLc_locked (k : Nat) (f : LoopContext → LoopContext) : (s.modLc k f).locked = s.locked := rfl
@[simp] theorem State.modLc_gpioErr (k : Nat) (f : LoopContext → LoopContext) : (s.modLc k f).gpioErr = s.gpioErr := rfl
@[simp] theorem State.modLc_gpioLevel (k : Nat) (f : LoopContext → LoopContext) : (s.modLc k f).gpioLevel = s.gpioLevel := rfl
@[simp] theorem State.modLc_linkUp (k : Nat) (f : LoopContext → LoopContext) : (s.modLc k f).linkUp = s.linkUp := rfl
@[simp] theorem State.modLc_linkRate (k : Nat) (f : LoopContext → LoopContext) : (s.modLc k f).linkRate = s.linkRate := rfl
@[simp] theorem State.modLc_linkWidth (k : Nat) (f : LoopContext → LoopContext) : (s.modLc k f).linkWidth = s.linkWidth := rfl
@[simp] theorem State.modLc_busMaster (k : Nat) (f : LoopContext → LoopContext) : (s.modLc k f).busMaster = s.busMaster := rfl
@[simp] theorem State.modLc_qps (k : Nat) (f : LoopContext → LoopContext) : (s.modLc k f).qps = s.qps := rfl
@[simp] theorem State.modLc_vectors (k : Nat) (f : LoopContext → LoopContext) : (s.modLc k f).vectors = s.vectors := rfl
@[simp] theorem State.modLc_pba (k : Nat) (f : LoopContext → LoopContext) : (s.modLc k f).pba = s.pba := rfl
@[simp] theorem State.modLc_barriers (k : Nat) (f : LoopContext → LoopContext) : (s.modLc k f).barriers = s.barriers := rfl
@[simp] theorem State.modLc_waits (k : Nat) (f : LoopContext → LoopContext) : (s.modLc k f).waits = s.waits := rfl
@[simp] theorem State.modLc_events (k : Nat) (f : LoopContext → LoopContext) : (s.modLc k f).events = s.events := rfl
@[simp] theorem State.modLc_lostEvents (k : Nat) (f : LoopContext → LoopContext) : (s.modLc k f).lostEvents = s.lostEvents := rfl
@[simp] theorem State.modLc_reinst (k : Nat) (f : LoopContext → LoopContext) : (s.modLc k f).reinst = s.reinst := rfl
@[simp] theorem State.modLc_bridges (k : Nat) (f : LoopContext → LoopContext) : (s.modLc k f).bridges = s.bridges := rfl
@[simp] theorem State.modLc_gfes (k : Nat) (f : LoopContext → LoopContext) : (s.modLc k f).gfes = s.gfes := rfl
@[simp] theorem State.modLc_pwms (k : Nat) (f : LoopContext → LoopContext) : (s.modLc k f).pwms = s.pwms := rfl
@[simp] theorem State.modLc_trips (k : Nat) (f : LoopContext → LoopContext) : (s.modLc k f).trips = s.trips := rfl
@[simp] theorem State.modLc_links (k : Nat) (f : LoopContext → LoopContext) : (s.modLc k f).links = s.links := rfl
@[simp] theorem State.modLc_slots (k : Nat) (f : LoopContext → LoopContext) : (s.modLc k f).slots = s.slots := rfl
@[simp] theorem State.modLc_dsm (k : Nat) (f : LoopContext → LoopContext) : (s.modLc k f).dsm = s.dsm := rfl
@[simp] theorem State.modLc_pugTimers (k : Nat) (f : LoopContext → LoopContext) : (s.modLc k f).pugTimers = s.pugTimers := rfl
@[simp] theorem State.modLc_poss (k : Nat) (f : LoopContext → LoopContext) : (s.modLc k f).poss = s.poss := rfl
@[simp] theorem State.modLc_recal (k : Nat) (f : LoopContext → LoopContext) : (s.modLc k f).recal = s.recal := rfl
@[simp] theorem State.modLc_caps (k : Nat) (f : LoopContext → LoopContext) : (s.modLc k f).caps = s.caps := rfl
@[simp] theorem State.modLc_armWaits (k : Nat) (f : LoopContext → LoopContext) : (s.modLc k f).armWaits = s.armWaits := rfl
@[simp] theorem State.modLc_forceWaits (k : Nat) (f : LoopContext → LoopContext) : (s.modLc k f).forceWaits = s.forceWaits := rfl
@[simp] theorem State.modLc_sag (k : Nat) (f : LoopContext → LoopContext) : (s.modLc k f).sag = s.sag := rfl
@[simp] theorem State.modLc_resetN (k : Nat) (f : LoopContext → LoopContext) : (s.modLc k f).resetN = s.resetN := rfl
@[simp] theorem State.modLc_flt (k : Nat) (f : LoopContext → LoopContext) : (s.modLc k f).flt = s.flt := rfl
@[simp] theorem State.modLc_dpx (k : Nat) (f : LoopContext → LoopContext) : (s.modLc k f).dpx = s.dpx := rfl
@[simp] theorem State.modLc_wheel (k : Nat) (f : LoopContext → LoopContext) : (s.modLc k f).wheel = s.wheel := rfl
@[simp] theorem State.modLc_cyc (k : Nat) (f : LoopContext → LoopContext) : (s.modLc k f).cyc = s.cyc := rfl
@[simp] theorem State.modLc_svcs (k : Nat) (f : LoopContext → LoopContext) : (s.modLc k f).svcs = s.svcs := rfl
@[simp] theorem State.modLc_time (k : Nat) (f : LoopContext → LoopContext) : (s.modLc k f).time = s.time := rfl
@[simp] theorem State.modLc_ports (k : Nat) (f : LoopContext → LoopContext) : (s.modLc k f).ports = s.ports := rfl
@[simp] theorem State.modLc_netRx (k : Nat) (f : LoopContext → LoopContext) : (s.modLc k f).netRx = s.netRx := rfl
@[simp] theorem State.modLc_filters (k : Nat) (f : LoopContext → LoopContext) : (s.modLc k f).filters = s.filters := rfl
@[simp] theorem State.modLc_ring (k : Nat) (f : LoopContext → LoopContext) : (s.modLc k f).ring = s.ring := rfl
@[simp] theorem State.modLc_dbg (k : Nat) (f : LoopContext → LoopContext) : (s.modLc k f).dbg = s.dbg := rfl
@[simp] theorem State.modLc_pwr (k : Nat) (f : LoopContext → LoopContext) : (s.modLc k f).pwr = s.pwr := rfl
@[simp] theorem State.modLc_localRing (k : Nat) (f : LoopContext → LoopContext) : (s.modLc k f).localRing = s.localRing := rfl

@[simp] theorem State.modLc_lc_same {k : Nat} (f : LoopContext → LoopContext) (h : k < 24) : (s.modLc k f).lc k = f (s.lc k) :=
  vget_vmod_same s.lcs f h
@[simp] theorem State.modLc_lc_other {j k : Nat} (f : LoopContext → LoopContext) (h : j ≠ k) : (s.modLc k f).lc j = s.lc j :=
  vget_vmod_other s.lcs f h

/-! ### `modPwm` -/

@[simp] theorem State.modPwm_pending (k : Nat) (f : PwmGen → PwmGen) : (s.modPwm k f).pending = s.pending := rfl
@[simp] theorem State.modPwm_now (k : Nat) (f : PwmGen → PwmGen) : (s.modPwm k f).now = s.now := rfl
@[simp] theorem State.modPwm_nextId (k : Nat) (f : PwmGen → PwmGen) : (s.modPwm k f).nextId = s.nextId := rfl
@[simp] theorem State.modPwm_freeSeed (k : Nat) (f : PwmGen → PwmGen) : (s.modPwm k f).freeSeed = s.freeSeed := rfl
@[simp] theorem State.modPwm_lastRead (k : Nat) (f : PwmGen → PwmGen) : (s.modPwm k f).lastRead = s.lastRead := rfl
@[simp] theorem State.modPwm_variant (k : Nat) (f : PwmGen → PwmGen) : (s.modPwm k f).variant = s.variant := rfl
@[simp] theorem State.modPwm_serial (k : Nat) (f : PwmGen → PwmGen) : (s.modPwm k f).serial = s.serial := rfl
@[simp] theorem State.modPwm_stepping (k : Nat) (f : PwmGen → PwmGen) : (s.modPwm k f).stepping = s.stepping := rfl
@[simp] theorem State.modPwm_dtb (k : Nat) (f : PwmGen → PwmGen) : (s.modPwm k f).dtb = s.dtb := rfl
@[simp] theorem State.modPwm_incr (k : Nat) (f : PwmGen → PwmGen) : (s.modPwm k f).incr = s.incr := rfl
@[simp] theorem State.modPwm_regs (k : Nat) (f : PwmGen → PwmGen) : (s.modPwm k f).regs = s.regs := rfl
@[simp] theorem State.modPwm_inForce (k : Nat) (f : PwmGen → PwmGen) : (s.modPwm k f).inForce = s.inForce := rfl
@[simp] theorem State.modPwm_lockWritten (k : Nat) (f : PwmGen → PwmGen) : (s.modPwm k f).lockWritten = s.lockWritten := rfl
@[simp] theorem State.modPwm_locked (k : Nat) (f : PwmGen → PwmGen) : (s.modPwm k f).locked = s.locked := rfl
@[simp] theorem State.modPwm_gpioErr (k : Nat) (f : PwmGen → PwmGen) : (s.modPwm k f).gpioErr = s.gpioErr := rfl
@[simp] theorem State.modPwm_gpioLevel (k : Nat) (f : PwmGen → PwmGen) : (s.modPwm k f).gpioLevel = s.gpioLevel := rfl
@[simp] theorem State.modPwm_linkUp (k : Nat) (f : PwmGen → PwmGen) : (s.modPwm k f).linkUp = s.linkUp := rfl
@[simp] theorem State.modPwm_linkRate (k : Nat) (f : PwmGen → PwmGen) : (s.modPwm k f).linkRate = s.linkRate := rfl
@[simp] theorem State.modPwm_linkWidth (k : Nat) (f : PwmGen → PwmGen) : (s.modPwm k f).linkWidth = s.linkWidth := rfl
@[simp] theorem State.modPwm_busMaster (k : Nat) (f : PwmGen → PwmGen) : (s.modPwm k f).busMaster = s.busMaster := rfl
@[simp] theorem State.modPwm_qps (k : Nat) (f : PwmGen → PwmGen) : (s.modPwm k f).qps = s.qps := rfl
@[simp] theorem State.modPwm_vectors (k : Nat) (f : PwmGen → PwmGen) : (s.modPwm k f).vectors = s.vectors := rfl
@[simp] theorem State.modPwm_pba (k : Nat) (f : PwmGen → PwmGen) : (s.modPwm k f).pba = s.pba := rfl
@[simp] theorem State.modPwm_barriers (k : Nat) (f : PwmGen → PwmGen) : (s.modPwm k f).barriers = s.barriers := rfl
@[simp] theorem State.modPwm_waits (k : Nat) (f : PwmGen → PwmGen) : (s.modPwm k f).waits = s.waits := rfl
@[simp] theorem State.modPwm_events (k : Nat) (f : PwmGen → PwmGen) : (s.modPwm k f).events = s.events := rfl
@[simp] theorem State.modPwm_lostEvents (k : Nat) (f : PwmGen → PwmGen) : (s.modPwm k f).lostEvents = s.lostEvents := rfl
@[simp] theorem State.modPwm_reinst (k : Nat) (f : PwmGen → PwmGen) : (s.modPwm k f).reinst = s.reinst := rfl
@[simp] theorem State.modPwm_bridges (k : Nat) (f : PwmGen → PwmGen) : (s.modPwm k f).bridges = s.bridges := rfl
@[simp] theorem State.modPwm_gfes (k : Nat) (f : PwmGen → PwmGen) : (s.modPwm k f).gfes = s.gfes := rfl
@[simp] theorem State.modPwm_lcs (k : Nat) (f : PwmGen → PwmGen) : (s.modPwm k f).lcs = s.lcs := rfl
@[simp] theorem State.modPwm_trips (k : Nat) (f : PwmGen → PwmGen) : (s.modPwm k f).trips = s.trips := rfl
@[simp] theorem State.modPwm_links (k : Nat) (f : PwmGen → PwmGen) : (s.modPwm k f).links = s.links := rfl
@[simp] theorem State.modPwm_slots (k : Nat) (f : PwmGen → PwmGen) : (s.modPwm k f).slots = s.slots := rfl
@[simp] theorem State.modPwm_dsm (k : Nat) (f : PwmGen → PwmGen) : (s.modPwm k f).dsm = s.dsm := rfl
@[simp] theorem State.modPwm_pugTimers (k : Nat) (f : PwmGen → PwmGen) : (s.modPwm k f).pugTimers = s.pugTimers := rfl
@[simp] theorem State.modPwm_poss (k : Nat) (f : PwmGen → PwmGen) : (s.modPwm k f).poss = s.poss := rfl
@[simp] theorem State.modPwm_recal (k : Nat) (f : PwmGen → PwmGen) : (s.modPwm k f).recal = s.recal := rfl
@[simp] theorem State.modPwm_caps (k : Nat) (f : PwmGen → PwmGen) : (s.modPwm k f).caps = s.caps := rfl
@[simp] theorem State.modPwm_armWaits (k : Nat) (f : PwmGen → PwmGen) : (s.modPwm k f).armWaits = s.armWaits := rfl
@[simp] theorem State.modPwm_forceWaits (k : Nat) (f : PwmGen → PwmGen) : (s.modPwm k f).forceWaits = s.forceWaits := rfl
@[simp] theorem State.modPwm_sag (k : Nat) (f : PwmGen → PwmGen) : (s.modPwm k f).sag = s.sag := rfl
@[simp] theorem State.modPwm_resetN (k : Nat) (f : PwmGen → PwmGen) : (s.modPwm k f).resetN = s.resetN := rfl
@[simp] theorem State.modPwm_flt (k : Nat) (f : PwmGen → PwmGen) : (s.modPwm k f).flt = s.flt := rfl
@[simp] theorem State.modPwm_dpx (k : Nat) (f : PwmGen → PwmGen) : (s.modPwm k f).dpx = s.dpx := rfl
@[simp] theorem State.modPwm_wheel (k : Nat) (f : PwmGen → PwmGen) : (s.modPwm k f).wheel = s.wheel := rfl
@[simp] theorem State.modPwm_cyc (k : Nat) (f : PwmGen → PwmGen) : (s.modPwm k f).cyc = s.cyc := rfl
@[simp] theorem State.modPwm_svcs (k : Nat) (f : PwmGen → PwmGen) : (s.modPwm k f).svcs = s.svcs := rfl
@[simp] theorem State.modPwm_time (k : Nat) (f : PwmGen → PwmGen) : (s.modPwm k f).time = s.time := rfl
@[simp] theorem State.modPwm_ports (k : Nat) (f : PwmGen → PwmGen) : (s.modPwm k f).ports = s.ports := rfl
@[simp] theorem State.modPwm_netRx (k : Nat) (f : PwmGen → PwmGen) : (s.modPwm k f).netRx = s.netRx := rfl
@[simp] theorem State.modPwm_filters (k : Nat) (f : PwmGen → PwmGen) : (s.modPwm k f).filters = s.filters := rfl
@[simp] theorem State.modPwm_ring (k : Nat) (f : PwmGen → PwmGen) : (s.modPwm k f).ring = s.ring := rfl
@[simp] theorem State.modPwm_dbg (k : Nat) (f : PwmGen → PwmGen) : (s.modPwm k f).dbg = s.dbg := rfl
@[simp] theorem State.modPwm_pwr (k : Nat) (f : PwmGen → PwmGen) : (s.modPwm k f).pwr = s.pwr := rfl
@[simp] theorem State.modPwm_localRing (k : Nat) (f : PwmGen → PwmGen) : (s.modPwm k f).localRing = s.localRing := rfl

@[simp] theorem State.modPwm_pwm_same {k : Nat} (f : PwmGen → PwmGen) (h : k < 8) : (s.modPwm k f).pwm k = f (s.pwm k) :=
  vget_vmod_same s.pwms f h
@[simp] theorem State.modPwm_pwm_other {j k : Nat} (f : PwmGen → PwmGen) (h : j ≠ k) : (s.modPwm k f).pwm j = s.pwm j :=
  vget_vmod_other s.pwms f h

/-! ### `modTrip` -/

@[simp] theorem State.modTrip_pending (k : Nat) (f : TripSource → TripSource) : (s.modTrip k f).pending = s.pending := rfl
@[simp] theorem State.modTrip_now (k : Nat) (f : TripSource → TripSource) : (s.modTrip k f).now = s.now := rfl
@[simp] theorem State.modTrip_nextId (k : Nat) (f : TripSource → TripSource) : (s.modTrip k f).nextId = s.nextId := rfl
@[simp] theorem State.modTrip_freeSeed (k : Nat) (f : TripSource → TripSource) : (s.modTrip k f).freeSeed = s.freeSeed := rfl
@[simp] theorem State.modTrip_lastRead (k : Nat) (f : TripSource → TripSource) : (s.modTrip k f).lastRead = s.lastRead := rfl
@[simp] theorem State.modTrip_variant (k : Nat) (f : TripSource → TripSource) : (s.modTrip k f).variant = s.variant := rfl
@[simp] theorem State.modTrip_serial (k : Nat) (f : TripSource → TripSource) : (s.modTrip k f).serial = s.serial := rfl
@[simp] theorem State.modTrip_stepping (k : Nat) (f : TripSource → TripSource) : (s.modTrip k f).stepping = s.stepping := rfl
@[simp] theorem State.modTrip_dtb (k : Nat) (f : TripSource → TripSource) : (s.modTrip k f).dtb = s.dtb := rfl
@[simp] theorem State.modTrip_incr (k : Nat) (f : TripSource → TripSource) : (s.modTrip k f).incr = s.incr := rfl
@[simp] theorem State.modTrip_regs (k : Nat) (f : TripSource → TripSource) : (s.modTrip k f).regs = s.regs := rfl
@[simp] theorem State.modTrip_inForce (k : Nat) (f : TripSource → TripSource) : (s.modTrip k f).inForce = s.inForce := rfl
@[simp] theorem State.modTrip_lockWritten (k : Nat) (f : TripSource → TripSource) : (s.modTrip k f).lockWritten = s.lockWritten := rfl
@[simp] theorem State.modTrip_locked (k : Nat) (f : TripSource → TripSource) : (s.modTrip k f).locked = s.locked := rfl
@[simp] theorem State.modTrip_gpioErr (k : Nat) (f : TripSource → TripSource) : (s.modTrip k f).gpioErr = s.gpioErr := rfl
@[simp] theorem State.modTrip_gpioLevel (k : Nat) (f : TripSource → TripSource) : (s.modTrip k f).gpioLevel = s.gpioLevel := rfl
@[simp] theorem State.modTrip_linkUp (k : Nat) (f : TripSource → TripSource) : (s.modTrip k f).linkUp = s.linkUp := rfl
@[simp] theorem State.modTrip_linkRate (k : Nat) (f : TripSource → TripSource) : (s.modTrip k f).linkRate = s.linkRate := rfl
@[simp] theorem State.modTrip_linkWidth (k : Nat) (f : TripSource → TripSource) : (s.modTrip k f).linkWidth = s.linkWidth := rfl
@[simp] theorem State.modTrip_busMaster (k : Nat) (f : TripSource → TripSource) : (s.modTrip k f).busMaster = s.busMaster := rfl
@[simp] theorem State.modTrip_qps (k : Nat) (f : TripSource → TripSource) : (s.modTrip k f).qps = s.qps := rfl
@[simp] theorem State.modTrip_vectors (k : Nat) (f : TripSource → TripSource) : (s.modTrip k f).vectors = s.vectors := rfl
@[simp] theorem State.modTrip_pba (k : Nat) (f : TripSource → TripSource) : (s.modTrip k f).pba = s.pba := rfl
@[simp] theorem State.modTrip_barriers (k : Nat) (f : TripSource → TripSource) : (s.modTrip k f).barriers = s.barriers := rfl
@[simp] theorem State.modTrip_waits (k : Nat) (f : TripSource → TripSource) : (s.modTrip k f).waits = s.waits := rfl
@[simp] theorem State.modTrip_events (k : Nat) (f : TripSource → TripSource) : (s.modTrip k f).events = s.events := rfl
@[simp] theorem State.modTrip_lostEvents (k : Nat) (f : TripSource → TripSource) : (s.modTrip k f).lostEvents = s.lostEvents := rfl
@[simp] theorem State.modTrip_reinst (k : Nat) (f : TripSource → TripSource) : (s.modTrip k f).reinst = s.reinst := rfl
@[simp] theorem State.modTrip_bridges (k : Nat) (f : TripSource → TripSource) : (s.modTrip k f).bridges = s.bridges := rfl
@[simp] theorem State.modTrip_gfes (k : Nat) (f : TripSource → TripSource) : (s.modTrip k f).gfes = s.gfes := rfl
@[simp] theorem State.modTrip_lcs (k : Nat) (f : TripSource → TripSource) : (s.modTrip k f).lcs = s.lcs := rfl
@[simp] theorem State.modTrip_pwms (k : Nat) (f : TripSource → TripSource) : (s.modTrip k f).pwms = s.pwms := rfl
@[simp] theorem State.modTrip_links (k : Nat) (f : TripSource → TripSource) : (s.modTrip k f).links = s.links := rfl
@[simp] theorem State.modTrip_slots (k : Nat) (f : TripSource → TripSource) : (s.modTrip k f).slots = s.slots := rfl
@[simp] theorem State.modTrip_dsm (k : Nat) (f : TripSource → TripSource) : (s.modTrip k f).dsm = s.dsm := rfl
@[simp] theorem State.modTrip_pugTimers (k : Nat) (f : TripSource → TripSource) : (s.modTrip k f).pugTimers = s.pugTimers := rfl
@[simp] theorem State.modTrip_poss (k : Nat) (f : TripSource → TripSource) : (s.modTrip k f).poss = s.poss := rfl
@[simp] theorem State.modTrip_recal (k : Nat) (f : TripSource → TripSource) : (s.modTrip k f).recal = s.recal := rfl
@[simp] theorem State.modTrip_caps (k : Nat) (f : TripSource → TripSource) : (s.modTrip k f).caps = s.caps := rfl
@[simp] theorem State.modTrip_armWaits (k : Nat) (f : TripSource → TripSource) : (s.modTrip k f).armWaits = s.armWaits := rfl
@[simp] theorem State.modTrip_forceWaits (k : Nat) (f : TripSource → TripSource) : (s.modTrip k f).forceWaits = s.forceWaits := rfl
@[simp] theorem State.modTrip_sag (k : Nat) (f : TripSource → TripSource) : (s.modTrip k f).sag = s.sag := rfl
@[simp] theorem State.modTrip_resetN (k : Nat) (f : TripSource → TripSource) : (s.modTrip k f).resetN = s.resetN := rfl
@[simp] theorem State.modTrip_flt (k : Nat) (f : TripSource → TripSource) : (s.modTrip k f).flt = s.flt := rfl
@[simp] theorem State.modTrip_dpx (k : Nat) (f : TripSource → TripSource) : (s.modTrip k f).dpx = s.dpx := rfl
@[simp] theorem State.modTrip_wheel (k : Nat) (f : TripSource → TripSource) : (s.modTrip k f).wheel = s.wheel := rfl
@[simp] theorem State.modTrip_cyc (k : Nat) (f : TripSource → TripSource) : (s.modTrip k f).cyc = s.cyc := rfl
@[simp] theorem State.modTrip_svcs (k : Nat) (f : TripSource → TripSource) : (s.modTrip k f).svcs = s.svcs := rfl
@[simp] theorem State.modTrip_time (k : Nat) (f : TripSource → TripSource) : (s.modTrip k f).time = s.time := rfl
@[simp] theorem State.modTrip_ports (k : Nat) (f : TripSource → TripSource) : (s.modTrip k f).ports = s.ports := rfl
@[simp] theorem State.modTrip_netRx (k : Nat) (f : TripSource → TripSource) : (s.modTrip k f).netRx = s.netRx := rfl
@[simp] theorem State.modTrip_filters (k : Nat) (f : TripSource → TripSource) : (s.modTrip k f).filters = s.filters := rfl
@[simp] theorem State.modTrip_ring (k : Nat) (f : TripSource → TripSource) : (s.modTrip k f).ring = s.ring := rfl
@[simp] theorem State.modTrip_dbg (k : Nat) (f : TripSource → TripSource) : (s.modTrip k f).dbg = s.dbg := rfl
@[simp] theorem State.modTrip_pwr (k : Nat) (f : TripSource → TripSource) : (s.modTrip k f).pwr = s.pwr := rfl
@[simp] theorem State.modTrip_localRing (k : Nat) (f : TripSource → TripSource) : (s.modTrip k f).localRing = s.localRing := rfl

@[simp] theorem State.modTrip_trip_same {k : Nat} (f : TripSource → TripSource) (h : k < 16) : (s.modTrip k f).trip k = f (s.trip k) :=
  vget_vmod_same s.trips f h
@[simp] theorem State.modTrip_trip_other {j k : Nat} (f : TripSource → TripSource) (h : j ≠ k) : (s.modTrip k f).trip j = s.trip j :=
  vget_vmod_other s.trips f h

/-! ### `modLink` -/

@[simp] theorem State.modLink_pending (k : Nat) (f : GateLink → GateLink) : (s.modLink k f).pending = s.pending := rfl
@[simp] theorem State.modLink_now (k : Nat) (f : GateLink → GateLink) : (s.modLink k f).now = s.now := rfl
@[simp] theorem State.modLink_nextId (k : Nat) (f : GateLink → GateLink) : (s.modLink k f).nextId = s.nextId := rfl
@[simp] theorem State.modLink_freeSeed (k : Nat) (f : GateLink → GateLink) : (s.modLink k f).freeSeed = s.freeSeed := rfl
@[simp] theorem State.modLink_lastRead (k : Nat) (f : GateLink → GateLink) : (s.modLink k f).lastRead = s.lastRead := rfl
@[simp] theorem State.modLink_variant (k : Nat) (f : GateLink → GateLink) : (s.modLink k f).variant = s.variant := rfl
@[simp] theorem State.modLink_serial (k : Nat) (f : GateLink → GateLink) : (s.modLink k f).serial = s.serial := rfl
@[simp] theorem State.modLink_stepping (k : Nat) (f : GateLink → GateLink) : (s.modLink k f).stepping = s.stepping := rfl
@[simp] theorem State.modLink_dtb (k : Nat) (f : GateLink → GateLink) : (s.modLink k f).dtb = s.dtb := rfl
@[simp] theorem State.modLink_incr (k : Nat) (f : GateLink → GateLink) : (s.modLink k f).incr = s.incr := rfl
@[simp] theorem State.modLink_regs (k : Nat) (f : GateLink → GateLink) : (s.modLink k f).regs = s.regs := rfl
@[simp] theorem State.modLink_inForce (k : Nat) (f : GateLink → GateLink) : (s.modLink k f).inForce = s.inForce := rfl
@[simp] theorem State.modLink_lockWritten (k : Nat) (f : GateLink → GateLink) : (s.modLink k f).lockWritten = s.lockWritten := rfl
@[simp] theorem State.modLink_locked (k : Nat) (f : GateLink → GateLink) : (s.modLink k f).locked = s.locked := rfl
@[simp] theorem State.modLink_gpioErr (k : Nat) (f : GateLink → GateLink) : (s.modLink k f).gpioErr = s.gpioErr := rfl
@[simp] theorem State.modLink_gpioLevel (k : Nat) (f : GateLink → GateLink) : (s.modLink k f).gpioLevel = s.gpioLevel := rfl
@[simp] theorem State.modLink_linkUp (k : Nat) (f : GateLink → GateLink) : (s.modLink k f).linkUp = s.linkUp := rfl
@[simp] theorem State.modLink_linkRate (k : Nat) (f : GateLink → GateLink) : (s.modLink k f).linkRate = s.linkRate := rfl
@[simp] theorem State.modLink_linkWidth (k : Nat) (f : GateLink → GateLink) : (s.modLink k f).linkWidth = s.linkWidth := rfl
@[simp] theorem State.modLink_busMaster (k : Nat) (f : GateLink → GateLink) : (s.modLink k f).busMaster = s.busMaster := rfl
@[simp] theorem State.modLink_qps (k : Nat) (f : GateLink → GateLink) : (s.modLink k f).qps = s.qps := rfl
@[simp] theorem State.modLink_vectors (k : Nat) (f : GateLink → GateLink) : (s.modLink k f).vectors = s.vectors := rfl
@[simp] theorem State.modLink_pba (k : Nat) (f : GateLink → GateLink) : (s.modLink k f).pba = s.pba := rfl
@[simp] theorem State.modLink_barriers (k : Nat) (f : GateLink → GateLink) : (s.modLink k f).barriers = s.barriers := rfl
@[simp] theorem State.modLink_waits (k : Nat) (f : GateLink → GateLink) : (s.modLink k f).waits = s.waits := rfl
@[simp] theorem State.modLink_events (k : Nat) (f : GateLink → GateLink) : (s.modLink k f).events = s.events := rfl
@[simp] theorem State.modLink_lostEvents (k : Nat) (f : GateLink → GateLink) : (s.modLink k f).lostEvents = s.lostEvents := rfl
@[simp] theorem State.modLink_reinst (k : Nat) (f : GateLink → GateLink) : (s.modLink k f).reinst = s.reinst := rfl
@[simp] theorem State.modLink_bridges (k : Nat) (f : GateLink → GateLink) : (s.modLink k f).bridges = s.bridges := rfl
@[simp] theorem State.modLink_gfes (k : Nat) (f : GateLink → GateLink) : (s.modLink k f).gfes = s.gfes := rfl
@[simp] theorem State.modLink_lcs (k : Nat) (f : GateLink → GateLink) : (s.modLink k f).lcs = s.lcs := rfl
@[simp] theorem State.modLink_pwms (k : Nat) (f : GateLink → GateLink) : (s.modLink k f).pwms = s.pwms := rfl
@[simp] theorem State.modLink_trips (k : Nat) (f : GateLink → GateLink) : (s.modLink k f).trips = s.trips := rfl
@[simp] theorem State.modLink_slots (k : Nat) (f : GateLink → GateLink) : (s.modLink k f).slots = s.slots := rfl
@[simp] theorem State.modLink_dsm (k : Nat) (f : GateLink → GateLink) : (s.modLink k f).dsm = s.dsm := rfl
@[simp] theorem State.modLink_pugTimers (k : Nat) (f : GateLink → GateLink) : (s.modLink k f).pugTimers = s.pugTimers := rfl
@[simp] theorem State.modLink_poss (k : Nat) (f : GateLink → GateLink) : (s.modLink k f).poss = s.poss := rfl
@[simp] theorem State.modLink_recal (k : Nat) (f : GateLink → GateLink) : (s.modLink k f).recal = s.recal := rfl
@[simp] theorem State.modLink_caps (k : Nat) (f : GateLink → GateLink) : (s.modLink k f).caps = s.caps := rfl
@[simp] theorem State.modLink_armWaits (k : Nat) (f : GateLink → GateLink) : (s.modLink k f).armWaits = s.armWaits := rfl
@[simp] theorem State.modLink_forceWaits (k : Nat) (f : GateLink → GateLink) : (s.modLink k f).forceWaits = s.forceWaits := rfl
@[simp] theorem State.modLink_sag (k : Nat) (f : GateLink → GateLink) : (s.modLink k f).sag = s.sag := rfl
@[simp] theorem State.modLink_resetN (k : Nat) (f : GateLink → GateLink) : (s.modLink k f).resetN = s.resetN := rfl
@[simp] theorem State.modLink_flt (k : Nat) (f : GateLink → GateLink) : (s.modLink k f).flt = s.flt := rfl
@[simp] theorem State.modLink_dpx (k : Nat) (f : GateLink → GateLink) : (s.modLink k f).dpx = s.dpx := rfl
@[simp] theorem State.modLink_wheel (k : Nat) (f : GateLink → GateLink) : (s.modLink k f).wheel = s.wheel := rfl
@[simp] theorem State.modLink_cyc (k : Nat) (f : GateLink → GateLink) : (s.modLink k f).cyc = s.cyc := rfl
@[simp] theorem State.modLink_svcs (k : Nat) (f : GateLink → GateLink) : (s.modLink k f).svcs = s.svcs := rfl
@[simp] theorem State.modLink_time (k : Nat) (f : GateLink → GateLink) : (s.modLink k f).time = s.time := rfl
@[simp] theorem State.modLink_ports (k : Nat) (f : GateLink → GateLink) : (s.modLink k f).ports = s.ports := rfl
@[simp] theorem State.modLink_netRx (k : Nat) (f : GateLink → GateLink) : (s.modLink k f).netRx = s.netRx := rfl
@[simp] theorem State.modLink_filters (k : Nat) (f : GateLink → GateLink) : (s.modLink k f).filters = s.filters := rfl
@[simp] theorem State.modLink_ring (k : Nat) (f : GateLink → GateLink) : (s.modLink k f).ring = s.ring := rfl
@[simp] theorem State.modLink_dbg (k : Nat) (f : GateLink → GateLink) : (s.modLink k f).dbg = s.dbg := rfl
@[simp] theorem State.modLink_pwr (k : Nat) (f : GateLink → GateLink) : (s.modLink k f).pwr = s.pwr := rfl
@[simp] theorem State.modLink_localRing (k : Nat) (f : GateLink → GateLink) : (s.modLink k f).localRing = s.localRing := rfl

@[simp] theorem State.modLink_link_same {k : Nat} (f : GateLink → GateLink) (h : k < 24) : (s.modLink k f).link k = f (s.link k) :=
  vget_vmod_same s.links f h
@[simp] theorem State.modLink_link_other {j k : Nat} (f : GateLink → GateLink) (h : j ≠ k) : (s.modLink k f).link j = s.link j :=
  vget_vmod_other s.links f h

/-! ### `modSlot` -/

@[simp] theorem State.modSlot_pending (k : Nat) (f : PugSlot → PugSlot) : (s.modSlot k f).pending = s.pending := rfl
@[simp] theorem State.modSlot_now (k : Nat) (f : PugSlot → PugSlot) : (s.modSlot k f).now = s.now := rfl
@[simp] theorem State.modSlot_nextId (k : Nat) (f : PugSlot → PugSlot) : (s.modSlot k f).nextId = s.nextId := rfl
@[simp] theorem State.modSlot_freeSeed (k : Nat) (f : PugSlot → PugSlot) : (s.modSlot k f).freeSeed = s.freeSeed := rfl
@[simp] theorem State.modSlot_lastRead (k : Nat) (f : PugSlot → PugSlot) : (s.modSlot k f).lastRead = s.lastRead := rfl
@[simp] theorem State.modSlot_variant (k : Nat) (f : PugSlot → PugSlot) : (s.modSlot k f).variant = s.variant := rfl
@[simp] theorem State.modSlot_serial (k : Nat) (f : PugSlot → PugSlot) : (s.modSlot k f).serial = s.serial := rfl
@[simp] theorem State.modSlot_stepping (k : Nat) (f : PugSlot → PugSlot) : (s.modSlot k f).stepping = s.stepping := rfl
@[simp] theorem State.modSlot_dtb (k : Nat) (f : PugSlot → PugSlot) : (s.modSlot k f).dtb = s.dtb := rfl
@[simp] theorem State.modSlot_incr (k : Nat) (f : PugSlot → PugSlot) : (s.modSlot k f).incr = s.incr := rfl
@[simp] theorem State.modSlot_regs (k : Nat) (f : PugSlot → PugSlot) : (s.modSlot k f).regs = s.regs := rfl
@[simp] theorem State.modSlot_inForce (k : Nat) (f : PugSlot → PugSlot) : (s.modSlot k f).inForce = s.inForce := rfl
@[simp] theorem State.modSlot_lockWritten (k : Nat) (f : PugSlot → PugSlot) : (s.modSlot k f).lockWritten = s.lockWritten := rfl
@[simp] theorem State.modSlot_locked (k : Nat) (f : PugSlot → PugSlot) : (s.modSlot k f).locked = s.locked := rfl
@[simp] theorem State.modSlot_gpioErr (k : Nat) (f : PugSlot → PugSlot) : (s.modSlot k f).gpioErr = s.gpioErr := rfl
@[simp] theorem State.modSlot_gpioLevel (k : Nat) (f : PugSlot → PugSlot) : (s.modSlot k f).gpioLevel = s.gpioLevel := rfl
@[simp] theorem State.modSlot_linkUp (k : Nat) (f : PugSlot → PugSlot) : (s.modSlot k f).linkUp = s.linkUp := rfl
@[simp] theorem State.modSlot_linkRate (k : Nat) (f : PugSlot → PugSlot) : (s.modSlot k f).linkRate = s.linkRate := rfl
@[simp] theorem State.modSlot_linkWidth (k : Nat) (f : PugSlot → PugSlot) : (s.modSlot k f).linkWidth = s.linkWidth := rfl
@[simp] theorem State.modSlot_busMaster (k : Nat) (f : PugSlot → PugSlot) : (s.modSlot k f).busMaster = s.busMaster := rfl
@[simp] theorem State.modSlot_qps (k : Nat) (f : PugSlot → PugSlot) : (s.modSlot k f).qps = s.qps := rfl
@[simp] theorem State.modSlot_vectors (k : Nat) (f : PugSlot → PugSlot) : (s.modSlot k f).vectors = s.vectors := rfl
@[simp] theorem State.modSlot_pba (k : Nat) (f : PugSlot → PugSlot) : (s.modSlot k f).pba = s.pba := rfl
@[simp] theorem State.modSlot_barriers (k : Nat) (f : PugSlot → PugSlot) : (s.modSlot k f).barriers = s.barriers := rfl
@[simp] theorem State.modSlot_waits (k : Nat) (f : PugSlot → PugSlot) : (s.modSlot k f).waits = s.waits := rfl
@[simp] theorem State.modSlot_events (k : Nat) (f : PugSlot → PugSlot) : (s.modSlot k f).events = s.events := rfl
@[simp] theorem State.modSlot_lostEvents (k : Nat) (f : PugSlot → PugSlot) : (s.modSlot k f).lostEvents = s.lostEvents := rfl
@[simp] theorem State.modSlot_reinst (k : Nat) (f : PugSlot → PugSlot) : (s.modSlot k f).reinst = s.reinst := rfl
@[simp] theorem State.modSlot_bridges (k : Nat) (f : PugSlot → PugSlot) : (s.modSlot k f).bridges = s.bridges := rfl
@[simp] theorem State.modSlot_gfes (k : Nat) (f : PugSlot → PugSlot) : (s.modSlot k f).gfes = s.gfes := rfl
@[simp] theorem State.modSlot_lcs (k : Nat) (f : PugSlot → PugSlot) : (s.modSlot k f).lcs = s.lcs := rfl
@[simp] theorem State.modSlot_pwms (k : Nat) (f : PugSlot → PugSlot) : (s.modSlot k f).pwms = s.pwms := rfl
@[simp] theorem State.modSlot_trips (k : Nat) (f : PugSlot → PugSlot) : (s.modSlot k f).trips = s.trips := rfl
@[simp] theorem State.modSlot_links (k : Nat) (f : PugSlot → PugSlot) : (s.modSlot k f).links = s.links := rfl
@[simp] theorem State.modSlot_dsm (k : Nat) (f : PugSlot → PugSlot) : (s.modSlot k f).dsm = s.dsm := rfl
@[simp] theorem State.modSlot_pugTimers (k : Nat) (f : PugSlot → PugSlot) : (s.modSlot k f).pugTimers = s.pugTimers := rfl
@[simp] theorem State.modSlot_poss (k : Nat) (f : PugSlot → PugSlot) : (s.modSlot k f).poss = s.poss := rfl
@[simp] theorem State.modSlot_recal (k : Nat) (f : PugSlot → PugSlot) : (s.modSlot k f).recal = s.recal := rfl
@[simp] theorem State.modSlot_caps (k : Nat) (f : PugSlot → PugSlot) : (s.modSlot k f).caps = s.caps := rfl
@[simp] theorem State.modSlot_armWaits (k : Nat) (f : PugSlot → PugSlot) : (s.modSlot k f).armWaits = s.armWaits := rfl
@[simp] theorem State.modSlot_forceWaits (k : Nat) (f : PugSlot → PugSlot) : (s.modSlot k f).forceWaits = s.forceWaits := rfl
@[simp] theorem State.modSlot_sag (k : Nat) (f : PugSlot → PugSlot) : (s.modSlot k f).sag = s.sag := rfl
@[simp] theorem State.modSlot_resetN (k : Nat) (f : PugSlot → PugSlot) : (s.modSlot k f).resetN = s.resetN := rfl
@[simp] theorem State.modSlot_flt (k : Nat) (f : PugSlot → PugSlot) : (s.modSlot k f).flt = s.flt := rfl
@[simp] theorem State.modSlot_dpx (k : Nat) (f : PugSlot → PugSlot) : (s.modSlot k f).dpx = s.dpx := rfl
@[simp] theorem State.modSlot_wheel (k : Nat) (f : PugSlot → PugSlot) : (s.modSlot k f).wheel = s.wheel := rfl
@[simp] theorem State.modSlot_cyc (k : Nat) (f : PugSlot → PugSlot) : (s.modSlot k f).cyc = s.cyc := rfl
@[simp] theorem State.modSlot_svcs (k : Nat) (f : PugSlot → PugSlot) : (s.modSlot k f).svcs = s.svcs := rfl
@[simp] theorem State.modSlot_time (k : Nat) (f : PugSlot → PugSlot) : (s.modSlot k f).time = s.time := rfl
@[simp] theorem State.modSlot_ports (k : Nat) (f : PugSlot → PugSlot) : (s.modSlot k f).ports = s.ports := rfl
@[simp] theorem State.modSlot_netRx (k : Nat) (f : PugSlot → PugSlot) : (s.modSlot k f).netRx = s.netRx := rfl
@[simp] theorem State.modSlot_filters (k : Nat) (f : PugSlot → PugSlot) : (s.modSlot k f).filters = s.filters := rfl
@[simp] theorem State.modSlot_ring (k : Nat) (f : PugSlot → PugSlot) : (s.modSlot k f).ring = s.ring := rfl
@[simp] theorem State.modSlot_dbg (k : Nat) (f : PugSlot → PugSlot) : (s.modSlot k f).dbg = s.dbg := rfl
@[simp] theorem State.modSlot_pwr (k : Nat) (f : PugSlot → PugSlot) : (s.modSlot k f).pwr = s.pwr := rfl
@[simp] theorem State.modSlot_localRing (k : Nat) (f : PugSlot → PugSlot) : (s.modSlot k f).localRing = s.localRing := rfl

@[simp] theorem State.modSlot_slot_same {k : Nat} (f : PugSlot → PugSlot) (h : k < 48) : (s.modSlot k f).slot k = f (s.slot k) :=
  vget_vmod_same s.slots f h
@[simp] theorem State.modSlot_slot_other {j k : Nat} (f : PugSlot → PugSlot) (h : j ≠ k) : (s.modSlot k f).slot j = s.slot j :=
  vget_vmod_other s.slots f h

/-! ### `modPos` -/

@[simp] theorem State.modPos_pending (k : Nat) (f : PosInput → PosInput) : (s.modPos k f).pending = s.pending := rfl
@[simp] theorem State.modPos_now (k : Nat) (f : PosInput → PosInput) : (s.modPos k f).now = s.now := rfl
@[simp] theorem State.modPos_nextId (k : Nat) (f : PosInput → PosInput) : (s.modPos k f).nextId = s.nextId := rfl
@[simp] theorem State.modPos_freeSeed (k : Nat) (f : PosInput → PosInput) : (s.modPos k f).freeSeed = s.freeSeed := rfl
@[simp] theorem State.modPos_lastRead (k : Nat) (f : PosInput → PosInput) : (s.modPos k f).lastRead = s.lastRead := rfl
@[simp] theorem State.modPos_variant (k : Nat) (f : PosInput → PosInput) : (s.modPos k f).variant = s.variant := rfl
@[simp] theorem State.modPos_serial (k : Nat) (f : PosInput → PosInput) : (s.modPos k f).serial = s.serial := rfl
@[simp] theorem State.modPos_stepping (k : Nat) (f : PosInput → PosInput) : (s.modPos k f).stepping = s.stepping := rfl
@[simp] theorem State.modPos_dtb (k : Nat) (f : PosInput → PosInput) : (s.modPos k f).dtb = s.dtb := rfl
@[simp] theorem State.modPos_incr (k : Nat) (f : PosInput → PosInput) : (s.modPos k f).incr = s.incr := rfl
@[simp] theorem State.modPos_regs (k : Nat) (f : PosInput → PosInput) : (s.modPos k f).regs = s.regs := rfl
@[simp] theorem State.modPos_inForce (k : Nat) (f : PosInput → PosInput) : (s.modPos k f).inForce = s.inForce := rfl
@[simp] theorem State.modPos_lockWritten (k : Nat) (f : PosInput → PosInput) : (s.modPos k f).lockWritten = s.lockWritten := rfl
@[simp] theorem State.modPos_locked (k : Nat) (f : PosInput → PosInput) : (s.modPos k f).locked = s.locked := rfl
@[simp] theorem State.modPos_gpioErr (k : Nat) (f : PosInput → PosInput) : (s.modPos k f).gpioErr = s.gpioErr := rfl
@[simp] theorem State.modPos_gpioLevel (k : Nat) (f : PosInput → PosInput) : (s.modPos k f).gpioLevel = s.gpioLevel := rfl
@[simp] theorem State.modPos_linkUp (k : Nat) (f : PosInput → PosInput) : (s.modPos k f).linkUp = s.linkUp := rfl
@[simp] theorem State.modPos_linkRate (k : Nat) (f : PosInput → PosInput) : (s.modPos k f).linkRate = s.linkRate := rfl
@[simp] theorem State.modPos_linkWidth (k : Nat) (f : PosInput → PosInput) : (s.modPos k f).linkWidth = s.linkWidth := rfl
@[simp] theorem State.modPos_busMaster (k : Nat) (f : PosInput → PosInput) : (s.modPos k f).busMaster = s.busMaster := rfl
@[simp] theorem State.modPos_qps (k : Nat) (f : PosInput → PosInput) : (s.modPos k f).qps = s.qps := rfl
@[simp] theorem State.modPos_vectors (k : Nat) (f : PosInput → PosInput) : (s.modPos k f).vectors = s.vectors := rfl
@[simp] theorem State.modPos_pba (k : Nat) (f : PosInput → PosInput) : (s.modPos k f).pba = s.pba := rfl
@[simp] theorem State.modPos_barriers (k : Nat) (f : PosInput → PosInput) : (s.modPos k f).barriers = s.barriers := rfl
@[simp] theorem State.modPos_waits (k : Nat) (f : PosInput → PosInput) : (s.modPos k f).waits = s.waits := rfl
@[simp] theorem State.modPos_events (k : Nat) (f : PosInput → PosInput) : (s.modPos k f).events = s.events := rfl
@[simp] theorem State.modPos_lostEvents (k : Nat) (f : PosInput → PosInput) : (s.modPos k f).lostEvents = s.lostEvents := rfl
@[simp] theorem State.modPos_reinst (k : Nat) (f : PosInput → PosInput) : (s.modPos k f).reinst = s.reinst := rfl
@[simp] theorem State.modPos_bridges (k : Nat) (f : PosInput → PosInput) : (s.modPos k f).bridges = s.bridges := rfl
@[simp] theorem State.modPos_gfes (k : Nat) (f : PosInput → PosInput) : (s.modPos k f).gfes = s.gfes := rfl
@[simp] theorem State.modPos_lcs (k : Nat) (f : PosInput → PosInput) : (s.modPos k f).lcs = s.lcs := rfl
@[simp] theorem State.modPos_pwms (k : Nat) (f : PosInput → PosInput) : (s.modPos k f).pwms = s.pwms := rfl
@[simp] theorem State.modPos_trips (k : Nat) (f : PosInput → PosInput) : (s.modPos k f).trips = s.trips := rfl
@[simp] theorem State.modPos_links (k : Nat) (f : PosInput → PosInput) : (s.modPos k f).links = s.links := rfl
@[simp] theorem State.modPos_slots (k : Nat) (f : PosInput → PosInput) : (s.modPos k f).slots = s.slots := rfl
@[simp] theorem State.modPos_dsm (k : Nat) (f : PosInput → PosInput) : (s.modPos k f).dsm = s.dsm := rfl
@[simp] theorem State.modPos_pugTimers (k : Nat) (f : PosInput → PosInput) : (s.modPos k f).pugTimers = s.pugTimers := rfl
@[simp] theorem State.modPos_recal (k : Nat) (f : PosInput → PosInput) : (s.modPos k f).recal = s.recal := rfl
@[simp] theorem State.modPos_caps (k : Nat) (f : PosInput → PosInput) : (s.modPos k f).caps = s.caps := rfl
@[simp] theorem State.modPos_armWaits (k : Nat) (f : PosInput → PosInput) : (s.modPos k f).armWaits = s.armWaits := rfl
@[simp] theorem State.modPos_forceWaits (k : Nat) (f : PosInput → PosInput) : (s.modPos k f).forceWaits = s.forceWaits := rfl
@[simp] theorem State.modPos_sag (k : Nat) (f : PosInput → PosInput) : (s.modPos k f).sag = s.sag := rfl
@[simp] theorem State.modPos_resetN (k : Nat) (f : PosInput → PosInput) : (s.modPos k f).resetN = s.resetN := rfl
@[simp] theorem State.modPos_flt (k : Nat) (f : PosInput → PosInput) : (s.modPos k f).flt = s.flt := rfl
@[simp] theorem State.modPos_dpx (k : Nat) (f : PosInput → PosInput) : (s.modPos k f).dpx = s.dpx := rfl
@[simp] theorem State.modPos_wheel (k : Nat) (f : PosInput → PosInput) : (s.modPos k f).wheel = s.wheel := rfl
@[simp] theorem State.modPos_cyc (k : Nat) (f : PosInput → PosInput) : (s.modPos k f).cyc = s.cyc := rfl
@[simp] theorem State.modPos_svcs (k : Nat) (f : PosInput → PosInput) : (s.modPos k f).svcs = s.svcs := rfl
@[simp] theorem State.modPos_time (k : Nat) (f : PosInput → PosInput) : (s.modPos k f).time = s.time := rfl
@[simp] theorem State.modPos_ports (k : Nat) (f : PosInput → PosInput) : (s.modPos k f).ports = s.ports := rfl
@[simp] theorem State.modPos_netRx (k : Nat) (f : PosInput → PosInput) : (s.modPos k f).netRx = s.netRx := rfl
@[simp] theorem State.modPos_filters (k : Nat) (f : PosInput → PosInput) : (s.modPos k f).filters = s.filters := rfl
@[simp] theorem State.modPos_ring (k : Nat) (f : PosInput → PosInput) : (s.modPos k f).ring = s.ring := rfl
@[simp] theorem State.modPos_dbg (k : Nat) (f : PosInput → PosInput) : (s.modPos k f).dbg = s.dbg := rfl
@[simp] theorem State.modPos_pwr (k : Nat) (f : PosInput → PosInput) : (s.modPos k f).pwr = s.pwr := rfl
@[simp] theorem State.modPos_localRing (k : Nat) (f : PosInput → PosInput) : (s.modPos k f).localRing = s.localRing := rfl

@[simp] theorem State.modPos_position_same {k : Nat} (f : PosInput → PosInput) (h : k < 4) : (s.modPos k f).position k = f (s.position k) :=
  vget_vmod_same s.poss f h
@[simp] theorem State.modPos_position_other {j k : Nat} (f : PosInput → PosInput) (h : j ≠ k) : (s.modPos k f).position j = s.position j :=
  vget_vmod_other s.poss f h

/-! ### `modCap` -/

@[simp] theorem State.modCap_pending (k : Nat) (f : CapUnit → CapUnit) : (s.modCap k f).pending = s.pending := rfl
@[simp] theorem State.modCap_now (k : Nat) (f : CapUnit → CapUnit) : (s.modCap k f).now = s.now := rfl
@[simp] theorem State.modCap_nextId (k : Nat) (f : CapUnit → CapUnit) : (s.modCap k f).nextId = s.nextId := rfl
@[simp] theorem State.modCap_freeSeed (k : Nat) (f : CapUnit → CapUnit) : (s.modCap k f).freeSeed = s.freeSeed := rfl
@[simp] theorem State.modCap_lastRead (k : Nat) (f : CapUnit → CapUnit) : (s.modCap k f).lastRead = s.lastRead := rfl
@[simp] theorem State.modCap_variant (k : Nat) (f : CapUnit → CapUnit) : (s.modCap k f).variant = s.variant := rfl
@[simp] theorem State.modCap_serial (k : Nat) (f : CapUnit → CapUnit) : (s.modCap k f).serial = s.serial := rfl
@[simp] theorem State.modCap_stepping (k : Nat) (f : CapUnit → CapUnit) : (s.modCap k f).stepping = s.stepping := rfl
@[simp] theorem State.modCap_dtb (k : Nat) (f : CapUnit → CapUnit) : (s.modCap k f).dtb = s.dtb := rfl
@[simp] theorem State.modCap_incr (k : Nat) (f : CapUnit → CapUnit) : (s.modCap k f).incr = s.incr := rfl
@[simp] theorem State.modCap_regs (k : Nat) (f : CapUnit → CapUnit) : (s.modCap k f).regs = s.regs := rfl
@[simp] theorem State.modCap_inForce (k : Nat) (f : CapUnit → CapUnit) : (s.modCap k f).inForce = s.inForce := rfl
@[simp] theorem State.modCap_lockWritten (k : Nat) (f : CapUnit → CapUnit) : (s.modCap k f).lockWritten = s.lockWritten := rfl
@[simp] theorem State.modCap_locked (k : Nat) (f : CapUnit → CapUnit) : (s.modCap k f).locked = s.locked := rfl
@[simp] theorem State.modCap_gpioErr (k : Nat) (f : CapUnit → CapUnit) : (s.modCap k f).gpioErr = s.gpioErr := rfl
@[simp] theorem State.modCap_gpioLevel (k : Nat) (f : CapUnit → CapUnit) : (s.modCap k f).gpioLevel = s.gpioLevel := rfl
@[simp] theorem State.modCap_linkUp (k : Nat) (f : CapUnit → CapUnit) : (s.modCap k f).linkUp = s.linkUp := rfl
@[simp] theorem State.modCap_linkRate (k : Nat) (f : CapUnit → CapUnit) : (s.modCap k f).linkRate = s.linkRate := rfl
@[simp] theorem State.modCap_linkWidth (k : Nat) (f : CapUnit → CapUnit) : (s.modCap k f).linkWidth = s.linkWidth := rfl
@[simp] theorem State.modCap_busMaster (k : Nat) (f : CapUnit → CapUnit) : (s.modCap k f).busMaster = s.busMaster := rfl
@[simp] theorem State.modCap_qps (k : Nat) (f : CapUnit → CapUnit) : (s.modCap k f).qps = s.qps := rfl
@[simp] theorem State.modCap_vectors (k : Nat) (f : CapUnit → CapUnit) : (s.modCap k f).vectors = s.vectors := rfl
@[simp] theorem State.modCap_pba (k : Nat) (f : CapUnit → CapUnit) : (s.modCap k f).pba = s.pba := rfl
@[simp] theorem State.modCap_barriers (k : Nat) (f : CapUnit → CapUnit) : (s.modCap k f).barriers = s.barriers := rfl
@[simp] theorem State.modCap_waits (k : Nat) (f : CapUnit → CapUnit) : (s.modCap k f).waits = s.waits := rfl
@[simp] theorem State.modCap_events (k : Nat) (f : CapUnit → CapUnit) : (s.modCap k f).events = s.events := rfl
@[simp] theorem State.modCap_lostEvents (k : Nat) (f : CapUnit → CapUnit) : (s.modCap k f).lostEvents = s.lostEvents := rfl
@[simp] theorem State.modCap_reinst (k : Nat) (f : CapUnit → CapUnit) : (s.modCap k f).reinst = s.reinst := rfl
@[simp] theorem State.modCap_bridges (k : Nat) (f : CapUnit → CapUnit) : (s.modCap k f).bridges = s.bridges := rfl
@[simp] theorem State.modCap_gfes (k : Nat) (f : CapUnit → CapUnit) : (s.modCap k f).gfes = s.gfes := rfl
@[simp] theorem State.modCap_lcs (k : Nat) (f : CapUnit → CapUnit) : (s.modCap k f).lcs = s.lcs := rfl
@[simp] theorem State.modCap_pwms (k : Nat) (f : CapUnit → CapUnit) : (s.modCap k f).pwms = s.pwms := rfl
@[simp] theorem State.modCap_trips (k : Nat) (f : CapUnit → CapUnit) : (s.modCap k f).trips = s.trips := rfl
@[simp] theorem State.modCap_links (k : Nat) (f : CapUnit → CapUnit) : (s.modCap k f).links = s.links := rfl
@[simp] theorem State.modCap_slots (k : Nat) (f : CapUnit → CapUnit) : (s.modCap k f).slots = s.slots := rfl
@[simp] theorem State.modCap_dsm (k : Nat) (f : CapUnit → CapUnit) : (s.modCap k f).dsm = s.dsm := rfl
@[simp] theorem State.modCap_pugTimers (k : Nat) (f : CapUnit → CapUnit) : (s.modCap k f).pugTimers = s.pugTimers := rfl
@[simp] theorem State.modCap_poss (k : Nat) (f : CapUnit → CapUnit) : (s.modCap k f).poss = s.poss := rfl
@[simp] theorem State.modCap_recal (k : Nat) (f : CapUnit → CapUnit) : (s.modCap k f).recal = s.recal := rfl
@[simp] theorem State.modCap_armWaits (k : Nat) (f : CapUnit → CapUnit) : (s.modCap k f).armWaits = s.armWaits := rfl
@[simp] theorem State.modCap_forceWaits (k : Nat) (f : CapUnit → CapUnit) : (s.modCap k f).forceWaits = s.forceWaits := rfl
@[simp] theorem State.modCap_sag (k : Nat) (f : CapUnit → CapUnit) : (s.modCap k f).sag = s.sag := rfl
@[simp] theorem State.modCap_resetN (k : Nat) (f : CapUnit → CapUnit) : (s.modCap k f).resetN = s.resetN := rfl
@[simp] theorem State.modCap_flt (k : Nat) (f : CapUnit → CapUnit) : (s.modCap k f).flt = s.flt := rfl
@[simp] theorem State.modCap_dpx (k : Nat) (f : CapUnit → CapUnit) : (s.modCap k f).dpx = s.dpx := rfl
@[simp] theorem State.modCap_wheel (k : Nat) (f : CapUnit → CapUnit) : (s.modCap k f).wheel = s.wheel := rfl
@[simp] theorem State.modCap_cyc (k : Nat) (f : CapUnit → CapUnit) : (s.modCap k f).cyc = s.cyc := rfl
@[simp] theorem State.modCap_svcs (k : Nat) (f : CapUnit → CapUnit) : (s.modCap k f).svcs = s.svcs := rfl
@[simp] theorem State.modCap_time (k : Nat) (f : CapUnit → CapUnit) : (s.modCap k f).time = s.time := rfl
@[simp] theorem State.modCap_ports (k : Nat) (f : CapUnit → CapUnit) : (s.modCap k f).ports = s.ports := rfl
@[simp] theorem State.modCap_netRx (k : Nat) (f : CapUnit → CapUnit) : (s.modCap k f).netRx = s.netRx := rfl
@[simp] theorem State.modCap_filters (k : Nat) (f : CapUnit → CapUnit) : (s.modCap k f).filters = s.filters := rfl
@[simp] theorem State.modCap_ring (k : Nat) (f : CapUnit → CapUnit) : (s.modCap k f).ring = s.ring := rfl
@[simp] theorem State.modCap_dbg (k : Nat) (f : CapUnit → CapUnit) : (s.modCap k f).dbg = s.dbg := rfl
@[simp] theorem State.modCap_pwr (k : Nat) (f : CapUnit → CapUnit) : (s.modCap k f).pwr = s.pwr := rfl
@[simp] theorem State.modCap_localRing (k : Nat) (f : CapUnit → CapUnit) : (s.modCap k f).localRing = s.localRing := rfl

@[simp] theorem State.modCap_cap_same {k : Nat} (f : CapUnit → CapUnit) (h : k < 4) : (s.modCap k f).cap k = f (s.cap k) :=
  vget_vmod_same s.caps f h
@[simp] theorem State.modCap_cap_other {j k : Nat} (f : CapUnit → CapUnit) (h : j ≠ k) : (s.modCap k f).cap j = s.cap j :=
  vget_vmod_other s.caps f h

/-! ### `modPort` -/

@[simp] theorem State.modPort_pending (k : Nat) (f : EthPort → EthPort) : (s.modPort k f).pending = s.pending := rfl
@[simp] theorem State.modPort_now (k : Nat) (f : EthPort → EthPort) : (s.modPort k f).now = s.now := rfl
@[simp] theorem State.modPort_nextId (k : Nat) (f : EthPort → EthPort) : (s.modPort k f).nextId = s.nextId := rfl
@[simp] theorem State.modPort_freeSeed (k : Nat) (f : EthPort → EthPort) : (s.modPort k f).freeSeed = s.freeSeed := rfl
@[simp] theorem State.modPort_lastRead (k : Nat) (f : EthPort → EthPort) : (s.modPort k f).lastRead = s.lastRead := rfl
@[simp] theorem State.modPort_variant (k : Nat) (f : EthPort → EthPort) : (s.modPort k f).variant = s.variant := rfl
@[simp] theorem State.modPort_serial (k : Nat) (f : EthPort → EthPort) : (s.modPort k f).serial = s.serial := rfl
@[simp] theorem State.modPort_stepping (k : Nat) (f : EthPort → EthPort) : (s.modPort k f).stepping = s.stepping := rfl
@[simp] theorem State.modPort_dtb (k : Nat) (f : EthPort → EthPort) : (s.modPort k f).dtb = s.dtb := rfl
@[simp] theorem State.modPort_incr (k : Nat) (f : EthPort → EthPort) : (s.modPort k f).incr = s.incr := rfl
@[simp] theorem State.modPort_regs (k : Nat) (f : EthPort → EthPort) : (s.modPort k f).regs = s.regs := rfl
@[simp] theorem State.modPort_inForce (k : Nat) (f : EthPort → EthPort) : (s.modPort k f).inForce = s.inForce := rfl
@[simp] theorem State.modPort_lockWritten (k : Nat) (f : EthPort → EthPort) : (s.modPort k f).lockWritten = s.lockWritten := rfl
@[simp] theorem State.modPort_locked (k : Nat) (f : EthPort → EthPort) : (s.modPort k f).locked = s.locked := rfl
@[simp] theorem State.modPort_gpioErr (k : Nat) (f : EthPort → EthPort) : (s.modPort k f).gpioErr = s.gpioErr := rfl
@[simp] theorem State.modPort_gpioLevel (k : Nat) (f : EthPort → EthPort) : (s.modPort k f).gpioLevel = s.gpioLevel := rfl
@[simp] theorem State.modPort_linkUp (k : Nat) (f : EthPort → EthPort) : (s.modPort k f).linkUp = s.linkUp := rfl
@[simp] theorem State.modPort_linkRate (k : Nat) (f : EthPort → EthPort) : (s.modPort k f).linkRate = s.linkRate := rfl
@[simp] theorem State.modPort_linkWidth (k : Nat) (f : EthPort → EthPort) : (s.modPort k f).linkWidth = s.linkWidth := rfl
@[simp] theorem State.modPort_busMaster (k : Nat) (f : EthPort → EthPort) : (s.modPort k f).busMaster = s.busMaster := rfl
@[simp] theorem State.modPort_qps (k : Nat) (f : EthPort → EthPort) : (s.modPort k f).qps = s.qps := rfl
@[simp] theorem State.modPort_vectors (k : Nat) (f : EthPort → EthPort) : (s.modPort k f).vectors = s.vectors := rfl
@[simp] theorem State.modPort_pba (k : Nat) (f : EthPort → EthPort) : (s.modPort k f).pba = s.pba := rfl
@[simp] theorem State.modPort_barriers (k : Nat) (f : EthPort → EthPort) : (s.modPort k f).barriers = s.barriers := rfl
@[simp] theorem State.modPort_waits (k : Nat) (f : EthPort → EthPort) : (s.modPort k f).waits = s.waits := rfl
@[simp] theorem State.modPort_events (k : Nat) (f : EthPort → EthPort) : (s.modPort k f).events = s.events := rfl
@[simp] theorem State.modPort_lostEvents (k : Nat) (f : EthPort → EthPort) : (s.modPort k f).lostEvents = s.lostEvents := rfl
@[simp] theorem State.modPort_reinst (k : Nat) (f : EthPort → EthPort) : (s.modPort k f).reinst = s.reinst := rfl
@[simp] theorem State.modPort_bridges (k : Nat) (f : EthPort → EthPort) : (s.modPort k f).bridges = s.bridges := rfl
@[simp] theorem State.modPort_gfes (k : Nat) (f : EthPort → EthPort) : (s.modPort k f).gfes = s.gfes := rfl
@[simp] theorem State.modPort_lcs (k : Nat) (f : EthPort → EthPort) : (s.modPort k f).lcs = s.lcs := rfl
@[simp] theorem State.modPort_pwms (k : Nat) (f : EthPort → EthPort) : (s.modPort k f).pwms = s.pwms := rfl
@[simp] theorem State.modPort_trips (k : Nat) (f : EthPort → EthPort) : (s.modPort k f).trips = s.trips := rfl
@[simp] theorem State.modPort_links (k : Nat) (f : EthPort → EthPort) : (s.modPort k f).links = s.links := rfl
@[simp] theorem State.modPort_slots (k : Nat) (f : EthPort → EthPort) : (s.modPort k f).slots = s.slots := rfl
@[simp] theorem State.modPort_dsm (k : Nat) (f : EthPort → EthPort) : (s.modPort k f).dsm = s.dsm := rfl
@[simp] theorem State.modPort_pugTimers (k : Nat) (f : EthPort → EthPort) : (s.modPort k f).pugTimers = s.pugTimers := rfl
@[simp] theorem State.modPort_poss (k : Nat) (f : EthPort → EthPort) : (s.modPort k f).poss = s.poss := rfl
@[simp] theorem State.modPort_recal (k : Nat) (f : EthPort → EthPort) : (s.modPort k f).recal = s.recal := rfl
@[simp] theorem State.modPort_caps (k : Nat) (f : EthPort → EthPort) : (s.modPort k f).caps = s.caps := rfl
@[simp] theorem State.modPort_armWaits (k : Nat) (f : EthPort → EthPort) : (s.modPort k f).armWaits = s.armWaits := rfl
@[simp] theorem State.modPort_forceWaits (k : Nat) (f : EthPort → EthPort) : (s.modPort k f).forceWaits = s.forceWaits := rfl
@[simp] theorem State.modPort_sag (k : Nat) (f : EthPort → EthPort) : (s.modPort k f).sag = s.sag := rfl
@[simp] theorem State.modPort_resetN (k : Nat) (f : EthPort → EthPort) : (s.modPort k f).resetN = s.resetN := rfl
@[simp] theorem State.modPort_flt (k : Nat) (f : EthPort → EthPort) : (s.modPort k f).flt = s.flt := rfl
@[simp] theorem State.modPort_dpx (k : Nat) (f : EthPort → EthPort) : (s.modPort k f).dpx = s.dpx := rfl
@[simp] theorem State.modPort_wheel (k : Nat) (f : EthPort → EthPort) : (s.modPort k f).wheel = s.wheel := rfl
@[simp] theorem State.modPort_cyc (k : Nat) (f : EthPort → EthPort) : (s.modPort k f).cyc = s.cyc := rfl
@[simp] theorem State.modPort_svcs (k : Nat) (f : EthPort → EthPort) : (s.modPort k f).svcs = s.svcs := rfl
@[simp] theorem State.modPort_time (k : Nat) (f : EthPort → EthPort) : (s.modPort k f).time = s.time := rfl
@[simp] theorem State.modPort_netRx (k : Nat) (f : EthPort → EthPort) : (s.modPort k f).netRx = s.netRx := rfl
@[simp] theorem State.modPort_filters (k : Nat) (f : EthPort → EthPort) : (s.modPort k f).filters = s.filters := rfl
@[simp] theorem State.modPort_ring (k : Nat) (f : EthPort → EthPort) : (s.modPort k f).ring = s.ring := rfl
@[simp] theorem State.modPort_dbg (k : Nat) (f : EthPort → EthPort) : (s.modPort k f).dbg = s.dbg := rfl
@[simp] theorem State.modPort_pwr (k : Nat) (f : EthPort → EthPort) : (s.modPort k f).pwr = s.pwr := rfl
@[simp] theorem State.modPort_localRing (k : Nat) (f : EthPort → EthPort) : (s.modPort k f).localRing = s.localRing := rfl

/-! ### `modPwr` -/

@[simp] theorem State.modPwr_pending (f : Power → Power) : (s.modPwr f).pending = s.pending := rfl
@[simp] theorem State.modPwr_now (f : Power → Power) : (s.modPwr f).now = s.now := rfl
@[simp] theorem State.modPwr_nextId (f : Power → Power) : (s.modPwr f).nextId = s.nextId := rfl
@[simp] theorem State.modPwr_freeSeed (f : Power → Power) : (s.modPwr f).freeSeed = s.freeSeed := rfl
@[simp] theorem State.modPwr_lastRead (f : Power → Power) : (s.modPwr f).lastRead = s.lastRead := rfl
@[simp] theorem State.modPwr_variant (f : Power → Power) : (s.modPwr f).variant = s.variant := rfl
@[simp] theorem State.modPwr_serial (f : Power → Power) : (s.modPwr f).serial = s.serial := rfl
@[simp] theorem State.modPwr_stepping (f : Power → Power) : (s.modPwr f).stepping = s.stepping := rfl
@[simp] theorem State.modPwr_dtb (f : Power → Power) : (s.modPwr f).dtb = s.dtb := rfl
@[simp] theorem State.modPwr_incr (f : Power → Power) : (s.modPwr f).incr = s.incr := rfl
@[simp] theorem State.modPwr_regs (f : Power → Power) : (s.modPwr f).regs = s.regs := rfl
@[simp] theorem State.modPwr_inForce (f : Power → Power) : (s.modPwr f).inForce = s.inForce := rfl
@[simp] theorem State.modPwr_lockWritten (f : Power → Power) : (s.modPwr f).lockWritten = s.lockWritten := rfl
@[simp] theorem State.modPwr_locked (f : Power → Power) : (s.modPwr f).locked = s.locked := rfl
@[simp] theorem State.modPwr_gpioErr (f : Power → Power) : (s.modPwr f).gpioErr = s.gpioErr := rfl
@[simp] theorem State.modPwr_gpioLevel (f : Power → Power) : (s.modPwr f).gpioLevel = s.gpioLevel := rfl
@[simp] theorem State.modPwr_linkUp (f : Power → Power) : (s.modPwr f).linkUp = s.linkUp := rfl
@[simp] theorem State.modPwr_linkRate (f : Power → Power) : (s.modPwr f).linkRate = s.linkRate := rfl
@[simp] theorem State.modPwr_linkWidth (f : Power → Power) : (s.modPwr f).linkWidth = s.linkWidth := rfl
@[simp] theorem State.modPwr_busMaster (f : Power → Power) : (s.modPwr f).busMaster = s.busMaster := rfl
@[simp] theorem State.modPwr_qps (f : Power → Power) : (s.modPwr f).qps = s.qps := rfl
@[simp] theorem State.modPwr_vectors (f : Power → Power) : (s.modPwr f).vectors = s.vectors := rfl
@[simp] theorem State.modPwr_pba (f : Power → Power) : (s.modPwr f).pba = s.pba := rfl
@[simp] theorem State.modPwr_barriers (f : Power → Power) : (s.modPwr f).barriers = s.barriers := rfl
@[simp] theorem State.modPwr_waits (f : Power → Power) : (s.modPwr f).waits = s.waits := rfl
@[simp] theorem State.modPwr_events (f : Power → Power) : (s.modPwr f).events = s.events := rfl
@[simp] theorem State.modPwr_lostEvents (f : Power → Power) : (s.modPwr f).lostEvents = s.lostEvents := rfl
@[simp] theorem State.modPwr_reinst (f : Power → Power) : (s.modPwr f).reinst = s.reinst := rfl
@[simp] theorem State.modPwr_bridges (f : Power → Power) : (s.modPwr f).bridges = s.bridges := rfl
@[simp] theorem State.modPwr_gfes (f : Power → Power) : (s.modPwr f).gfes = s.gfes := rfl
@[simp] theorem State.modPwr_lcs (f : Power → Power) : (s.modPwr f).lcs = s.lcs := rfl
@[simp] theorem State.modPwr_pwms (f : Power → Power) : (s.modPwr f).pwms = s.pwms := rfl
@[simp] theorem State.modPwr_trips (f : Power → Power) : (s.modPwr f).trips = s.trips := rfl
@[simp] theorem State.modPwr_links (f : Power → Power) : (s.modPwr f).links = s.links := rfl
@[simp] theorem State.modPwr_slots (f : Power → Power) : (s.modPwr f).slots = s.slots := rfl
@[simp] theorem State.modPwr_dsm (f : Power → Power) : (s.modPwr f).dsm = s.dsm := rfl
@[simp] theorem State.modPwr_pugTimers (f : Power → Power) : (s.modPwr f).pugTimers = s.pugTimers := rfl
@[simp] theorem State.modPwr_poss (f : Power → Power) : (s.modPwr f).poss = s.poss := rfl
@[simp] theorem State.modPwr_recal (f : Power → Power) : (s.modPwr f).recal = s.recal := rfl
@[simp] theorem State.modPwr_caps (f : Power → Power) : (s.modPwr f).caps = s.caps := rfl
@[simp] theorem State.modPwr_armWaits (f : Power → Power) : (s.modPwr f).armWaits = s.armWaits := rfl
@[simp] theorem State.modPwr_forceWaits (f : Power → Power) : (s.modPwr f).forceWaits = s.forceWaits := rfl
@[simp] theorem State.modPwr_sag (f : Power → Power) : (s.modPwr f).sag = s.sag := rfl
@[simp] theorem State.modPwr_resetN (f : Power → Power) : (s.modPwr f).resetN = s.resetN := rfl
@[simp] theorem State.modPwr_flt (f : Power → Power) : (s.modPwr f).flt = s.flt := rfl
@[simp] theorem State.modPwr_dpx (f : Power → Power) : (s.modPwr f).dpx = s.dpx := rfl
@[simp] theorem State.modPwr_wheel (f : Power → Power) : (s.modPwr f).wheel = s.wheel := rfl
@[simp] theorem State.modPwr_cyc (f : Power → Power) : (s.modPwr f).cyc = s.cyc := rfl
@[simp] theorem State.modPwr_svcs (f : Power → Power) : (s.modPwr f).svcs = s.svcs := rfl
@[simp] theorem State.modPwr_time (f : Power → Power) : (s.modPwr f).time = s.time := rfl
@[simp] theorem State.modPwr_ports (f : Power → Power) : (s.modPwr f).ports = s.ports := rfl
@[simp] theorem State.modPwr_netRx (f : Power → Power) : (s.modPwr f).netRx = s.netRx := rfl
@[simp] theorem State.modPwr_filters (f : Power → Power) : (s.modPwr f).filters = s.filters := rfl
@[simp] theorem State.modPwr_ring (f : Power → Power) : (s.modPwr f).ring = s.ring := rfl
@[simp] theorem State.modPwr_dbg (f : Power → Power) : (s.modPwr f).dbg = s.dbg := rfl
@[simp] theorem State.modPwr_localRing (f : Power → Power) : (s.modPwr f).localRing = s.localRing := rfl

@[simp] theorem State.modPwr_pwr (f : Power → Power) : (s.modPwr f).pwr = f s.pwr := rfl

/-! ### `modDbg` -/

@[simp] theorem State.modDbg_pending (f : Debug → Debug) : (s.modDbg f).pending = s.pending := rfl
@[simp] theorem State.modDbg_now (f : Debug → Debug) : (s.modDbg f).now = s.now := rfl
@[simp] theorem State.modDbg_nextId (f : Debug → Debug) : (s.modDbg f).nextId = s.nextId := rfl
@[simp] theorem State.modDbg_freeSeed (f : Debug → Debug) : (s.modDbg f).freeSeed = s.freeSeed := rfl
@[simp] theorem State.modDbg_lastRead (f : Debug → Debug) : (s.modDbg f).lastRead = s.lastRead := rfl
@[simp] theorem State.modDbg_variant (f : Debug → Debug) : (s.modDbg f).variant = s.variant := rfl
@[simp] theorem State.modDbg_serial (f : Debug → Debug) : (s.modDbg f).serial = s.serial := rfl
@[simp] theorem State.modDbg_stepping (f : Debug → Debug) : (s.modDbg f).stepping = s.stepping := rfl
@[simp] theorem State.modDbg_dtb (f : Debug → Debug) : (s.modDbg f).dtb = s.dtb := rfl
@[simp] theorem State.modDbg_incr (f : Debug → Debug) : (s.modDbg f).incr = s.incr := rfl
@[simp] theorem State.modDbg_regs (f : Debug → Debug) : (s.modDbg f).regs = s.regs := rfl
@[simp] theorem State.modDbg_inForce (f : Debug → Debug) : (s.modDbg f).inForce = s.inForce := rfl
@[simp] theorem State.modDbg_lockWritten (f : Debug → Debug) : (s.modDbg f).lockWritten = s.lockWritten := rfl
@[simp] theorem State.modDbg_locked (f : Debug → Debug) : (s.modDbg f).locked = s.locked := rfl
@[simp] theorem State.modDbg_gpioErr (f : Debug → Debug) : (s.modDbg f).gpioErr = s.gpioErr := rfl
@[simp] theorem State.modDbg_gpioLevel (f : Debug → Debug) : (s.modDbg f).gpioLevel = s.gpioLevel := rfl
@[simp] theorem State.modDbg_linkUp (f : Debug → Debug) : (s.modDbg f).linkUp = s.linkUp := rfl
@[simp] theorem State.modDbg_linkRate (f : Debug → Debug) : (s.modDbg f).linkRate = s.linkRate := rfl
@[simp] theorem State.modDbg_linkWidth (f : Debug → Debug) : (s.modDbg f).linkWidth = s.linkWidth := rfl
@[simp] theorem State.modDbg_busMaster (f : Debug → Debug) : (s.modDbg f).busMaster = s.busMaster := rfl
@[simp] theorem State.modDbg_qps (f : Debug → Debug) : (s.modDbg f).qps = s.qps := rfl
@[simp] theorem State.modDbg_vectors (f : Debug → Debug) : (s.modDbg f).vectors = s.vectors := rfl
@[simp] theorem State.modDbg_pba (f : Debug → Debug) : (s.modDbg f).pba = s.pba := rfl
@[simp] theorem State.modDbg_barriers (f : Debug → Debug) : (s.modDbg f).barriers = s.barriers := rfl
@[simp] theorem State.modDbg_waits (f : Debug → Debug) : (s.modDbg f).waits = s.waits := rfl
@[simp] theorem State.modDbg_events (f : Debug → Debug) : (s.modDbg f).events = s.events := rfl
@[simp] theorem State.modDbg_lostEvents (f : Debug → Debug) : (s.modDbg f).lostEvents = s.lostEvents := rfl
@[simp] theorem State.modDbg_reinst (f : Debug → Debug) : (s.modDbg f).reinst = s.reinst := rfl
@[simp] theorem State.modDbg_bridges (f : Debug → Debug) : (s.modDbg f).bridges = s.bridges := rfl
@[simp] theorem State.modDbg_gfes (f : Debug → Debug) : (s.modDbg f).gfes = s.gfes := rfl
@[simp] theorem State.modDbg_lcs (f : Debug → Debug) : (s.modDbg f).lcs = s.lcs := rfl
@[simp] theorem State.modDbg_pwms (f : Debug → Debug) : (s.modDbg f).pwms = s.pwms := rfl
@[simp] theorem State.modDbg_trips (f : Debug → Debug) : (s.modDbg f).trips = s.trips := rfl
@[simp] theorem State.modDbg_links (f : Debug → Debug) : (s.modDbg f).links = s.links := rfl
@[simp] theorem State.modDbg_slots (f : Debug → Debug) : (s.modDbg f).slots = s.slots := rfl
@[simp] theorem State.modDbg_dsm (f : Debug → Debug) : (s.modDbg f).dsm = s.dsm := rfl
@[simp] theorem State.modDbg_pugTimers (f : Debug → Debug) : (s.modDbg f).pugTimers = s.pugTimers := rfl
@[simp] theorem State.modDbg_poss (f : Debug → Debug) : (s.modDbg f).poss = s.poss := rfl
@[simp] theorem State.modDbg_recal (f : Debug → Debug) : (s.modDbg f).recal = s.recal := rfl
@[simp] theorem State.modDbg_caps (f : Debug → Debug) : (s.modDbg f).caps = s.caps := rfl
@[simp] theorem State.modDbg_armWaits (f : Debug → Debug) : (s.modDbg f).armWaits = s.armWaits := rfl
@[simp] theorem State.modDbg_forceWaits (f : Debug → Debug) : (s.modDbg f).forceWaits = s.forceWaits := rfl
@[simp] theorem State.modDbg_sag (f : Debug → Debug) : (s.modDbg f).sag = s.sag := rfl
@[simp] theorem State.modDbg_resetN (f : Debug → Debug) : (s.modDbg f).resetN = s.resetN := rfl
@[simp] theorem State.modDbg_flt (f : Debug → Debug) : (s.modDbg f).flt = s.flt := rfl
@[simp] theorem State.modDbg_dpx (f : Debug → Debug) : (s.modDbg f).dpx = s.dpx := rfl
@[simp] theorem State.modDbg_wheel (f : Debug → Debug) : (s.modDbg f).wheel = s.wheel := rfl
@[simp] theorem State.modDbg_cyc (f : Debug → Debug) : (s.modDbg f).cyc = s.cyc := rfl
@[simp] theorem State.modDbg_svcs (f : Debug → Debug) : (s.modDbg f).svcs = s.svcs := rfl
@[simp] theorem State.modDbg_time (f : Debug → Debug) : (s.modDbg f).time = s.time := rfl
@[simp] theorem State.modDbg_ports (f : Debug → Debug) : (s.modDbg f).ports = s.ports := rfl
@[simp] theorem State.modDbg_netRx (f : Debug → Debug) : (s.modDbg f).netRx = s.netRx := rfl
@[simp] theorem State.modDbg_filters (f : Debug → Debug) : (s.modDbg f).filters = s.filters := rfl
@[simp] theorem State.modDbg_ring (f : Debug → Debug) : (s.modDbg f).ring = s.ring := rfl
@[simp] theorem State.modDbg_pwr (f : Debug → Debug) : (s.modDbg f).pwr = s.pwr := rfl
@[simp] theorem State.modDbg_localRing (f : Debug → Debug) : (s.modDbg f).localRing = s.localRing := rfl

@[simp] theorem State.modDbg_dbg (f : Debug → Debug) : (s.modDbg f).dbg = f s.dbg := rfl

/-! ### `modDpx` -/

@[simp] theorem State.modDpx_pending (f : Duplex → Duplex) : (s.modDpx f).pending = s.pending := rfl
@[simp] theorem State.modDpx_now (f : Duplex → Duplex) : (s.modDpx f).now = s.now := rfl
@[simp] theorem State.modDpx_nextId (f : Duplex → Duplex) : (s.modDpx f).nextId = s.nextId := rfl
@[simp] theorem State.modDpx_freeSeed (f : Duplex → Duplex) : (s.modDpx f).freeSeed = s.freeSeed := rfl
@[simp] theorem State.modDpx_lastRead (f : Duplex → Duplex) : (s.modDpx f).lastRead = s.lastRead := rfl
@[simp] theorem State.modDpx_variant (f : Duplex → Duplex) : (s.modDpx f).variant = s.variant := rfl
@[simp] theorem State.modDpx_serial (f : Duplex → Duplex) : (s.modDpx f).serial = s.serial := rfl
@[simp] theorem State.modDpx_stepping (f : Duplex → Duplex) : (s.modDpx f).stepping = s.stepping := rfl
@[simp] theorem State.modDpx_dtb (f : Duplex → Duplex) : (s.modDpx f).dtb = s.dtb := rfl
@[simp] theorem State.modDpx_incr (f : Duplex → Duplex) : (s.modDpx f).incr = s.incr := rfl
@[simp] theorem State.modDpx_regs (f : Duplex → Duplex) : (s.modDpx f).regs = s.regs := rfl
@[simp] theorem State.modDpx_inForce (f : Duplex → Duplex) : (s.modDpx f).inForce = s.inForce := rfl
@[simp] theorem State.modDpx_lockWritten (f : Duplex → Duplex) : (s.modDpx f).lockWritten = s.lockWritten := rfl
@[simp] theorem State.modDpx_locked (f : Duplex → Duplex) : (s.modDpx f).locked = s.locked := rfl
@[simp] theorem State.modDpx_gpioErr (f : Duplex → Duplex) : (s.modDpx f).gpioErr = s.gpioErr := rfl
@[simp] theorem State.modDpx_gpioLevel (f : Duplex → Duplex) : (s.modDpx f).gpioLevel = s.gpioLevel := rfl
@[simp] theorem State.modDpx_linkUp (f : Duplex → Duplex) : (s.modDpx f).linkUp = s.linkUp := rfl
@[simp] theorem State.modDpx_linkRate (f : Duplex → Duplex) : (s.modDpx f).linkRate = s.linkRate := rfl
@[simp] theorem State.modDpx_linkWidth (f : Duplex → Duplex) : (s.modDpx f).linkWidth = s.linkWidth := rfl
@[simp] theorem State.modDpx_busMaster (f : Duplex → Duplex) : (s.modDpx f).busMaster = s.busMaster := rfl
@[simp] theorem State.modDpx_qps (f : Duplex → Duplex) : (s.modDpx f).qps = s.qps := rfl
@[simp] theorem State.modDpx_vectors (f : Duplex → Duplex) : (s.modDpx f).vectors = s.vectors := rfl
@[simp] theorem State.modDpx_pba (f : Duplex → Duplex) : (s.modDpx f).pba = s.pba := rfl
@[simp] theorem State.modDpx_barriers (f : Duplex → Duplex) : (s.modDpx f).barriers = s.barriers := rfl
@[simp] theorem State.modDpx_waits (f : Duplex → Duplex) : (s.modDpx f).waits = s.waits := rfl
@[simp] theorem State.modDpx_events (f : Duplex → Duplex) : (s.modDpx f).events = s.events := rfl
@[simp] theorem State.modDpx_lostEvents (f : Duplex → Duplex) : (s.modDpx f).lostEvents = s.lostEvents := rfl
@[simp] theorem State.modDpx_reinst (f : Duplex → Duplex) : (s.modDpx f).reinst = s.reinst := rfl
@[simp] theorem State.modDpx_bridges (f : Duplex → Duplex) : (s.modDpx f).bridges = s.bridges := rfl
@[simp] theorem State.modDpx_gfes (f : Duplex → Duplex) : (s.modDpx f).gfes = s.gfes := rfl
@[simp] theorem State.modDpx_lcs (f : Duplex → Duplex) : (s.modDpx f).lcs = s.lcs := rfl
@[simp] theorem State.modDpx_pwms (f : Duplex → Duplex) : (s.modDpx f).pwms = s.pwms := rfl
@[simp] theorem State.modDpx_trips (f : Duplex → Duplex) : (s.modDpx f).trips = s.trips := rfl
@[simp] theorem State.modDpx_links (f : Duplex → Duplex) : (s.modDpx f).links = s.links := rfl
@[simp] theorem State.modDpx_slots (f : Duplex → Duplex) : (s.modDpx f).slots = s.slots := rfl
@[simp] theorem State.modDpx_dsm (f : Duplex → Duplex) : (s.modDpx f).dsm = s.dsm := rfl
@[simp] theorem State.modDpx_pugTimers (f : Duplex → Duplex) : (s.modDpx f).pugTimers = s.pugTimers := rfl
@[simp] theorem State.modDpx_poss (f : Duplex → Duplex) : (s.modDpx f).poss = s.poss := rfl
@[simp] theorem State.modDpx_recal (f : Duplex → Duplex) : (s.modDpx f).recal = s.recal := rfl
@[simp] theorem State.modDpx_caps (f : Duplex → Duplex) : (s.modDpx f).caps = s.caps := rfl
@[simp] theorem State.modDpx_armWaits (f : Duplex → Duplex) : (s.modDpx f).armWaits = s.armWaits := rfl
@[simp] theorem State.modDpx_forceWaits (f : Duplex → Duplex) : (s.modDpx f).forceWaits = s.forceWaits := rfl
@[simp] theorem State.modDpx_sag (f : Duplex → Duplex) : (s.modDpx f).sag = s.sag := rfl
@[simp] theorem State.modDpx_resetN (f : Duplex → Duplex) : (s.modDpx f).resetN = s.resetN := rfl
@[simp] theorem State.modDpx_flt (f : Duplex → Duplex) : (s.modDpx f).flt = s.flt := rfl
@[simp] theorem State.modDpx_wheel (f : Duplex → Duplex) : (s.modDpx f).wheel = s.wheel := rfl
@[simp] theorem State.modDpx_cyc (f : Duplex → Duplex) : (s.modDpx f).cyc = s.cyc := rfl
@[simp] theorem State.modDpx_svcs (f : Duplex → Duplex) : (s.modDpx f).svcs = s.svcs := rfl
@[simp] theorem State.modDpx_time (f : Duplex → Duplex) : (s.modDpx f).time = s.time := rfl
@[simp] theorem State.modDpx_ports (f : Duplex → Duplex) : (s.modDpx f).ports = s.ports := rfl
@[simp] theorem State.modDpx_netRx (f : Duplex → Duplex) : (s.modDpx f).netRx = s.netRx := rfl
@[simp] theorem State.modDpx_filters (f : Duplex → Duplex) : (s.modDpx f).filters = s.filters := rfl
@[simp] theorem State.modDpx_ring (f : Duplex → Duplex) : (s.modDpx f).ring = s.ring := rfl
@[simp] theorem State.modDpx_dbg (f : Duplex → Duplex) : (s.modDpx f).dbg = s.dbg := rfl
@[simp] theorem State.modDpx_pwr (f : Duplex → Duplex) : (s.modDpx f).pwr = s.pwr := rfl
@[simp] theorem State.modDpx_localRing (f : Duplex → Duplex) : (s.modDpx f).localRing = s.localRing := rfl

@[simp] theorem State.modDpx_dpx (f : Duplex → Duplex) : (s.modDpx f).dpx = f s.dpx := rfl

/-! ### `modWheel` -/

@[simp] theorem State.modWheel_pending (f : Wheel → Wheel) : (s.modWheel f).pending = s.pending := rfl
@[simp] theorem State.modWheel_now (f : Wheel → Wheel) : (s.modWheel f).now = s.now := rfl
@[simp] theorem State.modWheel_nextId (f : Wheel → Wheel) : (s.modWheel f).nextId = s.nextId := rfl
@[simp] theorem State.modWheel_freeSeed (f : Wheel → Wheel) : (s.modWheel f).freeSeed = s.freeSeed := rfl
@[simp] theorem State.modWheel_lastRead (f : Wheel → Wheel) : (s.modWheel f).lastRead = s.lastRead := rfl
@[simp] theorem State.modWheel_variant (f : Wheel → Wheel) : (s.modWheel f).variant = s.variant := rfl
@[simp] theorem State.modWheel_serial (f : Wheel → Wheel) : (s.modWheel f).serial = s.serial := rfl
@[simp] theorem State.modWheel_stepping (f : Wheel → Wheel) : (s.modWheel f).stepping = s.stepping := rfl
@[simp] theorem State.modWheel_dtb (f : Wheel → Wheel) : (s.modWheel f).dtb = s.dtb := rfl
@[simp] theorem State.modWheel_incr (f : Wheel → Wheel) : (s.modWheel f).incr = s.incr := rfl
@[simp] theorem State.modWheel_regs (f : Wheel → Wheel) : (s.modWheel f).regs = s.regs := rfl
@[simp] theorem State.modWheel_inForce (f : Wheel → Wheel) : (s.modWheel f).inForce = s.inForce := rfl
@[simp] theorem State.modWheel_lockWritten (f : Wheel → Wheel) : (s.modWheel f).lockWritten = s.lockWritten := rfl
@[simp] theorem State.modWheel_locked (f : Wheel → Wheel) : (s.modWheel f).locked = s.locked := rfl
@[simp] theorem State.modWheel_gpioErr (f : Wheel → Wheel) : (s.modWheel f).gpioErr = s.gpioErr := rfl
@[simp] theorem State.modWheel_gpioLevel (f : Wheel → Wheel) : (s.modWheel f).gpioLevel = s.gpioLevel := rfl
@[simp] theorem State.modWheel_linkUp (f : Wheel → Wheel) : (s.modWheel f).linkUp = s.linkUp := rfl
@[simp] theorem State.modWheel_linkRate (f : Wheel → Wheel) : (s.modWheel f).linkRate = s.linkRate := rfl
@[simp] theorem State.modWheel_linkWidth (f : Wheel → Wheel) : (s.modWheel f).linkWidth = s.linkWidth := rfl
@[simp] theorem State.modWheel_busMaster (f : Wheel → Wheel) : (s.modWheel f).busMaster = s.busMaster := rfl
@[simp] theorem State.modWheel_qps (f : Wheel → Wheel) : (s.modWheel f).qps = s.qps := rfl
@[simp] theorem State.modWheel_vectors (f : Wheel → Wheel) : (s.modWheel f).vectors = s.vectors := rfl
@[simp] theorem State.modWheel_pba (f : Wheel → Wheel) : (s.modWheel f).pba = s.pba := rfl
@[simp] theorem State.modWheel_barriers (f : Wheel → Wheel) : (s.modWheel f).barriers = s.barriers := rfl
@[simp] theorem State.modWheel_waits (f : Wheel → Wheel) : (s.modWheel f).waits = s.waits := rfl
@[simp] theorem State.modWheel_events (f : Wheel → Wheel) : (s.modWheel f).events = s.events := rfl
@[simp] theorem State.modWheel_lostEvents (f : Wheel → Wheel) : (s.modWheel f).lostEvents = s.lostEvents := rfl
@[simp] theorem State.modWheel_reinst (f : Wheel → Wheel) : (s.modWheel f).reinst = s.reinst := rfl
@[simp] theorem State.modWheel_bridges (f : Wheel → Wheel) : (s.modWheel f).bridges = s.bridges := rfl
@[simp] theorem State.modWheel_gfes (f : Wheel → Wheel) : (s.modWheel f).gfes = s.gfes := rfl
@[simp] theorem State.modWheel_lcs (f : Wheel → Wheel) : (s.modWheel f).lcs = s.lcs := rfl
@[simp] theorem State.modWheel_pwms (f : Wheel → Wheel) : (s.modWheel f).pwms = s.pwms := rfl
@[simp] theorem State.modWheel_trips (f : Wheel → Wheel) : (s.modWheel f).trips = s.trips := rfl
@[simp] theorem State.modWheel_links (f : Wheel → Wheel) : (s.modWheel f).links = s.links := rfl
@[simp] theorem State.modWheel_slots (f : Wheel → Wheel) : (s.modWheel f).slots = s.slots := rfl
@[simp] theorem State.modWheel_dsm (f : Wheel → Wheel) : (s.modWheel f).dsm = s.dsm := rfl
@[simp] theorem State.modWheel_pugTimers (f : Wheel → Wheel) : (s.modWheel f).pugTimers = s.pugTimers := rfl
@[simp] theorem State.modWheel_poss (f : Wheel → Wheel) : (s.modWheel f).poss = s.poss := rfl
@[simp] theorem State.modWheel_recal (f : Wheel → Wheel) : (s.modWheel f).recal = s.recal := rfl
@[simp] theorem State.modWheel_caps (f : Wheel → Wheel) : (s.modWheel f).caps = s.caps := rfl
@[simp] theorem State.modWheel_armWaits (f : Wheel → Wheel) : (s.modWheel f).armWaits = s.armWaits := rfl
@[simp] theorem State.modWheel_forceWaits (f : Wheel → Wheel) : (s.modWheel f).forceWaits = s.forceWaits := rfl
@[simp] theorem State.modWheel_sag (f : Wheel → Wheel) : (s.modWheel f).sag = s.sag := rfl
@[simp] theorem State.modWheel_resetN (f : Wheel → Wheel) : (s.modWheel f).resetN = s.resetN := rfl
@[simp] theorem State.modWheel_flt (f : Wheel → Wheel) : (s.modWheel f).flt = s.flt := rfl
@[simp] theorem State.modWheel_dpx (f : Wheel → Wheel) : (s.modWheel f).dpx = s.dpx := rfl
@[simp] theorem State.modWheel_cyc (f : Wheel → Wheel) : (s.modWheel f).cyc = s.cyc := rfl
@[simp] theorem State.modWheel_svcs (f : Wheel → Wheel) : (s.modWheel f).svcs = s.svcs := rfl
@[simp] theorem State.modWheel_time (f : Wheel → Wheel) : (s.modWheel f).time = s.time := rfl
@[simp] theorem State.modWheel_ports (f : Wheel → Wheel) : (s.modWheel f).ports = s.ports := rfl
@[simp] theorem State.modWheel_netRx (f : Wheel → Wheel) : (s.modWheel f).netRx = s.netRx := rfl
@[simp] theorem State.modWheel_filters (f : Wheel → Wheel) : (s.modWheel f).filters = s.filters := rfl
@[simp] theorem State.modWheel_ring (f : Wheel → Wheel) : (s.modWheel f).ring = s.ring := rfl
@[simp] theorem State.modWheel_dbg (f : Wheel → Wheel) : (s.modWheel f).dbg = s.dbg := rfl
@[simp] theorem State.modWheel_pwr (f : Wheel → Wheel) : (s.modWheel f).pwr = s.pwr := rfl
@[simp] theorem State.modWheel_localRing (f : Wheel → Wheel) : (s.modWheel f).localRing = s.localRing := rfl

@[simp] theorem State.modWheel_wheel (f : Wheel → Wheel) : (s.modWheel f).wheel = f s.wheel := rfl

/-! ### `modCyc` -/

@[simp] theorem State.modCyc_pending (f : Cycle → Cycle) : (s.modCyc f).pending = s.pending := rfl
@[simp] theorem State.modCyc_now (f : Cycle → Cycle) : (s.modCyc f).now = s.now := rfl
@[simp] theorem State.modCyc_nextId (f : Cycle → Cycle) : (s.modCyc f).nextId = s.nextId := rfl
@[simp] theorem State.modCyc_freeSeed (f : Cycle → Cycle) : (s.modCyc f).freeSeed = s.freeSeed := rfl
@[simp] theorem State.modCyc_lastRead (f : Cycle → Cycle) : (s.modCyc f).lastRead = s.lastRead := rfl
@[simp] theorem State.modCyc_variant (f : Cycle → Cycle) : (s.modCyc f).variant = s.variant := rfl
@[simp] theorem State.modCyc_serial (f : Cycle → Cycle) : (s.modCyc f).serial = s.serial := rfl
@[simp] theorem State.modCyc_stepping (f : Cycle → Cycle) : (s.modCyc f).stepping = s.stepping := rfl
@[simp] theorem State.modCyc_dtb (f : Cycle → Cycle) : (s.modCyc f).dtb = s.dtb := rfl
@[simp] theorem State.modCyc_incr (f : Cycle → Cycle) : (s.modCyc f).incr = s.incr := rfl
@[simp] theorem State.modCyc_regs (f : Cycle → Cycle) : (s.modCyc f).regs = s.regs := rfl
@[simp] theorem State.modCyc_inForce (f : Cycle → Cycle) : (s.modCyc f).inForce = s.inForce := rfl
@[simp] theorem State.modCyc_lockWritten (f : Cycle → Cycle) : (s.modCyc f).lockWritten = s.lockWritten := rfl
@[simp] theorem State.modCyc_locked (f : Cycle → Cycle) : (s.modCyc f).locked = s.locked := rfl
@[simp] theorem State.modCyc_gpioErr (f : Cycle → Cycle) : (s.modCyc f).gpioErr = s.gpioErr := rfl
@[simp] theorem State.modCyc_gpioLevel (f : Cycle → Cycle) : (s.modCyc f).gpioLevel = s.gpioLevel := rfl
@[simp] theorem State.modCyc_linkUp (f : Cycle → Cycle) : (s.modCyc f).linkUp = s.linkUp := rfl
@[simp] theorem State.modCyc_linkRate (f : Cycle → Cycle) : (s.modCyc f).linkRate = s.linkRate := rfl
@[simp] theorem State.modCyc_linkWidth (f : Cycle → Cycle) : (s.modCyc f).linkWidth = s.linkWidth := rfl
@[simp] theorem State.modCyc_busMaster (f : Cycle → Cycle) : (s.modCyc f).busMaster = s.busMaster := rfl
@[simp] theorem State.modCyc_qps (f : Cycle → Cycle) : (s.modCyc f).qps = s.qps := rfl
@[simp] theorem State.modCyc_vectors (f : Cycle → Cycle) : (s.modCyc f).vectors = s.vectors := rfl
@[simp] theorem State.modCyc_pba (f : Cycle → Cycle) : (s.modCyc f).pba = s.pba := rfl
@[simp] theorem State.modCyc_barriers (f : Cycle → Cycle) : (s.modCyc f).barriers = s.barriers := rfl
@[simp] theorem State.modCyc_waits (f : Cycle → Cycle) : (s.modCyc f).waits = s.waits := rfl
@[simp] theorem State.modCyc_events (f : Cycle → Cycle) : (s.modCyc f).events = s.events := rfl
@[simp] theorem State.modCyc_lostEvents (f : Cycle → Cycle) : (s.modCyc f).lostEvents = s.lostEvents := rfl
@[simp] theorem State.modCyc_reinst (f : Cycle → Cycle) : (s.modCyc f).reinst = s.reinst := rfl
@[simp] theorem State.modCyc_bridges (f : Cycle → Cycle) : (s.modCyc f).bridges = s.bridges := rfl
@[simp] theorem State.modCyc_gfes (f : Cycle → Cycle) : (s.modCyc f).gfes = s.gfes := rfl
@[simp] theorem State.modCyc_lcs (f : Cycle → Cycle) : (s.modCyc f).lcs = s.lcs := rfl
@[simp] theorem State.modCyc_pwms (f : Cycle → Cycle) : (s.modCyc f).pwms = s.pwms := rfl
@[simp] theorem State.modCyc_trips (f : Cycle → Cycle) : (s.modCyc f).trips = s.trips := rfl
@[simp] theorem State.modCyc_links (f : Cycle → Cycle) : (s.modCyc f).links = s.links := rfl
@[simp] theorem State.modCyc_slots (f : Cycle → Cycle) : (s.modCyc f).slots = s.slots := rfl
@[simp] theorem State.modCyc_dsm (f : Cycle → Cycle) : (s.modCyc f).dsm = s.dsm := rfl
@[simp] theorem State.modCyc_pugTimers (f : Cycle → Cycle) : (s.modCyc f).pugTimers = s.pugTimers := rfl
@[simp] theorem State.modCyc_poss (f : Cycle → Cycle) : (s.modCyc f).poss = s.poss := rfl
@[simp] theorem State.modCyc_recal (f : Cycle → Cycle) : (s.modCyc f).recal = s.recal := rfl
@[simp] theorem State.modCyc_caps (f : Cycle → Cycle) : (s.modCyc f).caps = s.caps := rfl
@[simp] theorem State.modCyc_armWaits (f : Cycle → Cycle) : (s.modCyc f).armWaits = s.armWaits := rfl
@[simp] theorem State.modCyc_forceWaits (f : Cycle → Cycle) : (s.modCyc f).forceWaits = s.forceWaits := rfl
@[simp] theorem State.modCyc_sag (f : Cycle → Cycle) : (s.modCyc f).sag = s.sag := rfl
@[simp] theorem State.modCyc_resetN (f : Cycle → Cycle) : (s.modCyc f).resetN = s.resetN := rfl
@[simp] theorem State.modCyc_flt (f : Cycle → Cycle) : (s.modCyc f).flt = s.flt := rfl
@[simp] theorem State.modCyc_dpx (f : Cycle → Cycle) : (s.modCyc f).dpx = s.dpx := rfl
@[simp] theorem State.modCyc_wheel (f : Cycle → Cycle) : (s.modCyc f).wheel = s.wheel := rfl
@[simp] theorem State.modCyc_svcs (f : Cycle → Cycle) : (s.modCyc f).svcs = s.svcs := rfl
@[simp] theorem State.modCyc_time (f : Cycle → Cycle) : (s.modCyc f).time = s.time := rfl
@[simp] theorem State.modCyc_ports (f : Cycle → Cycle) : (s.modCyc f).ports = s.ports := rfl
@[simp] theorem State.modCyc_netRx (f : Cycle → Cycle) : (s.modCyc f).netRx = s.netRx := rfl
@[simp] theorem State.modCyc_filters (f : Cycle → Cycle) : (s.modCyc f).filters = s.filters := rfl
@[simp] theorem State.modCyc_ring (f : Cycle → Cycle) : (s.modCyc f).ring = s.ring := rfl
@[simp] theorem State.modCyc_dbg (f : Cycle → Cycle) : (s.modCyc f).dbg = s.dbg := rfl
@[simp] theorem State.modCyc_pwr (f : Cycle → Cycle) : (s.modCyc f).pwr = s.pwr := rfl
@[simp] theorem State.modCyc_localRing (f : Cycle → Cycle) : (s.modCyc f).localRing = s.localRing := rfl

@[simp] theorem State.modCyc_cyc (f : Cycle → Cycle) : (s.modCyc f).cyc = f s.cyc := rfl

/-! ### `modSvc` -/

@[simp] theorem State.modSvc_pending (f : Service → Service) : (s.modSvc f).pending = s.pending := rfl
@[simp] theorem State.modSvc_now (f : Service → Service) : (s.modSvc f).now = s.now := rfl
@[simp] theorem State.modSvc_nextId (f : Service → Service) : (s.modSvc f).nextId = s.nextId := rfl
@[simp] theorem State.modSvc_freeSeed (f : Service → Service) : (s.modSvc f).freeSeed = s.freeSeed := rfl
@[simp] theorem State.modSvc_lastRead (f : Service → Service) : (s.modSvc f).lastRead = s.lastRead := rfl
@[simp] theorem State.modSvc_variant (f : Service → Service) : (s.modSvc f).variant = s.variant := rfl
@[simp] theorem State.modSvc_serial (f : Service → Service) : (s.modSvc f).serial = s.serial := rfl
@[simp] theorem State.modSvc_stepping (f : Service → Service) : (s.modSvc f).stepping = s.stepping := rfl
@[simp] theorem State.modSvc_dtb (f : Service → Service) : (s.modSvc f).dtb = s.dtb := rfl
@[simp] theorem State.modSvc_incr (f : Service → Service) : (s.modSvc f).incr = s.incr := rfl
@[simp] theorem State.modSvc_regs (f : Service → Service) : (s.modSvc f).regs = s.regs := rfl
@[simp] theorem State.modSvc_inForce (f : Service → Service) : (s.modSvc f).inForce = s.inForce := rfl
@[simp] theorem State.modSvc_lockWritten (f : Service → Service) : (s.modSvc f).lockWritten = s.lockWritten := rfl
@[simp] theorem State.modSvc_locked (f : Service → Service) : (s.modSvc f).locked = s.locked := rfl
@[simp] theorem State.modSvc_gpioErr (f : Service → Service) : (s.modSvc f).gpioErr = s.gpioErr := rfl
@[simp] theorem State.modSvc_gpioLevel (f : Service → Service) : (s.modSvc f).gpioLevel = s.gpioLevel := rfl
@[simp] theorem State.modSvc_linkUp (f : Service → Service) : (s.modSvc f).linkUp = s.linkUp := rfl
@[simp] theorem State.modSvc_linkRate (f : Service → Service) : (s.modSvc f).linkRate = s.linkRate := rfl
@[simp] theorem State.modSvc_linkWidth (f : Service → Service) : (s.modSvc f).linkWidth = s.linkWidth := rfl
@[simp] theorem State.modSvc_busMaster (f : Service → Service) : (s.modSvc f).busMaster = s.busMaster := rfl
@[simp] theorem State.modSvc_qps (f : Service → Service) : (s.modSvc f).qps = s.qps := rfl
@[simp] theorem State.modSvc_vectors (f : Service → Service) : (s.modSvc f).vectors = s.vectors := rfl
@[simp] theorem State.modSvc_pba (f : Service → Service) : (s.modSvc f).pba = s.pba := rfl
@[simp] theorem State.modSvc_barriers (f : Service → Service) : (s.modSvc f).barriers = s.barriers := rfl
@[simp] theorem State.modSvc_waits (f : Service → Service) : (s.modSvc f).waits = s.waits := rfl
@[simp] theorem State.modSvc_events (f : Service → Service) : (s.modSvc f).events = s.events := rfl
@[simp] theorem State.modSvc_lostEvents (f : Service → Service) : (s.modSvc f).lostEvents = s.lostEvents := rfl
@[simp] theorem State.modSvc_reinst (f : Service → Service) : (s.modSvc f).reinst = s.reinst := rfl
@[simp] theorem State.modSvc_bridges (f : Service → Service) : (s.modSvc f).bridges = s.bridges := rfl
@[simp] theorem State.modSvc_gfes (f : Service → Service) : (s.modSvc f).gfes = s.gfes := rfl
@[simp] theorem State.modSvc_lcs (f : Service → Service) : (s.modSvc f).lcs = s.lcs := rfl
@[simp] theorem State.modSvc_pwms (f : Service → Service) : (s.modSvc f).pwms = s.pwms := rfl
@[simp] theorem State.modSvc_trips (f : Service → Service) : (s.modSvc f).trips = s.trips := rfl
@[simp] theorem State.modSvc_links (f : Service → Service) : (s.modSvc f).links = s.links := rfl
@[simp] theorem State.modSvc_slots (f : Service → Service) : (s.modSvc f).slots = s.slots := rfl
@[simp] theorem State.modSvc_dsm (f : Service → Service) : (s.modSvc f).dsm = s.dsm := rfl
@[simp] theorem State.modSvc_pugTimers (f : Service → Service) : (s.modSvc f).pugTimers = s.pugTimers := rfl
@[simp] theorem State.modSvc_poss (f : Service → Service) : (s.modSvc f).poss = s.poss := rfl
@[simp] theorem State.modSvc_recal (f : Service → Service) : (s.modSvc f).recal = s.recal := rfl
@[simp] theorem State.modSvc_caps (f : Service → Service) : (s.modSvc f).caps = s.caps := rfl
@[simp] theorem State.modSvc_armWaits (f : Service → Service) : (s.modSvc f).armWaits = s.armWaits := rfl
@[simp] theorem State.modSvc_forceWaits (f : Service → Service) : (s.modSvc f).forceWaits = s.forceWaits := rfl
@[simp] theorem State.modSvc_sag (f : Service → Service) : (s.modSvc f).sag = s.sag := rfl
@[simp] theorem State.modSvc_resetN (f : Service → Service) : (s.modSvc f).resetN = s.resetN := rfl
@[simp] theorem State.modSvc_flt (f : Service → Service) : (s.modSvc f).flt = s.flt := rfl
@[simp] theorem State.modSvc_dpx (f : Service → Service) : (s.modSvc f).dpx = s.dpx := rfl
@[simp] theorem State.modSvc_wheel (f : Service → Service) : (s.modSvc f).wheel = s.wheel := rfl
@[simp] theorem State.modSvc_cyc (f : Service → Service) : (s.modSvc f).cyc = s.cyc := rfl
@[simp] theorem State.modSvc_time (f : Service → Service) : (s.modSvc f).time = s.time := rfl
@[simp] theorem State.modSvc_ports (f : Service → Service) : (s.modSvc f).ports = s.ports := rfl
@[simp] theorem State.modSvc_netRx (f : Service → Service) : (s.modSvc f).netRx = s.netRx := rfl
@[simp] theorem State.modSvc_filters (f : Service → Service) : (s.modSvc f).filters = s.filters := rfl
@[simp] theorem State.modSvc_ring (f : Service → Service) : (s.modSvc f).ring = s.ring := rfl
@[simp] theorem State.modSvc_dbg (f : Service → Service) : (s.modSvc f).dbg = s.dbg := rfl
@[simp] theorem State.modSvc_pwr (f : Service → Service) : (s.modSvc f).pwr = s.pwr := rfl
@[simp] theorem State.modSvc_localRing (f : Service → Service) : (s.modSvc f).localRing = s.localRing := rfl

@[simp] theorem State.modSvc_svcs (f : Service → Service) : (s.modSvc f).svcs = f s.svcs := rfl

/-! ### `modTime` -/

@[simp] theorem State.modTime_pending (f : TimeBase → TimeBase) : (s.modTime f).pending = s.pending := rfl
@[simp] theorem State.modTime_now (f : TimeBase → TimeBase) : (s.modTime f).now = s.now := rfl
@[simp] theorem State.modTime_nextId (f : TimeBase → TimeBase) : (s.modTime f).nextId = s.nextId := rfl
@[simp] theorem State.modTime_freeSeed (f : TimeBase → TimeBase) : (s.modTime f).freeSeed = s.freeSeed := rfl
@[simp] theorem State.modTime_lastRead (f : TimeBase → TimeBase) : (s.modTime f).lastRead = s.lastRead := rfl
@[simp] theorem State.modTime_variant (f : TimeBase → TimeBase) : (s.modTime f).variant = s.variant := rfl
@[simp] theorem State.modTime_serial (f : TimeBase → TimeBase) : (s.modTime f).serial = s.serial := rfl
@[simp] theorem State.modTime_stepping (f : TimeBase → TimeBase) : (s.modTime f).stepping = s.stepping := rfl
@[simp] theorem State.modTime_dtb (f : TimeBase → TimeBase) : (s.modTime f).dtb = s.dtb := rfl
@[simp] theorem State.modTime_incr (f : TimeBase → TimeBase) : (s.modTime f).incr = s.incr := rfl
@[simp] theorem State.modTime_regs (f : TimeBase → TimeBase) : (s.modTime f).regs = s.regs := rfl
@[simp] theorem State.modTime_inForce (f : TimeBase → TimeBase) : (s.modTime f).inForce = s.inForce := rfl
@[simp] theorem State.modTime_lockWritten (f : TimeBase → TimeBase) : (s.modTime f).lockWritten = s.lockWritten := rfl
@[simp] theorem State.modTime_locked (f : TimeBase → TimeBase) : (s.modTime f).locked = s.locked := rfl
@[simp] theorem State.modTime_gpioErr (f : TimeBase → TimeBase) : (s.modTime f).gpioErr = s.gpioErr := rfl
@[simp] theorem State.modTime_gpioLevel (f : TimeBase → TimeBase) : (s.modTime f).gpioLevel = s.gpioLevel := rfl
@[simp] theorem State.modTime_linkUp (f : TimeBase → TimeBase) : (s.modTime f).linkUp = s.linkUp := rfl
@[simp] theorem State.modTime_linkRate (f : TimeBase → TimeBase) : (s.modTime f).linkRate = s.linkRate := rfl
@[simp] theorem State.modTime_linkWidth (f : TimeBase → TimeBase) : (s.modTime f).linkWidth = s.linkWidth := rfl
@[simp] theorem State.modTime_busMaster (f : TimeBase → TimeBase) : (s.modTime f).busMaster = s.busMaster := rfl
@[simp] theorem State.modTime_qps (f : TimeBase → TimeBase) : (s.modTime f).qps = s.qps := rfl
@[simp] theorem State.modTime_vectors (f : TimeBase → TimeBase) : (s.modTime f).vectors = s.vectors := rfl
@[simp] theorem State.modTime_pba (f : TimeBase → TimeBase) : (s.modTime f).pba = s.pba := rfl
@[simp] theorem State.modTime_barriers (f : TimeBase → TimeBase) : (s.modTime f).barriers = s.barriers := rfl
@[simp] theorem State.modTime_waits (f : TimeBase → TimeBase) : (s.modTime f).waits = s.waits := rfl
@[simp] theorem State.modTime_events (f : TimeBase → TimeBase) : (s.modTime f).events = s.events := rfl
@[simp] theorem State.modTime_lostEvents (f : TimeBase → TimeBase) : (s.modTime f).lostEvents = s.lostEvents := rfl
@[simp] theorem State.modTime_reinst (f : TimeBase → TimeBase) : (s.modTime f).reinst = s.reinst := rfl
@[simp] theorem State.modTime_bridges (f : TimeBase → TimeBase) : (s.modTime f).bridges = s.bridges := rfl
@[simp] theorem State.modTime_gfes (f : TimeBase → TimeBase) : (s.modTime f).gfes = s.gfes := rfl
@[simp] theorem State.modTime_lcs (f : TimeBase → TimeBase) : (s.modTime f).lcs = s.lcs := rfl
@[simp] theorem State.modTime_pwms (f : TimeBase → TimeBase) : (s.modTime f).pwms = s.pwms := rfl
@[simp] theorem State.modTime_trips (f : TimeBase → TimeBase) : (s.modTime f).trips = s.trips := rfl
@[simp] theorem State.modTime_links (f : TimeBase → TimeBase) : (s.modTime f).links = s.links := rfl
@[simp] theorem State.modTime_slots (f : TimeBase → TimeBase) : (s.modTime f).slots = s.slots := rfl
@[simp] theorem State.modTime_dsm (f : TimeBase → TimeBase) : (s.modTime f).dsm = s.dsm := rfl
@[simp] theorem State.modTime_pugTimers (f : TimeBase → TimeBase) : (s.modTime f).pugTimers = s.pugTimers := rfl
@[simp] theorem State.modTime_poss (f : TimeBase → TimeBase) : (s.modTime f).poss = s.poss := rfl
@[simp] theorem State.modTime_recal (f : TimeBase → TimeBase) : (s.modTime f).recal = s.recal := rfl
@[simp] theorem State.modTime_caps (f : TimeBase → TimeBase) : (s.modTime f).caps = s.caps := rfl
@[simp] theorem State.modTime_armWaits (f : TimeBase → TimeBase) : (s.modTime f).armWaits = s.armWaits := rfl
@[simp] theorem State.modTime_forceWaits (f : TimeBase → TimeBase) : (s.modTime f).forceWaits = s.forceWaits := rfl
@[simp] theorem State.modTime_sag (f : TimeBase → TimeBase) : (s.modTime f).sag = s.sag := rfl
@[simp] theorem State.modTime_resetN (f : TimeBase → TimeBase) : (s.modTime f).resetN = s.resetN := rfl
@[simp] theorem State.modTime_flt (f : TimeBase → TimeBase) : (s.modTime f).flt = s.flt := rfl
@[simp] theorem State.modTime_dpx (f : TimeBase → TimeBase) : (s.modTime f).dpx = s.dpx := rfl
@[simp] theorem State.modTime_wheel (f : TimeBase → TimeBase) : (s.modTime f).wheel = s.wheel := rfl
@[simp] theorem State.modTime_cyc (f : TimeBase → TimeBase) : (s.modTime f).cyc = s.cyc := rfl
@[simp] theorem State.modTime_svcs (f : TimeBase → TimeBase) : (s.modTime f).svcs = s.svcs := rfl
@[simp] theorem State.modTime_ports (f : TimeBase → TimeBase) : (s.modTime f).ports = s.ports := rfl
@[simp] theorem State.modTime_netRx (f : TimeBase → TimeBase) : (s.modTime f).netRx = s.netRx := rfl
@[simp] theorem State.modTime_filters (f : TimeBase → TimeBase) : (s.modTime f).filters = s.filters := rfl
@[simp] theorem State.modTime_ring (f : TimeBase → TimeBase) : (s.modTime f).ring = s.ring := rfl
@[simp] theorem State.modTime_dbg (f : TimeBase → TimeBase) : (s.modTime f).dbg = s.dbg := rfl
@[simp] theorem State.modTime_pwr (f : TimeBase → TimeBase) : (s.modTime f).pwr = s.pwr := rfl
@[simp] theorem State.modTime_localRing (f : TimeBase → TimeBase) : (s.modTime f).localRing = s.localRing := rfl

@[simp] theorem State.modTime_time (f : TimeBase → TimeBase) : (s.modTime f).time = f s.time := rfl

/-! ### `modRing` -/

@[simp] theorem State.modRing_pending (f : Ring → Ring) : (s.modRing f).pending = s.pending := rfl
@[simp] theorem State.modRing_now (f : Ring → Ring) : (s.modRing f).now = s.now := rfl
@[simp] theorem State.modRing_nextId (f : Ring → Ring) : (s.modRing f).nextId = s.nextId := rfl
@[simp] theorem State.modRing_freeSeed (f : Ring → Ring) : (s.modRing f).freeSeed = s.freeSeed := rfl
@[simp] theorem State.modRing_lastRead (f : Ring → Ring) : (s.modRing f).lastRead = s.lastRead := rfl
@[simp] theorem State.modRing_variant (f : Ring → Ring) : (s.modRing f).variant = s.variant := rfl
@[simp] theorem State.modRing_serial (f : Ring → Ring) : (s.modRing f).serial = s.serial := rfl
@[simp] theorem State.modRing_stepping (f : Ring → Ring) : (s.modRing f).stepping = s.stepping := rfl
@[simp] theorem State.modRing_dtb (f : Ring → Ring) : (s.modRing f).dtb = s.dtb := rfl
@[simp] theorem State.modRing_incr (f : Ring → Ring) : (s.modRing f).incr = s.incr := rfl
@[simp] theorem State.modRing_regs (f : Ring → Ring) : (s.modRing f).regs = s.regs := rfl
@[simp] theorem State.modRing_inForce (f : Ring → Ring) : (s.modRing f).inForce = s.inForce := rfl
@[simp] theorem State.modRing_lockWritten (f : Ring → Ring) : (s.modRing f).lockWritten = s.lockWritten := rfl
@[simp] theorem State.modRing_locked (f : Ring → Ring) : (s.modRing f).locked = s.locked := rfl
@[simp] theorem State.modRing_gpioErr (f : Ring → Ring) : (s.modRing f).gpioErr = s.gpioErr := rfl
@[simp] theorem State.modRing_gpioLevel (f : Ring → Ring) : (s.modRing f).gpioLevel = s.gpioLevel := rfl
@[simp] theorem State.modRing_linkUp (f : Ring → Ring) : (s.modRing f).linkUp = s.linkUp := rfl
@[simp] theorem State.modRing_linkRate (f : Ring → Ring) : (s.modRing f).linkRate = s.linkRate := rfl
@[simp] theorem State.modRing_linkWidth (f : Ring → Ring) : (s.modRing f).linkWidth = s.linkWidth := rfl
@[simp] theorem State.modRing_busMaster (f : Ring → Ring) : (s.modRing f).busMaster = s.busMaster := rfl
@[simp] theorem State.modRing_qps (f : Ring → Ring) : (s.modRing f).qps = s.qps := rfl
@[simp] theorem State.modRing_vectors (f : Ring → Ring) : (s.modRing f).vectors = s.vectors := rfl
@[simp] theorem State.modRing_pba (f : Ring → Ring) : (s.modRing f).pba = s.pba := rfl
@[simp] theorem State.modRing_barriers (f : Ring → Ring) : (s.modRing f).barriers = s.barriers := rfl
@[simp] theorem State.modRing_waits (f : Ring → Ring) : (s.modRing f).waits = s.waits := rfl
@[simp] theorem State.modRing_events (f : Ring → Ring) : (s.modRing f).events = s.events := rfl
@[simp] theorem State.modRing_lostEvents (f : Ring → Ring) : (s.modRing f).lostEvents = s.lostEvents := rfl
@[simp] theorem State.modRing_reinst (f : Ring → Ring) : (s.modRing f).reinst = s.reinst := rfl
@[simp] theorem State.modRing_bridges (f : Ring → Ring) : (s.modRing f).bridges = s.bridges := rfl
@[simp] theorem State.modRing_gfes (f : Ring → Ring) : (s.modRing f).gfes = s.gfes := rfl
@[simp] theorem State.modRing_lcs (f : Ring → Ring) : (s.modRing f).lcs = s.lcs := rfl
@[simp] theorem State.modRing_pwms (f : Ring → Ring) : (s.modRing f).pwms = s.pwms := rfl
@[simp] theorem State.modRing_trips (f : Ring → Ring) : (s.modRing f).trips = s.trips := rfl
@[simp] theorem State.modRing_links (f : Ring → Ring) : (s.modRing f).links = s.links := rfl
@[simp] theorem State.modRing_slots (f : Ring → Ring) : (s.modRing f).slots = s.slots := rfl
@[simp] theorem State.modRing_dsm (f : Ring → Ring) : (s.modRing f).dsm = s.dsm := rfl
@[simp] theorem State.modRing_pugTimers (f : Ring → Ring) : (s.modRing f).pugTimers = s.pugTimers := rfl
@[simp] theorem State.modRing_poss (f : Ring → Ring) : (s.modRing f).poss = s.poss := rfl
@[simp] theorem State.modRing_recal (f : Ring → Ring) : (s.modRing f).recal = s.recal := rfl
@[simp] theorem State.modRing_caps (f : Ring → Ring) : (s.modRing f).caps = s.caps := rfl
@[simp] theorem State.modRing_armWaits (f : Ring → Ring) : (s.modRing f).armWaits = s.armWaits := rfl
@[simp] theorem State.modRing_forceWaits (f : Ring → Ring) : (s.modRing f).forceWaits = s.forceWaits := rfl
@[simp] theorem State.modRing_sag (f : Ring → Ring) : (s.modRing f).sag = s.sag := rfl
@[simp] theorem State.modRing_resetN (f : Ring → Ring) : (s.modRing f).resetN = s.resetN := rfl
@[simp] theorem State.modRing_flt (f : Ring → Ring) : (s.modRing f).flt = s.flt := rfl
@[simp] theorem State.modRing_dpx (f : Ring → Ring) : (s.modRing f).dpx = s.dpx := rfl
@[simp] theorem State.modRing_wheel (f : Ring → Ring) : (s.modRing f).wheel = s.wheel := rfl
@[simp] theorem State.modRing_cyc (f : Ring → Ring) : (s.modRing f).cyc = s.cyc := rfl
@[simp] theorem State.modRing_svcs (f : Ring → Ring) : (s.modRing f).svcs = s.svcs := rfl
@[simp] theorem State.modRing_time (f : Ring → Ring) : (s.modRing f).time = s.time := rfl
@[simp] theorem State.modRing_ports (f : Ring → Ring) : (s.modRing f).ports = s.ports := rfl
@[simp] theorem State.modRing_netRx (f : Ring → Ring) : (s.modRing f).netRx = s.netRx := rfl
@[simp] theorem State.modRing_filters (f : Ring → Ring) : (s.modRing f).filters = s.filters := rfl
@[simp] theorem State.modRing_dbg (f : Ring → Ring) : (s.modRing f).dbg = s.dbg := rfl
@[simp] theorem State.modRing_pwr (f : Ring → Ring) : (s.modRing f).pwr = s.pwr := rfl
@[simp] theorem State.modRing_localRing (f : Ring → Ring) : (s.modRing f).localRing = s.localRing := rfl

@[simp] theorem State.modRing_ring (f : Ring → Ring) : (s.modRing f).ring = f s.ring := rfl

/-! ### `advanceTo` -/

@[simp] theorem State.advanceTo_pending (t : Nat) : (s.advanceTo t).pending = s.pending := rfl
@[simp] theorem State.advanceTo_nextId (t : Nat) : (s.advanceTo t).nextId = s.nextId := rfl
@[simp] theorem State.advanceTo_freeSeed (t : Nat) : (s.advanceTo t).freeSeed = s.freeSeed := rfl
@[simp] theorem State.advanceTo_lastRead (t : Nat) : (s.advanceTo t).lastRead = s.lastRead := rfl
@[simp] theorem State.advanceTo_variant (t : Nat) : (s.advanceTo t).variant = s.variant := rfl
@[simp] theorem State.advanceTo_serial (t : Nat) : (s.advanceTo t).serial = s.serial := rfl
@[simp] theorem State.advanceTo_stepping (t : Nat) : (s.advanceTo t).stepping = s.stepping := rfl
@[simp] theorem State.advanceTo_incr (t : Nat) : (s.advanceTo t).incr = s.incr := rfl
@[simp] theorem State.advanceTo_regs (t : Nat) : (s.advanceTo t).regs = s.regs := rfl
@[simp] theorem State.advanceTo_inForce (t : Nat) : (s.advanceTo t).inForce = s.inForce := rfl
@[simp] theorem State.advanceTo_lockWritten (t : Nat) : (s.advanceTo t).lockWritten = s.lockWritten := rfl
@[simp] theorem State.advanceTo_locked (t : Nat) : (s.advanceTo t).locked = s.locked := rfl
@[simp] theorem State.advanceTo_gpioErr (t : Nat) : (s.advanceTo t).gpioErr = s.gpioErr := rfl
@[simp] theorem State.advanceTo_gpioLevel (t : Nat) : (s.advanceTo t).gpioLevel = s.gpioLevel := rfl
@[simp] theorem State.advanceTo_linkUp (t : Nat) : (s.advanceTo t).linkUp = s.linkUp := rfl
@[simp] theorem State.advanceTo_linkRate (t : Nat) : (s.advanceTo t).linkRate = s.linkRate := rfl
@[simp] theorem State.advanceTo_linkWidth (t : Nat) : (s.advanceTo t).linkWidth = s.linkWidth := rfl
@[simp] theorem State.advanceTo_busMaster (t : Nat) : (s.advanceTo t).busMaster = s.busMaster := rfl
@[simp] theorem State.advanceTo_qps (t : Nat) : (s.advanceTo t).qps = s.qps := rfl
@[simp] theorem State.advanceTo_vectors (t : Nat) : (s.advanceTo t).vectors = s.vectors := rfl
@[simp] theorem State.advanceTo_pba (t : Nat) : (s.advanceTo t).pba = s.pba := rfl
@[simp] theorem State.advanceTo_barriers (t : Nat) : (s.advanceTo t).barriers = s.barriers := rfl
@[simp] theorem State.advanceTo_waits (t : Nat) : (s.advanceTo t).waits = s.waits := rfl
@[simp] theorem State.advanceTo_events (t : Nat) : (s.advanceTo t).events = s.events := rfl
@[simp] theorem State.advanceTo_lostEvents (t : Nat) : (s.advanceTo t).lostEvents = s.lostEvents := rfl
@[simp] theorem State.advanceTo_reinst (t : Nat) : (s.advanceTo t).reinst = s.reinst := rfl
@[simp] theorem State.advanceTo_bridges (t : Nat) : (s.advanceTo t).bridges = s.bridges := rfl
@[simp] theorem State.advanceTo_gfes (t : Nat) : (s.advanceTo t).gfes = s.gfes := rfl
@[simp] theorem State.advanceTo_lcs (t : Nat) : (s.advanceTo t).lcs = s.lcs := rfl
@[simp] theorem State.advanceTo_pwms (t : Nat) : (s.advanceTo t).pwms = s.pwms := rfl
@[simp] theorem State.advanceTo_trips (t : Nat) : (s.advanceTo t).trips = s.trips := rfl
@[simp] theorem State.advanceTo_links (t : Nat) : (s.advanceTo t).links = s.links := rfl
@[simp] theorem State.advanceTo_slots (t : Nat) : (s.advanceTo t).slots = s.slots := rfl
@[simp] theorem State.advanceTo_dsm (t : Nat) : (s.advanceTo t).dsm = s.dsm := rfl
@[simp] theorem State.advanceTo_pugTimers (t : Nat) : (s.advanceTo t).pugTimers = s.pugTimers := rfl
@[simp] theorem State.advanceTo_poss (t : Nat) : (s.advanceTo t).poss = s.poss := rfl
@[simp] theorem State.advanceTo_recal (t : Nat) : (s.advanceTo t).recal = s.recal := rfl
@[simp] theorem State.advanceTo_caps (t : Nat) : (s.advanceTo t).caps = s.caps := rfl
@[simp] theorem State.advanceTo_armWaits (t : Nat) : (s.advanceTo t).armWaits = s.armWaits := rfl
@[simp] theorem State.advanceTo_forceWaits (t : Nat) : (s.advanceTo t).forceWaits = s.forceWaits := rfl
@[simp] theorem State.advanceTo_sag (t : Nat) : (s.advanceTo t).sag = s.sag := rfl
@[simp] theorem State.advanceTo_resetN (t : Nat) : (s.advanceTo t).resetN = s.resetN := rfl
@[simp] theorem State.advanceTo_flt (t : Nat) : (s.advanceTo t).flt = s.flt := rfl
@[simp] theorem State.advanceTo_dpx (t : Nat) : (s.advanceTo t).dpx = s.dpx := rfl
@[simp] theorem State.advanceTo_wheel (t : Nat) : (s.advanceTo t).wheel = s.wheel := rfl
@[simp] theorem State.advanceTo_cyc (t : Nat) : (s.advanceTo t).cyc = s.cyc := rfl
@[simp] theorem State.advanceTo_svcs (t : Nat) : (s.advanceTo t).svcs = s.svcs := rfl
@[simp] theorem State.advanceTo_time (t : Nat) : (s.advanceTo t).time = s.time := rfl
@[simp] theorem State.advanceTo_ports (t : Nat) : (s.advanceTo t).ports = s.ports := rfl
@[simp] theorem State.advanceTo_netRx (t : Nat) : (s.advanceTo t).netRx = s.netRx := rfl
@[simp] theorem State.advanceTo_filters (t : Nat) : (s.advanceTo t).filters = s.filters := rfl
@[simp] theorem State.advanceTo_ring (t : Nat) : (s.advanceTo t).ring = s.ring := rfl
@[simp] theorem State.advanceTo_dbg (t : Nat) : (s.advanceTo t).dbg = s.dbg := rfl
@[simp] theorem State.advanceTo_pwr (t : Nat) : (s.advanceTo t).pwr = s.pwr := rfl
@[simp] theorem State.advanceTo_localRing (t : Nat) : (s.advanceTo t).localRing = s.localRing := rfl

@[simp] theorem State.advanceTo_now (t : Nat) : (s.advanceTo t).now = max s.now t := rfl

/-! ### `regPut` -/

@[simp] theorem State.regPut_pending (off v : Nat) : (s.regPut off v).pending = s.pending := rfl
@[simp] theorem State.regPut_now (off v : Nat) : (s.regPut off v).now = s.now := rfl
@[simp] theorem State.regPut_nextId (off v : Nat) : (s.regPut off v).nextId = s.nextId := rfl
@[simp] theorem State.regPut_freeSeed (off v : Nat) : (s.regPut off v).freeSeed = s.freeSeed := rfl
@[simp] theorem State.regPut_lastRead (off v : Nat) : (s.regPut off v).lastRead = s.lastRead := rfl
@[simp] theorem State.regPut_variant (off v : Nat) : (s.regPut off v).variant = s.variant := rfl
@[simp] theorem State.regPut_serial (off v : Nat) : (s.regPut off v).serial = s.serial := rfl
@[simp] theorem State.regPut_stepping (off v : Nat) : (s.regPut off v).stepping = s.stepping := rfl
@[simp] theorem State.regPut_dtb (off v : Nat) : (s.regPut off v).dtb = s.dtb := rfl
@[simp] theorem State.regPut_incr (off v : Nat) : (s.regPut off v).incr = s.incr := rfl
@[simp] theorem State.regPut_inForce (off v : Nat) : (s.regPut off v).inForce = s.inForce := rfl
@[simp] theorem State.regPut_lockWritten (off v : Nat) : (s.regPut off v).lockWritten = s.lockWritten := rfl
@[simp] theorem State.regPut_locked (off v : Nat) : (s.regPut off v).locked = s.locked := rfl
@[simp] theorem State.regPut_gpioErr (off v : Nat) : (s.regPut off v).gpioErr = s.gpioErr := rfl
@[simp] theorem State.regPut_gpioLevel (off v : Nat) : (s.regPut off v).gpioLevel = s.gpioLevel := rfl
@[simp] theorem State.regPut_linkUp (off v : Nat) : (s.regPut off v).linkUp = s.linkUp := rfl
@[simp] theorem State.regPut_linkRate (off v : Nat) : (s.regPut off v).linkRate = s.linkRate := rfl
@[simp] theorem State.regPut_linkWidth (off v : Nat) : (s.regPut off v).linkWidth = s.linkWidth := rfl
@[simp] theorem State.regPut_busMaster (off v : Nat) : (s.regPut off v).busMaster = s.busMaster := rfl
@[simp] theorem State.regPut_qps (off v : Nat) : (s.regPut off v).qps = s.qps := rfl
@[simp] theorem State.regPut_vectors (off v : Nat) : (s.regPut off v).vectors = s.vectors := rfl
@[simp] theorem State.regPut_pba (off v : Nat) : (s.regPut off v).pba = s.pba := rfl
@[simp] theorem State.regPut_barriers (off v : Nat) : (s.regPut off v).barriers = s.barriers := rfl
@[simp] theorem State.regPut_waits (off v : Nat) : (s.regPut off v).waits = s.waits := rfl
@[simp] theorem State.regPut_events (off v : Nat) : (s.regPut off v).events = s.events := rfl
@[simp] theorem State.regPut_lostEvents (off v : Nat) : (s.regPut off v).lostEvents = s.lostEvents := rfl
@[simp] theorem State.regPut_reinst (off v : Nat) : (s.regPut off v).reinst = s.reinst := rfl
@[simp] theorem State.regPut_bridges (off v : Nat) : (s.regPut off v).bridges = s.bridges := rfl
@[simp] theorem State.regPut_gfes (off v : Nat) : (s.regPut off v).gfes = s.gfes := rfl
@[simp] theorem State.regPut_lcs (off v : Nat) : (s.regPut off v).lcs = s.lcs := rfl
@[simp] theorem State.regPut_pwms (off v : Nat) : (s.regPut off v).pwms = s.pwms := rfl
@[simp] theorem State.regPut_trips (off v : Nat) : (s.regPut off v).trips = s.trips := rfl
@[simp] theorem State.regPut_links (off v : Nat) : (s.regPut off v).links = s.links := rfl
@[simp] theorem State.regPut_slots (off v : Nat) : (s.regPut off v).slots = s.slots := rfl
@[simp] theorem State.regPut_dsm (off v : Nat) : (s.regPut off v).dsm = s.dsm := rfl
@[simp] theorem State.regPut_pugTimers (off v : Nat) : (s.regPut off v).pugTimers = s.pugTimers := rfl
@[simp] theorem State.regPut_poss (off v : Nat) : (s.regPut off v).poss = s.poss := rfl
@[simp] theorem State.regPut_recal (off v : Nat) : (s.regPut off v).recal = s.recal := rfl
@[simp] theorem State.regPut_caps (off v : Nat) : (s.regPut off v).caps = s.caps := rfl
@[simp] theorem State.regPut_armWaits (off v : Nat) : (s.regPut off v).armWaits = s.armWaits := rfl
@[simp] theorem State.regPut_forceWaits (off v : Nat) : (s.regPut off v).forceWaits = s.forceWaits := rfl
@[simp] theorem State.regPut_sag (off v : Nat) : (s.regPut off v).sag = s.sag := rfl
@[simp] theorem State.regPut_resetN (off v : Nat) : (s.regPut off v).resetN = s.resetN := rfl
@[simp] theorem State.regPut_flt (off v : Nat) : (s.regPut off v).flt = s.flt := rfl
@[simp] theorem State.regPut_dpx (off v : Nat) : (s.regPut off v).dpx = s.dpx := rfl
@[simp] theorem State.regPut_wheel (off v : Nat) : (s.regPut off v).wheel = s.wheel := rfl
@[simp] theorem State.regPut_cyc (off v : Nat) : (s.regPut off v).cyc = s.cyc := rfl
@[simp] theorem State.regPut_svcs (off v : Nat) : (s.regPut off v).svcs = s.svcs := rfl
@[simp] theorem State.regPut_time (off v : Nat) : (s.regPut off v).time = s.time := rfl
@[simp] theorem State.regPut_ports (off v : Nat) : (s.regPut off v).ports = s.ports := rfl
@[simp] theorem State.regPut_netRx (off v : Nat) : (s.regPut off v).netRx = s.netRx := rfl
@[simp] theorem State.regPut_filters (off v : Nat) : (s.regPut off v).filters = s.filters := rfl
@[simp] theorem State.regPut_ring (off v : Nat) : (s.regPut off v).ring = s.ring := rfl
@[simp] theorem State.regPut_dbg (off v : Nat) : (s.regPut off v).dbg = s.dbg := rfl
@[simp] theorem State.regPut_pwr (off v : Nat) : (s.regPut off v).pwr = s.pwr := rfl
@[simp] theorem State.regPut_localRing (off v : Nat) : (s.regPut off v).localRing = s.localRing := rfl

/-! ### `begun` -/

@[simp] theorem State.begun_pending (i : Instr) (p : Pkt) : (s.begun i p).pending = s.pending := rfl
@[simp] theorem State.begun_now (i : Instr) (p : Pkt) : (s.begun i p).now = s.now := rfl
@[simp] theorem State.begun_freeSeed (i : Instr) (p : Pkt) : (s.begun i p).freeSeed = s.freeSeed := rfl
@[simp] theorem State.begun_lastRead (i : Instr) (p : Pkt) : (s.begun i p).lastRead = s.lastRead := rfl
@[simp] theorem State.begun_variant (i : Instr) (p : Pkt) : (s.begun i p).variant = s.variant := rfl
@[simp] theorem State.begun_serial (i : Instr) (p : Pkt) : (s.begun i p).serial = s.serial := rfl
@[simp] theorem State.begun_stepping (i : Instr) (p : Pkt) : (s.begun i p).stepping = s.stepping := rfl
@[simp] theorem State.begun_dtb (i : Instr) (p : Pkt) : (s.begun i p).dtb = s.dtb := rfl
@[simp] theorem State.begun_incr (i : Instr) (p : Pkt) : (s.begun i p).incr = s.incr := rfl
@[simp] theorem State.begun_regs (i : Instr) (p : Pkt) : (s.begun i p).regs = s.regs := rfl
@[simp] theorem State.begun_inForce (i : Instr) (p : Pkt) : (s.begun i p).inForce = s.inForce := rfl
@[simp] theorem State.begun_lockWritten (i : Instr) (p : Pkt) : (s.begun i p).lockWritten = s.lockWritten := rfl
@[simp] theorem State.begun_locked (i : Instr) (p : Pkt) : (s.begun i p).locked = s.locked := rfl
@[simp] theorem State.begun_gpioErr (i : Instr) (p : Pkt) : (s.begun i p).gpioErr = s.gpioErr := rfl
@[simp] theorem State.begun_gpioLevel (i : Instr) (p : Pkt) : (s.begun i p).gpioLevel = s.gpioLevel := rfl
@[simp] theorem State.begun_linkUp (i : Instr) (p : Pkt) : (s.begun i p).linkUp = s.linkUp := rfl
@[simp] theorem State.begun_linkRate (i : Instr) (p : Pkt) : (s.begun i p).linkRate = s.linkRate := rfl
@[simp] theorem State.begun_linkWidth (i : Instr) (p : Pkt) : (s.begun i p).linkWidth = s.linkWidth := rfl
@[simp] theorem State.begun_busMaster (i : Instr) (p : Pkt) : (s.begun i p).busMaster = s.busMaster := rfl
@[simp] theorem State.begun_vectors (i : Instr) (p : Pkt) : (s.begun i p).vectors = s.vectors := rfl
@[simp] theorem State.begun_pba (i : Instr) (p : Pkt) : (s.begun i p).pba = s.pba := rfl
@[simp] theorem State.begun_barriers (i : Instr) (p : Pkt) : (s.begun i p).barriers = s.barriers := rfl
@[simp] theorem State.begun_waits (i : Instr) (p : Pkt) : (s.begun i p).waits = s.waits := rfl
@[simp] theorem State.begun_events (i : Instr) (p : Pkt) : (s.begun i p).events = s.events := rfl
@[simp] theorem State.begun_lostEvents (i : Instr) (p : Pkt) : (s.begun i p).lostEvents = s.lostEvents := rfl
@[simp] theorem State.begun_reinst (i : Instr) (p : Pkt) : (s.begun i p).reinst = s.reinst := rfl
@[simp] theorem State.begun_bridges (i : Instr) (p : Pkt) : (s.begun i p).bridges = s.bridges := rfl
@[simp] theorem State.begun_gfes (i : Instr) (p : Pkt) : (s.begun i p).gfes = s.gfes := rfl
@[simp] theorem State.begun_lcs (i : Instr) (p : Pkt) : (s.begun i p).lcs = s.lcs := rfl
@[simp] theorem State.begun_pwms (i : Instr) (p : Pkt) : (s.begun i p).pwms = s.pwms := rfl
@[simp] theorem State.begun_trips (i : Instr) (p : Pkt) : (s.begun i p).trips = s.trips := rfl
@[simp] theorem State.begun_links (i : Instr) (p : Pkt) : (s.begun i p).links = s.links := rfl
@[simp] theorem State.begun_slots (i : Instr) (p : Pkt) : (s.begun i p).slots = s.slots := rfl
@[simp] theorem State.begun_dsm (i : Instr) (p : Pkt) : (s.begun i p).dsm = s.dsm := rfl
@[simp] theorem State.begun_pugTimers (i : Instr) (p : Pkt) : (s.begun i p).pugTimers = s.pugTimers := rfl
@[simp] theorem State.begun_poss (i : Instr) (p : Pkt) : (s.begun i p).poss = s.poss := rfl
@[simp] theorem State.begun_recal (i : Instr) (p : Pkt) : (s.begun i p).recal = s.recal := rfl
@[simp] theorem State.begun_caps (i : Instr) (p : Pkt) : (s.begun i p).caps = s.caps := rfl
@[simp] theorem State.begun_armWaits (i : Instr) (p : Pkt) : (s.begun i p).armWaits = s.armWaits := rfl
@[simp] theorem State.begun_forceWaits (i : Instr) (p : Pkt) : (s.begun i p).forceWaits = s.forceWaits := rfl
@[simp] theorem State.begun_sag (i : Instr) (p : Pkt) : (s.begun i p).sag = s.sag := rfl
@[simp] theorem State.begun_resetN (i : Instr) (p : Pkt) : (s.begun i p).resetN = s.resetN := rfl
@[simp] theorem State.begun_flt (i : Instr) (p : Pkt) : (s.begun i p).flt = s.flt := rfl
@[simp] theorem State.begun_dpx (i : Instr) (p : Pkt) : (s.begun i p).dpx = s.dpx := rfl
@[simp] theorem State.begun_wheel (i : Instr) (p : Pkt) : (s.begun i p).wheel = s.wheel := rfl
@[simp] theorem State.begun_cyc (i : Instr) (p : Pkt) : (s.begun i p).cyc = s.cyc := rfl
@[simp] theorem State.begun_svcs (i : Instr) (p : Pkt) : (s.begun i p).svcs = s.svcs := rfl
@[simp] theorem State.begun_time (i : Instr) (p : Pkt) : (s.begun i p).time = s.time := rfl
@[simp] theorem State.begun_ports (i : Instr) (p : Pkt) : (s.begun i p).ports = s.ports := rfl
@[simp] theorem State.begun_netRx (i : Instr) (p : Pkt) : (s.begun i p).netRx = s.netRx := rfl
@[simp] theorem State.begun_filters (i : Instr) (p : Pkt) : (s.begun i p).filters = s.filters := rfl
@[simp] theorem State.begun_ring (i : Instr) (p : Pkt) : (s.begun i p).ring = s.ring := rfl
@[simp] theorem State.begun_dbg (i : Instr) (p : Pkt) : (s.begun i p).dbg = s.dbg := rfl
@[simp] theorem State.begun_pwr (i : Instr) (p : Pkt) : (s.begun i p).pwr = s.pwr := rfl
@[simp] theorem State.begun_localRing (i : Instr) (p : Pkt) : (s.begun i p).localRing = s.localRing := rfl

@[simp] theorem State.begun_nextId (i : Instr) (p : Pkt) : (s.begun i p).nextId = s.nextId + 1 := rfl

@[simp] theorem State.begun_bridge (i : Instr) (p : Pkt) (k : Nat) : (s.begun i p).bridge k = s.bridge k := rfl
@[simp] theorem State.begun_gf (i : Instr) (p : Pkt) (k : Nat) : (s.begun i p).gf k = s.gf k := rfl
@[simp] theorem State.begun_lc (i : Instr) (p : Pkt) (k : Nat) : (s.begun i p).lc k = s.lc k := rfl
@[simp] theorem State.begun_pwm (i : Instr) (p : Pkt) (k : Nat) : (s.begun i p).pwm k = s.pwm k := rfl
@[simp] theorem State.begun_trip (i : Instr) (p : Pkt) (k : Nat) : (s.begun i p).trip k = s.trip k := rfl
@[simp] theorem State.begun_link (i : Instr) (p : Pkt) (k : Nat) : (s.begun i p).link k = s.link k := rfl
@[simp] theorem State.begun_slot (i : Instr) (p : Pkt) (k : Nat) : (s.begun i p).slot k = s.slot k := rfl
@[simp] theorem State.begun_position (i : Instr) (p : Pkt) (k : Nat) : (s.begun i p).position k = s.position k := rfl
@[simp] theorem State.begun_cap (i : Instr) (p : Pkt) (k : Nat) : (s.begun i p).cap k = s.cap k := rfl

end Sys2Proof.Machine
end

