-- ==== Sys2Proof/Laws/Begun.lean ====
section
/-! SUPPORT. What a state asks of itself is the same at the moment a packet begins: only the queue pair of the packet and the
serial number of flights have changed. -/

namespace Sys2Proof.Machine

set_option linter.unusedVariables false

@[simp] theorem State.begun_ctxSuits (s : State) (i : Instr) (p : Pkt) (b k : Nat) (r : Role) (legs : Nat) (pos : Option Nat) : (s.begun i p).ctxSuits b k r legs pos = s.ctxSuits b k r legs pos := rfl
@[simp] theorem State.begun_bindingsOk (s : State) (i : Instr) (p : Pkt) (b : Nat) (r : Role) (legs : Nat) (lc gf pos : Option Nat) : (s.begun i p).bindingsOk b r legs lc gf pos = s.bindingsOk b r legs lc gf pos := rfl
@[simp] theorem State.begun_engineSuits (s : State) (i : Instr) (p : Pkt) (lc gf : Option Nat) : (s.begun i p).engineSuits lc gf = s.engineSuits lc gf := rfl
@[simp] theorem State.begun_boundElsewhere (s : State) (i : Instr) (p : Pkt) (b : Nat) (lc gf : Option Nat) : (s.begun i p).boundElsewhere b lc gf = s.boundElsewhere b lc gf := rfl
@[simp] theorem State.begun_bindAbsent (s : State) (i : Instr) (p : Pkt) (lc gf : Option Nat) : (s.begun i p).bindAbsent lc gf = s.bindAbsent lc gf := rfl
@[simp] theorem State.begun_framesSuit (s : State) (i : Instr) (p : Pkt) (b : Nat) : (s.begun i p).framesSuit b = s.framesSuit b := rfl
@[simp] theorem State.begun_mirrorFits (s : State) (i : Instr) (p : Pkt) : (s.begun i p).mirrorFits = s.mirrorFits := rfl
@[simp] theorem State.begun_vdcReached (s : State) (i : Instr) (p : Pkt) (b : Nat) : (s.begun i p).vdcReached b = s.vdcReached b := rfl
@[simp] theorem State.begun_setpoints (s : State) (i : Instr) (p : Pkt) (b : Nat) : (s.begun i p).setpoints b = s.setpoints b := rfl
@[simp] theorem State.begun_retiredLinks (s : State) (i : Instr) (p : Pkt) (b : Nat) : (s.begun i p).retiredLinks b = s.retiredLinks b := rfl
@[simp] theorem State.begun_bridgeWord (s : State) (i : Instr) (p : Pkt) (b : Nat) : (s.begun i p).bridgeWord b = s.bridgeWord b := rfl
@[simp] theorem State.begun_statusBlock (s : State) (i : Instr) (p : Pkt) (b : Nat) : (s.begun i p).statusBlock b = s.statusBlock b := rfl
@[simp] theorem State.begun_shape (s : State) (i : Instr) (p : Pkt) (u : Nat) : (s.begun i p).shape u = s.shape u := rfl
@[simp] theorem State.begun_groupOf (s : State) (i : Instr) (p : Pkt) (l : Nat) : (s.begun i p).groupOf l = s.groupOf l := rfl
@[simp] theorem State.begun_aliveOf (s : State) (i : Instr) (p : Pkt) (l : Nat) : (s.begun i p).aliveOf l = s.aliveOf l := rfl
@[simp] theorem State.begun_groupState (s : State) (i : Instr) (p : Pkt) (l : Nat) : (s.begun i p).groupState l = s.groupState l := rfl
@[simp] theorem State.begun_groupRuns (s : State) (i : Instr) (p : Pkt) (l : Nat) : (s.begun i p).groupRuns l = s.groupRuns l := rfl
@[simp] theorem State.begun_slotSignal (s : State) (i : Instr) (p : Pkt) (n : Nat) : (s.begun i p).slotSignal n = s.slotSignal n := rfl
@[simp] theorem State.begun_bridgeItem (s : State) (i : Instr) (p : Pkt) (b j : Nat) : (s.begun i p).bridgeItem b j = s.bridgeItem b j := rfl
@[simp] theorem State.begun_recordBytes (s : State) (i : Instr) (p : Pkt) (u seed : Nat) (cut : Bool) (rows : List CapRow) : (s.begun i p).recordBytes u seed cut rows = s.recordBytes u seed cut rows := rfl
@[simp] theorem State.begun_selAbsent (s : State) (i : Instr) (p : Pkt) (v : Nat) : (s.begun i p).selAbsent v = s.selAbsent v := rfl
@[simp] theorem State.begun_capBytes (s : State) (i : Instr) (p : Pkt) (u : Nat) : (s.begun i p).capBytes u = s.capBytes u := rfl
@[simp] theorem State.begun_membersOf (s : State) (i : Instr) (p : Pkt) (u : Nat) : (s.begun i p).membersOf u = s.membersOf u := rfl
@[simp] theorem State.begun_maskCheck (s : State) (i : Instr) (p : Pkt) (p : Pkt) (legal : CapState → Bool) : (s.begun i p).maskCheck p legal = s.maskCheck p legal := rfl
@[simp] theorem State.begun_fillingBytes (s : State) (i : Instr) (p : Pkt) (u seed : Nat) : (s.begun i p).fillingBytes u seed = s.fillingBytes u seed := rfl
@[simp] theorem State.begun_pll (s : State) (i : Instr) (p : Pkt) (n : Nat) : (s.begun i p).pll n = s.pll n := rfl
@[simp] theorem State.begun_allIdle (s : State) (i : Instr) (p : Pkt) : (s.begun i p).allIdle = s.allIdle := rfl
@[simp] theorem State.begun_liveLinks (s : State) (i : Instr) (p : Pkt) : (s.begun i p).liveLinks = s.liveLinks := rfl
@[simp] theorem State.begun_waitingPll (s : State) (i : Instr) (p : Pkt) : (s.begun i p).waitingPll = s.waitingPll := rfl
@[simp] theorem State.begun_verdict (s : State) (i : Instr) (p : Pkt) (img : List Byte) : (s.begun i p).verdict img = s.verdict img := rfl
@[simp] theorem State.begun_changeOk (s : State) (i : Instr) (p : Pkt) (img : List Byte) : (s.begun i p).changeOk img = s.changeOk img := rfl
@[simp] theorem State.begun_boundRunning (s : State) (i : Instr) (p : Pkt) : (s.begun i p).boundRunning = s.boundRunning := rfl
@[simp] theorem State.begun_nextTurn (s : State) (i : Instr) (p : Pkt) (v : EicSymbol) : (s.begun i p).nextTurn v = s.nextTurn v := rfl
@[simp] theorem State.begun_varOf (s : State) (i : Instr) (p : Pkt) (p : Pkt) : (s.begun i p).varOf p = s.varOf p := rfl
@[simp] theorem State.begun_traceBytes (s : State) (i : Instr) (p : Pkt) (first n : Nat) : (s.begun i p).traceBytes first n = s.traceBytes first n := rfl
@[simp] theorem State.begun_heldTask (s : State) (i : Instr) (p : Pkt) : (s.begun i p).heldTask = s.heldTask := rfl
@[simp] theorem State.begun_kilnDue (s : State) (i : Instr) (p : Pkt) (r : Nat) : (s.begun i p).kilnDue r = s.kilnDue r := rfl
@[simp] theorem State.begun_pubByte (s : State) (i : Instr) (p : Pkt) (sp a : Nat) : (s.begun i p).pubByte sp a = s.pubByte sp a := rfl
@[simp] theorem State.begun_pubBytes (s : State) (i : Instr) (p : Pkt) (sp a n : Nat) : (s.begun i p).pubBytes sp a n = s.pubBytes sp a n := rfl
@[simp] theorem State.begun_period (s : State) (i : Instr) (p : Pkt) (k : Nat) : (s.begun i p).period k = s.period k := rfl
@[simp] theorem State.begun_cyclicTasks (s : State) (i : Instr) (p : Pkt) : (s.begun i p).cyclicTasks = s.cyclicTasks := rfl
@[simp] theorem State.begun_nextStart (s : State) (i : Instr) (p : Pkt) (k : Nat) : (s.begun i p).nextStart k = s.nextStart k := rfl
@[simp] theorem State.begun_forcedSym (s : State) (i : Instr) (p : Pkt) (v : EicSymbol) : (s.begun i p).forcedSym v = s.forcedSym v := rfl
@[simp] theorem State.begun_boundWords (s : State) (i : Instr) (p : Pkt) (b : Nat) : (s.begun i p).boundWords b = s.boundWords b := rfl
@[simp] theorem State.begun_portMac (s : State) (i : Instr) (p : Pkt) (n : Nat) : (s.begun i p).portMac n = s.portMac n := rfl
@[simp] theorem State.begun_outputFrame (s : State) (i : Instr) (p : Pkt) (port k n tc : Nat) (c : StationCfg) : (s.begun i p).outputFrame port k n tc c = s.outputFrame port k n tc c := rfl
@[simp] theorem State.begun_windowFrames (s : State) (i : Instr) (p : Pkt) (k tc : Nat) : (s.begun i p).windowFrames k tc = s.windowFrames k tc := rfl
@[simp] theorem State.begun_response (s : State) (i : Instr) (p : Pkt) : (s.begun i p).response = s.response := rfl
@[simp] theorem State.begun_challenge (s : State) (i : Instr) (p : Pkt) : (s.begun i p).challenge = s.challenge := rfl
@[simp] theorem State.begun_earns (s : State) (i : Instr) (p : Pkt) : (s.begun i p).earns = s.earns := rfl
@[simp] theorem State.begun_tmxSignal (s : State) (i : Instr) (p : Pkt) (src index : Nat) : (s.begun i p).tmxSignal src index = s.tmxSignal src index := rfl
@[simp] theorem State.begun_tmxPin (s : State) (i : Instr) (p : Pkt) (n : Nat) : (s.begun i p).tmxPin n = s.tmxPin n := rfl
@[simp] theorem State.begun_mboxBank (s : State) (i : Instr) (p : Pkt) : (s.begun i p).mboxBank = s.mboxBank := rfl
@[simp] theorem State.begun_idcode (s : State) (i : Instr) (p : Pkt) : (s.begun i p).idcode = s.idcode := rfl
@[simp] theorem State.begun_pageCount (s : State) (i : Instr) (p : Pkt) : (s.begun i p).pageCount = s.pageCount := rfl
@[simp] theorem State.begun_chanDefined (s : State) (i : Instr) (p : Pkt) (kind unit : Nat) : (s.begun i p).chanDefined kind unit = s.chanDefined kind unit := rfl
@[simp] theorem State.begun_chanFitted (s : State) (i : Instr) (p : Pkt) (kind unit : Nat) : (s.begun i p).chanFitted kind unit = s.chanFitted kind unit := rfl
@[simp] theorem State.begun_retiredPages (s : State) (i : Instr) (p : Pkt) : (s.begun i p).retiredPages = s.retiredPages := rfl
@[simp] theorem State.begun_runsTest (s : State) (i : Instr) (p : Pkt) (k : Nat) : (s.begun i p).runsTest k = s.runsTest k := rfl
@[simp] theorem State.begun_retiredOf (s : State) (i : Instr) (p : Pkt) (kind : Nat) : (s.begun i p).retiredOf kind = s.retiredOf kind := rfl
@[simp] theorem State.begun_hlthStatus (s : State) (i : Instr) (p : Pkt) : (s.begun i p).hlthStatus = s.hlthStatus := rfl
@[simp] theorem State.begun_hlthKind (s : State) (i : Instr) (p : Pkt) (n : Nat) : (s.begun i p).hlthKind n = s.hlthKind n := rfl
@[simp] theorem State.begun_hlthCones (s : State) (i : Instr) (p : Pkt) : (s.begun i p).hlthCones = s.hlthCones := rfl
@[simp] theorem State.begun_hlthSpare (s : State) (i : Instr) (p : Pkt) : (s.begun i p).hlthSpare = s.hlthSpare := rfl
@[simp] theorem State.begun_partner (s : State) (i : Instr) (p : Pkt) : (s.begun i p).partner = s.partner := rfl
@[simp] theorem State.begun_inputB (s : State) (i : Instr) (p : Pkt) : (s.begun i p).inputB = s.inputB := rfl
@[simp] theorem State.begun_takeSafe (s : State) (i : Instr) (p : Pkt) (b : Nat) : (s.begun i p).takeSafe b = s.takeSafe b := rfl
@[simp] theorem State.begun_duplexInForce (s : State) (i : Instr) (p : Pkt) : (s.begun i p).duplexInForce = s.duplexInForce := rfl
@[simp] theorem State.begun_sslAll (s : State) (i : Instr) (p : Pkt) : (s.begun i p).sslAll = s.sslAll := rfl
@[simp] theorem State.begun_healthWord (s : State) (i : Instr) (p : Pkt) : (s.begun i p).healthWord = s.healthWord := rfl
@[simp] theorem State.begun_safetyCheck (s : State) (i : Instr) (p : Pkt) : (s.begun i p).safetyCheck = s.safetyCheck := rfl
@[simp] theorem State.begun_linksLive (s : State) (i : Instr) (p : Pkt) : (s.begun i p).linksLive = s.linksLive := rfl
@[simp] theorem State.begun_reasonBits (s : State) (i : Instr) (p : Pkt) : (s.begun i p).reasonBits = s.reasonBits := rfl
@[simp] theorem State.begun_fit (s : State) (i : Instr) (p : Pkt) : (s.begun i p).fit = s.fit := rfl
@[simp] theorem State.begun_allFollow (s : State) (i : Instr) (p : Pkt) (mine : Bool) : (s.begun i p).allFollow mine = s.allFollow mine := rfl
@[simp] theorem State.begun_mirrorLoad (s : State) (i : Instr) (p : Pkt) : (s.begun i p).mirrorLoad = s.mirrorLoad := rfl
@[simp] theorem State.begun_dpxStatus (s : State) (i : Instr) (p : Pkt) : (s.begun i p).dpxStatus = s.dpxStatus := rfl
@[simp] theorem State.begun_dpxMirror (s : State) (i : Instr) (p : Pkt) : (s.begun i p).dpxMirror = s.dpxMirror := rfl
@[simp] theorem State.begun_eicByte (s : State) (i : Instr) (p : Pkt) (r sp a : Nat) : (s.begun i p).eicByte r sp a = s.eicByte r sp a := rfl
@[simp] theorem State.begun_eicBytes (s : State) (i : Instr) (p : Pkt) (r sp a n : Nat) : (s.begun i p).eicBytes r sp a n = s.eicBytes r sp a n := rfl
@[simp] theorem State.begun_reg64 (s : State) (i : Instr) (p : Pkt) (r n : Nat) : (s.begun i p).reg64 r n = s.reg64 r n := rfl
@[simp] theorem State.begun_memGet (s : State) (i : Instr) (p : Pkt) (r sp a ty : Nat) : (s.begun i p).memGet r sp a ty = s.memGet r sp a ty := rfl
@[simp] theorem State.begun_operandAddr (s : State) (i : Instr) (p : Pkt) (r ty : Nat) (o : EicOp) : (s.begun i p).operandAddr r ty o = s.operandAddr r ty o := rfl
@[simp] theorem State.begun_operand (s : State) (i : Instr) (p : Pkt) (r ty : Nat) (o : EicOp) : (s.begun i p).operand r ty o = s.operand r ty o := rfl
@[simp] theorem State.begun_placeOf (s : State) (i : Instr) (p : Pkt) (r ty : Nat) (o : EicOp) : (s.begun i p).placeOf r ty o = s.placeOf r ty o := rfl
@[simp] theorem State.begun_insOf (s : State) (i : Instr) (p : Pkt) (r : Nat) : (s.begun i p).insOf r = s.insOf r := rfl
@[simp] theorem State.begun_fuelOf (s : State) (i : Instr) (p : Pkt) (r : Nat) : (s.begun i p).fuelOf r = s.fuelOf r := rfl
@[simp] theorem State.begun_executes (s : State) (i : Instr) (p : Pkt) (r : Nat) : (s.begun i p).executes r = s.executes r := rfl
@[simp] theorem State.begun_localBytes (s : State) (i : Instr) (p : Pkt) (q granule : Nat) : (s.begun i p).localBytes q granule = s.localBytes q granule := rfl
@[simp] theorem State.begun_gpioIn (s : State) (i : Instr) (p : Pkt) : (s.begun i p).gpioIn = s.gpioIn := rfl
@[simp] theorem State.begun_pwrStatus (s : State) (i : Instr) (p : Pkt) : (s.begun i p).pwrStatus = s.pwrStatus := rfl
@[simp] theorem State.begun_pwrFeed (s : State) (i : Instr) (p : Pkt) : (s.begun i p).pwrFeed = s.pwrFeed := rfl
@[simp] theorem State.begun_clkRef (s : State) (i : Instr) (p : Pkt) : (s.begun i p).clkRef = s.clkRef := rfl
@[simp] theorem State.begun_pllStat (s : State) (i : Instr) (p : Pkt) (n : Nat) : (s.begun i p).pllStat n = s.pllStat n := rfl
@[simp] theorem State.begun_bootStatus (s : State) (i : Instr) (p : Pkt) : (s.begun i p).bootStatus = s.bootStatus := rfl
@[simp] theorem State.begun_dbgStatus (s : State) (i : Instr) (p : Pkt) : (s.begun i p).dbgStatus = s.dbgStatus := rfl
@[simp] theorem State.begun_unpowered (s : State) (i : Instr) (p : Pkt) : (s.begun i p).unpowered = s.unpowered := rfl
@[simp] theorem State.begun_pads (s : State) (i : Instr) (p : Pkt) (g : Nat) : (s.begun i p).pads g = s.pads g := rfl
@[simp] theorem State.begun_glsTxPin (s : State) (i : Instr) (p : Pkt) (g : Nat) : (s.begun i p).glsTxPin g = s.glsTxPin g := rfl
@[simp] theorem State.begun_sslPin (s : State) (i : Instr) (p : Pkt) (b : Nat) : (s.begun i p).sslPin b = s.sslPin b := rfl
@[simp] theorem State.begun_sbcPin (s : State) (i : Instr) (p : Pkt) (n : Nat) : (s.begun i p).sbcPin n = s.sbcPin n := rfl
@[simp] theorem State.begun_sdcPin (s : State) (i : Instr) (p : Pkt) (n : Nat) : (s.begun i p).sdcPin n = s.sdcPin n := rfl
@[simp] theorem State.begun_bypassPin (s : State) (i : Instr) (p : Pkt) : (s.begun i p).bypassPin = s.bypassPin := rfl
@[simp] theorem State.begun_faultN (s : State) (i : Instr) (p : Pkt) : (s.begun i p).faultN = s.faultN := rfl
@[simp] theorem State.begun_pgood (s : State) (i : Instr) (p : Pkt) : (s.begun i p).pgood = s.pgood := rfl
@[simp] theorem State.begun_gpioOut (s : State) (i : Instr) (p : Pkt) (n : Nat) : (s.begun i p).gpioOut n = s.gpioOut n := rfl
@[simp] theorem State.begun_codesPending (s : State) (i : Instr) (p : Pkt) (b : Nat) : (s.begun i p).codesPending b = s.codesPending b := rfl
@[simp] theorem State.begun_plateauTarget (s : State) (i : Instr) (p : Pkt) (g : Nat) (off : Bool) : (s.begun i p).plateauTarget g off = s.plateauTarget g off := rfl
@[simp] theorem State.begun_tripInactive (s : State) (i : Instr) (p : Pkt) (k : Nat) : (s.begun i p).tripInactive k = s.tripInactive k := rfl
@[simp] theorem State.begun_activeCause (s : State) (i : Instr) (p : Pkt) (b : Nat) : (s.begun i p).activeCause b = s.activeCause b := rfl
@[simp] theorem State.begun_ownerState (s : State) (i : Instr) (p : Pkt) (g : Nat) : (s.begun i p).ownerState g = s.ownerState g := rfl
@[simp] theorem State.begun_gateWords (s : State) (i : Instr) (p : Pkt) (g sel : Nat) : (s.begun i p).gateWords g sel = s.gateWords g sel := rfl
@[simp] theorem State.begun_evtWord (s : State) (i : Instr) (p : Pkt) (g : Nat) : (s.begun i p).evtWord g = s.evtWord g := rfl
@[simp] theorem State.begun_outerInstant (s : State) (i : Instr) (p : Pkt) (g : Nat) : (s.begun i p).outerInstant g = s.outerInstant g := rfl
@[simp] theorem State.begun_gfRuns (s : State) (i : Instr) (p : Pkt) (g : Nat) : (s.begun i p).gfRuns g = s.gfRuns g := rfl
@[simp] theorem State.begun_outerDue (s : State) (i : Instr) (p : Pkt) (g : Nat) : (s.begun i p).outerDue g = s.outerDue g := rfl
@[simp] theorem State.begun_wc (s : State) (i : Instr) (p : Pkt) (c : Nat) : (s.begun i p).wc c = s.wc c := rfl
@[simp] theorem State.begun_run (s : State) (i : Instr) (p : Pkt) (r : Nat) : (s.begun i p).run r = s.run r := rfl
@[simp] theorem State.begun_portUp (s : State) (i : Instr) (p : Pkt) (n : Nat) : (s.begun i p).portUp n = s.portUp n := rfl
@[simp] theorem State.begun_loopWords (s : State) (i : Instr) (p : Pkt) (k sel : Nat) : (s.begun i p).loopWords k sel = s.loopWords k sel := rfl
@[simp] theorem State.begun_sampleDue (s : State) (i : Instr) (p : Pkt) (k : Nat) : (s.begun i p).sampleDue k = s.sampleDue k := rfl
@[simp] theorem State.begun_deadline (s : State) (i : Instr) (p : Pkt) (b : Nat) (d : DueSample) : (s.begun i p).deadline b d = s.deadline b d := rfl
@[simp] theorem State.begun_lcShape (s : State) (i : Instr) (p : Pkt) (k : Nat) : (s.begun i p).lcShape k = s.lcShape k := rfl
@[simp] theorem State.begun_lcLoad (s : State) (i : Instr) (p : Pkt) (k : Nat) (c : LoopContext) : (s.begun i p).lcLoad k c = s.lcLoad k c := rfl
@[simp] theorem State.begun_engineLoad (s : State) (i : Instr) (p : Pkt) (e : Nat) (but : Option Nat) : (s.begun i p).engineLoad e but = s.engineLoad e but := rfl
@[simp] theorem State.begun_slotRat (s : State) (i : Instr) (p : Pkt) (n : Nat) : (s.begun i p).slotRat n = s.slotRat n := rfl
@[simp] theorem State.begun_triple (s : State) (i : Instr) (p : Pkt) (e : GfEngine) (k : Nat) : (s.begun i p).triple e k = s.triple e k := rfl
@[simp] theorem State.begun_gfVolt (s : State) (i : Instr) (p : Pkt) (e : GfEngine) : (s.begun i p).gfVolt e = s.gfVolt e := rfl
@[simp] theorem State.begun_gfCurr (s : State) (i : Instr) (p : Pkt) (e : GfEngine) : (s.begun i p).gfCurr e = s.gfCurr e := rfl
@[simp] theorem State.begun_gfBus (s : State) (i : Instr) (p : Pkt) (e : GfEngine) : (s.begun i p).gfBus e = s.gfBus e := rfl
@[simp] theorem State.begun_gfGrid (s : State) (i : Instr) (p : Pkt) (e : GfEngine) : (s.begun i p).gfGrid e = s.gfGrid e := rfl
@[simp] theorem State.begun_fbMapped (s : State) (i : Instr) (p : Pkt) (g : Nat) : (s.begun i p).fbMapped g = s.fbMapped g := rfl
@[simp] theorem State.begun_gfClosed (s : State) (i : Instr) (p : Pkt) (g : Nat) : (s.begun i p).gfClosed g = s.gfClosed g := rfl
@[simp] theorem State.begun_port (s : State) (i : Instr) (p : Pkt) (n : Nat) : (s.begun i p).port n = s.port n := rfl
@[simp] theorem State.begun_portEn (s : State) (i : Instr) (p : Pkt) (n : Nat) : (s.begun i p).portEn n = s.portEn n := rfl
@[simp] theorem State.begun_rxLat (s : State) (i : Instr) (p : Pkt) (n : Nat) : (s.begun i p).rxLat n = s.rxLat n := rfl
@[simp] theorem State.begun_txLat (s : State) (i : Instr) (p : Pkt) (n : Nat) : (s.begun i p).txLat n = s.txLat n := rfl
@[simp] theorem State.begun_portState (s : State) (i : Instr) (p : Pkt) (n : Nat) : (s.begun i p).portState n = s.portState n := rfl
@[simp] theorem State.begun_stationOf (s : State) (i : Instr) (p : Pkt) (port : Nat) (f : List Byte) : (s.begun i p).stationOf port f = s.stationOf port f := rfl
@[simp] theorem State.begun_windowOf (s : State) (i : Instr) (p : Pkt) (k stamp : Nat) : (s.begun i p).windowOf k stamp = s.windowOf k stamp := rfl
@[simp] theorem State.begun_ptpOf (s : State) (i : Instr) (p : Pkt) (port : Nat) (f : List Byte) : (s.begun i p).ptpOf port f = s.ptpOf port f := rfl
@[simp] theorem State.begun_stationsOn (s : State) (i : Instr) (p : Pkt) (port k : Nat) : (s.begun i p).stationsOn port k = s.stationsOn port k := rfl
@[simp] theorem State.begun_windowBars (s : State) (i : Instr) (p : Pkt) (port dur : Nat) : (s.begun i p).windowBars port dur = s.windowBars port dur := rfl
@[simp] theorem State.begun_nextTx (s : State) (i : Instr) (p : Pkt) (port : Nat) : (s.begun i p).nextTx port = s.nextTx port := rfl
@[simp] theorem State.begun_slowFrom (s : State) (i : Instr) (p : Pkt) : (s.begun i p).slowFrom = s.slowFrom := rfl
@[simp] theorem State.begun_tickAt (s : State) (i : Instr) (p : Pkt) (t : Nat) : (s.begun i p).tickAt t = s.tickAt t := rfl
@[simp] theorem State.begun_sinceTick (s : State) (i : Instr) (p : Pkt) : (s.begun i p).sinceTick = s.sinceTick := rfl
@[simp] theorem State.begun_dtbSec (s : State) (i : Instr) (p : Pkt) : (s.begun i p).dtbSec = s.dtbSec := rfl
@[simp] theorem State.begun_dtbNano (s : State) (i : Instr) (p : Pkt) : (s.begun i p).dtbNano = s.dtbNano := rfl
@[simp] theorem State.begun_dtbSub (s : State) (i : Instr) (p : Pkt) : (s.begun i p).dtbSub = s.dtbSub := rfl
@[simp] theorem State.begun_dtbNs (s : State) (i : Instr) (p : Pkt) : (s.begun i p).dtbNs = s.dtbNs := rfl
@[simp] theorem State.begun_dtbSteps (s : State) (i : Instr) (p : Pkt) : (s.begun i p).dtbSteps = s.dtbSteps := rfl
@[simp] theorem State.begun_ns (s : State) (i : Instr) (p : Pkt) : (s.begun i p).ns = s.ns := rfl
@[simp] theorem State.begun_dtbFine (s : State) (i : Instr) (p : Pkt) : (s.begun i p).dtbFine = s.dtbFine := rfl
@[simp] theorem State.begun_fineNs (s : State) (i : Instr) (p : Pkt) : (s.begun i p).fineNs = s.fineNs := rfl
@[simp] theorem State.begun_dtbNsAt (s : State) (i : Instr) (p : Pkt) (t : Nat) : (s.begun i p).dtbNsAt t = s.dtbNsAt t := rfl
@[simp] theorem State.begun_chan (s : State) (i : Instr) (p : Pkt) (kind unit : Nat) : (s.begun i p).chan kind unit = s.chan kind unit := rfl
@[simp] theorem State.begun_isRetired (s : State) (i : Instr) (p : Pkt) (kind unit : Nat) : (s.begun i p).isRetired kind unit = s.isRetired kind unit := rfl
@[simp] theorem State.begun_slotRetired (s : State) (i : Instr) (p : Pkt) (n : Nat) : (s.begun i p).slotRetired n = s.slotRetired n := rfl
@[simp] theorem State.begun_linkRetired (s : State) (i : Instr) (p : Pkt) (g : Nat) : (s.begun i p).linkRetired g = s.linkRetired g := rfl
@[simp] theorem State.begun_gpioFunc (s : State) (i : Instr) (p : Pkt) (n : Nat) : (s.begun i p).gpioFunc n = s.gpioFunc n := rfl
@[simp] theorem State.begun_gpioInv (s : State) (i : Instr) (p : Pkt) (n : Nat) : (s.begun i p).gpioInv n = s.gpioInv n := rfl
@[simp] theorem State.begun_gpioMapped (s : State) (i : Instr) (p : Pkt) (f : Nat) : (s.begun i p).gpioMapped f = s.gpioMapped f := rfl
@[simp] theorem State.begun_linksOf (s : State) (i : Instr) (p : Pkt) (b : Nat) : (s.begun i p).linksOf b = s.linksOf b := rfl
@[simp] theorem State.begun_ownerOf (s : State) (i : Instr) (p : Pkt) (g : Nat) : (s.begun i p).ownerOf g = s.ownerOf g := rfl
@[simp] theorem State.begun_linkIndex (s : State) (i : Instr) (p : Pkt) (b g : Nat) : (s.begun i p).linkIndex b g = s.linkIndex b g := rfl
@[simp] theorem State.begun_legOf (s : State) (i : Instr) (p : Pkt) (b g : Nat) : (s.begun i p).legOf b g = s.legOf b g := rfl
@[simp] theorem State.begun_bridgeOfLc (s : State) (i : Instr) (p : Pkt) (c : Nat) : (s.begun i p).bridgeOfLc c = s.bridgeOfLc c := rfl
@[simp] theorem State.begun_bridgeOfGf (s : State) (i : Instr) (p : Pkt) (g : Nat) : (s.begun i p).bridgeOfGf g = s.bridgeOfGf g := rfl
@[simp] theorem State.begun_role (s : State) (i : Instr) (p : Pkt) (b : Nat) : (s.begun i p).role b = s.role b := rfl
@[simp] theorem State.begun_posBusy (s : State) (i : Instr) (p : Pkt) (n : Nat) : (s.begun i p).posBusy n = s.posBusy n := rfl
@[simp] theorem State.begun_excEnd (s : State) (i : Instr) (p : Pkt) (f : Nat) : (s.begun i p).excEnd f = s.excEnd f := rfl
@[simp] theorem State.begun_feed (s : State) (i : Instr) (p : Pkt) (n : Nat) : (s.begun i p).feed n = s.feed n := rfl
@[simp] theorem State.begun_fed (s : State) (i : Instr) (p : Pkt) : (s.begun i p).fed = s.fed := rfl
@[simp] theorem State.begun_carried (s : State) (i : Instr) (p : Pkt) : (s.begun i p).carried = s.carried := rfl
@[simp] theorem State.begun_aonCount (s : State) (i : Instr) (p : Pkt) : (s.begun i p).aonCount = s.aonCount := rfl
@[simp] theorem State.begun_awake (s : State) (i : Instr) (p : Pkt) : (s.begun i p).awake = s.awake := rfl
@[simp] theorem State.begun_asleep (s : State) (i : Instr) (p : Pkt) : (s.begun i p).asleep = s.asleep := rfl
@[simp] theorem State.begun_holdPads (s : State) (i : Instr) (p : Pkt) : (s.begun i p).holdPads = s.holdPads := rfl
@[simp] theorem State.begun_aonCycle (s : State) (i : Instr) (p : Pkt) : (s.begun i p).aonCycle = s.aonCycle := rfl
@[simp] theorem State.begun_runNeed (s : State) (i : Instr) (p : Pkt) : (s.begun i p).runNeed = s.runNeed := rfl
@[simp] theorem State.begun_blk (s : State) (i : Instr) (p : Pkt) : (s.begun i p).blk = s.blk := rfl
@[simp] theorem State.begun_sagUp (s : State) (i : Instr) (p : Pkt) : (s.begun i p).sagUp = s.sagUp := rfl
@[simp] theorem State.begun_released (s : State) (i : Instr) (p : Pkt) (c : Channel) (early : Bool) (b : Nat) : (s.begun i p).released c early b = s.released c early b := rfl
@[simp] theorem State.begun_roleAllowed (s : State) (i : Instr) (p : Pkt) (b : Nat) (r : Role) (x : SafeState) : (s.begun i p).roleAllowed b r x = s.roleAllowed b r x := rfl
@[simp] theorem State.begun_chanAPermits (s : State) (i : Instr) (p : Pkt) (b : Nat) : (s.begun i p).chanAPermits b = s.chanAPermits b := rfl
@[simp] theorem State.begun_sslToggling (s : State) (i : Instr) (p : Pkt) (b : Nat) : (s.begun i p).sslToggling b = s.sslToggling b := rfl
@[simp] theorem State.begun_outPermit (s : State) (i : Instr) (p : Pkt) (c : Channel) (sbc : Bool) (n : Nat) : (s.begun i p).outPermit c sbc n = s.outPermit c sbc n := rfl
@[simp] theorem State.begun_sbcOn (s : State) (i : Instr) (p : Pkt) (n : Nat) : (s.begun i p).sbcOn n = s.sbcOn n := rfl
@[simp] theorem State.begun_sdcOn (s : State) (i : Instr) (p : Pkt) (n : Nat) : (s.begun i p).sdcOn n = s.sdcOn n := rfl
@[simp] theorem State.begun_faultLatched (s : State) (i : Instr) (p : Pkt) (b : Nat) : (s.begun i p).faultLatched b = s.faultLatched b := rfl
@[simp] theorem State.begun_startAllowed (s : State) (i : Instr) (p : Pkt) (b : Nat) : (s.begun i p).startAllowed b = s.startAllowed b := rfl
@[simp] theorem State.begun_recoverAllowed (s : State) (i : Instr) (p : Pkt) (b : Nat) : (s.begun i p).recoverAllowed b = s.recoverAllowed b := rfl
@[simp] theorem State.begun_dueRefresh (s : State) (i : Instr) (p : Pkt) (b : Nat) : (s.begun i p).dueRefresh b = s.dueRefresh b := rfl
@[simp] theorem State.begun_patternEdges (s : State) (i : Instr) (p : Pkt) (b : Nat) (x : SafeState) (hold : Bool) (t0 : Nat) : (s.begun i p).patternEdges b x hold t0 = s.patternEdges b x hold t0 := rfl
@[simp] theorem State.begun_sideFaulted (s : State) (i : Instr) (p : Pkt) (b k : Nat) : (s.begun i p).sideFaulted b k = s.sideFaulted b k := rfl
@[simp] theorem State.begun_dtOf (s : State) (i : Instr) (p : Pkt) (b g k : Nat) : (s.begun i p).dtOf b g k = s.dtOf b g k := rfl
@[simp] theorem State.begun_fbRecord (s : State) (i : Instr) (p : Pkt) (b g : Nat) (x : SafeState) : (s.begun i p).fbRecord b g x = s.fbRecord b g x := rfl
@[simp] theorem State.begun_ownOf (s : State) (i : Instr) (p : Pkt) (g : Nat) : (s.begun i p).ownOf g = s.ownOf g := rfl
@[simp] theorem State.begun_carrierT (s : State) (i : Instr) (p : Pkt) (b : Nat) : (s.begun i p).carrierT b = s.carrierT b := rfl
@[simp] theorem State.begun_framePeriod (s : State) (i : Instr) (p : Pkt) (src ev div : Nat) : (s.begun i p).framePeriod src ev div = s.framePeriod src ev div := rfl
@[simp] theorem State.begun_srcRuns (s : State) (i : Instr) (p : Pkt) (src : Nat) : (s.begun i p).srcRuns src = s.srcRuns src := rfl
@[simp] theorem State.begun_localSteps (s : State) (i : Instr) (p : Pkt) (d : Nat) : (s.begun i p).localSteps d = s.localSteps d := rfl
@[simp] theorem State.begun_tripMet (s : State) (i : Instr) (p : Pkt) (k : Nat) : (s.begun i p).tripMet k = s.tripMet k := rfl
@[simp] theorem State.begun_dsmLock (s : State) (i : Instr) (p : Pkt) (g : Nat) : (s.begun i p).dsmLock g = s.dsmLock g := rfl
@[simp] theorem State.begun_timerInUse (s : State) (i : Instr) (p : Pkt) (k : Nat) : (s.begun i p).timerInUse k = s.timerInUse k := rfl
@[simp] theorem State.begun_frameNo (s : State) (i : Instr) (p : Pkt) (c : SlotCfg) : (s.begun i p).frameNo c = s.frameNo c := rfl
@[simp] theorem State.begun_edgeOffset (s : State) (i : Instr) (p : Pkt) (n : Nat) (inp : Option SlotInput) : (s.begun i p).edgeOffset n inp = s.edgeOffset n inp := rfl
@[simp] theorem State.begun_clockReceived (s : State) (i : Instr) (p : Pkt) (n : Nat) (inp : Option SlotInput) : (s.begun i p).clockReceived n inp = s.clockReceived n inp := rfl
@[simp] theorem State.begun_frameSlots (s : State) (i : Instr) (p : Pkt) (src : Nat) : (s.begun i p).frameSlots src = s.frameSlots src := rfl
@[simp] theorem State.begun_frameReady (s : State) (i : Instr) (p : Pkt) (ns : List Nat) (inputs : List SlotInput) : (s.begun i p).frameReady ns inputs = s.frameReady ns inputs := rfl
@[simp] theorem State.begun_posAt (s : State) (i : Instr) (p : Pkt) (n t : Nat) : (s.begun i p).posAt n t = s.posAt n t := rfl
@[simp] theorem State.begun_posNow (s : State) (i : Instr) (p : Pkt) (n : Nat) : (s.begun i p).posNow n = s.posNow n := rfl
@[simp] theorem State.begun_slotWords (s : State) (i : Instr) (p : Pkt) (n sel : Nat) : (s.begun i p).slotWords n sel = s.slotWords n sel := rfl
@[simp] theorem State.begun_posWords (s : State) (i : Instr) (p : Pkt) (n : Nat) : (s.begun i p).posWords n = s.posWords n := rfl
@[simp] theorem State.begun_slotPeriod (s : State) (i : Instr) (p : Pkt) (n : Nat) : (s.begun i p).slotPeriod n = s.slotPeriod n := rfl
@[simp] theorem State.begun_pugLoad (s : State) (i : Instr) (p : Pkt) : (s.begun i p).pugLoad = s.pugLoad := rfl
@[simp] theorem State.begun_pugFits (s : State) (i : Instr) (p : Pkt) : (s.begun i p).pugFits = s.pugFits := rfl
@[simp] theorem State.begun_pugNeed (s : State) (i : Instr) (p : Pkt) : (s.begun i p).pugNeed = s.pugNeed := rfl
@[simp] theorem State.begun_modClock (s : State) (i : Instr) (p : Pkt) (n : Nat) (c : SlotCfg) : (s.begun i p).modClock n c = s.modClock n c := rfl
@[simp] theorem State.begun_slotTimesOk (s : State) (i : Instr) (p : Pkt) (n : Nat) (c : SlotCfg) : (s.begun i p).slotTimesOk n c = s.slotTimesOk n c := rfl
@[simp] theorem State.begun_slotClockOk (s : State) (i : Instr) (p : Pkt) (n : Nat) (c : SlotCfg) : (s.begun i p).slotClockOk n c = s.slotClockOk n c := rfl
@[simp] theorem State.begun_slotsOf (s : State) (i : Instr) (p : Pkt) (src : Nat) : (s.begun i p).slotsOf src = s.slotsOf src := rfl
@[simp] theorem State.begun_sourceOk (s : State) (i : Instr) (p : Pkt) (src : Nat) : (s.begun i p).sourceOk src = s.sourceOk src := rfl
@[simp] theorem State.begun_bridgeReads (s : State) (i : Instr) (p : Pkt) (b n : Nat) : (s.begun i p).bridgeReads b n = s.bridgeReads b n := rfl
@[simp] theorem State.begun_slotInUse (s : State) (i : Instr) (p : Pkt) (n : Nat) : (s.begun i p).slotInUse n = s.slotInUse n := rfl
@[simp] theorem State.begun_rateKept (s : State) (i : Instr) (p : Pkt) (b : Nat) : (s.begun i p).rateKept b = s.rateKept b := rfl
@[simp] theorem State.begun_legCount (s : State) (i : Instr) (p : Pkt) (b : Nat) : (s.begun i p).legCount b = s.legCount b := rfl
@[simp] theorem State.begun_pwmWords (s : State) (i : Instr) (p : Pkt) (b sel : Nat) : (s.begun i p).pwmWords b sel = s.pwmWords b sel := rfl
@[simp] theorem State.begun_reg (s : State) (i : Instr) (p : Pkt) (off : Nat) : (s.begun i p).reg off = s.reg off := rfl
@[simp] theorem State.begun_inUse (s : State) (i : Instr) (p : Pkt) (off : Nat) : (s.begun i p).inUse off = s.inUse off := rfl
@[simp] theorem State.begun_qpReg (s : State) (i : Instr) (p : Pkt) (q off : Nat) : (s.begun i p).qpReg q off = s.qpReg q off := rfl
@[simp] theorem State.begun_cmdSize (s : State) (i : Instr) (p : Pkt) (q : Nat) : (s.begun i p).cmdSize q = s.cmdSize q := rfl
@[simp] theorem State.begun_cplSize (s : State) (i : Instr) (p : Pkt) (q : Nat) : (s.begun i p).cplSize q = s.cplSize q := rfl
@[simp] theorem State.begun_qpEn (s : State) (i : Instr) (p : Pkt) (q : Nat) : (s.begun i p).qpEn q = s.qpEn q := rfl
@[simp] theorem State.begun_qpLocal (s : State) (i : Instr) (p : Pkt) (q : Nat) : (s.begun i p).qpLocal q = s.qpLocal q := rfl
@[simp] theorem State.begun_qpProd (s : State) (i : Instr) (p : Pkt) (q : Nat) : (s.begun i p).qpProd q = s.qpProd q := rfl
@[simp] theorem State.begun_qpVec (s : State) (i : Instr) (p : Pkt) (q : Nat) : (s.begun i p).qpVec q = s.qpVec q := rfl
@[simp] theorem State.begun_qpIrqEn (s : State) (i : Instr) (p : Pkt) (q : Nat) : (s.begun i p).qpIrqEn q = s.qpIrqEn q := rfl
@[simp] theorem State.begun_qpModCnt (s : State) (i : Instr) (p : Pkt) (q : Nat) : (s.begun i p).qpModCnt q = s.qpModCnt q := rfl
@[simp] theorem State.begun_qpModTime (s : State) (i : Instr) (p : Pkt) (q : Nat) : (s.begun i p).qpModTime q = s.qpModTime q := rfl
@[simp] theorem State.begun_fitBridges (s : State) (i : Instr) (p : Pkt) : (s.begun i p).fitBridges = s.fitBridges := rfl
@[simp] theorem State.begun_fitEngines (s : State) (i : Instr) (p : Pkt) : (s.begun i p).fitEngines = s.fitEngines := rfl
@[simp] theorem State.begun_fitGfes (s : State) (i : Instr) (p : Pkt) : (s.begun i p).fitGfes = s.fitGfes := rfl
@[simp] theorem State.begun_fitCaps (s : State) (i : Instr) (p : Pkt) : (s.begun i p).fitCaps = s.fitCaps := rfl
@[simp] theorem State.begun_hasCycle (s : State) (i : Instr) (p : Pkt) : (s.begun i p).hasCycle = s.hasCycle := rfl
@[simp] theorem State.begun_hasDuplex (s : State) (i : Instr) (p : Pkt) : (s.begun i p).hasDuplex = s.hasDuplex := rfl
@[simp] theorem State.begun_fitLinks (s : State) (i : Instr) (p : Pkt) : (s.begun i p).fitLinks = s.fitLinks := rfl
@[simp] theorem State.begun_fitLcs (s : State) (i : Instr) (p : Pkt) : (s.begun i p).fitLcs = s.fitLcs := rfl
@[simp] theorem State.begun_fitContexts (s : State) (i : Instr) (p : Pkt) : (s.begun i p).fitContexts = s.fitContexts := rfl
@[simp] theorem State.begun_partitions (s : State) (i : Instr) (p : Pkt) : (s.begun i p).partitions = s.partitions := rfl
@[simp] theorem State.begun_localRingBytes (s : State) (i : Instr) (p : Pkt) : (s.begun i p).localRingBytes = s.localRingBytes := rfl
@[simp] theorem State.begun_dpxCfg (s : State) (i : Instr) (p : Pkt) : (s.begun i p).dpxCfg = s.dpxCfg := rfl
@[simp] theorem State.begun_duplexed (s : State) (i : Instr) (p : Pkt) (b : Nat) : (s.begun i p).duplexed b = s.duplexed b := rfl
@[simp] theorem State.begun_duplexedBridges (s : State) (i : Instr) (p : Pkt) : (s.begun i p).duplexedBridges = s.duplexedBridges := rfl
@[simp] theorem State.begun_frozenBridge (s : State) (i : Instr) (p : Pkt) (b : Nat) : (s.begun i p).frozenBridge b = s.frozenBridge b := rfl
@[simp] theorem State.begun_sarSlots (s : State) (i : Instr) (p : Pkt) (b : Nat) : (s.begun i p).sarSlots b = s.sarSlots b := rfl
@[simp] theorem State.begun_mirrorRecord (s : State) (i : Instr) (p : Pkt) (b : Nat) (frozen final : Bool) : (s.begun i p).mirrorRecord b frozen final = s.mirrorRecord b frozen final := rfl
@[simp] theorem State.begun_hosts (s : State) (i : Instr) (p : Pkt) (k : Nat) : (s.begun i p).hosts k = s.hosts k := rfl
@[simp] theorem State.begun_bestHost (s : State) (i : Instr) (p : Pkt) (k : Nat) : (s.begun i p).bestHost k = s.bestHost k := rfl
@[simp] theorem State.begun_handoverUnit (s : State) (i : Instr) (p : Pkt) (kind unit : Nat) : (s.begun i p).handoverUnit kind unit = s.handoverUnit kind unit := rfl
@[simp] theorem State.begun_ringEn (s : State) (i : Instr) (p : Pkt) : (s.begun i p).ringEn = s.ringEn := rfl
@[simp] theorem State.begun_nodeId (s : State) (i : Instr) (p : Pkt) : (s.begun i p).nodeId = s.nodeId := rfl
@[simp] theorem State.begun_ringPrio (s : State) (i : Instr) (p : Pkt) : (s.begun i p).ringPrio = s.ringPrio := rfl
@[simp] theorem State.begun_node (s : State) (i : Instr) (p : Pkt) (n : Nat) : (s.begun i p).node n = s.node n := rfl
@[simp] theorem State.begun_prioOf (s : State) (i : Instr) (p : Pkt) (n : Nat) : (s.begun i p).prioOf n = s.prioOf n := rfl
@[simp] theorem State.begun_ringFollower (s : State) (i : Instr) (p : Pkt) : (s.begun i p).ringFollower = s.ringFollower := rfl
@[simp] theorem State.begun_byNb (s : State) (i : Instr) (p : Pkt) (n : Nat) : (s.begun i p).byNb n = s.byNb n := rfl
@[simp] theorem State.begun_retiredUnits (s : State) (i : Instr) (p : Pkt) : (s.begun i p).retiredUnits = s.retiredUnits := rfl
@[simp] theorem State.begun_ownRecord (s : State) (i : Instr) (p : Pkt) : (s.begun i p).ownRecord = s.ownRecord := rfl
@[simp] theorem State.begun_timePayload (s : State) (i : Instr) (p : Pkt) (count : Nat) : (s.begun i p).timePayload count = s.timePayload count := rfl
@[simp] theorem State.begun_beatPayload (s : State) (i : Instr) (p : Pkt) (count : Nat) : (s.begun i p).beatPayload count = s.beatPayload count := rfl
@[simp] theorem State.begun_hostUp (s : State) (i : Instr) (p : Pkt) : (s.begun i p).hostUp = s.hostUp := rfl
@[simp] theorem State.begun_badSetup (s : State) (i : Instr) (p : Pkt) (q : Nat) : (s.begun i p).badSetup q = s.badSetup q := rfl
@[simp] theorem State.begun_channel (s : State) (i : Instr) (p : Pkt) (chB : Bool) : (s.begun i p).channel chB = s.channel chB := rfl
@[simp] theorem State.begun_safeFn (s : State) (i : Instr) (p : Pkt) (chB : Bool) (n : Nat) : (s.begun i p).safeFn chB n = s.safeFn chB n := rfl
@[simp] theorem State.begun_fnBridges (s : State) (i : Instr) (p : Pkt) (n : Nat) : (s.begun i p).fnBridges n = s.fnBridges n := rfl
@[simp] theorem State.begun_sbcDelay (s : State) (i : Instr) (p : Pkt) (n : Nat) : (s.begun i p).sbcDelay n = s.sbcDelay n := rfl
@[simp] theorem State.begun_blockAbsent (s : State) (i : Instr) (p : Pkt) (blk : List Byte) : (s.begun i p).blockAbsent blk = s.blockAbsent blk := rfl
@[simp] theorem State.begun_safetyFault (s : State) (i : Instr) (p : Pkt) : (s.begun i p).safetyFault = s.safetyFault := rfl
@[simp] theorem State.begun_sagStatus (s : State) (i : Instr) (p : Pkt) (c : Channel) : (s.begun i p).sagStatus c = s.sagStatus c := rfl
@[simp] theorem State.begun_sagOut (s : State) (i : Instr) (p : Pkt) : (s.begun i p).sagOut = s.sagOut := rfl
@[simp] theorem State.begun_sagCrc (s : State) (i : Instr) (p : Pkt) : (s.begun i p).sagCrc = s.sagCrc := rfl
@[simp] theorem State.begun_mayClear (s : State) (i : Instr) (p : Pkt) (chB : Bool) (n : Nat) : (s.begun i p).mayClear chB n = s.mayClear chB n := rfl
@[simp] theorem State.begun_takesToggle (s : State) (i : Instr) (p : Pkt) (may : Bool) : (s.begun i p).takesToggle may = s.takesToggle may := rfl
@[simp] theorem State.begun_bank (s : State) (i : Instr) (p : Pkt) (k : Nat) : (s.begun i p).bank k = s.bank k := rfl
@[simp] theorem State.begun_inactive (s : State) (i : Instr) (p : Pkt) : (s.begun i p).inactive = s.inactive := rfl
@[simp] theorem State.begun_loadsQueued (s : State) (i : Instr) (p : Pkt) : (s.begun i p).loadsQueued = s.loadsQueued := rfl
@[simp] theorem State.begun_calBytes (s : State) (i : Instr) (p : Pkt) : (s.begun i p).calBytes = s.calBytes := rfl
@[simp] theorem State.begun_calCrc (s : State) (i : Instr) (p : Pkt) : (s.begun i p).calCrc = s.calCrc := rfl
@[simp] theorem State.begun_calFactory (s : State) (i : Instr) (p : Pkt) : (s.begun i p).calFactory = s.calFactory := rfl
@[simp] theorem State.begun_threadsOn (s : State) (i : Instr) (p : Pkt) (slot : Nat) (q : WcState → Bool) : (s.begun i p).threadsOn slot q = s.threadsOn slot q := rfl
@[simp] theorem State.begun_keyHash (s : State) (i : Instr) (p : Pkt) : (s.begun i p).keyHash = s.keyHash := rfl
@[simp] theorem State.begun_enrolled (s : State) (i : Instr) (p : Pkt) (key : List Byte) : (s.begun i p).enrolled key = s.enrolled key := rfl
@[simp] theorem State.begun_svcVerdict (s : State) (i : Instr) (p : Pkt) (bs : List Byte) : (s.begun i p).svcVerdict bs = s.svcVerdict bs := rfl
@[simp] theorem State.begun_gpioBad (s : State) (i : Instr) (p : Pkt) (n : Nat) : (s.begun i p).gpioBad n = s.gpioBad n := rfl
@[simp] theorem State.begun_srcInit (s : State) (i : Instr) (p : Pkt) : (s.begun i p).srcInit = s.srcInit := rfl
@[simp] theorem State.begun_profileCells (s : State) (i : Instr) (p : Pkt) : (s.begun i p).profileCells = s.profileCells := rfl
@[simp] theorem State.begun_fitted (s : State) (i : Instr) (p : Pkt) (op n : Nat) : (s.begun i p).fitted op n = s.fitted op n := rfl
@[simp] theorem State.begun_unitServes (s : State) (i : Instr) (p : Pkt) (op n : Nat) : (s.begun i p).unitServes op n = s.unitServes op n := rfl
@[simp] theorem State.begun_netLegal (s : State) (i : Instr) (p : Pkt) (low n : Nat) : (s.begun i p).netLegal low n = s.netLegal low n := rfl
@[simp] theorem State.begun_updateLegal (s : State) (i : Instr) (p : Pkt) (low : Nat) : (s.begun i p).updateLegal low = s.updateLegal low := rfl
@[simp] theorem State.begun_legal (s : State) (i : Instr) (p : Pkt) (op : Nat) (p : Pkt) : (s.begun i p).legal op p = s.legal op p := rfl
@[simp] theorem State.begun_actsOn (s : State) (i : Instr) (p : Pkt) (op : Nat) (p : Pkt) : (s.begun i p).actsOn op p = s.actsOn op p := rfl
@[simp] theorem State.begun_changesDuplexed (s : State) (i : Instr) (p : Pkt) (op : Nat) (p : Pkt) : (s.begun i p).changesDuplexed op p = s.changesDuplexed op p := rfl
@[simp] theorem State.begun_duplexCheck (s : State) (i : Instr) (p : Pkt) (op : Nat) (p : Pkt) : (s.begun i p).duplexCheck op p = s.duplexCheck op p := rfl
@[simp] theorem State.begun_check (s : State) (i : Instr) (p : Pkt) (op : Nat) (p : Pkt) (own : Bool) : (s.begun i p).check op p own = s.check op p own := rfl
@[simp] theorem State.begun_isLate (s : State) (i : Instr) (p : Pkt) (f : Flight) : (s.begun i p).isLate f = s.isLate f := rfl
@[simp] theorem State.begun_forwards (s : State) (i : Instr) (p : Pkt) (op : Nat) (p : Pkt) : (s.begun i p).forwards op p = s.forwards op p := rfl
@[simp] theorem State.begun_arming (s : State) (i : Instr) (p : Pkt) (f : Flight) : (s.begun i p).arming f = s.arming f := rfl
@[simp] theorem State.begun_holds (s : State) (i : Instr) (p : Pkt) (before : List Flight) (f : Flight) : (s.begun i p).holds before f = s.holds before f := rfl
@[simp] theorem State.begun_lockOf (s : State) (i : Instr) (p : Pkt) : (s.begun i p).lockOf = s.lockOf := rfl
@[simp] theorem State.begun_placeTimer (s : State) (i : Instr) (p : Pkt) (w : PugTimer) : (s.begun i p).placeTimer w = s.placeTimer w := rfl
@[simp] theorem State.begun_waitsTime (s : State) (i : Instr) (p : Pkt) (f : Flight) : (s.begun i p).waitsTime f = s.waitsTime f := rfl
@[simp] theorem State.begun_changeTick (s : State) (i : Instr) (p : Pkt) : (s.begun i p).changeTick = s.changeTick := rfl
@[simp] theorem State.begun_ptpPorts (s : State) (i : Instr) (p : Pkt) : (s.begun i p).ptpPorts = s.ptpPorts := rfl
@[simp] theorem State.begun_timeCtrl (s : State) (i : Instr) (p : Pkt) : (s.begun i p).timeCtrl = s.timeCtrl := rfl
@[simp] theorem State.begun_thread (s : State) (i : Instr) (p : Pkt) (k : Nat) : (s.begun i p).thread k = s.thread k := rfl
@[simp] theorem State.begun_wheelNow (s : State) (i : Instr) (p : Pkt) : (s.begun i p).wheelNow = s.wheelNow := rfl
@[simp] theorem State.begun_wheelStart (s : State) (i : Instr) (p : Pkt) : (s.begun i p).wheelStart = s.wheelStart := rfl
@[simp] theorem State.begun_timerBy (s : State) (i : Instr) (p : Pkt) (c : Nat) (signals : Option Word) : (s.begun i p).timerBy c signals = s.timerBy c signals := rfl
@[simp] theorem State.begun_satisfied (s : State) (i : Instr) (p : Pkt) (c : Nat) : (s.begun i p).satisfied c = s.satisfied c := rfl
@[simp] theorem State.begun_comesReady (s : State) (i : Instr) (p : Pkt) (at_ c : Nat) : (s.begun i p).comesReady at_ c = s.comesReady at_ c := rfl
@[simp] theorem State.begun_awaited (s : State) (i : Instr) (p : Pkt) : (s.begun i p).awaited = s.awaited := rfl
@[simp] theorem State.begun_bestReady (s : State) (i : Instr) (p : Pkt) (lo hi : Nat) : (s.begun i p).bestReady lo hi = s.bestReady lo hi := rfl
@[simp] theorem State.begun_carryGap (s : State) (i : Instr) (p : Pkt) : (s.begun i p).carryGap = s.carryGap := rfl
@[simp] theorem State.begun_firstDue (s : State) (i : Instr) (p : Pkt) (st : WcState) : (s.begun i p).firstDue st = s.firstDue st := rfl
@[simp] theorem State.begun_entryOk (s : State) (i : Instr) (p : Pkt) (c e : Nat) : (s.begun i p).entryOk c e = s.entryOk c e := rfl
@[simp] theorem State.begun_threadImage (s : State) (i : Instr) (p : Pkt) (k : Nat) : (s.begun i p).threadImage k = s.threadImage k := rfl
@[simp] theorem State.begun_threadSize (s : State) (i : Instr) (p : Pkt) (k : Nat) : (s.begun i p).threadSize k = s.threadSize k := rfl
@[simp] theorem State.begun_threadRuns (s : State) (i : Instr) (p : Pkt) (k : Nat) : (s.begun i p).threadRuns k = s.threadRuns k := rfl
@[simp] theorem State.begun_threadQp (s : State) (i : Instr) (p : Pkt) (k qp : Nat) : (s.begun i p).threadQp k qp = s.threadQp k qp := rfl
@[simp] theorem State.begun_srcRetired (s : State) (i : Instr) (p : Pkt) (v : Nat) : (s.begun i p).srcRetired v = s.srcRetired v := by
  simp only [State.srcRetired, State.begun_slotRetired, State.begun_isRetired]
@[simp] theorem State.begun_selRetired (s : State) (i : Instr) (p : Pkt) (v : Nat) : (s.begun i p).selRetired v = s.selRetired v := by
  unfold State.selRetired
  refine ite_congr rfl (fun _ => State.begun_slotRetired ..) fun _ => ite_congr rfl (fun _ => State.begun_isRetired ..) fun _ =>
    ite_congr rfl (fun _ => congrArg LoopContext.retired (State.begun_lc _ _ _ _)) fun _ =>
    ite_congr rfl (fun _ => State.begun_isRetired ..) fun _ => ite_congr rfl (fun _ => ?_) fun _ => State.begun_linkRetired ..
  exact congrArg (fun x : Bridge => decide (x.state = .retired)) (State.begun_bridge _ _ _ _)

end Sys2Proof.Machine
end

