-- ==== Sys2Proof/Laws/Packets.lean ====
section
/-! SUPPORT. What a packet command does when nothing keeps it back: it is fetched, starts, and has its effect; the claims about
packets go through this one law. -/

namespace Sys2Proof.Machine

/-- Started packets leave nothing to start. -/
theorem freeFlight_started (s : State) (before fs : List Flight) (h : ∀ f ∈ fs, f.started = true) :
    s.freeFlight before fs = none := by
  induction fs generalizing before with
  | nil => rfl
  | cons f fs ih =>
    unfold State.freeFlight
    simp [h f (by simp), ih (before ++ [f]) fun g hg => h g (by simp [hg])]

/-- The one packet behind started ones starts unless they hold it. -/
theorem freeFlight_last (s : State) (before fs : List Flight) (f : Flight) (h : ∀ g ∈ fs, g.started = true)
    (hf : f.started = false) (hh : s.holds (before ++ fs) f = false) : s.freeFlight before (fs ++ [f]) = some f := by
  induction fs generalizing before with
  | nil =>
    simp only [List.append_nil] at hh
    simp [State.freeFlight, hf, hh]
  | cons g fs ih =>
    rw [List.cons_append]
    unfold State.freeFlight
    simp only [h g (by simp), Bool.not_true, Bool.false_and, Bool.false_eq_true, if_false]
    exact ih (before ++ [g]) (fun x hx => h x (by simp [hx])) (by simpa using hh)

/-- The queue pair whose packet starts next, when only one has any. -/
theorem nextReady_one (s : State) (q : Fin 16) (f : Flight) (qs : List (Fin 16)) (hq : q ∈ qs)
    (h : ∀ r ∈ qs, r ≠ q → s.freeFlight [] (s.qp r).flights = none) (hf : s.freeFlight [] (s.qp q).flights = some f) :
    s.nextReady qs = some (q, f) := by
  induction qs with
  | nil => simp at hq
  | cons r rs ih =>
    unfold State.nextReady
    by_cases hr : r = q
    · subst hr; simp [hf]
    · simp only [h r (by simp) hr]
      exact ih (by simpa [Ne.symm hr] using hq) fun x hx => h x (by simp [hx])

@[simp] theorem qp_modQp_same (s : State) (q : Fin 16) (f : QueuePair → QueuePair) : (s.modQp q f).qp q = f (s.qp q) := by
  simp [State.modQp, State.qp]

@[simp] theorem qp_modQp_other (s : State) {q r : Nat} (f : QueuePair → QueuePair) (h : r ≠ q) : (s.modQp q f).qp r = s.qp r := by
  simp [State.modQp, State.qp, h]

/-- With nothing waiting, settling changes nothing. -/
theorem waiting_zero (s : State) (h : ∀ q : Fin 16, ∀ f ∈ (s.qp q).flights, f.started = true) : s.waiting = 0 := by
  unfold State.waiting
  rw [List.sum_eq_zero]
  intro n hn
  simp only [List.mem_map] at hn
  obtain ⟨x, hx, rfl⟩ := hn
  rw [Vector.mem_toList_iff, Vector.mem_iff_getElem] at hx
  obtain ⟨k, hk, rfl⟩ := hx
  rw [List.countP_eq_zero]
  intro f hf
  have := h ⟨k, hk⟩ f (by simpa [State.qp, vget, hk] using hf)
  simp [this]

theorem sum_one {α : Type} (l : List α) (g : α → Nat) (a : α) (hn : l.Nodup) (ha : a ∈ l) (h : ∀ b ∈ l, b ≠ a → g b = 0) :
    (l.map g).sum = g a := by
  induction l with
  | nil => simp at ha
  | cons b l ih =>
    rw [List.nodup_cons] at hn
    rw [List.map_cons, List.sum_cons]
    by_cases hb : b = a
    · subst hb
      rw [List.sum_eq_zero, Nat.add_zero]
      intro n hm
      obtain ⟨c, hc, rfl⟩ := List.mem_map.mp hm
      exact h c (by simp [hc]) fun e => hn.1 (e ▸ hc)
    · rw [h b (by simp) hb, Nat.zero_add]
      exact ih hn.2 (by simpa [Ne.symm hb] using ha) fun c hc => h c (by simp [hc])

theorem waiting_eq (s : State) :
    s.waiting = ((List.finRange 16).map fun q : Fin 16 => (s.qp q).flights.countP fun f => !f.started).sum := by
  unfold State.waiting
  congr 1
  apply List.ext_getElem
  · simp
  · intro k h1 h2
    simp [State.qp, vget_lt]

/-- A packet admitted behind started ones is the one that waits. -/
theorem waiting_one (s : State) (q : Fin 16) (f : Flight) (hf : f.started = false)
    (h : ∀ r : Fin 16, ∀ g ∈ (s.qp r).flights, r ≠ q ∨ g ≠ f → g.started = true)
    (hc : ∃ fs, (s.qp q).flights = fs ++ [f] ∧ ∀ g ∈ fs, g.started = true) : s.waiting = 1 := by
  rw [waiting_eq, sum_one _ _ q (List.nodup_finRange 16) (List.mem_finRange q)]
  · obtain ⟨fs, he, hs⟩ := hc
    rw [he, List.countP_append, List.countP_eq_zero.mpr]
    · simp [hf]
    · intro g hg; simp [hs g hg]
  · intro r _ hr
    rw [List.countP_eq_zero]
    intro g hg
    simp [h r g hg (Or.inl fun e => hr e)]

/-- Everything a packet command does when nothing keeps it back: the checks judge it in the state in which it begins. -/
theorem arrive_starts (s : State) (i : Instr) (p : Pkt) (op : Nat) (hop : opcodeOf i = some op) (hpad : ∀ x, i ≠ .adminPad x)
    (h : s.Reaches i p) : s.arrive i p =
      (match s.check op p true with
       | some st => (s.begun i p).ends (s.ticketOf p) st
       | none => (s.begun i p).accept (s.ticketOf p) op i p).rest := by
  obtain ⟨-, aw, run, len, fits, room, started, free, timely⟩ := h
  let f : Flight := { id := s.nextId, cmd := i, pkt := p, started := false, fetched := s.now }
  let past := p.index.toNat + granules p.len.toNat
  let x := (s.qp p.qp)
  let s1 : State := { s.modQp p.qp fun x => { x with
      fetch := if s.cmdSize p.qp ≤ past then 0 else past,
      lap := if s.cmdSize p.qp ≤ past then !p.lap else p.lap,
      readRetry := none,
      flights := x.flights ++ [f] }
    with nextId := s.nextId + 1 }
  have e1 : s.fetched i p = s1 := by
    have : s.fetched i p = s.takePacket i p none := by
      unfold State.fetched
      rw [if_neg (by simp [run])]
      split
      · exact absurd rfl (hpad _)
      · rfl
    rw [this]
    unfold State.takePacket
    rw [if_neg (by omega), if_neg (by omega), if_neg (by simp [room])]
    simp only [State.moveFetch, State.enlist, State.modQp, vmod_vmod, s1, f, past]
    simp only [decide_eq_true_eq]
  have q1 : s1.qp p.qp = { x with
      fetch := if s.cmdSize p.qp ≤ past then 0 else past,
      lap := if s.cmdSize p.qp ≤ past then !p.lap else p.lap,
      readRetry := none,
      flights := x.flights ++ [f] } := qp_modQp_same s p.qp _
  have q2 : ∀ r : Fin 16, r ≠ p.qp → s1.qp r = s.qp r := fun r hr => qp_modQp_other s _ fun e => hr (Fin.ext e)
  have hw : s1.waiting = 1 := by
    refine waiting_one s1 p.qp f rfl ?_ ⟨x.flights, by rw [q1], started p.qp⟩
    intro r g hg hne
    by_cases hr : r = p.qp
    · subst hr
      rw [q1] at hg
      rcases List.mem_append.mp hg with hg | hg
      · exact started _ g hg
      · exact absurd (List.mem_singleton.mp hg) (by simpa using hne)
    · rw [q2 r hr] at hg; exact started r g hg
  have hr : s1.nextReady (List.finRange 16) = some (p.qp, f) := by
    refine nextReady_one s1 p.qp f _ (List.mem_finRange _) (fun r _ hr => ?_) ?_
    · rw [q2 r hr]; exact freeFlight_started _ _ _ (started r)
    · rw [q1]; exact freeFlight_last s1 [] x.flights f (started p.qp) rfl free
  have hs : s1.start p.qp f = (match s.check op p true with
      | some st => (s.begun i p).ends (s.ticketOf p) st
      | none => (s.begun i p).accept (s.ticketOf p) op i p) := by
    have e2 : (s1.modQp p.qp fun x => { x with
        flights := x.flights.map fun (g : Flight) => if g.id = f.id then { g with started := true } else g }) = s.begun i p := by
      have hm : (x.flights ++ [f]).map (fun (g : Flight) => if g.id = f.id then { g with started := true } else g)
          = x.flights ++ [{ f with started := true }] := by
        rw [List.map_append]
        congr 1
        · conv_rhs => rw [← List.map_id x.flights]
          apply List.map_congr_left
          intro g hg
          have := started p.qp g hg
          split
          · cases g; simp_all
          · rfl
        · simp
      simp only [s1, State.begun, State.modQp, vmod_vmod]
      simp only [vmod]
      rw [show (vget s.qps (↑p.qp : Nat)).flights = x.flights from rfl, hm]
    unfold State.start
    simp only
    rw [e2]
    have h1 : (s.begun i p).isLate f = false := timely
    have h2 : (s.begun i p).check op p true = s.check op p true := rfl
    rw [h1]
    simp only [Bool.false_eq_true, if_false]
    split
    · exact absurd (by assumption) (hpad _)
    · simp_all [f]
    · rename_i op' _ he
      have : op' = op := by
        have e : opcodeOf i = some op' := by assumption
        rw [hop] at e; injection e with e; exact e.symm
      subst this
      simp only [f, h2]
      rfl
  unfold State.arrive State.happen
  rw [aw, if_pos rfl]
  beta_reduce
  rw [e1]
  unfold State.finish
  rw [hw]
  unfold State.settle
  rw [hr]
  simp only [hs, State.settle]
  rfl

/-- A packet that no check refuses has its effect. -/
theorem arrive_runs (s : State) (i : Instr) (p : Pkt) (op : Nat) (hop : opcodeOf i = some op) (hpad : ∀ x, i ≠ .adminPad x)
    (h : s.Admits i p) : s.arrive i p = ((s.begun i p).effect (s.ticketOf p) i).rest := by
  have h3 : (s.begun i p).forwards op p = false := h.here op hop
  rw [arrive_starts s i p op hop hpad h.toReaches, h.legal op hop]
  simp only [State.accept, h3, Bool.false_eq_true, if_false]

end Sys2Proof.Machine
end

