-- ==== Sys2Proof/Laws/Arms.lean ====
section
/-! SUPPORT. How the arms of exec answer: a packet that is admitted, an event in an awake device, an event in any power state. -/

namespace Sys2Proof.Machine

/-- A packet command that is admitted answers the state its effect leaves. -/
theorem packet_admitted {s : State} {i : Instr} {p : Pkt} (op : Nat) (hop : opcodeOf i = some op) (hpad : ∀ x, i ≠ .adminPad x)
    (h : s.Admits i p) : packet i p s = .next ((s.begun i p).effect (s.ticketOf p) i).rest := by
  unfold packet; rw [if_pos h.wf, arrive_runs s i p op hop hpad h]

/-- An event with well-formed operands in an awake device answers its effect and what follows it. -/
theorem event_awake {s : State} {wf : Bool} (f : State → State) (hw : wf = true) (h : s.awake = true) :
    event wf f s = .next (f s).finish := by
  simp [event, State.happen, hw, h]

/-- An event of the main die does nothing while it is not awake. -/
theorem event_asleep {s : State} {wf : Bool} (f : State → State) (hw : wf = true) (h : s.awake = false) :
    event wf f s = .next s := by
  simp [event, State.happen, hw, h]

/-- A command with operands no sender can spell is turned away. -/
theorem event_illFormed (s : State) (f : State → State) : event false f s = .refused .illFormed := rfl

/-- An awake device is not in WATCH. -/
theorem awake_not_watch {s : State} (h : s.awake = true) : s.pwr.state ≠ .watch := by
  intro e; simp [State.awake, e] at h

/-- Only WATCH repeats frames as they are (R630). -/
theorem repeatFrame_awake {s : State} (h : s.awake = true) (nb : Bool) (type src hops : Nat) (payload : List Byte) :
    s.repeatFrame nb type src hops payload = s := by
  simp [State.repeatFrame, awake_not_watch h]

theorem repeatDelay_awake {s : State} (h : s.awake = true) (nb response : Bool) (turn : BitVec 24) :
    s.repeatDelay nb response turn = s := by
  simp [State.repeatDelay, awake_not_watch h]

/-- A ring frame in an awake device answers what the main die does with it and what follows. -/
theorem frameEvent_awake {s : State} {wf : Bool} {again : State → State} (f : State → State) (hw : wf = true)
    (ha : again s = s) (h : s.awake = true) : frameEvent wf again f s = .next (f s).finish := by
  simp [frameEvent, State.happen, hw, ha, h]

/-- An event that reaches the device in any power state. -/
theorem always_next (s : State) (f : State → State) :
    always f s = .next (f s).onward := rfl

end Sys2Proof.Machine
end

