-- ==== Sys2Proof/Laws/Fixed.lean ====
section
/-! SUPPORT. What no operation changes: the waiting commands, the variant, the serial number and the stepping. One law for each
operation, `<operation>_fixed`; the claim about every step cites them. -/

namespace Sys2Proof.Machine
set_option linter.unusedSimpArgs false
set_option linter.unusedTactic false
set_option linter.unreachableTactic false
set_option linter.unusedVariables false

/-- The waiting commands and the data of the part. -/
def State.fixed (s : State) : List Instr × Variant × DWord × Half := (s.pending, s.variant, s.serial, s.stepping)

theorem fixed_mk a0 a1 a2 a3 a4 a5 a6 a7 a8 a9 a10 a11 a12 a13 a14 a15 a16 a17 a18 a19 a20 a21 a22 a23 a24 a25 a26 a27 a28 a29
    a30 a31 a32 a33 a34 a35 a36 a37 a38 a39 a40 a41 a42 a43 a44 a45 a46 a47 a48 a49 a50 a51 a52 a53 a54 a55 a56 : State.fixed
    (State.mk a0 a1 a2 a3 a4 a5 a6 a7 a8 a9 a10 a11 a12 a13 a14 a15 a16 a17 a18 a19 a20 a21 a22 a23 a24 a25 a26 a27 a28 a29 a30
    a31 a32 a33 a34 a35 a36 a37 a38 a39 a40 a41 a42 a43 a44 a45 a46 a47 a48 a49 a50 a51 a52 a53 a54 a55 a56) = (a0, a5, a6, a7) :=
    rfl

theorem foldl_fixed {α : Type} (f : State → α → State) (l : List α) (s : State) (h : ∀ s a, (f s a).fixed = s.fixed) :
    (l.foldl f s).fixed = s.fixed := by
  induction l generalizing s with
  | nil => rfl
  | cons a l ih => exact (ih (f s a)).trans (h s a)

theorem forEach_fixed (s : State) (l : List Nat) (f : State → Nat → State) (h : ∀ s a, (f s a).fixed = s.fixed) :
    (s.forEach l f).fixed = s.fixed := foldl_fixed f l s h

theorem fixed_ite {c : Prop} [Decidable c] {a b : State} {x : List Instr × Variant × DWord × Half} (ha : a.fixed = x)
    (hb : b.fixed = x) : (if c then a else b).fixed = x := by split <;> assumption

theorem fixed_eta (s : State) : (s.pending, s.variant, s.serial, s.stepping) = s.fixed := rfl

theorem State.regPut_fixed (s : State) (off v : Nat) : (State.regPut s off v).fixed = s.fixed := by
  unfold State.regPut
  repeat' first
    | simp only [↓fixed_mk, ↓apply_ite State.fixed, fixed_eta, ite_self]
    | split
    | rfl

theorem State.modQp_fixed (s : State) (k : Nat) (f : QueuePair → QueuePair) : (State.modQp s k f).fixed = s.fixed := by
  unfold State.modQp
  repeat' first
    | simp only [↓fixed_mk, ↓apply_ite State.fixed, fixed_eta, ite_self]
    | split
    | rfl

theorem State.modB_fixed (s : State) (k : Nat) (f : Bridge → Bridge) : (State.modB s k f).fixed = s.fixed := by
  unfold State.modB
  repeat' first
    | simp only [↓fixed_mk, ↓apply_ite State.fixed, fixed_eta, ite_self]
    | split
    | rfl

theorem State.modGf_fixed (s : State) (k : Nat) (f : GfEngine → GfEngine) : (State.modGf s k f).fixed = s.fixed := by
  unfold State.modGf
  repeat' first
    | simp only [↓fixed_mk, ↓apply_ite State.fixed, fixed_eta, ite_self]
    | split
    | rfl

theorem State.modLc_fixed (s : State) (k : Nat) (f : LoopContext → LoopContext) : (State.modLc s k f).fixed = s.fixed := by
  unfold State.modLc
  repeat' first
    | simp only [↓fixed_mk, ↓apply_ite State.fixed, fixed_eta, ite_self]
    | split
    | rfl

theorem State.modPwm_fixed (s : State) (k : Nat) (f : PwmGen → PwmGen) : (State.modPwm s k f).fixed = s.fixed := by
  unfold State.modPwm
  repeat' first
    | simp only [↓fixed_mk, ↓apply_ite State.fixed, fixed_eta, ite_self]
    | split
    | rfl

theorem State.modTrip_fixed (s : State) (k : Nat) (f : TripSource → TripSource) : (State.modTrip s k f).fixed = s.fixed := by
  unfold State.modTrip
  repeat' first
    | simp only [↓fixed_mk, ↓apply_ite State.fixed, fixed_eta, ite_self]
    | split
    | rfl

theorem State.modLink_fixed (s : State) (k : Nat) (f : GateLink → GateLink) : (State.modLink s k f).fixed = s.fixed := by
  unfold State.modLink
  repeat' first
    | simp only [↓fixed_mk, ↓apply_ite State.fixed, fixed_eta, ite_self]
    | split
    | rfl

theorem State.modSlot_fixed (s : State) (k : Nat) (f : PugSlot → PugSlot) : (State.modSlot s k f).fixed = s.fixed := by
  unfold State.modSlot
  repeat' first
    | simp only [↓fixed_mk, ↓apply_ite State.fixed, fixed_eta, ite_self]
    | split
    | rfl

theorem State.modPos_fixed (s : State) (k : Nat) (f : PosInput → PosInput) : (State.modPos s k f).fixed = s.fixed := by
  unfold State.modPos
  repeat' first
    | simp only [↓fixed_mk, ↓apply_ite State.fixed, fixed_eta, ite_self]
    | split
    | rfl

theorem State.modCap_fixed (s : State) (k : Nat) (f : CapUnit → CapUnit) : (State.modCap s k f).fixed = s.fixed := by
  unfold State.modCap
  repeat' first
    | simp only [↓fixed_mk, ↓apply_ite State.fixed, fixed_eta, ite_self]
    | split
    | rfl

theorem State.modSvc_fixed (s : State) (f : Service → Service) : (State.modSvc s f).fixed = s.fixed := by
  unfold State.modSvc
  repeat' first
    | simp only [↓fixed_mk, ↓apply_ite State.fixed, fixed_eta, ite_self]
    | split
    | rfl

theorem State.queueNor_fixed (s : State) (w : NorWrite) : (State.queueNor s w).fixed = s.fixed := by
  unfold State.queueNor
  repeat' first
    | simp only [↓State.modSvc_fixed, ↓fixed_mk, ↓apply_ite State.fixed, fixed_eta, ite_self]
    | split
    | rfl

theorem State.advanceTo_fixed (s : State) (t : Nat) : (State.advanceTo s t).fixed = s.fixed := by
  unfold State.advanceTo
  repeat' first
    | simp only [↓fixed_mk, ↓apply_ite State.fixed, fixed_eta, ite_self]
    | split
    | rfl

theorem State.catchUp_fixed (s : State) : (State.catchUp s).fixed = s.fixed := by
  unfold State.catchUp
  repeat' first
    | simp only [↓fixed_mk, ↓apply_ite State.fixed, fixed_eta, ite_self]
    | split
    | rfl

theorem State.advanceToNs_fixed (s : State) (t : Nat) : (State.advanceToNs s t).fixed = s.fixed := by
  unfold State.advanceToNs
  repeat' first
    | simp only [↓State.advanceTo_fixed, ↓fixed_mk, ↓apply_ite State.fixed, fixed_eta, ite_self]
    | split
    | rfl

theorem State.draw_fixed (s : State) (place n : Nat) : (State.draw s place n).2.fixed = s.fixed := by
  unfold State.draw
  repeat' first
    | simp only [↓fixed_mk, ↓apply_ite State.fixed, fixed_eta, ite_self]
    | split
    | rfl

theorem State.sendVector_fixed (s : State) (v : Nat) : (State.sendVector s v).fixed = s.fixed := by
  unfold State.sendVector
  repeat' first
    | simp only [↓fixed_mk, ↓apply_ite State.fixed, fixed_eta, ite_self]
    | split
    | rfl

theorem State.interrupt_fixed (s : State) (q : Nat) : (State.interrupt s q).fixed = s.fixed := by
  unfold State.interrupt
  repeat' first
    | simp only [↓State.modQp_fixed, ↓State.sendVector_fixed, ↓fixed_mk, ↓apply_ite State.fixed, fixed_eta, ite_self]
    | split
    | rfl

theorem State.countEntry_fixed (s : State) (q : Nat) (counted urgent : Bool) : (State.countEntry s q counted urgent).fixed =
    s.fixed := by
  unfold State.countEntry
  repeat' first
    | simp only [↓State.modQp_fixed, ↓State.interrupt_fixed, ↓fixed_mk, ↓apply_ite State.fixed, fixed_eta, ite_self]
    | split
    | rfl

theorem State.putEntry_fixed (s : State) (q : Nat) (e : CplEntry) (counted : Bool) : (State.putEntry s q e counted).fixed =
    s.fixed := by
  unfold State.putEntry
  repeat' first
    | simp only [↓State.modQp_fixed, ↓State.countEntry_fixed, ↓fixed_mk, ↓apply_ite State.fixed, fixed_eta, ite_self]
    | split
    | rfl

theorem State.endReset_fixed (s : State) (q : Nat) : (State.endReset s q).fixed = s.fixed := by
  unfold State.endReset
  repeat' first
    | simp only [↓State.modQp_fixed, ↓fixed_mk, ↓apply_ite State.fixed, fixed_eta, ite_self]
    | split
    | rfl

theorem State.writeBack_fixed (s : State) (q index : Nat) (bs : List Byte) : (State.writeBack s q index bs).fixed = s.fixed :=
    by
  unfold State.writeBack
  repeat' first
    | simp only [↓fixed_mk, ↓apply_ite State.fixed, fixed_eta, ite_self]
    | split
    | rfl

theorem State.answerNow_fixed (s : State) (t : Ticket) (a : Answer) : (State.answerNow s t a).fixed = s.fixed := by
  unfold State.answerNow
  repeat' first
    | simp only [↓State.modQp_fixed, ↓State.putEntry_fixed, ↓State.endReset_fixed, ↓State.writeBack_fixed, ↓fixed_mk,
        ↓apply_ite State.fixed, fixed_eta, ite_self]
    | split
    | rfl

theorem State.answer_fixed (s : State) (t : Ticket) (a : Answer) : (State.answer s t a).fixed = s.fixed := by
  unfold State.answer
  repeat' first
    | simp only [↓State.answerNow_fixed, ↓fixed_mk, ↓apply_ite State.fixed, fixed_eta, ite_self]
    | split
    | rfl

theorem State.ends_fixed (s : State) (t : Ticket) (st : Status) : (State.ends s t st).fixed = s.fixed := by
  unfold State.ends
  repeat' first
    | simp only [↓State.answer_fixed, ↓fixed_mk, ↓apply_ite State.fixed, fixed_eta, ite_self]
    | split
    | rfl

theorem State.doneAt_fixed (s : State) (t : Ticket) (ns : DWord) : (State.doneAt s t ns).fixed = s.fixed := by
  unfold State.doneAt
  repeat' first
    | simp only [↓State.answer_fixed, ↓fixed_mk, ↓apply_ite State.fixed, fixed_eta, ite_self]
    | split
    | rfl

theorem State.endAll_fixed (s : State) (ts : List Ticket) (st : Status) : (State.endAll s ts st).fixed = s.fixed := by
  unfold State.endAll
  repeat' first
    | with_reducible refine (foldl_fixed _ _ _ (fun _ _ => ?_)).trans ?_
    | simp only [↓State.ends_fixed, ↓fixed_mk, ↓apply_ite State.fixed, fixed_eta, ite_self]
    | split
    | rfl

theorem State.raiseMapped_fixed (s : State) (cls unit : Nat) : (State.raiseMapped s cls unit).fixed = s.fixed := by
  unfold State.raiseMapped
  repeat' first
    | with_reducible refine (foldl_fixed _ _ _ (fun _ _ => ?_)).trans ?_
    | simp only [↓fixed_mk, ↓apply_ite State.fixed, fixed_eta, ite_self]
    | split
    | rfl

theorem State.report_fixed (s : State) (cls unit code : Nat) : (State.report s cls unit code).fixed = s.fixed := by
  unfold State.report
  repeat' first
    | simp only [↓State.answer_fixed, ↓State.raiseMapped_fixed, ↓fixed_mk, ↓apply_ite State.fixed, fixed_eta, ite_self]
    | split
    | rfl

theorem State.logEntry_fixed (s : State) (kind chanKind unit cause runs bucket detail : Nat) : (State.logEntry s kind chanKind
    unit cause runs bucket detail).fixed = s.fixed := by
  unfold State.logEntry
  repeat' first
    | simp only [↓fixed_mk, ↓apply_ite State.fixed, fixed_eta, ite_self]
    | split
    | rfl

theorem State.modChan_fixed (s : State) (kind unit : Nat) (f : Chan → Chan) : (State.modChan s kind unit f).fixed = s.fixed :=
    by
  unfold State.modChan
  repeat' first
    | simp only [↓fixed_mk, ↓apply_ite State.fixed, fixed_eta, ite_self]
    | split
    | rfl

theorem State.swapCoef_fixed (s : State) (k : Nat) (bumpless : Bool) : (State.swapCoef s k bumpless).fixed = s.fixed := by
  unfold State.swapCoef
  repeat' first
    | simp only [↓State.modLc_fixed, ↓fixed_mk, ↓apply_ite State.fixed, fixed_eta, ite_self]
    | split
    | rfl

theorem State.finishCoef_fixed (s : State) (k : Nat) (t : Ticket) (bumpless : Bool) (ns : DWord) : (State.finishCoef s k t
    bumpless ns).fixed = s.fixed := by
  unfold State.finishCoef
  repeat' first
    | simp only [↓State.answer_fixed, ↓State.swapCoef_fixed, ↓fixed_mk, ↓apply_ite State.fixed, fixed_eta, ite_self]
    | split
    | rfl

theorem State.swapTables_fixed (s : State) (k mask : Nat) : (State.swapTables s k mask).fixed = s.fixed := by
  unfold State.swapTables
  repeat' first
    | simp only [↓State.modLc_fixed, ↓fixed_mk, ↓apply_ite State.fixed, fixed_eta, ite_self]
    | split
    | rfl

theorem State.finishTables_fixed (s : State) (k : Nat) (ns : DWord) : (State.finishTables s k ns).fixed = s.fixed := by
  unfold State.finishTables
  repeat' first
    | with_reducible refine (foldl_fixed _ _ _ (fun _ _ => ?_)).trans ?_
    | simp only [↓State.modLc_fixed, ↓State.doneAt_fixed, ↓State.swapTables_fixed, ↓fixed_mk, ↓apply_ite State.fixed,
        fixed_eta, ite_self]
    | split
    | rfl

theorem State.applySubst_fixed (s : State) (k : Nat) : (State.applySubst s k).fixed = s.fixed := by
  unfold State.applySubst
  repeat' first
    | with_reducible refine (foldl_fixed _ _ _ (fun _ _ => ?_)).trans ?_
    | simp only [↓State.modLc_fixed, ↓fixed_mk, ↓apply_ite State.fixed, fixed_eta, ite_self]
    | split
    | rfl

theorem State.leaveRunning_fixed (s : State) (k : Nat) : (State.leaveRunning s k).fixed = s.fixed := by
  unfold State.leaveRunning
  repeat' first
    | simp only [↓State.modLc_fixed, ↓State.ends_fixed, ↓State.finishCoef_fixed, ↓State.finishTables_fixed,
        ↓State.applySubst_fixed, ↓fixed_mk, ↓apply_ite State.fixed, fixed_eta, ite_self]
    | split
    | rfl

theorem State.holdSsl_fixed (s : State) (b : Nat) : (State.holdSsl s b).fixed = s.fixed := by
  unfold State.holdSsl
  repeat' first
    | simp only [↓State.draw_fixed, ↓fixed_mk, ↓apply_ite State.fixed, fixed_eta, ite_self]
    | split
    | rfl

theorem State.refreshSsl_fixed (s : State) : (State.refreshSsl s).fixed = s.fixed := by
  unfold State.refreshSsl
  repeat' first
    | with_reducible refine (forEach_fixed _ _ _ (fun _ _ => ?_)).trans ?_
    | with_reducible refine (foldl_fixed _ _ _ (fun _ _ => ?_)).trans ?_
    | simp only [↓State.holdSsl_fixed, ↓fixed_mk, ↓apply_ite State.fixed, fixed_eta, ite_self]
    | split
    | rfl

theorem State.takeEdge_fixed (s : State) (b : Nat) (e : GonEdge) : (State.takeEdge s b e).fixed = s.fixed := by
  unfold State.takeEdge
  repeat' first
    | simp only [↓State.modPwm_fixed, ↓State.modLink_fixed, ↓fixed_mk, ↓apply_ite State.fixed, fixed_eta, ite_self]
    | split
    | rfl

theorem State.finishRefresh_fixed (s : State) (b g t : Nat) : (State.finishRefresh s b g t).fixed = s.fixed := by
  unfold State.finishRefresh
  repeat' first
    | simp only [↓State.modPwm_fixed, ↓State.modLink_fixed, ↓fixed_mk, ↓apply_ite State.fixed, fixed_eta, ite_self]
    | split
    | rfl

theorem State.nextEdge_fixed {s t : State} {b : Nat} (h : s.nextEdge b = some t) : t.fixed = s.fixed := by
  unfold State.nextEdge at h
  split at h
  · cases h
  · cases h; exact State.takeEdge_fixed _ _ _
  · cases h; exact State.finishRefresh_fixed _ _ _ _
  · cases h
    split
    · exact State.finishRefresh_fixed _ _ _ _
    · exact State.takeEdge_fixed _ _ _

theorem State.nextEdges_fixed (b n : Nat) (s : State) : (State.nextEdges b n s).fixed = s.fixed := by
  induction n generalizing s with
  | zero => rfl
  | succ n ih =>
    unfold State.nextEdges
    split
    · next h => rw [ih, State.nextEdge_fixed h]
    · rfl

theorem State.applyEdges_fixed (s : State) (b : Nat) : (s.applyEdges b).fixed = s.fixed :=
  State.nextEdges_fixed b _ s

theorem State.dropEdges_fixed (s : State) (b : Nat) : (State.dropEdges s b).fixed = s.fixed := by
  unfold State.dropEdges
  repeat' first
    | simp only [↓State.modPwm_fixed, ↓fixed_mk, ↓apply_ite State.fixed, fixed_eta, ite_self]
    | split
    | rfl

theorem State.drivePattern_fixed (s : State) (b : Nat) (x : SafeState) (hold : Bool) (lag : Nat) : (State.drivePattern s b x
    hold lag).fixed = s.fixed := by
  unfold State.drivePattern
  repeat' first
    | with_reducible refine (forEach_fixed _ _ _ (fun _ _ => ?_)).trans ?_
    | simp only [↓State.modPwm_fixed, ↓State.modLink_fixed, ↓State.applyEdges_fixed, ↓State.dropEdges_fixed,
        ↓fixed_mk, ↓apply_ite State.fixed, fixed_eta, ite_self]
    | split
    | rfl

theorem State.sendDown_fixed (s : State) (g type : Nat) (payload : List Byte) : (State.sendDown s g type payload).fixed =
    s.fixed := by
  unfold State.sendDown
  repeat' first
    | simp only [↓State.modLink_fixed, ↓fixed_mk, ↓apply_ite State.fixed, fixed_eta, ite_self]
    | split
    | rfl

theorem State.commitTo_fixed (s : State) (g : Nat) (ws : List (Byte × Byte)) (why : AckFor) (again : Bool) : (State.commitTo s
    g ws why again).fixed = s.fixed := by
  unfold State.commitTo
  repeat' first
    | simp only [↓State.modLink_fixed, ↓fixed_mk, ↓apply_ite State.fixed, fixed_eta, ite_self]
    | split
    | rfl

theorem State.download_fixed (s : State) (b : Nat) (x : SafeState) (why : Fin 8 → AckFor) : (State.download s b x why).fixed =
    s.fixed := by
  unfold State.download
  repeat' first
    | with_reducible refine (forEach_fixed _ _ _ (fun _ _ => ?_)).trans ?_
    | simp only [↓State.modLink_fixed, ↓State.commitTo_fixed, ↓fixed_mk, ↓apply_ite State.fixed, fixed_eta, ite_self]
    | split
    | rfl

theorem State.dropAcks_fixed (s : State) (b : Nat) (p : AckFor → Bool) : (State.dropAcks s b p).fixed = s.fixed := by
  unfold State.dropAcks
  repeat' first
    | with_reducible refine (forEach_fixed _ _ _ (fun _ _ => ?_)).trans ?_
    | simp only [↓State.modLink_fixed, ↓fixed_mk, ↓apply_ite State.fixed, fixed_eta, ite_self]
    | split
    | rfl

theorem State.repattern_fixed (s : State) (b lag : Nat) : (State.repattern s b lag).fixed = s.fixed := by
  unfold State.repattern
  repeat' first
    | simp only [↓State.modB_fixed, ↓State.drivePattern_fixed, ↓State.download_fixed, ↓fixed_mk, ↓apply_ite
        State.fixed, fixed_eta, ite_self]
    | split
    | rfl

theorem State.finishFir_fixed (s : State) (n : Nat) (ns : DWord) : (State.finishFir s n ns).fixed = s.fixed := by
  unfold State.finishFir
  repeat' first
    | simp only [↓State.modSlot_fixed, ↓State.answer_fixed, ↓fixed_mk, ↓apply_ite State.fixed, fixed_eta, ite_self]
    | split
    | rfl

theorem State.startSlot_fixed (s : State) (n : Nat) : (State.startSlot s n).fixed = s.fixed := by
  unfold State.startSlot
  repeat' first
    | simp only [↓State.modSlot_fixed, ↓fixed_mk, ↓apply_ite State.fixed, fixed_eta, ite_self]
    | split
    | rfl

theorem State.stopSlot_fixed (s : State) (n : Nat) : (State.stopSlot s n).fixed = s.fixed := by
  unfold State.stopSlot
  repeat' first
    | simp only [↓State.modSlot_fixed, ↓State.finishFir_fixed, ↓fixed_mk, ↓apply_ite State.fixed, fixed_eta, ite_self]
    | split
    | rfl

theorem State.slotsStart_fixed (s : State) (src : Nat) : (State.slotsStart s src).fixed = s.fixed := by
  unfold State.slotsStart
  repeat' first
    | with_reducible refine (forEach_fixed _ _ _ (fun _ _ => ?_)).trans ?_
    | simp only [↓State.startSlot_fixed, ↓fixed_mk, ↓apply_ite State.fixed, fixed_eta, ite_self]
    | split
    | rfl

theorem State.slotsStop_fixed (s : State) (src : Nat) : (State.slotsStop s src).fixed = s.fixed := by
  unfold State.slotsStop
  repeat' first
    | with_reducible refine (forEach_fixed _ _ _ (fun _ _ => ?_)).trans ?_
    | simp only [↓State.stopSlot_fixed, ↓fixed_mk, ↓apply_ite State.fixed, fixed_eta, ite_self]
    | split
    | rfl

theorem State.startCarrier_fixed (s : State) (b : Nat) : (State.startCarrier s b).fixed = s.fixed := by
  unfold State.startCarrier
  repeat' first
    | simp only [↓State.modPwm_fixed, ↓State.slotsStart_fixed, ↓fixed_mk, ↓apply_ite State.fixed, fixed_eta, ite_self]
    | split
    | rfl

theorem State.stopCarrier_fixed (s : State) (b : Nat) : (State.stopCarrier s b).fixed = s.fixed := by
  unfold State.stopCarrier
  repeat' first
    | simp only [↓State.modPwm_fixed, ↓State.slotsStop_fixed, ↓fixed_mk, ↓apply_ite State.fixed, fixed_eta, ite_self]
    | split
    | rfl

theorem State.dropCommits_fixed (s : State) (b : Nat) : (State.dropCommits s b).fixed = s.fixed := by
  unfold State.dropCommits
  repeat' first
    | simp only [↓State.modPwm_fixed, ↓State.endAll_fixed, ↓fixed_mk, ↓apply_ite State.fixed, fixed_eta, ite_self]
    | split
    | rfl

theorem State.endRefreshes_fixed (s : State) (b : Nat) : (State.endRefreshes s b).fixed = s.fixed := by
  unfold State.endRefreshes
  repeat' first
    | with_reducible refine (forEach_fixed _ _ _ (fun _ _ => ?_)).trans ?_
    | simp only [↓State.modLink_fixed, ↓fixed_mk, ↓apply_ite State.fixed, fixed_eta, ite_self]
    | split
    | rfl

theorem State.takeBack_fixed (s : State) (u : GroupBefore) : (State.takeBack s u).fixed = s.fixed := by
  unfold State.takeBack
  repeat' first
    | with_reducible refine (foldl_fixed _ _ _ (fun _ _ => ?_)).trans ?_
    | simp only [↓State.modQp_fixed, ↓fixed_mk, ↓apply_ite State.fixed, fixed_eta, ite_self]
    | split
    | rfl

theorem State.discardCommit_fixed (s : State) (b : Nat) : (State.discardCommit s b).fixed = s.fixed := by
  unfold State.discardCommit
  repeat' first
    | simp only [↓State.modPwm_fixed, ↓State.takeBack_fixed, ↓fixed_mk, ↓apply_ite State.fixed, fixed_eta, ite_self]
    | split
    | rfl

theorem State.turnGf_fixed (s : State) (g : Nat) (f : GfEngine → GfEngine) : (State.turnGf s g f).fixed = s.fixed := by
  unfold State.turnGf
  repeat' first
    | simp only [↓State.modGf_fixed, ↓fixed_mk, ↓apply_ite State.fixed, fixed_eta, ite_self]
    | split
    | rfl

theorem State.ctxToReady_fixed (s : State) (b : Nat) (recovery : Bool) : (State.ctxToReady s b recovery).fixed = s.fixed := by
  unfold State.ctxToReady
  repeat' first
    | simp only [↓State.modLc_fixed, ↓State.leaveRunning_fixed, ↓fixed_mk, ↓apply_ite State.fixed, fixed_eta, ite_self]
    | split
    | rfl

theorem State.gfToTracking_fixed (s : State) (b : Nat) : (State.gfToTracking s b).fixed = s.fixed := by
  unfold State.gfToTracking
  repeat' first
    | simp only [↓State.turnGf_fixed, ↓fixed_mk, ↓apply_ite State.fixed, fixed_eta, ite_self]
    | split
    | rfl

theorem State.ctxToHeld_fixed (s : State) (b cause : Nat) : (State.ctxToHeld s b cause).fixed = s.fixed := by
  unfold State.ctxToHeld
  repeat' first
    | simp only [↓State.modLc_fixed, ↓State.leaveRunning_fixed, ↓fixed_mk, ↓apply_ite State.fixed, fixed_eta, ite_self]
    | split
    | rfl

theorem State.gfToHeld_fixed (s : State) (b cause : Nat) : (State.gfToHeld s b cause).fixed = s.fixed := by
  unfold State.gfToHeld
  repeat' first
    | simp only [↓State.modGf_fixed, ↓State.turnGf_fixed, ↓fixed_mk, ↓apply_ite State.fixed, fixed_eta, ite_self]
    | split
    | rfl

theorem State.releaseLc_fixed (s : State) (k : Nat) : (State.releaseLc s k).fixed = s.fixed := by
  unfold State.releaseLc
  repeat' first
    | simp only [↓State.modLc_fixed, ↓State.leaveRunning_fixed, ↓fixed_mk, ↓apply_ite State.fixed, fixed_eta, ite_self]
    | split
    | rfl

theorem State.releaseGf_fixed (s : State) (g : Nat) : (State.releaseGf s g).fixed = s.fixed := by
  unfold State.releaseGf
  repeat' first
    | simp only [↓State.modGf_fixed, ↓State.turnGf_fixed, ↓fixed_mk, ↓apply_ite State.fixed, fixed_eta, ite_self]
    | split
    | rfl

theorem State.undoSetRole_fixed (s : State) (b : Nat) (st : Status) : (State.undoSetRole s b st).fixed = s.fixed := by
  unfold State.undoSetRole
  repeat' first
    | simp only [↓State.modB_fixed, ↓State.ends_fixed, ↓State.download_fixed, ↓State.dropAcks_fixed, ↓fixed_mk,
        ↓apply_ite State.fixed, fixed_eta, ite_self]
    | split
    | rfl

theorem State.cancelActions_fixed (s : State) (b : Nat) : (State.cancelActions s b).fixed = s.fixed := by
  unfold State.cancelActions
  repeat' first
    | simp only [↓State.modB_fixed, ↓State.ends_fixed, ↓State.endAll_fixed, ↓State.dropAcks_fixed,
        ↓State.undoSetRole_fixed, ↓fixed_mk, ↓apply_ite State.fixed, fixed_eta, ite_self]
    | split
    | rfl

theorem State.enterSafeWith_fixed (s : State) (b cause : Nat) (report : Bool) : (State.enterSafeWith s b cause report).fixed =
    s.fixed := by
  unfold State.enterSafeWith
  repeat' first
    | simp only [↓State.modB_fixed, ↓State.modPwm_fixed, ↓State.report_fixed, ↓State.repattern_fixed,
        ↓State.dropCommits_fixed, ↓State.endRefreshes_fixed, ↓State.discardCommit_fixed, ↓State.ctxToHeld_fixed,
        ↓State.gfToHeld_fixed, ↓State.cancelActions_fixed, ↓fixed_mk, ↓apply_ite State.fixed, fixed_eta, ite_self]
    | split
    | rfl

theorem State.enterSafe_fixed (s : State) (b cause : Nat) : (State.enterSafe s b cause).fixed = s.fixed := by
  unfold State.enterSafe
  repeat' first
    | simp only [↓State.enterSafeWith_fixed, ↓fixed_mk, ↓apply_ite State.fixed, fixed_eta, ite_self]
    | split
    | rfl

theorem State.allSafe_fixed (s : State) (cause : Nat) : (State.allSafe s cause).fixed = s.fixed := by
  unfold State.allSafe
  repeat' first
    | with_reducible refine (forEach_fixed _ _ _ (fun _ _ => ?_)).trans ?_
    | simp only [↓State.enterSafe_fixed, ↓fixed_mk, ↓apply_ite State.fixed, fixed_eta, ite_self]
    | split
    | rfl

theorem State.driveIdle_fixed (s : State) (b : Nat) : (State.driveIdle s b).fixed = s.fixed := by
  unfold State.driveIdle
  repeat' first
    | simp only [↓State.drivePattern_fixed, ↓fixed_mk, ↓apply_ite State.fixed, fixed_eta, ite_self]
    | split
    | rfl

theorem State.stopToArmed_fixed (s : State) (b : Nat) : (State.stopToArmed s b).fixed = s.fixed := by
  unfold State.stopToArmed
  repeat' first
    | simp only [↓State.modB_fixed, ↓State.ctxToReady_fixed, ↓State.gfToTracking_fixed, ↓State.driveIdle_fixed,
        ↓fixed_mk, ↓apply_ite State.fixed, fixed_eta, ite_self]
    | split
    | rfl

theorem State.recovered_fixed (s : State) (b : Nat) : (State.recovered s b).fixed = s.fixed := by
  unfold State.recovered
  repeat' first
    | simp only [↓State.modB_fixed, ↓State.modPwm_fixed, ↓State.ctxToReady_fixed, ↓State.gfToTracking_fixed,
        ↓State.driveIdle_fixed, ↓fixed_mk, ↓apply_ite State.fixed, fixed_eta, ite_self]
    | split
    | rfl

theorem State.stopLinks_fixed (s : State) (b : Nat) : (State.stopLinks s b).fixed = s.fixed := by
  unfold State.stopLinks
  repeat' first
    | with_reducible refine (forEach_fixed _ _ _ (fun _ _ => ?_)).trans ?_
    | simp only [↓State.modLink_fixed, ↓fixed_mk, ↓apply_ite State.fixed, fixed_eta, ite_self]
    | split
    | rfl

theorem State.toOffline_fixed (s : State) (b : Nat) : (State.toOffline s b).fixed = s.fixed := by
  unfold State.toOffline
  repeat' first
    | simp only [↓State.modB_fixed, ↓State.modLc_fixed, ↓State.dropEdges_fixed, ↓State.stopCarrier_fixed,
        ↓State.dropCommits_fixed, ↓State.turnGf_fixed, ↓State.cancelActions_fixed, ↓State.stopLinks_fixed, ↓fixed_mk,
        ↓apply_ite State.fixed, fixed_eta, ite_self]
    | split
    | rfl

theorem State.enterRetired_fixed (s : State) (b g : Nat) : (State.enterRetired s b g).fixed = s.fixed := by
  unfold State.enterRetired
  repeat' first
    | simp only [↓State.modB_fixed, ↓State.report_fixed, ↓State.releaseLc_fixed, ↓State.releaseGf_fixed,
        ↓State.cancelActions_fixed, ↓State.enterSafe_fixed, ↓fixed_mk, ↓apply_ite State.fixed, fixed_eta, ite_self]
    | split
    | rfl

theorem State.latchTrip_fixed (s : State) (b src : Nat) : (State.latchTrip s b src).fixed = s.fixed := by
  unfold State.latchTrip
  repeat' first
    | simp only [↓State.modPwm_fixed, ↓State.enterSafe_fixed, ↓fixed_mk, ↓apply_ite State.fixed, fixed_eta, ite_self]
    | split
    | rfl

theorem State.modWheel_fixed (s : State) (f : Wheel → Wheel) : (State.modWheel s f).fixed = s.fixed := by
  unfold State.modWheel
  repeat' first
    | simp only [↓fixed_mk, ↓apply_ite State.fixed, fixed_eta, ite_self]
    | split
    | rfl

theorem State.modWc_fixed (s : State) (c : Nat) (f : WheelContext → WheelContext) : (State.modWc s c f).fixed = s.fixed := by
  unfold State.modWc
  repeat' first
    | simp only [↓State.modWheel_fixed, ↓fixed_mk, ↓apply_ite State.fixed, fixed_eta, ite_self]
    | split
    | rfl

theorem State.modCyc_fixed (s : State) (f : Cycle → Cycle) : (State.modCyc s f).fixed = s.fixed := by
  unfold State.modCyc
  repeat' first
    | simp only [↓fixed_mk, ↓apply_ite State.fixed, fixed_eta, ite_self]
    | split
    | rfl

theorem State.modRun_fixed (s : State) (r : Nat) (f : EicRun → EicRun) : (State.modRun s r f).fixed = s.fixed := by
  unfold State.modRun
  repeat' first
    | simp only [↓State.modCyc_fixed, ↓fixed_mk, ↓apply_ite State.fixed, fixed_eta, ite_self]
    | split
    | rfl

theorem State.endContext_fixed (s : State) (c : Nat) : (State.endContext s c).fixed = s.fixed := by
  unfold State.endContext
  repeat' first
    | simp only [↓State.modWc_fixed, ↓fixed_mk, ↓apply_ite State.fixed, fixed_eta, ite_self]
    | split
    | rfl

theorem State.freeLane_fixed (s : State) : (State.freeLane s).fixed = s.fixed := by
  unfold State.freeLane
  repeat' first
    | simp only [↓State.modWheel_fixed, ↓State.endContext_fixed, ↓fixed_mk, ↓apply_ite State.fixed, fixed_eta,
        ite_self]
    | split
    | rfl

theorem State.commitRetain_fixed (s : State) (imageId : Word) (bytes : Cells) : (State.commitRetain s imageId bytes).fixed =
    s.fixed := by
  unfold State.commitRetain
  repeat' first
    | simp only [↓State.modCyc_fixed, ↓fixed_mk, ↓apply_ite State.fixed, fixed_eta, ite_self]
    | split
    | rfl

theorem State.abandonRuns_fixed (s : State) : (State.abandonRuns s).fixed = s.fixed := by
  unfold State.abandonRuns
  repeat' first
    | simp only [↓State.modCyc_fixed, ↓State.freeLane_fixed, ↓fixed_mk, ↓apply_ite State.fixed, fixed_eta, ite_self]
    | split
    | rfl

theorem State.endCycleWaits_fixed (s : State) : (State.endCycleWaits s).fixed = s.fixed := by
  unfold State.endCycleWaits
  repeat' first
    | simp only [↓State.endAll_fixed, ↓State.modCyc_fixed, ↓fixed_mk, ↓apply_ite State.fixed, fixed_eta, ite_self]
    | split
    | rfl

theorem State.stopEngine_fixed (s : State) (cause : Nat) (next : CycState) : (State.stopEngine s cause next).fixed = s.fixed
    := by
  unfold State.stopEngine
  repeat' first
    | simp only [↓State.ends_fixed, ↓State.endAll_fixed, ↓State.modCyc_fixed, ↓State.abandonRuns_fixed,
        ↓State.endCycleWaits_fixed, ↓fixed_mk, ↓apply_ite State.fixed, fixed_eta, ite_self]
    | split
    | rfl

theorem State.modStation_fixed (s : State) (n : Nat) (f : Station → Station) : (State.modStation s n f).fixed = s.fixed := by
  unfold State.modStation
  repeat' first
    | simp only [↓State.modCyc_fixed, ↓fixed_mk, ↓apply_ite State.fixed, fixed_eta, ite_self]
    | split
    | rfl

theorem State.dropStations_fixed (s : State) : (State.dropStations s).fixed = s.fixed := by
  unfold State.dropStations
  repeat' first
    | with_reducible refine (forEach_fixed _ _ _ (fun _ _ => ?_)).trans ?_
    | simp only [↓State.modStation_fixed, ↓fixed_mk, ↓apply_ite State.fixed, fixed_eta, ite_self]
    | split
    | rfl

theorem State.dropRelays_fixed (s : State) : (State.dropRelays s).fixed = s.fixed := by
  unfold State.dropRelays
  repeat' first
    | simp only [↓fixed_mk, ↓apply_ite State.fixed, fixed_eta, ite_self]
    | split
    | rfl

theorem State.ringPortRetired_fixed (s : State) : (State.ringPortRetired s).fixed = s.fixed := by
  unfold State.ringPortRetired
  repeat' first
    | simp only [↓State.dropRelays_fixed, ↓fixed_mk, ↓apply_ite State.fixed, fixed_eta, ite_self]
    | split
    | rfl

theorem State.sendMirror_fixed (s : State) (b : Nat) (frozen final : Bool) : (State.sendMirror s b frozen final).fixed =
    s.fixed := by
  unfold State.sendMirror
  repeat' first
    | simp only [↓fixed_mk, ↓apply_ite State.fixed, fixed_eta, ite_self]
    | split
    | rfl

theorem State.startHandover_fixed (s : State) (why : Option ChanRef) : (State.startHandover s why).fixed = s.fixed := by
  unfold State.startHandover
  repeat' first
    | with_reducible refine (forEach_fixed _ _ _ (fun _ _ => ?_)).trans ?_
    | simp only [↓State.modB_fixed, ↓State.modLink_fixed, ↓State.sendMirror_fixed, ↓fixed_mk, ↓apply_ite State.fixed,
        fixed_eta, ite_self]
    | split
    | rfl

theorem State.dropOwn_fixed (s : State) : (State.dropOwn s).fixed = s.fixed := by
  unfold State.dropOwn
  repeat' first
    | with_reducible refine (forEach_fixed _ _ _ (fun _ _ => ?_)).trans ?_
    | simp only [↓State.modB_fixed, ↓fixed_mk, ↓apply_ite State.fixed, fixed_eta, ite_self]
    | split
    | rfl

theorem State.yieldControl_fixed (s : State) : (State.yieldControl s).fixed = s.fixed := by
  unfold State.yieldControl
  repeat' first
    | with_reducible refine (forEach_fixed _ _ _ (fun _ _ => ?_)).trans ?_
    | simp only [↓State.enterSafe_fixed, ↓State.dropOwn_fixed, ↓fixed_mk, ↓apply_ite State.fixed, fixed_eta, ite_self]
    | split
    | rfl

theorem State.tripActive_fixed (s : State) (src : Nat) : (State.tripActive s src).fixed = s.fixed := by
  unfold State.tripActive
  repeat' first
    | with_reducible refine (forEach_fixed _ _ _ (fun _ _ => ?_)).trans ?_
    | simp only [↓State.modTrip_fixed, ↓State.latchTrip_fixed, ↓fixed_mk, ↓apply_ite State.fixed, fixed_eta, ite_self]
    | split
    | rfl

theorem State.compRetired_fixed (s : State) (n : Nat) : (State.compRetired s n).fixed = s.fixed := by
  unfold State.compRetired
  repeat' first
    | with_reducible refine (forEach_fixed _ _ _ (fun _ _ => ?_)).trans ?_
    | simp only [↓State.tripActive_fixed, ↓fixed_mk, ↓apply_ite State.fixed, fixed_eta, ite_self]
    | split
    | rfl

theorem State.moveContext_fixed (s : State) (k : Nat) : (State.moveContext s k).fixed = s.fixed := by
  unfold State.moveContext
  repeat' first
    | simp only [↓State.modLc_fixed, ↓State.leaveRunning_fixed, ↓State.enterSafe_fixed, ↓fixed_mk, ↓apply_ite
        State.fixed, fixed_eta, ite_self]
    | split
    | rfl

theorem State.migrate_fixed (s : State) (e : Nat) : (State.migrate s e).fixed = s.fixed := by
  unfold State.migrate
  repeat' first
    | with_reducible refine (forEach_fixed _ _ _ (fun _ _ => ?_)).trans ?_
    | simp only [↓State.modLc_fixed, ↓State.moveContext_fixed, ↓fixed_mk, ↓apply_ite State.fixed, fixed_eta, ite_self]
    | split
    | rfl

theorem State.retireSlot_fixed (s : State) (n : Nat) : (State.retireSlot s n).fixed = s.fixed := by
  unfold State.retireSlot
  repeat' first
    | simp only [↓State.modSlot_fixed, ↓State.ends_fixed, ↓State.stopSlot_fixed, ↓State.compRetired_fixed, ↓fixed_mk,
        ↓apply_ite State.fixed, fixed_eta, ite_self]
    | split
    | rfl

theorem State.retireCap_fixed (s : State) (u : Nat) : (State.retireCap s u).fixed = s.fixed := by
  unfold State.retireCap
  repeat' first
    | with_reducible refine (forEach_fixed _ _ _ (fun _ _ => ?_)).trans ?_
    | simp only [↓State.modCap_fixed, ↓fixed_mk, ↓apply_ite State.fixed, fixed_eta, ite_self]
    | split
    | rfl

theorem State.retireLink_fixed (s : State) (g : Nat) : (State.retireLink s g).fixed = s.fixed := by
  unfold State.retireLink
  repeat' first
    | simp only [↓State.modLink_fixed, ↓State.enterRetired_fixed, ↓fixed_mk, ↓apply_ite State.fixed, fixed_eta,
        ite_self]
    | split
    | rfl

theorem State.pllRetired_fixed (s : State) (unit : Nat) : (State.pllRetired s unit).fixed = s.fixed := by
  unfold State.pllRetired
  repeat' first
    | simp only [↓State.allSafe_fixed, ↓State.yieldControl_fixed, ↓fixed_mk, ↓apply_ite State.fixed, fixed_eta,
        ite_self]
    | split
    | rfl

theorem State.reconfigure_fixed (s : State) (kind unit : Nat) : (State.reconfigure s kind unit).fixed = s.fixed := by
  unfold State.reconfigure
  repeat' first
    | simp only [↓State.modPos_fixed, ↓State.enterSafe_fixed, ↓State.stopEngine_fixed, ↓State.dropStations_fixed,
        ↓State.ringPortRetired_fixed, ↓State.migrate_fixed, ↓State.retireSlot_fixed, ↓State.retireCap_fixed,
        ↓State.retireLink_fixed, ↓State.pllRetired_fixed, ↓fixed_mk, ↓apply_ite State.fixed, fixed_eta, ite_self]
    | split
    | rfl

theorem State.markRetired_fixed (s : State) (kind unit : Nat) : (State.markRetired s kind unit).fixed = s.fixed := by
  unfold State.markRetired
  repeat' first
    | simp only [↓State.report_fixed, ↓State.logEntry_fixed, ↓State.modChan_fixed, ↓fixed_mk, ↓apply_ite State.fixed,
        fixed_eta, ite_self]
    | split
    | rfl

theorem State.retire_fixed (s : State) (kind unit : Nat) : (State.retire s kind unit).fixed = s.fixed := by
  unfold State.retire
  repeat' first
    | simp only [↓State.reconfigure_fixed, ↓State.markRetired_fixed, ↓fixed_mk, ↓apply_ite State.fixed, fixed_eta,
        ite_self]
    | split
    | rfl

theorem State.retireServed_fixed (s : State) (why : Option ChanRef) : (State.retireServed s why).fixed = s.fixed := by
  unfold State.retireServed
  repeat' first
    | simp only [↓State.markRetired_fixed, ↓State.retire_fixed, ↓fixed_mk, ↓apply_ite State.fixed, fixed_eta, ite_self]
    | split
    | rfl

theorem State.permanent_fixed (s : State) (kind unit : Nat) : (State.permanent s kind unit).fixed = s.fixed := by
  unfold State.permanent
  repeat' first
    | simp only [↓State.startHandover_fixed, ↓State.yieldControl_fixed, ↓State.retire_fixed, ↓fixed_mk, ↓apply_ite
        State.fixed, fixed_eta, ite_self]
    | split
    | rfl

theorem State.countUpset_fixed (s : State) (kind unit : Nat) : (State.countUpset s kind unit).fixed = s.fixed := by
  unfold State.countUpset
  repeat' first
    | simp only [↓State.logEntry_fixed, ↓State.modChan_fixed, ↓State.permanent_fixed, ↓fixed_mk, ↓apply_ite
        State.fixed, fixed_eta, ite_self]
    | split
    | rfl

theorem State.detect_fixed (s : State) (kind unit : Nat) : (State.detect s kind unit).fixed = s.fixed := by
  unfold State.detect
  repeat' first
    | simp only [↓State.modChan_fixed, ↓fixed_mk, ↓apply_ite State.fixed, fixed_eta, ite_self]
    | split
    | rfl

theorem State.runFailed_fixed (s : State) (kind unit : Nat) : (State.runFailed s kind unit).fixed = s.fixed := by
  unfold State.runFailed
  repeat' first
    | simp only [↓State.logEntry_fixed, ↓State.modChan_fixed, ↓State.permanent_fixed, ↓fixed_mk, ↓apply_ite
        State.fixed, fixed_eta, ite_self]
    | split
    | rfl

theorem State.leak_fixed (s : State) (kind unit : Nat) : (State.leak s kind unit).fixed = s.fixed := by
  unfold State.leak
  repeat' first
    | simp only [↓State.modChan_fixed, ↓fixed_mk, ↓apply_ite State.fixed, fixed_eta, ite_self]
    | split
    | rfl

theorem State.cancelFlight_fixed (s : State) (t : Ticket) : (State.cancelFlight s t).fixed = s.fixed := by
  unfold State.cancelFlight
  repeat' first
    | with_reducible refine (forEach_fixed _ _ _ (fun _ _ => ?_)).trans ?_
    | simp only [↓State.ends_fixed, ↓State.endAll_fixed, ↓fixed_mk, ↓apply_ite State.fixed, fixed_eta, ite_self]
    | split
    | rfl

theorem State.cancelUnstarted_fixed (s : State) (q : Fin 16) : (State.cancelUnstarted s q).fixed = s.fixed := by
  unfold State.cancelUnstarted
  repeat' first
    | with_reducible refine (foldl_fixed _ _ _ (fun _ _ => ?_)).trans ?_
    | simp only [↓State.cancelFlight_fixed, ↓fixed_mk, ↓apply_ite State.fixed, fixed_eta, ite_self]
    | split
    | rfl

theorem State.haltQp_fixed (s : State) (q : Fin 16) (cause : Nat) : (State.haltQp s q cause).fixed = s.fixed := by
  unfold State.haltQp
  repeat' first
    | simp only [↓State.modQp_fixed, ↓State.putEntry_fixed, ↓State.report_fixed, ↓State.cancelUnstarted_fixed,
        ↓fixed_mk, ↓apply_ite State.fixed, fixed_eta, ite_self]
    | split
    | rfl

theorem State.writeTail_fixed (s : State) (q : Fin 16) (v : Word) : (State.writeTail s q v).fixed = s.fixed := by
  unfold State.writeTail
  repeat' first
    | simp only [↓State.modQp_fixed, ↓State.haltQp_fixed, ↓fixed_mk, ↓apply_ite State.fixed, fixed_eta, ite_self]
    | split
    | rfl

theorem State.writeHead_fixed (s : State) (q : Fin 16) (v : Word) : (State.writeHead s q v).fixed = s.fixed := by
  unfold State.writeHead
  repeat' first
    | simp only [↓State.modQp_fixed, ↓State.haltQp_fixed, ↓fixed_mk, ↓apply_ite State.fixed, fixed_eta, ite_self]
    | split
    | rfl

theorem State.resumeQp_fixed (s : State) (q : Nat) : (State.resumeQp s q).fixed = s.fixed := by
  unfold State.resumeQp
  repeat' first
    | simp only [↓State.modQp_fixed, ↓fixed_mk, ↓apply_ite State.fixed, fixed_eta, ite_self]
    | split
    | rfl

theorem State.writeControl_fixed (s : State) (q : Fin 16) (v : Word) : (State.writeControl s q v).fixed = s.fixed := by
  unfold State.writeControl
  repeat' first
    | simp only [↓State.modQp_fixed, ↓State.endReset_fixed, ↓State.cancelUnstarted_fixed, ↓State.resumeQp_fixed,
        ↓fixed_mk, ↓apply_ite State.fixed, fixed_eta, ite_self]
    | split
    | rfl

theorem State.resumeWaiting_fixed (s : State) : (State.resumeWaiting s).fixed = s.fixed := by
  unfold State.resumeWaiting
  repeat' first
    | with_reducible refine (forEach_fixed _ _ _ (fun _ _ => ?_)).trans ?_
    | simp only [↓State.resumeQp_fixed, ↓fixed_mk, ↓apply_ite State.fixed, fixed_eta, ite_self]
    | split
    | rfl

theorem State.startQps_fixed (s : State) : (State.startQps s).fixed = s.fixed := by
  unfold State.startQps
  repeat' first
    | with_reducible refine (forEach_fixed _ _ _ (fun _ _ => ?_)).trans ?_
    | simp only [↓State.modQp_fixed, ↓fixed_mk, ↓apply_ite State.fixed, fixed_eta, ite_self]
    | split
    | rfl

theorem effAdminNop_fixed (t : Ticket) (x1 : Pkt) (s : State) : (effAdminNop t x1 s).fixed = s.fixed := by
  unfold effAdminNop
  repeat' first
    | simp only [↓State.ends_fixed, ↓fixed_mk, ↓apply_ite State.fixed, fixed_eta, ite_self]
    | split
    | rfl

theorem effIdentify_fixed (t : Ticket) (x1 : Pkt) (s : State) : (effIdentify t x1 s).fixed = s.fixed := by
  unfold effIdentify
  repeat' first
    | simp only [↓State.answer_fixed, ↓fixed_mk, ↓apply_ite State.fixed, fixed_eta, ite_self]
    | split
    | rfl

theorem effAdminEventWait_fixed (t : Ticket) (p : Pkt) (s : State) : (effAdminEventWait t p s).fixed = s.fixed := by
  unfold effAdminEventWait
  repeat' first
    | simp only [↓State.answer_fixed, ↓State.ends_fixed, ↓fixed_mk, ↓apply_ite State.fixed, fixed_eta, ite_self]
    | split
    | rfl

theorem effAdminAbort_fixed (t : Ticket) (p : Pkt) (s : State) : (effAdminAbort t p s).fixed = s.fixed := by
  unfold effAdminAbort
  repeat' first
    | simp only [↓State.answer_fixed, ↓State.ends_fixed, ↓State.cancelFlight_fixed, ↓fixed_mk, ↓apply_ite State.fixed,
        fixed_eta, ite_self]
    | split
    | rfl

theorem effFence_fixed (t : Ticket) (x1 : Pkt) (s : State) : (effFence t x1 s).fixed = s.fixed := by
  unfold effFence
  repeat' first
    | simp only [↓State.ends_fixed, ↓fixed_mk, ↓apply_ite State.fixed, fixed_eta, ite_self]
    | split
    | rfl

theorem State.barrierMet_fixed (s : State) (k : Nat) : (State.barrierMet s k).fixed = s.fixed := by
  unfold State.barrierMet
  repeat' first
    | with_reducible refine (foldl_fixed _ _ _ (fun _ _ => ?_)).trans ?_
    | simp only [↓State.answer_fixed, ↓fixed_mk, ↓apply_ite State.fixed, fixed_eta, ite_self]
    | split
    | rfl

theorem effBarrier_fixed (t : Ticket) (p : Pkt) (s : State) : (effBarrier t p s).fixed = s.fixed := by
  unfold effBarrier
  repeat' first
    | simp only [↓State.ends_fixed, ↓State.barrierMet_fixed, ↓fixed_mk, ↓apply_ite State.fixed, fixed_eta, ite_self]
    | split
    | rfl

theorem evBarrierTimeout_fixed (k : Fin 8) (s : State) : (evBarrierTimeout k s).fixed = s.fixed := by
  unfold evBarrierTimeout
  repeat' first
    | simp only [↓State.advanceTo_fixed, ↓State.endAll_fixed, ↓fixed_mk, ↓apply_ite State.fixed, fixed_eta, ite_self]
    | split
    | rfl

theorem evIrqModTime_fixed (q : Fin 16) (s : State) : (evIrqModTime q s).fixed = s.fixed := by
  unfold evIrqModTime
  repeat' first
    | simp only [↓State.advanceTo_fixed, ↓State.interrupt_fixed, ↓fixed_mk, ↓apply_ite State.fixed, fixed_eta,
        ite_self]
    | split
    | rfl

theorem evRingReadFail_fixed (q : Fin 16) (addr : DWord) (s : State) : (evRingReadFail q addr s).fixed = s.fixed := by
  unfold evRingReadFail
  repeat' first
    | simp only [↓State.modQp_fixed, ↓State.advanceTo_fixed, ↓State.haltQp_fixed, ↓fixed_mk, ↓apply_ite State.fixed,
        fixed_eta, ite_self]
    | split
    | rfl

theorem evHostUnavailable_fixed (up bme : Bool) (s : State) : (evHostUnavailable up bme s).fixed = s.fixed := by
  unfold evHostUnavailable
  repeat' first
    | with_reducible refine (foldl_fixed _ _ _ (fun _ _ => ?_)).trans ?_
    | simp only [↓State.haltQp_fixed, ↓fixed_mk, ↓apply_ite State.fixed, fixed_eta, ite_self]
    | split
    | rfl

theorem evPcieLinkUp_fixed (rate : BitVec 3) (width : BitVec 2) (s : State) : (evPcieLinkUp rate width s).fixed = s.fixed :=
    by
  unfold evPcieLinkUp
  repeat' first
    | simp only [↓State.resumeWaiting_fixed, ↓fixed_mk, ↓apply_ite State.fixed, fixed_eta, ite_self]
    | split
    | rfl

theorem State.notePeak_fixed (s : State) (n : Nat) : (State.notePeak s n).fixed = s.fixed := by
  unfold State.notePeak
  repeat' first
    | with_reducible refine (forEach_fixed _ _ _ (fun _ _ => ?_)).trans ?_
    | with_reducible refine (foldl_fixed _ _ _ (fun _ _ => ?_)).trans ?_
    | simp only [↓State.modGf_fixed, ↓fixed_mk, ↓apply_ite State.fixed, fixed_eta, ite_self]
    | split
    | rfl

theorem effBridgeDefine_fixed (t : Ticket) (p : Pkt) (s : State) : (effBridgeDefine t p s).fixed = s.fixed := by
  unfold effBridgeDefine
  repeat' first
    | with_reducible refine (forEach_fixed _ _ _ (fun _ _ => ?_)).trans ?_
    | simp only [↓State.modB_fixed, ↓State.modPwm_fixed, ↓State.modLink_fixed, ↓State.ends_fixed, ↓fixed_mk,
        ↓apply_ite State.fixed, fixed_eta, ite_self]
    | split
    | rfl

theorem State.bindUnits_fixed (s : State) (b : Nat) : (State.bindUnits s b).fixed = s.fixed := by
  unfold State.bindUnits
  repeat' first
    | simp only [↓State.modLc_fixed, ↓State.turnGf_fixed, ↓fixed_mk, ↓apply_ite State.fixed, fixed_eta, ite_self]
    | split
    | rfl

theorem State.releaseOld_fixed (s : State) (b : Nat) (lc gf : Option Nat) : (State.releaseOld s b lc gf).fixed = s.fixed := by
  unfold State.releaseOld
  repeat' first
    | simp only [↓State.releaseLc_fixed, ↓State.releaseGf_fixed, ↓fixed_mk, ↓apply_ite State.fixed, fixed_eta,
        ite_self]
    | split
    | rfl

theorem State.doneSetRole_fixed (s : State) (b : Nat) : (State.doneSetRole s b).fixed = s.fixed := by
  unfold State.doneSetRole
  repeat' first
    | simp only [↓State.modB_fixed, ↓State.ends_fixed, ↓State.driveIdle_fixed, ↓State.bindUnits_fixed,
        ↓State.releaseOld_fixed, ↓fixed_mk, ↓apply_ite State.fixed, fixed_eta, ite_self]
    | split
    | rfl

theorem effBridgeSetRole_fixed (t : Ticket) (p : Pkt) (s : State) : (effBridgeSetRole t p s).fixed = s.fixed := by
  unfold effBridgeSetRole
  repeat' first
    | simp only [↓State.modB_fixed, ↓State.ends_fixed, ↓State.download_fixed, ↓fixed_mk, ↓apply_ite State.fixed,
        fixed_eta, ite_self]
    | split
    | rfl

theorem effBridgeBind_fixed (t : Ticket) (p : Pkt) (s : State) : (effBridgeBind t p s).fixed = s.fixed := by
  unfold effBridgeBind
  repeat' first
    | simp only [↓State.modB_fixed, ↓State.ends_fixed, ↓State.bindUnits_fixed, ↓State.releaseOld_fixed, ↓fixed_mk,
        ↓apply_ite State.fixed, fixed_eta, ite_self]
    | split
    | rfl

theorem effBridgeArm_fixed (t : Ticket) (p : Pkt) (s : State) : (effBridgeArm t p s).fixed = s.fixed := by
  unfold effBridgeArm
  repeat' first
    | with_reducible refine (forEach_fixed _ _ _ (fun _ _ => ?_)).trans ?_
    | simp only [↓State.modB_fixed, ↓State.modLink_fixed, ↓State.ends_fixed, ↓fixed_mk, ↓apply_ite State.fixed,
        fixed_eta, ite_self]
    | split
    | rfl

theorem State.failArm_fixed (s : State) (b : Nat) : (State.failArm s b).fixed = s.fixed := by
  unfold State.failArm
  repeat' first
    | simp only [↓State.modB_fixed, ↓State.ends_fixed, ↓State.stopLinks_fixed, ↓fixed_mk, ↓apply_ite State.fixed,
        fixed_eta, ite_self]
    | split
    | rfl

theorem State.doneArm_fixed (s : State) (b : Nat) : (State.doneArm s b).fixed = s.fixed := by
  unfold State.doneArm
  repeat' first
    | with_reducible refine (forEach_fixed _ _ _ (fun _ _ => ?_)).trans ?_
    | simp only [↓State.modB_fixed, ↓State.ends_fixed, ↓State.startCarrier_fixed, ↓State.turnGf_fixed,
        ↓State.driveIdle_fixed, ↓State.latchTrip_fixed, ↓State.bindUnits_fixed, ↓fixed_mk, ↓apply_ite State.fixed,
        fixed_eta, ite_self]
    | split
    | rfl

theorem effBridgeDisarm_fixed (t : Ticket) (p : Pkt) (s : State) : (effBridgeDisarm t p s).fixed = s.fixed := by
  unfold effBridgeDisarm
  repeat' first
    | simp only [↓State.ends_fixed, ↓State.toOffline_fixed, ↓fixed_mk, ↓apply_ite State.fixed, fixed_eta, ite_self]
    | split
    | rfl

theorem effBridgePrecharge_fixed (t : Ticket) (p : Pkt) (s : State) : (effBridgePrecharge t p s).fixed = s.fixed := by
  unfold effBridgePrecharge
  repeat' first
    | simp only [↓State.modB_fixed, ↓State.ends_fixed, ↓State.undoSetRole_fixed, ↓fixed_mk, ↓apply_ite State.fixed,
        fixed_eta, ite_self]
    | split
    | rfl

theorem State.prechargeMet_fixed (s : State) (b : Nat) : (State.prechargeMet s b).fixed = s.fixed := by
  unfold State.prechargeMet
  repeat' first
    | simp only [↓State.modB_fixed, ↓State.ends_fixed, ↓fixed_mk, ↓apply_ite State.fixed, fixed_eta, ite_self]
    | split
    | rfl

theorem State.judgePrecharge_fixed (s : State) (b : Nat) : (State.judgePrecharge s b).fixed = s.fixed := by
  unfold State.judgePrecharge
  repeat' first
    | simp only [↓State.modB_fixed, ↓State.prechargeMet_fixed, ↓fixed_mk, ↓apply_ite State.fixed, fixed_eta, ite_self]
    | split
    | rfl

theorem State.drawHoldoff_fixed (s : State) (g : Nat) : (State.drawHoldoff s g).fixed = s.fixed := by
  unfold State.drawHoldoff
  repeat' first
    | simp only [↓State.modGf_fixed, ↓fixed_mk, ↓apply_ite State.fixed, fixed_eta, ite_self]
    | split
    | rfl

theorem State.enterPhase_fixed (s : State) (g : Nat) (ph : StartPhase) : (State.enterPhase s g ph).fixed = s.fixed := by
  unfold State.enterPhase
  repeat' first
    | simp only [↓State.modGf_fixed, ↓State.drawHoldoff_fixed, ↓fixed_mk, ↓apply_ite State.fixed, fixed_eta, ite_self]
    | split
    | rfl

theorem State.rampFromDead_fixed (s : State) (g : Nat) : (State.rampFromDead s g).fixed = s.fixed := by
  unfold State.rampFromDead
  repeat' first
    | simp only [↓State.modGf_fixed, ↓State.enterPhase_fixed, ↓fixed_mk, ↓apply_ite State.fixed, fixed_eta, ite_self]
    | split
    | rfl

theorem State.rampFromLive_fixed (s : State) (g : Nat) : (State.rampFromLive s g).fixed = s.fixed := by
  unfold State.rampFromLive
  repeat' first
    | simp only [↓State.modGf_fixed, ↓State.enterPhase_fixed, ↓fixed_mk, ↓apply_ite State.fixed, fixed_eta, ite_self]
    | split
    | rfl

theorem State.closeDead_fixed (s : State) (g : Nat) : (State.closeDead s g).fixed = s.fixed := by
  unfold State.closeDead
  repeat' first
    | simp only [↓State.enterPhase_fixed, ↓State.rampFromDead_fixed, ↓fixed_mk, ↓apply_ite State.fixed, fixed_eta,
        ite_self]
    | split
    | rfl

theorem State.closeLive_fixed (s : State) (g : Nat) : (State.closeLive s g).fixed = s.fixed := by
  unfold State.closeLive
  repeat' first
    | simp only [↓State.enterPhase_fixed, ↓State.rampFromLive_fixed, ↓fixed_mk, ↓apply_ite State.fixed, fixed_eta,
        ite_self]
    | split
    | rfl

theorem State.takePath_fixed (s : State) (g : Nat) : (State.takePath s g).fixed = s.fixed := by
  unfold State.takePath
  repeat' first
    | simp only [↓State.enterPhase_fixed, ↓State.closeDead_fixed, ↓fixed_mk, ↓apply_ite State.fixed, fixed_eta,
        ite_self]
    | split
    | rfl

theorem State.enterStarting_fixed (s : State) (g : Nat) : (State.enterStarting s g).fixed = s.fixed := by
  unfold State.enterStarting
  repeat' first
    | simp only [↓State.modGf_fixed, ↓State.takePath_fixed, ↓fixed_mk, ↓apply_ite State.fixed, fixed_eta, ite_self]
    | split
    | rfl

theorem effBridgeStart_fixed (t : Ticket) (p : Pkt) (s : State) : (effBridgeStart t p s).fixed = s.fixed := by
  unfold effBridgeStart
  repeat' first
    | simp only [↓State.modB_fixed, ↓State.modLc_fixed, ↓State.modPwm_fixed, ↓State.ends_fixed,
        ↓State.enterStarting_fixed, ↓fixed_mk, ↓apply_ite State.fixed, fixed_eta, ite_self]
    | split
    | rfl

theorem State.zeroSetpoints_fixed (s : State) (b : Nat) : (State.zeroSetpoints s b).fixed = s.fixed := by
  unfold State.zeroSetpoints
  repeat' first
    | simp only [↓State.modGf_fixed, ↓State.modLc_fixed, ↓fixed_mk, ↓apply_ite State.fixed, fixed_eta, ite_self]
    | split
    | rfl

theorem State.rampDone_fixed (s : State) (b : Nat) : (State.rampDone s b).fixed = s.fixed := by
  unfold State.rampDone
  repeat' first
    | simp only [↓State.modB_fixed, ↓State.ends_fixed, ↓State.endAll_fixed, ↓State.stopToArmed_fixed,
        ↓State.zeroSetpoints_fixed, ↓fixed_mk, ↓apply_ite State.fixed, fixed_eta, ite_self]
    | split
    | rfl

theorem State.startRamp_fixed (s : State) (b : Nat) (w : List Ticket) : (State.startRamp s b w).fixed = s.fixed := by
  unfold State.startRamp
  repeat' first
    | simp only [↓State.modB_fixed, ↓State.rampDone_fixed, ↓fixed_mk, ↓apply_ite State.fixed, fixed_eta, ite_self]
    | split
    | rfl

theorem State.endStartPhase_fixed (s : State) (b : Nat) : (State.endStartPhase s b).fixed = s.fixed := by
  unfold State.endStartPhase
  repeat' first
    | simp only [↓State.modGf_fixed, ↓fixed_mk, ↓apply_ite State.fixed, fixed_eta, ite_self]
    | split
    | rfl

theorem effBridgeStop_fixed (t : Ticket) (p : Pkt) (s : State) : (effBridgeStop t p s).fixed = s.fixed := by
  unfold effBridgeStop
  repeat' first
    | simp only [↓State.modB_fixed, ↓State.ends_fixed, ↓State.stopToArmed_fixed, ↓State.startRamp_fixed,
        ↓State.endStartPhase_fixed, ↓fixed_mk, ↓apply_ite State.fixed, fixed_eta, ite_self]
    | split
    | rfl

theorem effBridgeSafe_fixed (t : Ticket) (p : Pkt) (s : State) : (effBridgeSafe t p s).fixed = s.fixed := by
  unfold effBridgeSafe
  repeat' first
    | simp only [↓State.ends_fixed, ↓State.enterSafe_fixed, ↓fixed_mk, ↓apply_ite State.fixed, fixed_eta, ite_self]
    | split
    | rfl

theorem effBridgeRecover_fixed (t : Ticket) (p : Pkt) (s : State) : (effBridgeRecover t p s).fixed = s.fixed := by
  unfold effBridgeRecover
  repeat' first
    | simp only [↓State.modB_fixed, ↓State.ends_fixed, ↓State.download_fixed, ↓fixed_mk, ↓apply_ite State.fixed,
        fixed_eta, ite_self]
    | split
    | rfl

theorem State.doneRecover_fixed (s : State) (b : Nat) : (State.doneRecover s b).fixed = s.fixed := by
  unfold State.doneRecover
  repeat' first
    | simp only [↓State.ends_fixed, ↓State.recovered_fixed, ↓fixed_mk, ↓apply_ite State.fixed, fixed_eta, ite_self]
    | split
    | rfl

theorem State.failRecover_fixed (s : State) (b : Nat) : (State.failRecover s b).fixed = s.fixed := by
  unfold State.failRecover
  repeat' first
    | simp only [↓State.modB_fixed, ↓State.ends_fixed, ↓State.download_fixed, ↓State.dropAcks_fixed, ↓fixed_mk,
        ↓apply_ite State.fixed, fixed_eta, ite_self]
    | split
    | rfl

theorem effBridgeStatus_fixed (t : Ticket) (p : Pkt) (s : State) : (effBridgeStatus t p s).fixed = s.fixed := by
  unfold effBridgeStatus
  repeat' first
    | simp only [↓State.answer_fixed, ↓fixed_mk, ↓apply_ite State.fixed, fixed_eta, ite_self]
    | split
    | rfl

theorem effBridgeBindImage_fixed (t : Ticket) (p : Pkt) (s : State) : (effBridgeBindImage t p s).fixed = s.fixed := by
  unfold effBridgeBindImage
  repeat' first
    | simp only [↓State.modB_fixed, ↓State.ends_fixed, ↓fixed_mk, ↓apply_ite State.fixed, fixed_eta, ite_self]
    | split
    | rfl

theorem evArmTimeout_fixed (b : Fin 8) (s : State) : (evArmTimeout b s).fixed = s.fixed := by
  unfold evArmTimeout
  repeat' first
    | simp only [↓State.advanceTo_fixed, ↓State.failArm_fixed, ↓fixed_mk, ↓apply_ite State.fixed, fixed_eta, ite_self]
    | split
    | rfl

theorem evPrechargeTimeout_fixed (b : Fin 8) (s : State) : (evPrechargeTimeout b s).fixed = s.fixed := by
  unfold evPrechargeTimeout
  repeat' first
    | simp only [↓State.modB_fixed, ↓State.advanceTo_fixed, ↓State.ends_fixed, ↓State.stopToArmed_fixed, ↓fixed_mk,
        ↓apply_ite State.fixed, fixed_eta, ite_self]
    | split
    | rfl

theorem evPrechargeTimedDone_fixed (b : Fin 8) (s : State) : (evPrechargeTimedDone b s).fixed = s.fixed := by
  unfold evPrechargeTimedDone
  repeat' first
    | simp only [↓State.advanceTo_fixed, ↓State.prechargeMet_fixed, ↓fixed_mk, ↓apply_ite State.fixed, fixed_eta,
        ite_self]
    | split
    | rfl

theorem evStopRampEnd_fixed (b : Fin 8) (s : State) : (evStopRampEnd b s).fixed = s.fixed := by
  unfold evStopRampEnd
  repeat' first
    | simp only [↓State.advanceTo_fixed, ↓State.rampDone_fixed, ↓fixed_mk, ↓apply_ite State.fixed, fixed_eta, ite_self]
    | split
    | rfl

theorem evSslLoss_fixed (b : Fin 8) (s : State) : (evSslLoss b s).fixed = s.fixed := by
  unfold evSslLoss
  repeat' first
    | simp only [↓State.advanceTo_fixed, ↓State.enterSafe_fixed, ↓fixed_mk, ↓apply_ite State.fixed, fixed_eta,
        ite_self]
    | split
    | rfl

theorem State.eicPutByte_fixed (s : State) (r sp a v : Nat) : (State.eicPutByte s r sp a v).fixed = s.fixed := by
  unfold State.eicPutByte
  repeat' first
    | simp only [↓State.modCyc_fixed, ↓State.modRun_fixed, ↓fixed_mk, ↓apply_ite State.fixed, fixed_eta, ite_self]
    | split
    | rfl

theorem State.eicPutBytes_fixed (s : State) (r sp a : Nat) (bs : List Byte) :
    (s.eicPutBytes r sp a bs).fixed = s.fixed := by
  unfold State.eicPutBytes
  generalize hp : (a, s) = p
  have : s.fixed = p.2.fixed := by rw [← hp]
  rw [this]; clear hp this
  induction bs generalizing p with
  | nil => rfl
  | cons b bs ih => rw [List.foldl_cons, ih]; exact State.eicPutByte_fixed _ _ _ _ _

theorem State.putReg_fixed (s : State) (r n ty v : Nat) : (State.putReg s r n ty v).fixed = s.fixed := by
  unfold State.putReg
  repeat' first
    | simp only [↓State.modRun_fixed, ↓fixed_mk, ↓apply_ite State.fixed, fixed_eta, ite_self]
    | split
    | rfl

theorem State.memPut_fixed (s : State) (r sp a ty v : Nat) : (State.memPut s r sp a ty v).fixed = s.fixed := by
  unfold State.memPut
  repeat' first
    | simp only [↓State.eicPutBytes_fixed, ↓fixed_mk, ↓apply_ite State.fixed, fixed_eta, ite_self]
    | split
    | rfl

theorem State.noteBound_fixed (s : State) (r ty : Nat) (o : EicOp) : (State.noteBound s r ty o).fixed = s.fixed := by
  unfold State.noteBound
  repeat' first
    | simp only [↓State.modCyc_fixed, ↓fixed_mk, ↓apply_ite State.fixed, fixed_eta, ite_self]
    | split
    | rfl

theorem State.assign_fixed (s : State) (r ty : Nat) (o : EicOp) (v : Nat) : (State.assign s r ty o v).fixed = s.fixed := by
  unfold State.assign
  repeat' first
    | simp only [↓State.modCyc_fixed, ↓State.putReg_fixed, ↓State.memPut_fixed, ↓fixed_mk, ↓apply_ite State.fixed,
        fixed_eta, ite_self]
    | split
    | rfl

theorem State.putPlace_fixed (s : State) (p : EicPlace) (v : Nat) : (State.putPlace s p v).fixed = s.fixed := by
  unfold State.putPlace
  repeat' first
    | simp only [↓State.modCyc_fixed, ↓State.eicPutBytes_fixed, ↓State.putReg_fixed, ↓fixed_mk, ↓apply_ite
        State.fixed, fixed_eta, ite_self]
    | split
    | rfl

theorem State.ringStore_fixed (s : State) (q granule : Nat) (bs : List Byte) : (State.ringStore s q granule bs).fixed =
    s.fixed := by
  unfold State.ringStore
  repeat' first
    | simp only [↓fixed_mk, ↓apply_ite State.fixed, fixed_eta, ite_self]
    | split
    | rfl

theorem State.submit_fixed (s : State) (q : Fin 16) (bytes : List Byte) : (State.submit s q bytes).2.fixed = s.fixed := by
  unfold State.submit
  repeat' first
    | simp only [↓State.writeTail_fixed, ↓State.ringStore_fixed, ↓fixed_mk, ↓apply_ite State.fixed, fixed_eta,
        ite_self]
    | split
    | rfl

theorem State.pollRing_fixed (s : State) (q : Fin 16) : (State.pollRing s q).2.fixed = s.fixed := by
  unfold State.pollRing
  repeat' first
    | simp only [↓State.writeHead_fixed, ↓fixed_mk, ↓apply_ite State.fixed, fixed_eta, ite_self]
    | split
    | rfl

theorem State.modThread_fixed (s : State) (k : Nat) (f : Thread → Thread) : (State.modThread s k f).fixed = s.fixed := by
  unfold State.modThread
  repeat' first
    | simp only [↓fixed_mk, ↓apply_ite State.fixed, fixed_eta, ite_self]
    | split
    | rfl

theorem State.threadResult_fixed (s : State) (c : Nat) (v : DWord) : (State.threadResult s c v).fixed = s.fixed := by
  unfold State.threadResult
  repeat' first
    | simp only [↓State.modThread_fixed, ↓fixed_mk, ↓apply_ite State.fixed, fixed_eta, ite_self]
    | split
    | rfl

theorem State.reportDone_fixed (s : State) (at_ worker : Nat) (r : ReadyBy) : (State.reportDone s at_ worker r).fixed =
    s.fixed := by
  unfold State.reportDone
  repeat' first
    | simp only [↓State.answer_fixed, ↓State.putPlace_fixed, ↓State.threadResult_fixed, ↓fixed_mk, ↓apply_ite
        State.fixed, fixed_eta, ite_self]
    | split
    | rfl

theorem State.reportEnd_fixed (s : State) (at_ : Nat) (st : Status) (r : ReadyBy) : (State.reportEnd s at_ st r).fixed =
    s.fixed := by
  unfold State.reportEnd
  repeat' first
    | simp only [↓State.answer_fixed, ↓State.putPlace_fixed, ↓State.threadResult_fixed, ↓fixed_mk, ↓apply_ite
        State.fixed, fixed_eta, ite_self]
    | split
    | rfl

theorem State.reportAll_fixed (s : State) (at_ : Nat) (st : Status) (rs : List ReadyBy) : (State.reportAll s at_ st rs).fixed
    = s.fixed := by
  unfold State.reportAll
  repeat' first
    | with_reducible refine (foldl_fixed _ _ _ (fun _ _ => ?_)).trans ?_
    | simp only [↓State.reportEnd_fixed, ↓fixed_mk, ↓apply_ite State.fixed, fixed_eta, ite_self]
    | split
    | rfl

theorem State.freeContext_fixed (s : State) (c : Nat) : (State.freeContext s c).fixed = s.fixed := by
  unfold State.freeContext
  repeat' first
    | simp only [↓State.modWc_fixed, ↓State.reportAll_fixed, ↓fixed_mk, ↓apply_ite State.fixed, fixed_eta, ite_self]
    | split
    | rfl

theorem State.applyCancel_fixed (s : State) (at_ : Nat) (t : Ticket) (c : Nat) : (State.applyCancel s at_ t c).fixed = s.fixed
    := by
  unfold State.applyCancel
  repeat' first
    | simp only [↓State.answer_fixed, ↓State.modWheel_fixed, ↓State.modWc_fixed, ↓State.reportAll_fixed, ↓fixed_mk,
        ↓apply_ite State.fixed, fixed_eta, ite_self]
    | split
    | rfl

theorem State.coalesce_fixed (s : State) : (State.coalesce s).fixed = s.fixed := by
  unfold State.coalesce
  repeat' first
    | simp only [↓State.modWheel_fixed, ↓fixed_mk, ↓apply_ite State.fixed, fixed_eta, ite_self]
    | split
    | rfl

theorem State.applyReady_fixed (s : State) (at_ c : Nat) (r : ReadyBy) : (State.applyReady s at_ c r).fixed = s.fixed := by
  unfold State.applyReady
  repeat' first
    | simp only [↓State.modWc_fixed, ↓State.threadResult_fixed, ↓State.reportEnd_fixed, ↓State.coalesce_fixed,
        ↓fixed_mk, ↓apply_ite State.fixed, fixed_eta, ite_self]
    | split
    | rfl

theorem State.applyTimer_fixed (s : State) (at_ c : Nat) : (State.applyTimer s at_ c).fixed = s.fixed := by
  unfold State.applyTimer
  repeat' first
    | simp only [↓State.modWheel_fixed, ↓State.modWc_fixed, ↓fixed_mk, ↓apply_ite State.fixed, fixed_eta, ite_self]
    | split
    | rfl

theorem State.applyReadies_fixed (s : State) (at_ : Nat) : (State.applyReadies s at_).fixed = s.fixed := by
  unfold State.applyReadies
  repeat' first
    | with_reducible refine (forEach_fixed _ _ _ (fun _ _ => ?_)).trans ?_
    | with_reducible refine (foldl_fixed _ _ _ (fun _ _ => ?_)).trans ?_
    | simp only [↓State.modWheel_fixed, ↓State.applyReady_fixed, ↓State.applyTimer_fixed, ↓fixed_mk, ↓apply_ite
        State.fixed, fixed_eta, ite_self]
    | split
    | rfl

theorem State.pickReady_fixed (s : State) (cs : List Nat) : (State.pickReady s cs).2.fixed = s.fixed := by
  unfold State.pickReady
  repeat' first
    | simp only [↓State.draw_fixed, ↓fixed_mk, ↓apply_ite State.fixed, fixed_eta, ite_self]
    | split
    | rfl

theorem State.dispatch_fixed (s : State) (at_ worker c : Nat) : (State.dispatch s at_ worker c).fixed = s.fixed := by
  unfold State.dispatch
  repeat' first
    | with_reducible refine (foldl_fixed _ _ _ (fun _ _ => ?_)).trans ?_
    | simp only [↓State.modWheel_fixed, ↓State.modWc_fixed, ↓State.reportDone_fixed, ↓fixed_mk, ↓apply_ite
        State.fixed, fixed_eta, ite_self]
    | split
    | rfl

theorem State.dispatchB_fixed (s : State) (at_ : Nat) : (s.dispatchB at_).fixed = s.fixed := by
  unfold State.dispatchB
  refine fixed_ite ?_ rfl
  · have hp := State.pickReady_fixed s (s.bestReady 4 8)
    split
    · next c t h =>
      rw [h] at hp
      rw [State.dispatch_fixed, State.modThread_fixed, State.modWheel_fixed, State.draw_fixed]
      split
      · rw [State.modWc_fixed]; exact hp
      · exact hp
    · next t h => rw [h] at hp; exact hp

theorem State.startEvent_fixed (s : State) (at_ entry : Nat) : (State.startEvent s at_ entry).fixed = s.fixed := by
  unfold State.startEvent
  repeat' first
    | simp only [↓State.modRun_fixed, ↓fixed_mk, ↓apply_ite State.fixed, fixed_eta, ite_self]
    | split
    | rfl

theorem State.dispatchLane_fixed (s : State) (at_ : Nat) : (s.dispatchLane at_).fixed = s.fixed := by
  unfold State.dispatchLane
  split
  · have hp := State.pickReady_fixed s (s.bestReady 8 128)
    split
    · next c t h =>
      rw [h] at hp
      rw [State.startEvent_fixed, State.dispatch_fixed, State.modWheel_fixed]
      exact hp
    · next t h => rw [h] at hp; exact hp
  · rfl

theorem evWheelCycle_fixed (s : State) : (evWheelCycle s).fixed = s.fixed := by
  unfold evWheelCycle
  repeat' first
    | with_reducible refine (foldl_fixed _ _ _ (fun _ _ => ?_)).trans ?_
    | simp only [↓State.advanceToNs_fixed, ↓State.modWheel_fixed, ↓State.applyCancel_fixed, ↓State.applyReadies_fixed,
        ↓State.dispatchB_fixed, ↓State.dispatchLane_fixed, ↓fixed_mk, ↓apply_ite State.fixed, fixed_eta, ite_self]
    | split
    | rfl

theorem evDelayExpiry_fixed (s : State) : (evDelayExpiry s).fixed = s.fixed := by
  unfold evDelayExpiry
  repeat' first
    | simp only [↓State.advanceToNs_fixed, ↓evWheelCycle_fixed, ↓fixed_mk, ↓apply_ite State.fixed, fixed_eta, ite_self]
    | split
    | rfl

theorem evWaitTimeout_fixed (c : Fin 128) (s : State) : (evWaitTimeout c s).fixed = s.fixed := by
  unfold evWaitTimeout
  repeat' first
    | simp only [↓State.advanceToNs_fixed, ↓evWheelCycle_fixed, ↓fixed_mk, ↓apply_ite State.fixed, fixed_eta, ite_self]
    | split
    | rfl

theorem effWheelConfig_fixed (t : Ticket) (p : Pkt) (s : State) : (effWheelConfig t p s).fixed = s.fixed := by
  unfold effWheelConfig
  repeat' first
    | simp only [↓State.ends_fixed, ↓State.modWheel_fixed, ↓fixed_mk, ↓apply_ite State.fixed, fixed_eta, ite_self]
    | split
    | rfl

theorem effWheelContext_fixed (t : Ticket) (p : Pkt) (s : State) : (effWheelContext t p s).fixed = s.fixed := by
  unfold effWheelContext
  repeat' first
    | simp only [↓State.ends_fixed, ↓State.modWc_fixed, ↓State.modThread_fixed, ↓fixed_mk, ↓apply_ite State.fixed,
        fixed_eta, ite_self]
    | split
    | rfl

theorem effWheelReady_fixed (t : Ticket) (p : Pkt) (s : State) : (effWheelReady t p s).fixed = s.fixed := by
  unfold effWheelReady
  repeat' first
    | simp only [↓State.modWheel_fixed, ↓fixed_mk, ↓apply_ite State.fixed, fixed_eta, ite_self]
    | split
    | rfl

theorem State.delayContext_fixed (s : State) (c n : Nat) (t : Option Ticket) : (State.delayContext s c n t).fixed = s.fixed :=
    by
  unfold State.delayContext
  repeat' first
    | simp only [↓State.modWc_fixed, ↓fixed_mk, ↓apply_ite State.fixed, fixed_eta, ite_self]
    | split
    | rfl

theorem State.waitContext_fixed (s : State) (c : Nat) (mask : Word) (tmo : Nat) (t : Option Ticket) : (State.waitContext s c
    mask tmo t).fixed = s.fixed := by
  unfold State.waitContext
  repeat' first
    | simp only [↓State.modWc_fixed, ↓fixed_mk, ↓apply_ite State.fixed, fixed_eta, ite_self]
    | split
    | rfl

theorem effWheelDelay_fixed (t : Ticket) (p : Pkt) (s : State) : (effWheelDelay t p s).fixed = s.fixed := by
  unfold effWheelDelay
  repeat' first
    | simp only [↓State.ends_fixed, ↓State.delayContext_fixed, ↓fixed_mk, ↓apply_ite State.fixed, fixed_eta, ite_self]
    | split
    | rfl

theorem effWheelWait_fixed (t : Ticket) (p : Pkt) (s : State) : (effWheelWait t p s).fixed = s.fixed := by
  unfold effWheelWait
  repeat' first
    | simp only [↓State.ends_fixed, ↓State.waitContext_fixed, ↓fixed_mk, ↓apply_ite State.fixed, fixed_eta, ite_self]
    | split
    | rfl

theorem effWheelCancel_fixed (t : Ticket) (p : Pkt) (s : State) : (effWheelCancel t p s).fixed = s.fixed := by
  unfold effWheelCancel
  repeat' first
    | simp only [↓State.modWheel_fixed, ↓fixed_mk, ↓apply_ite State.fixed, fixed_eta, ite_self]
    | split
    | rfl

theorem State.raise_fixed (s : State) (mask : Word) : (State.raise s mask).fixed = s.fixed := by
  unfold State.raise
  repeat' first
    | simp only [↓State.modWheel_fixed, ↓fixed_mk, ↓apply_ite State.fixed, fixed_eta, ite_self]
    | split
    | rfl

theorem effWheelSignal_fixed (t : Ticket) (p : Pkt) (s : State) : (effWheelSignal t p s).fixed = s.fixed := by
  unfold effWheelSignal
  repeat' first
    | simp only [↓State.ends_fixed, ↓State.raise_fixed, ↓fixed_mk, ↓apply_ite State.fixed, fixed_eta, ite_self]
    | split
    | rfl

theorem effWheelSigmap_fixed (t : Ticket) (p : Pkt) (s : State) : (effWheelSigmap t p s).fixed = s.fixed := by
  unfold effWheelSigmap
  repeat' first
    | simp only [↓State.ends_fixed, ↓State.modWheel_fixed, ↓fixed_mk, ↓apply_ite State.fixed, fixed_eta, ite_self]
    | split
    | rfl

theorem effWheelStatus_fixed (t : Ticket) (p : Pkt) (s : State) : (effWheelStatus t p s).fixed = s.fixed := by
  unfold effWheelStatus
  repeat' first
    | simp only [↓State.answer_fixed, ↓State.ends_fixed, ↓fixed_mk, ↓apply_ite State.fixed, fixed_eta, ite_self]
    | split
    | rfl

theorem effWheelRelease_fixed (t : Ticket) (p : Pkt) (s : State) : (effWheelRelease t p s).fixed = s.fixed := by
  unfold effWheelRelease
  repeat' first
    | simp only [↓State.ends_fixed, ↓State.modWc_fixed, ↓fixed_mk, ↓apply_ite State.fixed, fixed_eta, ite_self]
    | split
    | rfl

theorem State.leaveB_fixed (s : State) (k : Nat) : (State.leaveB s k).fixed = s.fixed := by
  unfold State.leaveB
  repeat' first
    | simp only [↓State.modWheel_fixed, ↓State.modThread_fixed, ↓fixed_mk, ↓apply_ite State.fixed, fixed_eta, ite_self]
    | split
    | rfl

theorem State.callResult_fixed (s : State) (k : Nat) (v : Nat) : (State.callResult s k v).fixed = s.fixed := by
  unfold State.callResult
  repeat' first
    | simp only [↓State.modThread_fixed, ↓fixed_mk, ↓apply_ite State.fixed, fixed_eta, ite_self]
    | split
    | rfl

theorem State.threadFault_fixed (s : State) (k : Nat) : (State.threadFault s k).fixed = s.fixed := by
  unfold State.threadFault
  repeat' first
    | simp only [↓State.report_fixed, ↓State.modThread_fixed, ↓State.freeContext_fixed, ↓State.leaveB_fixed,
        ↓fixed_mk, ↓apply_ite State.fixed, fixed_eta, ite_self]
    | split
    | rfl

theorem evThreadEnd_fixed (c : Fin 4) (s : State) : (evThreadEnd c s).fixed = s.fixed := by
  unfold evThreadEnd
  repeat' first
    | simp only [↓State.endContext_fixed, ↓State.leaveB_fixed, ↓fixed_mk, ↓apply_ite State.fixed, fixed_eta, ite_self]
    | split
    | rfl

theorem evThreadReady_fixed (c : Fin 4) (ctx : Word) (s : State) : (evThreadReady c ctx s).fixed = s.fixed := by
  unfold evThreadReady
  repeat' first
    | simp only [↓State.modWheel_fixed, ↓State.modThread_fixed, ↓State.callResult_fixed, ↓fixed_mk, ↓apply_ite
        State.fixed, fixed_eta, ite_self]
    | split
    | rfl

theorem evThreadSignal_fixed (c : Fin 4) (mask : Word) (s : State) : (evThreadSignal c mask s).fixed = s.fixed := by
  unfold evThreadSignal
  repeat' first
    | simp only [↓State.raise_fixed, ↓State.callResult_fixed, ↓fixed_mk, ↓apply_ite State.fixed, fixed_eta, ite_self]
    | split
    | rfl

theorem evThreadDelay_fixed (c : Fin 4) (n : Word) (s : State) : (evThreadDelay c n s).fixed = s.fixed := by
  unfold evThreadDelay
  repeat' first
    | simp only [↓State.delayContext_fixed, ↓State.leaveB_fixed, ↓State.callResult_fixed, ↓fixed_mk, ↓apply_ite
        State.fixed, fixed_eta, ite_self]
    | split
    | rfl

theorem evThreadWait_fixed (c : Fin 4) (mask tmo : Word) (s : State) : (evThreadWait c mask tmo s).fixed = s.fixed := by
  unfold evThreadWait
  repeat' first
    | simp only [↓State.waitContext_fixed, ↓State.leaveB_fixed, ↓State.callResult_fixed, ↓fixed_mk, ↓apply_ite
        State.fixed, fixed_eta, ite_self]
    | split
    | rfl

theorem evThreadSubmit_fixed (c : Fin 4) (qp : Word) (bytes : List Byte) (s : State) : (evThreadSubmit c qp bytes s).fixed =
    s.fixed := by
  unfold evThreadSubmit
  repeat' first
    | simp only [↓State.submit_fixed, ↓State.callResult_fixed, ↓State.threadFault_fixed, ↓fixed_mk, ↓apply_ite
        State.fixed, fixed_eta, ite_self]
    | split
    | rfl

theorem evThreadPoll_fixed (c : Fin 4) (qp addr : Word) (s : State) : (evThreadPoll c qp addr s).fixed = s.fixed := by
  unfold evThreadPoll
  split
  · rfl
  · split
    · next h =>
      have hp := State.pollRing_fixed s ⟨qp.toNat, h⟩
      split
      · split
        · next bs t e => rw [e] at hp; rw [State.callResult_fixed, State.modThread_fixed]; exact hp
        · next t e => rw [e] at hp; rw [State.callResult_fixed]; exact hp
      · exact State.threadFault_fixed _ _
    · exact State.threadFault_fixed _ _

theorem evThreadTime_fixed (c : Fin 4) (s : State) : (evThreadTime c s).fixed = s.fixed := by
  unfold evThreadTime
  repeat' first
    | simp only [↓State.callResult_fixed, ↓fixed_mk, ↓apply_ite State.fixed, fixed_eta, ite_self]
    | split
    | rfl

theorem evThreadImageRead_fixed (c : Fin 4) (ofs count addr : Word) (s : State) : (evThreadImageRead c ofs count addr s).fixed
    = s.fixed := by
  unfold evThreadImageRead
  repeat' first
    | simp only [↓State.modThread_fixed, ↓State.callResult_fixed, ↓State.threadFault_fixed, ↓fixed_mk, ↓apply_ite
        State.fixed, fixed_eta, ite_self]
    | split
    | rfl

theorem evThreadFault_fixed (c : Fin 4) (s : State) : (evThreadFault c s).fixed = s.fixed := by
  unfold evThreadFault
  repeat' first
    | simp only [↓State.threadFault_fixed, ↓fixed_mk, ↓apply_ite State.fixed, fixed_eta, ite_self]
    | split
    | rfl

theorem State.finishIns_fixed (s : State) (r : Nat) (i : EicIns) (ty v : Nat) : (State.finishIns s r i ty v).fixed = s.fixed
    := by
  unfold State.finishIns
  repeat' first
    | simp only [↓State.modRun_fixed, ↓State.noteBound_fixed, ↓State.assign_fixed, ↓fixed_mk, ↓apply_ite State.fixed,
        fixed_eta, ite_self]
    | split
    | rfl

theorem State.moveIns_fixed (s : State) (r : Nat) (i : EicIns) : (State.moveIns s r i).fixed = s.fixed := by
  unfold State.moveIns
  repeat' first
    | simp only [↓State.modRun_fixed, ↓State.noteBound_fixed, ↓State.finishIns_fixed, ↓fixed_mk, ↓apply_ite
        State.fixed, fixed_eta, ite_self]
    | split
    | rfl

theorem State.timerIns_fixed (s : State) (r : Nat) (i : EicIns) : (State.timerIns s r i).fixed = s.fixed := by
  unfold State.timerIns
  repeat' first
    | simp only [↓State.modCyc_fixed, ↓State.modRun_fixed, ↓State.eicPutBytes_fixed, ↓fixed_mk, ↓apply_ite
        State.fixed, fixed_eta, ite_self]
    | split
    | rfl

theorem State.blockPut_fixed (s : State) (r : Nat) (i : EicIns) (bs : List Byte) : (State.blockPut s r i bs).fixed = s.fixed
    := by
  unfold State.blockPut
  repeat' first
    | simp only [↓State.modCyc_fixed, ↓State.eicPutBytes_fixed, ↓fixed_mk, ↓apply_ite State.fixed, fixed_eta, ite_self]
    | split
    | rfl

theorem State.blockIns_fixed (s : State) (r : Nat) (i : EicIns) : (State.blockIns s r i).fixed = s.fixed := by
  unfold State.blockIns
  repeat' first
    | simp only [↓State.modRun_fixed, ↓State.noteBound_fixed, ↓State.finishIns_fixed, ↓State.blockPut_fixed,
        ↓fixed_mk, ↓apply_ite State.fixed, fixed_eta, ite_self]
    | split
    | rfl

theorem State.plainIns_fixed (s : State) (r : Nat) (i : EicIns) : (State.plainIns s r i).fixed = s.fixed := by
  unfold State.plainIns
  repeat' first
    | simp only [↓State.modCyc_fixed, ↓State.modRun_fixed, ↓State.finishIns_fixed, ↓State.moveIns_fixed,
        ↓State.timerIns_fixed, ↓State.blockIns_fixed, ↓fixed_mk, ↓apply_ite State.fixed, fixed_eta, ite_self]
    | split
    | rfl

theorem State.eicSubmitIns_fixed (s : State) (r : Nat) (i : EicIns) : (State.eicSubmitIns s r i).fixed = s.fixed := by
  unfold State.eicSubmitIns
  repeat' first
    | simp only [↓State.modRun_fixed, ↓State.noteBound_fixed, ↓State.assign_fixed, ↓State.submit_fixed, ↓fixed_mk,
        ↓apply_ite State.fixed, fixed_eta, ite_self]
    | split
    | rfl

theorem State.eicPollIns_fixed (s : State) (r : Nat) (i : EicIns) : (s.eicPollIns r i).fixed = s.fixed := by
  unfold State.eicPollIns
  simp only
  have hp := State.pollRing_fixed s ⟨i.c.imm % 16, Nat.mod_lt _ (by omega)⟩
  split
  · next bs t e =>
    rw [e] at hp
    rw [State.modRun_fixed, State.assign_fixed]
    split
    · rw [State.eicPutBytes_fixed]; exact hp
    · rw [State.noteBound_fixed]; exact hp
  · next t e => rw [e] at hp; rw [State.modRun_fixed, State.assign_fixed]; exact hp

theorem State.eicReadyIns_fixed (s : State) (r : Nat) (i : EicIns) : (State.eicReadyIns s r i).fixed = s.fixed := by
  unfold State.eicReadyIns
  repeat' first
    | simp only [↓State.modWheel_fixed, ↓State.modRun_fixed, ↓State.assign_fixed, ↓fixed_mk, ↓apply_ite State.fixed,
        fixed_eta, ite_self]
    | split
    | rfl

theorem State.eicSignalIns_fixed (s : State) (r : Nat) (i : EicIns) : (State.eicSignalIns s r i).fixed = s.fixed := by
  unfold State.eicSignalIns
  repeat' first
    | simp only [↓State.modRun_fixed, ↓State.noteBound_fixed, ↓State.raise_fixed, ↓fixed_mk, ↓apply_ite State.fixed,
        fixed_eta, ite_self]
    | split
    | rfl

theorem State.rdtimeIns_fixed (s : State) (r : Nat) (i : EicIns) : (State.rdtimeIns s r i).fixed = s.fixed := by
  unfold State.rdtimeIns
  repeat' first
    | simp only [↓State.finishIns_fixed, ↓fixed_mk, ↓apply_ite State.fixed, fixed_eta, ite_self]
    | split
    | rfl

theorem State.rdcntIns_fixed (s : State) (r : Nat) (i : EicIns) : (State.rdcntIns s r i).fixed = s.fixed := by
  unfold State.rdcntIns
  repeat' first
    | simp only [↓State.finishIns_fixed, ↓fixed_mk, ↓apply_ite State.fixed, fixed_eta, ite_self]
    | split
    | rfl

theorem State.traceIns_fixed (s : State) (r : Nat) (i : EicIns) : (State.traceIns s r i).fixed = s.fixed := by
  unfold State.traceIns
  repeat' first
    | simp only [↓State.modCyc_fixed, ↓State.modRun_fixed, ↓State.noteBound_fixed, ↓fixed_mk, ↓apply_ite State.fixed,
        fixed_eta, ite_self]
    | split
    | rfl

theorem State.systemIns_fixed (s : State) (r : Nat) (i : EicIns) : (State.systemIns s r i).fixed = s.fixed := by
  unfold State.systemIns
  repeat' first
    | simp only [↓State.eicSubmitIns_fixed, ↓State.eicPollIns_fixed, ↓State.eicReadyIns_fixed,
        ↓State.eicSignalIns_fixed, ↓State.rdtimeIns_fixed, ↓State.rdcntIns_fixed, ↓State.traceIns_fixed, ↓fixed_mk,
        ↓apply_ite State.fixed, fixed_eta, ite_self]
    | split
    | rfl

theorem State.runPlain_fixed (s : State) (r n : Nat) : (s.runPlain r n).fixed = s.fixed := by
  induction n generalizing s with
  | zero => rfl
  | succ n ih =>
    unfold State.runPlain
    simp only
    split
    · rfl
    · rw [ih, State.plainIns_fixed]

theorem State.runToEnd_fixed (s : State) (r n : Nat) : (s.runToEnd r n).fixed = s.fixed := by
  induction n generalizing s with
  | zero => rfl
  | succ n ih =>
    unfold State.runToEnd
    simp only
    split
    · rfl
    · split
      · rw [ih, State.systemIns_fixed]
      · rw [ih, State.plainIns_fixed]

theorem State.systemAt_fixed (s : State) (r cls op : Nat) : (State.systemAt s r cls op).fixed = s.fixed := by
  unfold State.systemAt
  repeat' first
    | simp only [↓State.systemIns_fixed, ↓State.runPlain_fixed, ↓fixed_mk, ↓apply_ite State.fixed, fixed_eta, ite_self]
    | split
    | rfl

theorem evEicSubmit_fixed (r : Fin 5) (s : State) : (evEicSubmit r s).fixed = s.fixed := by
  unfold evEicSubmit
  repeat' first
    | simp only [↓State.systemAt_fixed, ↓fixed_mk, ↓apply_ite State.fixed, fixed_eta, ite_self]
    | split
    | rfl

theorem evEicPoll_fixed (r : Fin 5) (s : State) : (evEicPoll r s).fixed = s.fixed := by
  unfold evEicPoll
  repeat' first
    | simp only [↓State.systemAt_fixed, ↓fixed_mk, ↓apply_ite State.fixed, fixed_eta, ite_self]
    | split
    | rfl

theorem evEicReady_fixed (r : Fin 5) (s : State) : (evEicReady r s).fixed = s.fixed := by
  unfold evEicReady
  repeat' first
    | simp only [↓State.systemAt_fixed, ↓fixed_mk, ↓apply_ite State.fixed, fixed_eta, ite_self]
    | split
    | rfl

theorem evEicSignal_fixed (r : Fin 5) (s : State) : (evEicSignal r s).fixed = s.fixed := by
  unfold evEicSignal
  repeat' first
    | simp only [↓State.systemAt_fixed, ↓fixed_mk, ↓apply_ite State.fixed, fixed_eta, ite_self]
    | split
    | rfl

theorem evRdtime_fixed (r : Fin 5) (s : State) : (evRdtime r s).fixed = s.fixed := by
  unfold evRdtime
  repeat' first
    | simp only [↓State.systemAt_fixed, ↓fixed_mk, ↓apply_ite State.fixed, fixed_eta, ite_self]
    | split
    | rfl

theorem evRdcnt_fixed (r : Fin 5) (s : State) : (evRdcnt r s).fixed = s.fixed := by
  unfold evRdcnt
  repeat' first
    | simp only [↓State.systemAt_fixed, ↓fixed_mk, ↓apply_ite State.fixed, fixed_eta, ite_self]
    | split
    | rfl

theorem evTrace_fixed (r : Fin 5) (s : State) : (evTrace r s).fixed = s.fixed := by
  unfold evTrace
  repeat' first
    | simp only [↓State.systemAt_fixed, ↓fixed_mk, ↓apply_ite State.fixed, fixed_eta, ite_self]
    | split
    | rfl

theorem State.latchCode_fixed (s : State) (g bitNo : Nat) : (State.latchCode s g bitNo).fixed = s.fixed := by
  unfold State.latchCode
  repeat' first
    | simp only [↓State.modB_fixed, ↓State.modLink_fixed, ↓State.report_fixed, ↓State.repattern_fixed, ↓fixed_mk,
        ↓apply_ite State.fixed, fixed_eta, ite_self]
    | split
    | rfl

theorem evTripBreak_fixed (g : Fin 24) (s : State) : (evTripBreak g s).fixed = s.fixed := by
  unfold evTripBreak
  repeat' first
    | simp only [↓State.modB_fixed, ↓State.modLink_fixed, ↓State.drivePattern_fixed, ↓State.enterSafeWith_fixed,
        ↓fixed_mk, ↓apply_ite State.fixed, fixed_eta, ite_self]
    | split
    | rfl

theorem State.linkNow_fixed (s : State) (g : Nat) : (State.linkNow s g).fixed = s.fixed := by
  unfold State.linkNow
  repeat' first
    | simp only [↓State.applyEdges_fixed, ↓fixed_mk, ↓apply_ite State.fixed, fixed_eta, ite_self]
    | split
    | rfl

theorem evFaultCodeReceived_fixed (g : Fin 24) (group : Option (BitVec 5)) (s : State) : (evFaultCodeReceived g group s).fixed
    = s.fixed := by
  unfold evFaultCodeReceived
  repeat' first
    | simp only [↓State.modLink_fixed, ↓State.advanceTo_fixed, ↓State.countUpset_fixed, ↓State.latchCode_fixed,
        ↓State.linkNow_fixed, ↓fixed_mk, ↓apply_ite State.fixed, fixed_eta, ite_self]
    | split
    | rfl

theorem evBlankWindowClose_fixed (sw : Fin 48) (s : State) : (evBlankWindowClose sw s).fixed = s.fixed := by
  unfold evBlankWindowClose
  repeat' first
    | simp only [↓State.modLink_fixed, ↓State.advanceTo_fixed, ↓State.latchCode_fixed, ↓State.linkNow_fixed,
        ↓fixed_mk, ↓apply_ite State.fixed, fixed_eta, ite_self]
    | split
    | rfl

theorem State.closeSeries_fixed (s : State) (g : Nat) : (State.closeSeries s g).fixed = s.fixed := by
  unfold State.closeSeries
  repeat' first
    | simp only [↓State.modLink_fixed, ↓State.countUpset_fixed, ↓fixed_mk, ↓apply_ite State.fixed, fixed_eta, ite_self]
    | split
    | rfl

theorem State.logAlert_fixed (s : State) (g code : Nat) : (State.logAlert s g code).fixed = s.fixed := by
  unfold State.logAlert
  repeat' first
    | simp only [↓State.logEntry_fixed, ↓fixed_mk, ↓apply_ite State.fixed, fixed_eta, ite_self]
    | split
    | rfl

theorem State.forceRefresh_fixed (s : State) (b g i : Nat) : (State.forceRefresh s b g i).fixed = s.fixed := by
  unfold State.forceRefresh
  repeat' first
    | simp only [↓State.modPwm_fixed, ↓State.modLink_fixed, ↓fixed_mk, ↓apply_ite State.fixed, fixed_eta, ite_self]
    | split
    | rfl

theorem evBootLow_fixed (g : Fin 24) (s : State) : (evBootLow g s).fixed = s.fixed := by
  unfold evBootLow
  repeat' first
    | simp only [↓State.permanent_fixed, ↓State.linkNow_fixed, ↓State.closeSeries_fixed, ↓State.logAlert_fixed,
        ↓State.forceRefresh_fixed, ↓fixed_mk, ↓apply_ite State.fixed, fixed_eta, ite_self]
    | split
    | rfl

theorem evForcedRefreshEnd_fixed (g : Fin 24) (s : State) : (evForcedRefreshEnd g s).fixed = s.fixed := by
  unfold evForcedRefreshEnd
  repeat' first
    | simp only [↓State.modLink_fixed, ↓State.advanceTo_fixed, ↓State.countUpset_fixed, ↓State.linkNow_fixed,
        ↓fixed_mk, ↓apply_ite State.fixed, fixed_eta, ite_self]
    | split
    | rfl

theorem evAlertSymbol_fixed (g : Fin 24) (group : BitVec 5) (s : State) : (evAlertSymbol g group s).fixed = s.fixed := by
  unfold evAlertSymbol
  repeat' first
    | simp only [↓State.logAlert_fixed, ↓evBootLow_fixed, ↓fixed_mk, ↓apply_ite State.fixed, fixed_eta, ite_self]
    | split
    | rfl

theorem State.frameOk_fixed (s : State) (g : Nat) (isStatus : Bool) : (State.frameOk s g isStatus).fixed = s.fixed := by
  unfold State.frameOk
  repeat' first
    | simp only [↓State.modLink_fixed, ↓State.ends_fixed, ↓State.countUpset_fixed, ↓fixed_mk, ↓apply_ite State.fixed,
        fixed_eta, ite_self]
    | split
    | rfl

theorem evUplinkFrameDiscard_fixed (f : UplinkFrame) (s : State) : (evUplinkFrameDiscard f s).fixed = s.fixed := by
  unfold evUplinkFrameDiscard
  repeat' first
    | simp only [↓State.modLink_fixed, ↓State.detect_fixed, ↓fixed_mk, ↓apply_ite State.fixed, fixed_eta, ite_self]
    | split
    | rfl

theorem evStatusTimeout_fixed (g : Fin 24) (s : State) : (evStatusTimeout g s).fixed = s.fixed := by
  unfold evStatusTimeout
  repeat' first
    | simp only [↓State.modLink_fixed, ↓State.sendDown_fixed, ↓State.detect_fixed, ↓fixed_mk, ↓apply_ite State.fixed,
        fixed_eta, ite_self]
    | split
    | rfl

theorem evStatusFrame_fixed (g : Fin 24) (supply temp status : Byte) (s : State) : (evStatusFrame g supply temp status
    s).fixed = s.fixed := by
  unfold evStatusFrame
  repeat' first
    | simp only [↓State.modLink_fixed, ↓State.closeSeries_fixed, ↓State.frameOk_fixed, ↓fixed_mk, ↓apply_ite
        State.fixed, fixed_eta, ite_self]
    | split
    | rfl

theorem evEdgeFrame_fixed (g : Fin 24) (second off : Bool) (entry exit : BitVec 12) (s : State) : (evEdgeFrame g second off
    entry exit s).fixed = s.fixed := by
  unfold evEdgeFrame
  repeat' first
    | simp only [↓State.modLink_fixed, ↓State.linkNow_fixed, ↓State.frameOk_fixed, ↓fixed_mk, ↓apply_ite State.fixed,
        fixed_eta, ite_self]
    | split
    | rfl

theorem State.commitRecord_fixed (s : State) (g : Nat) : (State.commitRecord s g).fixed = s.fixed := by
  unfold State.commitRecord
  repeat' first
    | simp only [↓State.modLink_fixed, ↓fixed_mk, ↓apply_ite State.fixed, fixed_eta, ite_self]
    | split
    | rfl

theorem State.ackDone_fixed (s : State) (g : Nat) (why : AckFor) : (State.ackDone s g why).fixed = s.fixed := by
  unfold State.ackDone
  repeat' first
    | simp only [↓State.modB_fixed, ↓State.modLink_fixed, ↓State.ends_fixed, ↓State.doneSetRole_fixed,
        ↓State.doneRecover_fixed, ↓State.commitRecord_fixed, ↓fixed_mk, ↓apply_ite State.fixed, fixed_eta, ite_self]
    | split
    | rfl

theorem State.ackFailed_fixed (s : State) (why : AckFor) : (State.ackFailed s why).fixed = s.fixed := by
  unfold State.ackFailed
  repeat' first
    | simp only [↓State.ends_fixed, ↓State.undoSetRole_fixed, ↓State.failRecover_fixed, ↓fixed_mk, ↓apply_ite
        State.fixed, fixed_eta, ite_self]
    | split
    | rfl

theorem State.commitFailed_fixed (s : State) (g : Nat) (a : AckFor × Nat × Bool) : (State.commitFailed s g a).fixed = s.fixed
    := by
  unfold State.commitFailed
  repeat' first
    | simp only [↓State.modLink_fixed, ↓State.commitTo_fixed, ↓State.detect_fixed, ↓State.runFailed_fixed,
        ↓State.ackFailed_fixed, ↓fixed_mk, ↓apply_ite State.fixed, fixed_eta, ite_self]
    | split
    | rfl

theorem evAckFrame_fixed (g : Fin 24) (result : Byte) (s : State) : (evAckFrame g result s).fixed = s.fixed := by
  unfold evAckFrame
  repeat' first
    | simp only [↓State.modLink_fixed, ↓State.countUpset_fixed, ↓State.frameOk_fixed, ↓State.ackDone_fixed,
        ↓State.commitFailed_fixed, ↓fixed_mk, ↓apply_ite State.fixed, fixed_eta, ite_self]
    | split
    | rfl

theorem evCommitAckTimeout_fixed (g : Fin 24) (s : State) : (evCommitAckTimeout g s).fixed = s.fixed := by
  unfold evCommitAckTimeout
  repeat' first
    | simp only [↓State.modLink_fixed, ↓State.advanceTo_fixed, ↓State.ackFailed_fixed, ↓State.commitFailed_fixed,
        ↓fixed_mk, ↓apply_ite State.fixed, fixed_eta, ite_self]
    | split
    | rfl

theorem evReadDataFrame_fixed (g : Fin 24) (addr data : Byte) (s : State) : (evReadDataFrame g addr data s).fixed = s.fixed :=
    by
  unfold evReadDataFrame
  repeat' first
    | simp only [↓State.modLink_fixed, ↓State.answer_fixed, ↓State.frameOk_fixed, ↓fixed_mk, ↓apply_ite State.fixed,
        fixed_eta, ite_self]
    | split
    | rfl

theorem State.trainFrames_fixed (s : State) (g : Nat) (ident : Byte) : (State.trainFrames s g ident).fixed = s.fixed := by
  unfold State.trainFrames
  repeat' first
    | simp only [↓State.modLink_fixed, ↓State.sendDown_fixed, ↓fixed_mk, ↓apply_ite State.fixed, fixed_eta, ite_self]
    | split
    | rfl

theorem evTrainingComplete_fixed (g : Fin 24) (ident caps : Byte) (acked : Bool) (s : State) : (evTrainingComplete g ident
    caps acked s).fixed = s.fixed := by
  unfold evTrainingComplete
  repeat' first
    | simp only [↓State.modB_fixed, ↓State.modLink_fixed, ↓State.failArm_fixed, ↓State.doneArm_fixed,
        ↓State.commitRecord_fixed, ↓State.trainFrames_fixed, ↓fixed_mk, ↓apply_ite State.fixed, fixed_eta, ite_self]
    | split
    | rfl

theorem State.clearBridge_fixed (s : State) (b : Nat) : (State.clearBridge s b).fixed = s.fixed := by
  unfold State.clearBridge
  repeat' first
    | with_reducible refine (forEach_fixed _ _ _ (fun _ _ => ?_)).trans ?_
    | simp only [↓State.modB_fixed, ↓State.modPwm_fixed, ↓State.modLink_fixed, ↓State.logEntry_fixed,
        ↓State.sendDown_fixed, ↓State.repattern_fixed, ↓fixed_mk, ↓apply_ite State.fixed, fixed_eta, ite_self]
    | split
    | rfl

theorem effGateProfile_fixed (t : Ticket) (p : Pkt) (s : State) : (effGateProfile t p s).fixed = s.fixed := by
  unfold effGateProfile
  repeat' first
    | simp only [↓State.modLink_fixed, ↓State.ends_fixed, ↓State.commitTo_fixed, ↓fixed_mk, ↓apply_ite State.fixed,
        fixed_eta, ite_self]
    | split
    | rfl

theorem effGateAdapt_fixed (t : Ticket) (p : Pkt) (s : State) : (effGateAdapt t p s).fixed = s.fixed := by
  unfold effGateAdapt
  repeat' first
    | simp only [↓State.modLink_fixed, ↓State.ends_fixed, ↓fixed_mk, ↓apply_ite State.fixed, fixed_eta, ite_self]
    | split
    | rfl

theorem effGateStatus_fixed (t : Ticket) (p : Pkt) (s : State) : (effGateStatus t p s).fixed = s.fixed := by
  unfold effGateStatus
  repeat' first
    | simp only [↓State.modLink_fixed, ↓State.answer_fixed, ↓State.ends_fixed, ↓fixed_mk, ↓apply_ite State.fixed,
        fixed_eta, ite_self]
    | split
    | rfl

theorem effGateTelem_fixed (t : Ticket) (p : Pkt) (s : State) : (effGateTelem t p s).fixed = s.fixed := by
  unfold effGateTelem
  repeat' first
    | simp only [↓State.answer_fixed, ↓State.ends_fixed, ↓fixed_mk, ↓apply_ite State.fixed, fixed_eta, ite_self]
    | split
    | rfl

theorem effGateBoosterRw_fixed (t : Ticket) (p : Pkt) (s : State) : (effGateBoosterRw t p s).fixed = s.fixed := by
  unfold effGateBoosterRw
  repeat' first
    | simp only [↓State.modLink_fixed, ↓State.ends_fixed, ↓State.sendDown_fixed, ↓State.commitTo_fixed, ↓fixed_mk,
        ↓apply_ite State.fixed, fixed_eta, ite_self]
    | split
    | rfl

theorem effPwmCarrier_fixed (t : Ticket) (p : Pkt) (s : State) : (effPwmCarrier t p s).fixed = s.fixed := by
  unfold effPwmCarrier
  repeat' first
    | simp only [↓State.modPwm_fixed, ↓State.answer_fixed, ↓State.ends_fixed, ↓fixed_mk, ↓apply_ite State.fixed,
        fixed_eta, ite_self]
    | split
    | rfl

theorem effPwmEdges_fixed (t : Ticket) (p : Pkt) (s : State) : (effPwmEdges t p s).fixed = s.fixed := by
  unfold effPwmEdges
  repeat' first
    | simp only [↓State.modPwm_fixed, ↓State.ends_fixed, ↓fixed_mk, ↓apply_ite State.fixed, fixed_eta, ite_self]
    | split
    | rfl

theorem effPwmPeriod_fixed (t : Ticket) (p : Pkt) (s : State) : (effPwmPeriod t p s).fixed = s.fixed := by
  unfold effPwmPeriod
  repeat' first
    | simp only [↓State.modPwm_fixed, ↓State.ends_fixed, ↓fixed_mk, ↓apply_ite State.fixed, fixed_eta, ite_self]
    | split
    | rfl

theorem effPwmBoot_fixed (t : Ticket) (p : Pkt) (s : State) : (effPwmBoot t p s).fixed = s.fixed := by
  unfold effPwmBoot
  repeat' first
    | simp only [↓State.modPwm_fixed, ↓State.ends_fixed, ↓fixed_mk, ↓apply_ite State.fixed, fixed_eta, ite_self]
    | split
    | rfl

theorem effPwmTripConfig_fixed (t : Ticket) (p : Pkt) (s : State) : (effPwmTripConfig t p s).fixed = s.fixed := by
  unfold effPwmTripConfig
  repeat' first
    | simp only [↓State.modTrip_fixed, ↓State.ends_fixed, ↓State.tripActive_fixed, ↓fixed_mk, ↓apply_ite State.fixed,
        fixed_eta, ite_self]
    | split
    | rfl

theorem effPwmStatus_fixed (t : Ticket) (p : Pkt) (s : State) : (effPwmStatus t p s).fixed = s.fixed := by
  unfold effPwmStatus
  repeat' first
    | simp only [↓State.modPwm_fixed, ↓State.answer_fixed, ↓State.ends_fixed, ↓fixed_mk, ↓apply_ite State.fixed,
        fixed_eta, ite_self]
    | split
    | rfl

theorem State.commitLegs_fixed (s : State) (b : Nat) (cmds : Vector Q15 6) : (State.commitLegs s b cmds).fixed = s.fixed := by
  unfold State.commitLegs
  repeat' first
    | with_reducible refine (foldl_fixed _ _ _ (fun _ _ => ?_)).trans ?_
    | simp only [↓State.modPwm_fixed, ↓fixed_mk, ↓apply_ite State.fixed, fixed_eta, ite_self]
    | split
    | rfl

theorem State.answerPer_fixed (s : State) (b : Nat) : (State.answerPer s b).fixed = s.fixed := by
  unfold State.answerPer
  repeat' first
    | with_reducible refine (foldl_fixed _ _ _ (fun _ _ => ?_)).trans ?_
    | simp only [↓State.modPwm_fixed, ↓State.doneAt_fixed, ↓fixed_mk, ↓apply_ite State.fixed, fixed_eta, ite_self]
    | split
    | rfl

theorem State.commitPoint_fixed (s : State) (b : Nat) : (State.commitPoint s b).fixed = s.fixed := by
  unfold State.commitPoint
  repeat' first
    | with_reducible refine (forEach_fixed _ _ _ (fun _ _ => ?_)).trans ?_
    | simp only [↓State.modPwm_fixed, ↓State.modLink_fixed, ↓State.answerPer_fixed, ↓fixed_mk, ↓apply_ite State.fixed,
        fixed_eta, ite_self]
    | split
    | rfl

theorem State.stepLeg_fixed (s : State) (b : Nat) (peak commits : Bool) (l : Nat × Leg) : (State.stepLeg s b peak commits
    l).fixed = s.fixed := by
  unfold State.stepLeg
  repeat' first
    | simp only [↓State.modPwm_fixed, ↓fixed_mk, ↓apply_ite State.fixed, fixed_eta, ite_self]
    | split
    | rfl

theorem State.placeEdges_fixed (s : State) (b : Nat) (peak commits : Bool) : (State.placeEdges s b peak commits).fixed =
    s.fixed := by
  unfold State.placeEdges
  repeat' first
    | with_reducible refine (foldl_fixed _ _ _ (fun _ _ => ?_)).trans ?_
    | simp only [↓State.stepLeg_fixed, ↓fixed_mk, ↓apply_ite State.fixed, fixed_eta, ite_self]
    | split
    | rfl

theorem State.alignClocks_fixed (s : State) (src : Nat) : (State.alignClocks s src).fixed = s.fixed := by
  unfold State.alignClocks
  repeat' first
    | simp only [↓fixed_mk, ↓apply_ite State.fixed, fixed_eta, ite_self]
    | split
    | rfl

theorem evCarrierEvent_fixed (b : Fin 8) (s : State) : (evCarrierEvent b s).fixed = s.fixed := by
  unfold evCarrierEvent
  repeat' first
    | simp only [↓State.modPwm_fixed, ↓State.advanceTo_fixed, ↓State.applyEdges_fixed, ↓State.sendMirror_fixed,
        ↓State.commitPoint_fixed, ↓State.placeEdges_fixed, ↓State.alignClocks_fixed, ↓fixed_mk, ↓apply_ite
        State.fixed, fixed_eta, ite_self]
    | split
    | rfl

theorem evTripSourceActive_fixed (src : Fin 16) (s : State) : (evTripSourceActive src s).fixed = s.fixed := by
  unfold evTripSourceActive
  repeat' first
    | simp only [↓State.modTrip_fixed, ↓State.tripActive_fixed, ↓fixed_mk, ↓apply_ite State.fixed, fixed_eta, ite_self]
    | split
    | rfl

theorem State.dropFir_fixed (s : State) (n : Nat) : (State.dropFir s n).fixed = s.fixed := by
  unfold State.dropFir
  repeat' first
    | simp only [↓State.modSlot_fixed, ↓State.ends_fixed, ↓fixed_mk, ↓apply_ite State.fixed, fixed_eta, ite_self]
    | split
    | rfl

theorem effPugSlotConfig_fixed (t : Ticket) (p : Pkt) (s : State) : (effPugSlotConfig t p s).fixed = s.fixed := by
  unfold effPugSlotConfig
  repeat' first
    | simp only [↓State.modSlot_fixed, ↓State.answer_fixed, ↓State.ends_fixed, ↓State.startSlot_fixed,
        ↓State.dropFir_fixed, ↓fixed_mk, ↓apply_ite State.fixed, fixed_eta, ite_self]
    | split
    | rfl

theorem effPugFirLoad_fixed (t : Ticket) (p : Pkt) (s : State) : (effPugFirLoad t p s).fixed = s.fixed := by
  unfold effPugFirLoad
  repeat' first
    | simp only [↓State.modSlot_fixed, ↓State.ends_fixed, ↓fixed_mk, ↓apply_ite State.fixed, fixed_eta, ite_self]
    | split
    | rfl

theorem effPugFirSwap_fixed (t : Ticket) (p : Pkt) (s : State) : (effPugFirSwap t p s).fixed = s.fixed := by
  unfold effPugFirSwap
  repeat' first
    | simp only [↓State.modSlot_fixed, ↓State.answer_fixed, ↓State.ends_fixed, ↓State.finishFir_fixed, ↓fixed_mk,
        ↓apply_ite State.fixed, fixed_eta, ite_self]
    | split
    | rfl

theorem effPugDsmClock_fixed (t : Ticket) (p : Pkt) (s : State) : (effPugDsmClock t p s).fixed = s.fixed := by
  unfold effPugDsmClock
  repeat' first
    | simp only [↓State.ends_fixed, ↓fixed_mk, ↓apply_ite State.fixed, fixed_eta, ite_self]
    | split
    | rfl

theorem effPugTimer_fixed (t : Ticket) (p : Pkt) (s : State) : (effPugTimer t p s).fixed = s.fixed := by
  unfold effPugTimer
  repeat' first
    | simp only [↓State.answer_fixed, ↓State.ends_fixed, ↓State.slotsStart_fixed, ↓State.slotsStop_fixed, ↓fixed_mk,
        ↓apply_ite State.fixed, fixed_eta, ite_self]
    | split
    | rfl

theorem effPugRecal_fixed (t : Ticket) (p : Pkt) (s : State) : (effPugRecal t p s).fixed = s.fixed := by
  unfold effPugRecal
  repeat' first
    | simp only [↓State.modSlot_fixed, ↓State.ends_fixed, ↓State.finishFir_fixed, ↓fixed_mk, ↓apply_ite State.fixed,
        fixed_eta, ite_self]
    | split
    | rfl

theorem evRecalEnd_fixed (off gain : Half) (s : State) : (evRecalEnd off gain s).fixed = s.fixed := by
  unfold evRecalEnd
  repeat' first
    | simp only [↓State.modSlot_fixed, ↓State.ends_fixed, ↓State.countUpset_fixed, ↓fixed_mk, ↓apply_ite State.fixed,
        fixed_eta, ite_self]
    | split
    | rfl

theorem State.sarChecks_fixed (s : State) (n : Nat) (oks : List Bool) : (State.sarChecks s n oks).fixed = s.fixed := by
  unfold State.sarChecks
  repeat' first
    | with_reducible refine (foldl_fixed _ _ _ (fun _ _ => ?_)).trans ?_
    | simp only [↓State.modSlot_fixed, ↓State.countUpset_fixed, ↓State.detect_fixed, ↓State.runFailed_fixed,
        ↓fixed_mk, ↓apply_ite State.fixed, fixed_eta, ite_self]
    | split
    | rfl

theorem State.frameSlot_fixed (s : State) (n fno ready : Nat) (inp : Option SlotInput) : (State.frameSlot s n fno ready
    inp).fixed = s.fixed := by
  unfold State.frameSlot
  repeat' first
    | simp only [↓State.modSlot_fixed, ↓State.finishFir_fixed, ↓State.sarChecks_fixed, ↓fixed_mk, ↓apply_ite
        State.fixed, fixed_eta, ite_self]
    | split
    | rfl

theorem State.frame_fixed (s : State) (src : Nat) (inputs : List SlotInput) : (State.frame s src inputs).fixed = s.fixed := by
  unfold State.frame
  repeat' first
    | with_reducible refine (forEach_fixed _ _ _ (fun _ _ => ?_)).trans ?_
    | simp only [↓State.frameSlot_fixed, ↓fixed_mk, ↓apply_ite State.fixed, fixed_eta, ite_self]
    | split
    | rfl

theorem evPugFrame_fixed (src : Fin 10) (inputs : List SlotInput) (s : State) : (evPugFrame src inputs s).fixed = s.fixed :=
    by
  unfold evPugFrame
  repeat' first
    | simp only [↓State.advanceTo_fixed, ↓State.alignClocks_fixed, ↓State.frame_fixed, ↓fixed_mk, ↓apply_ite
        State.fixed, fixed_eta, ite_self]
    | split
    | rfl

theorem State.compare_fixed (s : State) (k : Nat) : (State.compare s k).fixed = s.fixed := by
  unfold State.compare
  repeat' first
    | simp only [↓State.modTrip_fixed, ↓State.tripActive_fixed, ↓fixed_mk, ↓apply_ite State.fixed, fixed_eta, ite_self]
    | split
    | rfl

theorem evSlotOutputReady_fixed (slot : Fin 48) (s : State) : (evSlotOutputReady slot s).fixed = s.fixed := by
  unfold evSlotOutputReady
  repeat' first
    | with_reducible refine (forEach_fixed _ _ _ (fun _ _ => ?_)).trans ?_
    | simp only [↓State.modSlot_fixed, ↓State.advanceTo_fixed, ↓State.answer_fixed, ↓State.notePeak_fixed,
        ↓State.judgePrecharge_fixed, ↓State.compare_fixed, ↓fixed_mk, ↓apply_ite State.fixed, fixed_eta, ite_self]
    | split
    | rfl

theorem evPrechargeDone_fixed (b : Fin 8) (s : State) : (evPrechargeDone b s).fixed = s.fixed := by
  unfold evPrechargeDone
  repeat' first
    | simp only [↓evSlotOutputReady_fixed, ↓fixed_mk, ↓apply_ite State.fixed, fixed_eta, ite_self]
    | split
    | rfl

theorem State.posUpTo_fixed (s : State) (n : Nat) : (State.posUpTo s n).fixed = s.fixed := by
  unfold State.posUpTo
  repeat' first
    | simp only [↓State.modPos_fixed, ↓fixed_mk, ↓apply_ite State.fixed, fixed_eta, ite_self]
    | split
    | rfl

theorem effPugRead_fixed (t : Ticket) (p : Pkt) (s : State) : (effPugRead t p s).fixed = s.fixed := by
  unfold effPugRead
  repeat' first
    | simp only [↓State.answer_fixed, ↓State.posUpTo_fixed, ↓fixed_mk, ↓apply_ite State.fixed, fixed_eta, ite_self]
    | split
    | rfl

theorem effPugStatus_fixed (t : Ticket) (p : Pkt) (s : State) : (effPugStatus t p s).fixed = s.fixed := by
  unfold effPugStatus
  repeat' first
    | simp only [↓State.modSlot_fixed, ↓State.modPos_fixed, ↓State.answer_fixed, ↓State.ends_fixed,
        ↓State.posUpTo_fixed, ↓fixed_mk, ↓apply_ite State.fixed, fixed_eta, ite_self]
    | split
    | rfl

theorem effPugPosConfig_fixed (t : Ticket) (p : Pkt) (s : State) : (effPugPosConfig t p s).fixed = s.fixed := by
  unfold effPugPosConfig
  repeat' first
    | with_reducible refine (forEach_fixed _ _ _ (fun _ _ => ?_)).trans ?_
    | simp only [↓State.modSlot_fixed, ↓State.modPos_fixed, ↓State.ends_fixed, ↓fixed_mk, ↓apply_ite State.fixed,
        fixed_eta, ite_self]
    | split
    | rfl

theorem State.posUpset_fixed (s : State) (n : Nat) : (State.posUpset s n).fixed = s.fixed := by
  unfold State.posUpset
  repeat' first
    | simp only [↓State.modPos_fixed, ↓State.countUpset_fixed, ↓State.detect_fixed, ↓fixed_mk, ↓apply_ite State.fixed,
        fixed_eta, ite_self]
    | split
    | rfl

theorem evQuadratureEdge_fixed (n : Fin 4) (a b : Bool) (s : State) : (evQuadratureEdge n a b s).fixed = s.fixed := by
  unfold evQuadratureEdge
  repeat' first
    | simp only [↓State.modPos_fixed, ↓State.posUpTo_fixed, ↓State.posUpset_fixed, ↓fixed_mk, ↓apply_ite State.fixed,
        fixed_eta, ite_self]
    | split
    | rfl

theorem evZEdge_fixed (n : Fin 4) (s : State) : (evZEdge n s).fixed = s.fixed := by
  unfold evZEdge
  repeat' first
    | simp only [↓State.modPos_fixed, ↓State.countUpset_fixed, ↓State.runFailed_fixed, ↓State.posUpTo_fixed,
        ↓State.posUpset_fixed, ↓fixed_mk, ↓apply_ite State.fixed, fixed_eta, ite_self]
    | split
    | rfl

theorem evResolverPeriod_fixed (n : Fin 4) (pairs : Vector (Half × Half) 16) (s : State) : (evResolverPeriod n pairs s).fixed
    = s.fixed := by
  unfold evResolverPeriod
  repeat' first
    | simp only [↓State.modPos_fixed, ↓State.advanceTo_fixed, ↓State.countUpset_fixed, ↓State.runFailed_fixed,
        ↓State.posUpset_fixed, ↓fixed_mk, ↓apply_ite State.fixed, fixed_eta, ite_self]
    | split
    | rfl

theorem evMeasurementUpset_fixed (kind : Fin 3) (unit : Fin 48) (s : State) : (evMeasurementUpset kind unit s).fixed = s.fixed
    := by
  unfold evMeasurementUpset
  repeat' first
    | simp only [↓State.modSlot_fixed, ↓State.detect_fixed, ↓State.posUpset_fixed, ↓fixed_mk, ↓apply_ite State.fixed,
        fixed_eta, ite_self]
    | split
    | rfl

theorem State.contactorClosed_fixed (s : State) (g : Nat) : (State.contactorClosed s g).fixed = s.fixed := by
  unfold State.contactorClosed
  repeat' first
    | simp only [↓State.rampFromDead_fixed, ↓State.rampFromLive_fixed, ↓State.closeDead_fixed, ↓State.closeLive_fixed,
        ↓fixed_mk, ↓apply_ite State.fixed, fixed_eta, ite_self]
    | split
    | rfl

theorem State.latchOuter_fixed (s : State) (b : Nat) : (State.latchOuter s b).fixed = s.fixed := by
  unfold State.latchOuter
  repeat' first
    | simp only [↓State.modGf_fixed, ↓fixed_mk, ↓apply_ite State.fixed, fixed_eta, ite_self]
    | split
    | rfl

theorem State.holdoffDone_fixed (s : State) (g : Nat) : (State.holdoffDone s g).fixed = s.fixed := by
  unfold State.holdoffDone
  repeat' first
    | simp only [↓State.enterPhase_fixed, ↓State.closeDead_fixed, ↓fixed_mk, ↓apply_ite State.fixed, fixed_eta,
        ite_self]
    | split
    | rfl

theorem State.setLimiting_fixed (s : State) (g : Nat) (on : Bool) : (State.setLimiting s g on).fixed = s.fixed := by
  unfold State.setLimiting
  repeat' first
    | simp only [↓State.modB_fixed, ↓fixed_mk, ↓apply_ite State.fixed, fixed_eta, ite_self]
    | split
    | rfl

theorem State.engageLimit_fixed (s : State) (g : Nat) : (State.engageLimit s g).fixed = s.fixed := by
  unfold State.engageLimit
  repeat' first
    | simp only [↓State.modGf_fixed, ↓State.setLimiting_fixed, ↓fixed_mk, ↓apply_ite State.fixed, fixed_eta, ite_self]
    | split
    | rfl

theorem State.releaseLimit_fixed (s : State) (g : Nat) : (State.releaseLimit s g).fixed = s.fixed := by
  unfold State.releaseLimit
  repeat' first
    | simp only [↓State.modGf_fixed, ↓State.setLimiting_fixed, ↓fixed_mk, ↓apply_ite State.fixed, fixed_eta, ite_self]
    | split
    | rfl

theorem State.gfFault_fixed (s : State) (g cause : Nat) : (State.gfFault s g cause).fixed = s.fixed := by
  unfold State.gfFault
  repeat' first
    | simp only [↓State.enterSafe_fixed, ↓fixed_mk, ↓apply_ite State.fixed, fixed_eta, ite_self]
    | split
    | rfl

theorem effGfConfig_fixed (t : Ticket) (p : Pkt) (s : State) : (effGfConfig t p s).fixed = s.fixed := by
  unfold effGfConfig
  repeat' first
    | simp only [↓State.modGf_fixed, ↓State.answer_fixed, ↓State.ends_fixed, ↓fixed_mk, ↓apply_ite State.fixed,
        fixed_eta, ite_self]
    | split
    | rfl

theorem effGfTune_fixed (t : Ticket) (p : Pkt) (s : State) : (effGfTune t p s).fixed = s.fixed := by
  unfold effGfTune
  repeat' first
    | simp only [↓State.modGf_fixed, ↓State.answer_fixed, ↓State.ends_fixed, ↓fixed_mk, ↓apply_ite State.fixed,
        fixed_eta, ite_self]
    | split
    | rfl

theorem effGfSetpoint_fixed (t : Ticket) (p : Pkt) (s : State) : (effGfSetpoint t p s).fixed = s.fixed := by
  unfold effGfSetpoint
  repeat' first
    | simp only [↓State.modGf_fixed, ↓State.ends_fixed, ↓fixed_mk, ↓apply_ite State.fixed, fixed_eta, ite_self]
    | split
    | rfl

theorem effGfSecondary_fixed (t : Ticket) (p : Pkt) (s : State) : (effGfSecondary t p s).fixed = s.fixed := by
  unfold effGfSecondary
  repeat' first
    | simp only [↓State.modGf_fixed, ↓State.ends_fixed, ↓fixed_mk, ↓apply_ite State.fixed, fixed_eta, ite_self]
    | split
    | rfl

theorem effGfStatus_fixed (t : Ticket) (p : Pkt) (s : State) : (effGfStatus t p s).fixed = s.fixed := by
  unfold effGfStatus
  repeat' first
    | simp only [↓State.answer_fixed, ↓State.ends_fixed, ↓fixed_mk, ↓apply_ite State.fixed, fixed_eta, ite_self]
    | split
    | rfl

theorem evGfLimitRelease_fixed (g : Fin 4) (s : State) : (evGfLimitRelease g s).fixed = s.fixed := by
  unfold evGfLimitRelease
  repeat' first
    | simp only [↓State.advanceTo_fixed, ↓State.releaseLimit_fixed, ↓fixed_mk, ↓apply_ite State.fixed, fixed_eta,
        ite_self]
    | split
    | rfl

theorem evGfRtTimeout_fixed (g : Fin 4) (s : State) : (evGfRtTimeout g s).fixed = s.fixed := by
  unfold evGfRtTimeout
  repeat' first
    | simp only [↓State.advanceTo_fixed, ↓State.releaseLimit_fixed, ↓State.gfFault_fixed, ↓fixed_mk, ↓apply_ite
        State.fixed, fixed_eta, ite_self]
    | split
    | rfl

theorem evGfWFault_fixed (g : Fin 4) (s : State) : (evGfWFault g s).fixed = s.fixed := by
  unfold evGfWFault
  repeat' first
    | simp only [↓State.advanceTo_fixed, ↓State.gfFault_fixed, ↓fixed_mk, ↓apply_ite State.fixed, fixed_eta, ite_self]
    | split
    | rfl

theorem evSecExpired_fixed (g : Fin 4) (s : State) : (evSecExpired g s).fixed = s.fixed := by
  unfold evSecExpired
  repeat' first
    | simp only [↓State.modGf_fixed, ↓State.advanceTo_fixed, ↓fixed_mk, ↓apply_ite State.fixed, fixed_eta, ite_self]
    | split
    | rfl

theorem State.setDeadBus_fixed (s : State) (g : Nat) : (State.setDeadBus s g).fixed = s.fixed := by
  unfold State.setDeadBus
  repeat' first
    | simp only [↓State.modGf_fixed, ↓State.enterPhase_fixed, ↓fixed_mk, ↓apply_ite State.fixed, fixed_eta, ite_self]
    | split
    | rfl

theorem evDeadBusSet_fixed (g : Fin 4) (s : State) : (evDeadBusSet g s).fixed = s.fixed := by
  unfold evDeadBusSet
  repeat' first
    | simp only [↓State.advanceTo_fixed, ↓State.setDeadBus_fixed, ↓fixed_mk, ↓apply_ite State.fixed, fixed_eta,
        ite_self]
    | split
    | rfl

theorem evHoldoffEnd_fixed (g : Fin 4) (s : State) : (evHoldoffEnd g s).fixed = s.fixed := by
  unfold evHoldoffEnd
  repeat' first
    | simp only [↓State.advanceTo_fixed, ↓State.holdoffDone_fixed, ↓fixed_mk, ↓apply_ite State.fixed, fixed_eta,
        ite_self]
    | split
    | rfl

theorem evWaitLiveQualified_fixed (g : Fin 4) (s : State) : (evWaitLiveQualified g s).fixed = s.fixed := by
  unfold evWaitLiveQualified
  repeat' first
    | simp only [↓State.advanceTo_fixed, ↓State.enterPhase_fixed, ↓fixed_mk, ↓apply_ite State.fixed, fixed_eta,
        ite_self]
    | split
    | rfl

theorem evJoinWindowsQualified_fixed (g : Fin 4) (s : State) : (evJoinWindowsQualified g s).fixed = s.fixed := by
  unfold evJoinWindowsQualified
  repeat' first
    | simp only [↓State.advanceTo_fixed, ↓State.closeLive_fixed, ↓fixed_mk, ↓apply_ite State.fixed, fixed_eta,
        ite_self]
    | split
    | rfl

theorem evJoinFbRise_fixed (g : Fin 4) (s : State) : (evJoinFbRise g s).fixed = s.fixed := by
  unfold evJoinFbRise
  repeat' first
    | simp only [↓State.modGf_fixed, ↓State.rampFromDead_fixed, ↓State.rampFromLive_fixed, ↓State.closeDead_fixed,
        ↓State.closeLive_fixed, ↓fixed_mk, ↓apply_ite State.fixed, fixed_eta, ite_self]
    | split
    | rfl

theorem State.detach_fixed (s : State) (g : Nat) : (State.detach s g).fixed = s.fixed := by
  unfold State.detach
  repeat' first
    | simp only [↓State.modGf_fixed, ↓fixed_mk, ↓apply_ite State.fixed, fixed_eta, ite_self]
    | split
    | rfl

theorem evJoinFbFall_fixed (g : Fin 4) (s : State) : (evJoinFbFall g s).fixed = s.fixed := by
  unfold evJoinFbFall
  repeat' first
    | simp only [↓State.modGf_fixed, ↓State.enterPhase_fixed, ↓State.detach_fixed, ↓fixed_mk, ↓apply_ite State.fixed,
        fixed_eta, ite_self]
    | split
    | rfl

theorem evContactorAssumedClosed_fixed (g : Fin 4) (s : State) : (evContactorAssumedClosed g s).fixed = s.fixed := by
  unfold evContactorAssumedClosed
  repeat' first
    | simp only [↓State.modGf_fixed, ↓State.advanceTo_fixed, ↓State.closeDead_fixed, ↓State.closeLive_fixed,
        ↓State.contactorClosed_fixed, ↓fixed_mk, ↓apply_ite State.fixed, fixed_eta, ite_self]
    | split
    | rfl

theorem evContactorTimeout_fixed (g : Fin 4) (s : State) : (evContactorTimeout g s).fixed = s.fixed := by
  unfold evContactorTimeout
  repeat' first
    | simp only [↓State.advanceTo_fixed, ↓State.enterPhase_fixed, ↓State.closeDead_fixed, ↓State.closeLive_fixed,
        ↓fixed_mk, ↓apply_ite State.fixed, fixed_eta, ite_self]
    | split
    | rfl

theorem evRetryWaitEnd_fixed (g : Fin 4) (s : State) : (evRetryWaitEnd g s).fixed = s.fixed := by
  unfold evRetryWaitEnd
  repeat' first
    | simp only [↓State.advanceTo_fixed, ↓State.takePath_fixed, ↓fixed_mk, ↓apply_ite State.fixed, fixed_eta, ite_self]
    | split
    | rfl

theorem evDetachment_fixed (g : Fin 4) (s : State) : (evDetachment g s).fixed = s.fixed := by
  unfold evDetachment
  repeat' first
    | simp only [↓State.advanceTo_fixed, ↓State.detach_fixed, ↓fixed_mk, ↓apply_ite State.fixed, fixed_eta, ite_self]
    | split
    | rfl

theorem State.pubPut_fixed (s : State) (sp a : Nat) (bs : List Byte) : (State.pubPut s sp a bs).fixed = s.fixed := by
  unfold State.pubPut
  repeat' first
    | simp only [↓State.modCyc_fixed, ↓fixed_mk, ↓apply_ite State.fixed, fixed_eta, ite_self]
    | split
    | rfl

theorem State.applyWrite_fixed (s : State) (w : VarWait) : (State.applyWrite s w).fixed = s.fixed := by
  unfold State.applyWrite
  repeat' first
    | simp only [↓State.answer_fixed, ↓State.ends_fixed, ↓State.pubPut_fixed, ↓fixed_mk, ↓apply_ite State.fixed,
        fixed_eta, ite_self]
    | split
    | rfl

theorem State.applyRead_fixed (s : State) (w : VarWait) : (State.applyRead s w).fixed = s.fixed := by
  unfold State.applyRead
  repeat' first
    | simp only [↓State.answer_fixed, ↓fixed_mk, ↓apply_ite State.fixed, fixed_eta, ite_self]
    | split
    | rfl

theorem State.stationPhase_fixed (s : State) (k tc n : Nat) : (State.stationPhase s k tc n).fixed = s.fixed := by
  unfold State.stationPhase
  repeat' first
    | simp only [↓State.modStation_fixed, ↓State.pubPut_fixed, ↓fixed_mk, ↓apply_ite State.fixed, fixed_eta, ite_self]
    | split
    | rfl

theorem State.statusBlocks_fixed (s : State) (k : Nat) : (State.statusBlocks s k).fixed = s.fixed := by
  unfold State.statusBlocks
  repeat' first
    | with_reducible refine (forEach_fixed _ _ _ (fun _ _ => ?_)).trans ?_
    | simp only [↓State.pubPut_fixed, ↓fixed_mk, ↓apply_ite State.fixed, fixed_eta, ite_self]
    | split
    | rfl

theorem State.forcesTurn_fixed (s : State) (k : Nat) : (State.forcesTurn s k).fixed = s.fixed := by
  unfold State.forcesTurn
  repeat' first
    | simp only [↓State.modCyc_fixed, ↓fixed_mk, ↓apply_ite State.fixed, fixed_eta, ite_self]
    | split
    | rfl

theorem State.resolveForce_fixed (s : State) (w : VarWait) : (State.resolveForce s w).fixed = s.fixed := by
  unfold State.resolveForce
  repeat' first
    | simp only [↓State.ends_fixed, ↓State.modCyc_fixed, ↓fixed_mk, ↓apply_ite State.fixed, fixed_eta, ite_self]
    | split
    | rfl

theorem State.resolveForces_fixed (s : State) : (State.resolveForces s).fixed = s.fixed := by
  unfold State.resolveForces
  repeat' first
    | with_reducible refine (foldl_fixed _ _ _ (fun _ _ => ?_)).trans ?_
    | simp only [↓State.modCyc_fixed, ↓State.resolveForce_fixed, ↓fixed_mk, ↓apply_ite State.fixed, fixed_eta,
        ite_self]
    | split
    | rfl

theorem State.inputPhase_fixed (s : State) (k tc : Nat) : (State.inputPhase s k tc).fixed = s.fixed := by
  unfold State.inputPhase
  repeat' first
    | with_reducible refine (forEach_fixed _ _ _ (fun _ _ => ?_)).trans ?_
    | with_reducible refine (foldl_fixed _ _ _ (fun _ _ => ?_)).trans ?_
    | simp only [↓State.modCyc_fixed, ↓State.modRun_fixed, ↓State.applyWrite_fixed, ↓State.stationPhase_fixed,
        ↓State.statusBlocks_fixed, ↓State.forcesTurn_fixed, ↓State.resolveForces_fixed, ↓fixed_mk, ↓apply_ite
        State.fixed, fixed_eta, ite_self]
    | split
    | rfl

theorem State.transfer_fixed (s : State) (k : Nat) : (State.transfer s k).fixed = s.fixed := by
  unfold State.transfer
  repeat' first
    | with_reducible refine (forEach_fixed _ _ _ (fun _ _ => ?_)).trans ?_
    | simp only [↓State.modGf_fixed, ↓State.modLc_fixed, ↓fixed_mk, ↓apply_ite State.fixed, fixed_eta, ite_self]
    | split
    | rfl

theorem State.publish_fixed (s : State) (r : Nat) : (State.publish s r).fixed = s.fixed := by
  unfold State.publish
  repeat' first
    | with_reducible refine (foldl_fixed _ _ _ (fun _ _ => ?_)).trans ?_
    | simp only [↓State.modCyc_fixed, ↓fixed_mk, ↓apply_ite State.fixed, fixed_eta, ite_self]
    | split
    | rfl

theorem State.retainCommit_fixed (s : State) (r : Nat) : (State.retainCommit s r).fixed = s.fixed := by
  unfold State.retainCommit
  repeat' first
    | with_reducible refine (foldl_fixed _ _ _ (fun _ _ => ?_)).trans ?_
    | simp only [↓State.commitRetain_fixed, ↓fixed_mk, ↓apply_ite State.fixed, fixed_eta, ite_self]
    | split
    | rfl

theorem State.endRun_fixed (s : State) (r : Nat) : (State.endRun s r).fixed = s.fixed := by
  unfold State.endRun
  repeat' first
    | simp only [↓State.modRun_fixed, ↓State.publish_fixed, ↓State.retainCommit_fixed, ↓fixed_mk, ↓apply_ite
        State.fixed, fixed_eta, ite_self]
    | split
    | rfl

theorem State.readsTurn_fixed (s : State) (mine : EicSymbol → Bool) : (State.readsTurn s mine).fixed = s.fixed := by
  unfold State.readsTurn
  repeat' first
    | with_reducible refine (foldl_fixed _ _ _ (fun _ _ => ?_)).trans ?_
    | simp only [↓State.modCyc_fixed, ↓State.applyRead_fixed, ↓fixed_mk, ↓apply_ite State.fixed, fixed_eta, ite_self]
    | split
    | rfl

theorem State.stopIfIdle_fixed (s : State) : (State.stopIfIdle s).fixed = s.fixed := by
  unfold State.stopIfIdle
  repeat' first
    | simp only [↓State.endAll_fixed, ↓State.modCyc_fixed, ↓fixed_mk, ↓apply_ite State.fixed, fixed_eta, ite_self]
    | split
    | rfl

theorem State.initData_fixed (s : State) (cold : Bool) : (State.initData s cold).fixed = s.fixed := by
  unfold State.initData
  repeat' first
    | simp only [↓State.modCyc_fixed, ↓State.commitRetain_fixed, ↓fixed_mk, ↓apply_ite State.fixed, fixed_eta,
        ite_self]
    | split
    | rfl

theorem State.startTasks_fixed (s : State) : (State.startTasks s).fixed = s.fixed := by
  unfold State.startTasks
  repeat' first
    | with_reducible refine (forEach_fixed _ _ _ (fun _ _ => ?_)).trans ?_
    | simp only [↓State.modRun_fixed, ↓fixed_mk, ↓apply_ite State.fixed, fixed_eta, ite_self]
    | split
    | rfl

theorem effCycConfig_fixed (t : Ticket) (p : Pkt) (s : State) : (effCycConfig t p s).fixed = s.fixed := by
  unfold effCycConfig
  repeat' first
    | simp only [↓State.ends_fixed, ↓State.modCyc_fixed, ↓fixed_mk, ↓apply_ite State.fixed, fixed_eta, ite_self]
    | split
    | rfl

theorem effCycLoad_fixed (t : Ticket) (p : Pkt) (s : State) : (effCycLoad t p s).fixed = s.fixed := by
  unfold effCycLoad
  repeat' first
    | simp only [↓State.ends_fixed, ↓State.modCyc_fixed, ↓fixed_mk, ↓apply_ite State.fixed, fixed_eta, ite_self]
    | split
    | rfl

theorem effCycVerify_fixed (t : Ticket) (x1 : Pkt) (s : State) : (effCycVerify t x1 s).fixed = s.fixed := by
  unfold effCycVerify
  repeat' first
    | simp only [↓State.draw_fixed, ↓State.answer_fixed, ↓State.report_fixed, ↓State.modCyc_fixed, ↓fixed_mk,
        ↓apply_ite State.fixed, fixed_eta, ite_self]
    | split
    | rfl

theorem State.carryOne_fixed (s old : State) (p : EicSymbol × EicSymbol) : (State.carryOne s old p).fixed = s.fixed := by
  unfold State.carryOne
  repeat' first
    | simp only [↓State.pubPut_fixed, ↓fixed_mk, ↓apply_ite State.fixed, fixed_eta, ite_self]
    | split
    | rfl

theorem State.carryWaits_fixed (s : State) (img : List Byte) : (State.carryWaits s img).fixed = s.fixed := by
  unfold State.carryWaits
  repeat' first
    | with_reducible refine (foldl_fixed _ _ _ (fun _ _ => ?_)).trans ?_
    | simp only [↓State.ends_fixed, ↓State.modCyc_fixed, ↓fixed_mk, ↓apply_ite State.fixed, fixed_eta, ite_self]
    | split
    | rfl

theorem State.switchImage_fixed (s : State) : (State.switchImage s).1.fixed = s.fixed := by
  unfold State.switchImage
  repeat' first
    | with_reducible refine (forEach_fixed _ _ _ (fun _ _ => ?_)).trans ?_
    | with_reducible refine (foldl_fixed _ _ _ (fun _ _ => ?_)).trans ?_
    | simp only [↓State.modCyc_fixed, ↓State.commitRetain_fixed, ↓State.freeContext_fixed, ↓State.resolveForces_fixed,
        ↓State.carryOne_fixed, ↓State.carryWaits_fixed, ↓fixed_mk, ↓apply_ite State.fixed, fixed_eta, ite_self]
    | split
    | rfl

theorem State.endChange_fixed (s : State) (c : CycChange) (l : ChangeList) (at_ : Nat) : (State.endChange s c l at_).fixed =
    s.fixed := by
  unfold State.endChange
  repeat' first
    | simp only [↓State.answer_fixed, ↓fixed_mk, ↓apply_ite State.fixed, fixed_eta, ite_self]
    | split
    | rfl

theorem effCycChange_fixed (t : Ticket) (p : Pkt) (s : State) : (effCycChange t p s).fixed = s.fixed := by
  unfold effCycChange
  repeat' first
    | with_reducible refine (foldl_fixed _ _ _ (fun _ _ => ?_)).trans ?_
    | simp only [↓State.ends_fixed, ↓State.modCyc_fixed, ↓State.switchImage_fixed, ↓State.endChange_fixed, ↓fixed_mk,
        ↓apply_ite State.fixed, fixed_eta, ite_self]
    | split
    | rfl

theorem evChangeSwitch_fixed (s : State) : (evChangeSwitch s).fixed = s.fixed := by
  unfold evChangeSwitch
  repeat' first
    | with_reducible refine (forEach_fixed _ _ _ (fun _ _ => ?_)).trans ?_
    | with_reducible refine (foldl_fixed _ _ _ (fun _ _ => ?_)).trans ?_
    | simp only [↓State.advanceToNs_fixed, ↓State.ends_fixed, ↓State.modCyc_fixed, ↓State.modRun_fixed,
        ↓State.switchImage_fixed, ↓State.endChange_fixed, ↓fixed_mk, ↓apply_ite State.fixed, fixed_eta, ite_self]
    | split
    | rfl

theorem State.leaveHold_fixed (s : State) (ts : List Ticket) : (State.leaveHold s ts).fixed = s.fixed := by
  unfold State.leaveHold
  repeat' first
    | simp only [↓State.modCyc_fixed, ↓State.stopIfIdle_fixed, ↓fixed_mk, ↓apply_ite State.fixed, fixed_eta, ite_self]
    | split
    | rfl

theorem effCycMode_fixed (t : Ticket) (p : Pkt) (s : State) : (effCycMode t p s).fixed = s.fixed := by
  unfold effCycMode
  repeat' first
    | simp only [↓State.ends_fixed, ↓State.endAll_fixed, ↓State.modCyc_fixed, ↓State.stopIfIdle_fixed,
        ↓State.initData_fixed, ↓State.startTasks_fixed, ↓State.leaveHold_fixed, ↓fixed_mk, ↓apply_ite State.fixed,
        fixed_eta, ite_self]
    | split
    | rfl

theorem effCycStation_fixed (t : Ticket) (p : Pkt) (s : State) : (effCycStation t p s).fixed = s.fixed := by
  unfold effCycStation
  repeat' first
    | simp only [↓State.ends_fixed, ↓State.modStation_fixed, ↓fixed_mk, ↓apply_ite State.fixed, fixed_eta, ite_self]
    | split
    | rfl

theorem effCycForce_fixed (t : Ticket) (p : Pkt) (s : State) : (effCycForce t p s).fixed = s.fixed := by
  unfold effCycForce
  repeat' first
    | simp only [↓State.ends_fixed, ↓State.modCyc_fixed, ↓fixed_mk, ↓apply_ite State.fixed, fixed_eta, ite_self]
    | split
    | rfl

theorem effCycRead_fixed (t : Ticket) (p : Pkt) (s : State) : (effCycRead t p s).fixed = s.fixed := by
  unfold effCycRead
  repeat' first
    | simp only [↓State.answer_fixed, ↓State.ends_fixed, ↓State.modCyc_fixed, ↓State.applyRead_fixed, ↓fixed_mk,
        ↓apply_ite State.fixed, fixed_eta, ite_self]
    | split
    | rfl

theorem effCycWrite_fixed (t : Ticket) (p : Pkt) (s : State) : (effCycWrite t p s).fixed = s.fixed := by
  unfold effCycWrite
  repeat' first
    | simp only [↓State.ends_fixed, ↓State.modCyc_fixed, ↓State.applyWrite_fixed, ↓fixed_mk, ↓apply_ite State.fixed,
        fixed_eta, ite_self]
    | split
    | rfl

theorem State.stepHeld_fixed (s : State) (r : Nat) : (State.stepHeld s r).fixed = s.fixed := by
  unfold State.stepHeld
  repeat' first
    | simp only [↓State.plainIns_fixed, ↓State.systemIns_fixed, ↓State.endRun_fixed, ↓State.readsTurn_fixed,
        ↓fixed_mk, ↓apply_ite State.fixed, fixed_eta, ite_self]
    | split
    | rfl

theorem State.continueHeld_fixed (s : State) (r n : Nat) : (s.continueHeld r n).fixed = s.fixed := by
  induction n generalizing s with
  | zero => rfl
  | succ n ih =>
    unfold State.continueHeld
    simp only
    split
    · exact State.stepHeld_fixed s r
    · rw [ih, State.stepHeld_fixed]

theorem effCycDebug_fixed (t : Ticket) (p : Pkt) (s : State) : (effCycDebug t p s).fixed = s.fixed := by
  unfold effCycDebug
  repeat' first
    | simp only [↓State.ends_fixed, ↓State.modCyc_fixed, ↓State.stepHeld_fixed, ↓State.continueHeld_fixed, ↓fixed_mk,
        ↓apply_ite State.fixed, fixed_eta, ite_self]
    | split
    | rfl

theorem effCycStore_fixed (t : Ticket) (x1 : Pkt) (s : State) : (effCycStore t x1 s).fixed = s.fixed := by
  unfold effCycStore
  repeat' first
    | simp only [↓fixed_mk, ↓apply_ite State.fixed, fixed_eta, ite_self]
    | split
    | rfl

theorem effCycDiscard_fixed (t : Ticket) (x1 : Pkt) (s : State) : (effCycDiscard t x1 s).fixed = s.fixed := by
  unfold effCycDiscard
  repeat' first
    | simp only [↓State.answer_fixed, ↓State.ends_fixed, ↓State.modCyc_fixed, ↓fixed_mk, ↓apply_ite State.fixed,
        fixed_eta, ite_self]
    | split
    | rfl

theorem effCycStatus_fixed (t : Ticket) (x1 : Pkt) (s : State) : (effCycStatus t x1 s).fixed = s.fixed := by
  unfold effCycStatus
  repeat' first
    | simp only [↓State.answer_fixed, ↓State.modCyc_fixed, ↓fixed_mk, ↓apply_ite State.fixed, fixed_eta, ite_self]
    | split
    | rfl

theorem evKilnSitterTrip_fixed (s : State) : (evKilnSitterTrip s).fixed = s.fixed := by
  unfold evKilnSitterTrip
  repeat' first
    | with_reducible refine (foldl_fixed _ _ _ (fun _ _ => ?_)).trans ?_
    | simp only [↓State.advanceToNs_fixed, ↓State.stopEngine_fixed, ↓fixed_mk, ↓apply_ite State.fixed, fixed_eta,
        ite_self]
    | split
    | rfl

theorem State.beginCycle_fixed (s : State) (k tc : Nat) : (State.beginCycle s k tc).fixed = s.fixed := by
  unfold State.beginCycle
  repeat' first
    | with_reducible refine (foldl_fixed _ _ _ (fun _ _ => ?_)).trans ?_
    | simp only [↓State.answer_fixed, ↓State.modCyc_fixed, ↓State.modRun_fixed, ↓State.inputPhase_fixed, ↓fixed_mk,
        ↓apply_ite State.fixed, fixed_eta, ite_self]
    | split
    | rfl

theorem State.idlePhase_fixed (s : State) (k tc : Nat) : (State.idlePhase s k tc).fixed = s.fixed := by
  unfold State.idlePhase
  repeat' first
    | simp only [↓State.inputPhase_fixed, ↓State.readsTurn_fixed, ↓fixed_mk, ↓apply_ite State.fixed, fixed_eta,
        ite_self]
    | split
    | rfl

theorem evCycleStart_fixed (k : Fin 4) (s : State) : (evCycleStart k s).fixed = s.fixed := by
  unfold evCycleStart
  repeat' first
    | simp only [↓State.advanceToNs_fixed, ↓State.modRun_fixed, ↓State.stopEngine_fixed, ↓State.beginCycle_fixed,
        ↓State.idlePhase_fixed, ↓fixed_mk, ↓apply_ite State.fixed, fixed_eta, ite_self]
    | split
    | rfl

theorem evCycleEnd_fixed (k : Fin 4) (s : State) : (evCycleEnd k s).fixed = s.fixed := by
  unfold evCycleEnd
  repeat' first
    | simp only [↓State.modRun_fixed, ↓State.runToEnd_fixed, ↓State.transfer_fixed, ↓State.endRun_fixed,
        ↓State.readsTurn_fixed, ↓State.stopIfIdle_fixed, ↓fixed_mk, ↓apply_ite State.fixed, fixed_eta, ite_self]
    | split
    | rfl

theorem evEventTaskEnd_fixed (s : State) : (evEventTaskEnd s).fixed = s.fixed := by
  unfold evEventTaskEnd
  repeat' first
    | simp only [↓State.freeLane_fixed, ↓State.runToEnd_fixed, ↓State.endRun_fixed, ↓State.readsTurn_fixed,
        ↓State.stopIfIdle_fixed, ↓fixed_mk, ↓apply_ite State.fixed, fixed_eta, ite_self]
    | split
    | rfl

theorem evOutputWindow_fixed (k : Fin 4) (s : State) : (evOutputWindow k s).fixed = s.fixed := by
  unfold evOutputWindow
  repeat' first
    | simp only [↓State.advanceToNs_fixed, ↓State.modCyc_fixed, ↓fixed_mk, ↓apply_ite State.fixed, fixed_eta, ite_self]
    | split
    | rfl

theorem State.restoreRetain_fixed (s : State) : (State.restoreRetain s).fixed = s.fixed := by
  unfold State.restoreRetain
  repeat' first
    | simp only [↓State.modCyc_fixed, ↓State.initData_fixed, ↓fixed_mk, ↓apply_ite State.fixed, fixed_eta, ite_self]
    | split
    | rfl

theorem evImageBootLoad_fixed (s : State) : (evImageBootLoad s).fixed = s.fixed := by
  unfold evImageBootLoad
  repeat' first
    | simp only [↓State.modCyc_fixed, ↓State.startTasks_fixed, ↓State.restoreRetain_fixed, ↓fixed_mk, ↓apply_ite
        State.fixed, fixed_eta, ite_self]
    | split
    | rfl

theorem State.modTime_fixed (s : State) (f : TimeBase → TimeBase) : (State.modTime s f).fixed = s.fixed := by
  unfold State.modTime
  repeat' first
    | simp only [↓fixed_mk, ↓apply_ite State.fixed, fixed_eta, ite_self]
    | split
    | rfl

theorem State.modPort_fixed (s : State) (n : Nat) (f : EthPort → EthPort) : (State.modPort s n f).fixed = s.fixed := by
  unfold State.modPort
  repeat' first
    | simp only [↓fixed_mk, ↓apply_ite State.fixed, fixed_eta, ite_self]
    | split
    | rfl

theorem State.modRing_fixed (s : State) (f : Ring → Ring) : (State.modRing s f).fixed = s.fixed := by
  unfold State.modRing
  repeat' first
    | simp only [↓fixed_mk, ↓apply_ite State.fixed, fixed_eta, ite_self]
    | split
    | rfl

theorem State.refreshLock_fixed (s : State) : (State.refreshLock s).fixed = s.fixed := by
  unfold State.refreshLock
  repeat' first
    | simp only [↓State.report_fixed, ↓State.modTime_fixed, ↓fixed_mk, ↓apply_ite State.fixed, fixed_eta, ite_self]
    | split
    | rfl

theorem State.setDtb_fixed (s : State) (ns : Nat) : (s.setDtb ns).fixed = s.fixed := by
  have h1 : ∀ (s : State) (d : Nat), ({ s with dtb := d }).fixed = s.fixed := fun _ _ => rfl
  have h2 : ∀ (s : State) (p : Vector PugTimer 2) (q : Vector EthPort 2),
      ({ s with pugTimers := p, ports := q }).fixed = s.fixed := fun _ _ _ => rfl
  unfold State.setDtb
  rw [State.refreshLock_fixed, h2, State.modCyc_fixed, State.modWheel_fixed, State.modTime_fixed, h1]

theorem State.queueChange_fixed (s : State) (t : Ticket) (m : TimeMove) : (State.queueChange s t m).fixed = s.fixed := by
  unfold State.queueChange
  repeat' first
    | simp only [↓State.modTime_fixed, ↓fixed_mk, ↓apply_ite State.fixed, fixed_eta, ite_self]
    | split
    | rfl

theorem effTimeAdj_fixed (t : Ticket) (p : Pkt) (s : State) : (effTimeAdj t p s).fixed = s.fixed := by
  unfold effTimeAdj
  repeat' first
    | simp only [↓State.ends_fixed, ↓State.queueChange_fixed, ↓fixed_mk, ↓apply_ite State.fixed, fixed_eta, ite_self]
    | split
    | rfl

theorem effTimeStep_fixed (t : Ticket) (p : Pkt) (s : State) : (effTimeStep t p s).fixed = s.fixed := by
  unfold effTimeStep
  repeat' first
    | simp only [↓State.ends_fixed, ↓State.queueChange_fixed, ↓fixed_mk, ↓apply_ite State.fixed, fixed_eta, ite_self]
    | split
    | rfl

theorem State.durationBy_fixed (s : State) (at_ : Nat) : (State.durationBy s at_).fixed = s.fixed := by
  unfold State.durationBy
  repeat' first
    | simp only [↓State.advanceTo_fixed, ↓State.modTime_fixed, ↓fixed_mk, ↓apply_ite State.fixed, fixed_eta, ite_self]
    | split
    | rfl

theorem evIncrChange_fixed (s : State) : (evIncrChange s).fixed = s.fixed := by
  unfold evIncrChange
  repeat' first
    | simp only [↓State.advanceTo_fixed, ↓State.doneAt_fixed, ↓State.modTime_fixed, ↓State.durationBy_fixed,
        ↓fixed_mk, ↓apply_ite State.fixed, fixed_eta, ite_self]
    | split
    | rfl

theorem evDurationExpiry_fixed (s : State) : (evDurationExpiry s).fixed = s.fixed := by
  unfold evDurationExpiry
  repeat' first
    | simp only [↓State.durationBy_fixed, ↓fixed_mk, ↓apply_ite State.fixed, fixed_eta, ite_self]
    | split
    | rfl

theorem evTimeStepEffect_fixed (s : State) : (evTimeStepEffect s).fixed = s.fixed := by
  unfold evTimeStepEffect
  repeat' first
    | simp only [↓State.advanceTo_fixed, ↓State.ends_fixed, ↓State.doneAt_fixed, ↓State.modTime_fixed,
        ↓State.setDtb_fixed, ↓State.durationBy_fixed, ↓fixed_mk, ↓apply_ite State.fixed, fixed_eta, ite_self]
    | split
    | rfl

theorem State.takeSource_fixed (s : State) (src : Nat) : (State.takeSource s src).fixed = s.fixed := by
  unfold State.takeSource
  repeat' first
    | simp only [↓State.modTime_fixed, ↓State.modRing_fixed, ↓State.refreshLock_fixed, ↓fixed_mk, ↓apply_ite
        State.fixed, fixed_eta, ite_self]
    | split
    | rfl

theorem effTimeSource_fixed (t : Ticket) (p : Pkt) (s : State) : (effTimeSource t p s).fixed = s.fixed := by
  unfold effTimeSource
  repeat' first
    | simp only [↓State.ends_fixed, ↓State.takeSource_fixed, ↓fixed_mk, ↓apply_ite State.fixed, fixed_eta, ite_self]
    | split
    | rfl

theorem State.servoIncr_fixed (s : State) (v : Nat) : (State.servoIncr s v).fixed = s.fixed := by
  unfold State.servoIncr
  repeat' first
    | simp only [↓State.modTime_fixed, ↓fixed_mk, ↓apply_ite State.fixed, fixed_eta, ite_self]
    | split
    | rfl

theorem State.slew_fixed (s : State) (ahead : Bool) : (State.slew s ahead).fixed = s.fixed := by
  unfold State.slew
  repeat' first
    | simp only [↓State.servoIncr_fixed, ↓fixed_mk, ↓apply_ite State.fixed, fixed_eta, ite_self]
    | split
    | rfl

theorem State.freeIncr_fixed (s : State) (place : Nat) : (State.freeIncr s place).fixed = s.fixed := by
  unfold State.freeIncr
  repeat' first
    | simp only [↓State.draw_fixed, ↓State.servoIncr_fixed, ↓fixed_mk, ↓apply_ite State.fixed, fixed_eta, ite_self]
    | split
    | rfl

theorem effTimePtpConfig_fixed (t : Ticket) (p : Pkt) (s : State) : (effTimePtpConfig t p s).fixed = s.fixed := by
  unfold effTimePtpConfig
  repeat' first
    | simp only [↓State.ends_fixed, ↓State.modTime_fixed, ↓State.refreshLock_fixed, ↓fixed_mk, ↓apply_ite State.fixed,
        fixed_eta, ite_self]
    | split
    | rfl

theorem evPtpSyncInterval_fixed (kind : Fin 3) (s : State) : (evPtpSyncInterval kind s).fixed = s.fixed := by
  unfold evPtpSyncInterval
  repeat' first
    | simp only [↓State.advanceTo_fixed, ↓State.modTime_fixed, ↓fixed_mk, ↓apply_ite State.fixed, fixed_eta, ite_self]
    | split
    | rfl

theorem State.ptpSync_fixed (s : State) : (State.ptpSync s).fixed = s.fixed := by
  unfold State.ptpSync
  repeat' first
    | simp only [↓State.draw_fixed, ↓State.modTime_fixed, ↓State.refreshLock_fixed, ↓State.setDtb_fixed,
        ↓State.slew_fixed, ↓State.freeIncr_fixed, ↓fixed_mk, ↓apply_ite State.fixed, fixed_eta, ite_self]
    | split
    | rfl

theorem effTimeStatus_fixed (t : Ticket) (x1 : Pkt) (s : State) : (effTimeStatus t x1 s).fixed = s.fixed := by
  unfold effTimeStatus
  repeat' first
    | simp only [↓State.answer_fixed, ↓fixed_mk, ↓apply_ite State.fixed, fixed_eta, ite_self]
    | split
    | rfl

theorem evTimeSnapRead_fixed (s : State) : (evTimeSnapRead s).fixed = s.fixed := by
  unfold evTimeSnapRead
  repeat' first
    | simp only [↓State.modTime_fixed, ↓fixed_mk, ↓apply_ite State.fixed, fixed_eta, ite_self]
    | split
    | rfl

theorem effNetTx_fixed (t : Ticket) (p : Pkt) (s : State) : (effNetTx t p s).fixed = s.fixed := by
  unfold effNetTx
  repeat' first
    | simp only [↓State.ends_fixed, ↓State.modPort_fixed, ↓fixed_mk, ↓apply_ite State.fixed, fixed_eta, ite_self]
    | split
    | rfl

theorem effNetRx_fixed (t : Ticket) (p : Pkt) (s : State) : (effNetRx t p s).fixed = s.fixed := by
  unfold effNetRx
  repeat' first
    | simp only [↓State.ends_fixed, ↓fixed_mk, ↓apply_ite State.fixed, fixed_eta, ite_self]
    | split
    | rfl

theorem effNetFilter_fixed (t : Ticket) (p : Pkt) (s : State) : (effNetFilter t p s).fixed = s.fixed := by
  unfold effNetFilter
  repeat' first
    | simp only [↓State.ends_fixed, ↓fixed_mk, ↓apply_ite State.fixed, fixed_eta, ite_self]
    | split
    | rfl

theorem effNetGcl_fixed (t : Ticket) (p : Pkt) (s : State) : (effNetGcl t p s).fixed = s.fixed := by
  unfold effNetGcl
  repeat' first
    | simp only [↓State.ends_fixed, ↓State.modPort_fixed, ↓fixed_mk, ↓apply_ite State.fixed, fixed_eta, ite_self]
    | split
    | rfl

theorem effNetStatus_fixed (t : Ticket) (p : Pkt) (s : State) : (effNetStatus t p s).fixed = s.fixed := by
  unfold effNetStatus
  repeat' first
    | simp only [↓State.answer_fixed, ↓fixed_mk, ↓apply_ite State.fixed, fixed_eta, ite_self]
    | split
    | rfl

theorem evGclSwitch_fixed (port : Fin 2) (s : State) : (evGclSwitch port s).fixed = s.fixed := by
  unfold evGclSwitch
  repeat' first
    | simp only [↓State.advanceToNs_fixed, ↓State.ends_fixed, ↓State.modPort_fixed, ↓fixed_mk, ↓apply_ite State.fixed,
        fixed_eta, ite_self]
    | split
    | rfl

theorem evGateControlEntry_fixed (port : Fin 2) (s : State) : (evGateControlEntry port s).fixed = s.fixed := by
  unfold evGateControlEntry
  repeat' first
    | simp only [↓State.advanceToNs_fixed, ↓State.modPort_fixed, ↓fixed_mk, ↓apply_ite State.fixed, fixed_eta,
        ite_self]
    | split
    | rfl

theorem State.copyStation_fixed (s : State) (n : Nat) (c : StationCfg) (f : List Byte) (stamp : Nat) : (State.copyStation s n
    c f stamp).fixed = s.fixed := by
  unfold State.copyStation
  repeat' first
    | simp only [↓State.modStation_fixed, ↓fixed_mk, ↓apply_ite State.fixed, fixed_eta, ite_self]
    | split
    | rfl

theorem State.takePtp_fixed (s : State) (f : List Byte) (o : Nat) : (State.takePtp s f o).fixed = s.fixed := by
  unfold State.takePtp
  repeat' first
    | simp only [↓State.ptpSync_fixed, ↓fixed_mk, ↓apply_ite State.fixed, fixed_eta, ite_self]
    | split
    | rfl

theorem State.discardFrame_fixed (s : State) (port : Nat) : (State.discardFrame s port).fixed = s.fixed := by
  unfold State.discardFrame
  repeat' first
    | simp only [↓State.modPort_fixed, ↓fixed_mk, ↓apply_ite State.fixed, fixed_eta, ite_self]
    | split
    | rfl

theorem State.deliver_fixed (s : State) (port k : Nat) (f : List Byte) (stamp : Nat) : (State.deliver s port k f stamp).fixed
    = s.fixed := by
  unfold State.deliver
  repeat' first
    | simp only [↓State.answer_fixed, ↓State.discardFrame_fixed, ↓fixed_mk, ↓apply_ite State.fixed, fixed_eta,
        ite_self]
    | split
    | rfl

theorem evEthFrameReceived_fixed (port : Fin 2) (bytes : List Byte) (sec : DWord) (ns : Word) (sub : Half) (s : State) :
    (evEthFrameReceived port bytes sec ns sub s).fixed = s.fixed := by
  unfold evEthFrameReceived
  repeat' first
    | simp only [↓State.modPort_fixed, ↓State.copyStation_fixed, ↓State.takePtp_fixed, ↓State.discardFrame_fixed,
        ↓State.deliver_fixed, ↓fixed_mk, ↓apply_ite State.fixed, fixed_eta, ite_self]
    | split
    | rfl

theorem evFrameTransmitted_fixed (port : Fin 2) (sec : DWord) (ns : Word) (sub : Half) (s : State) : (evFrameTransmitted port
    sec ns sub s).fixed = s.fixed := by
  unfold evFrameTransmitted
  repeat' first
    | simp only [↓State.answer_fixed, ↓State.modPort_fixed, ↓fixed_mk, ↓apply_ite State.fixed, fixed_eta, ite_self]
    | split
    | rfl

theorem evNetTxTimeout_fixed (port : Fin 2) (s : State) : (evNetTxTimeout port s).fixed = s.fixed := by
  unfold evNetTxTimeout
  repeat' first
    | simp only [↓State.advanceTo_fixed, ↓State.ends_fixed, ↓State.modPort_fixed, ↓fixed_mk, ↓apply_ite State.fixed,
        fixed_eta, ite_self]
    | split
    | rfl

theorem evEthLinkChange_fixed (port : Fin 2) (up : Bool) (speed : BitVec 2) (s : State) : (evEthLinkChange port up speed
    s).fixed = s.fixed := by
  unfold evEthLinkChange
  repeat' first
    | simp only [↓State.report_fixed, ↓State.dropStations_fixed, ↓State.modPort_fixed, ↓fixed_mk, ↓apply_ite
        State.fixed, fixed_eta, ite_self]
    | split
    | rfl

theorem evEthPortUpset_fixed (port : Fin 2) (s : State) : (evEthPortUpset port s).fixed = s.fixed := by
  unfold evEthPortUpset
  repeat' first
    | simp only [↓State.detect_fixed, ↓fixed_mk, ↓apply_ite State.fixed, fixed_eta, ite_self]
    | split
    | rfl

theorem State.modNode_fixed (s : State) (n : Nat) (f : RingNode → RingNode) : (State.modNode s n f).fixed = s.fixed := by
  unfold State.modNode
  repeat' first
    | simp only [↓State.modRing_fixed, ↓fixed_mk, ↓apply_ite State.fixed, fixed_eta, ite_self]
    | split
    | rfl

theorem State.sendOn_fixed (s : State) (nb : Bool) (f : List Byte) : (State.sendOn s nb f).fixed = s.fixed := by
  unfold State.sendOn
  repeat' first
    | simp only [↓State.modRing_fixed, ↓fixed_mk, ↓apply_ite State.fixed, fixed_eta, ite_self]
    | split
    | rfl

theorem State.sendBoth_fixed (s : State) (f : List Byte) : (State.sendBoth s f).fixed = s.fixed := by
  unfold State.sendBoth
  repeat' first
    | simp only [↓State.sendOn_fixed, ↓fixed_mk, ↓apply_ite State.fixed, fixed_eta, ite_self]
    | split
    | rfl

theorem State.forward_fixed (s : State) (nb : Bool) (type src hops : Nat) (payload : List Byte) : (State.forward s nb type src
    hops payload).fixed = s.fixed := by
  unfold State.forward
  repeat' first
    | simp only [↓State.sendOn_fixed, ↓fixed_mk, ↓apply_ite State.fixed, fixed_eta, ite_self]
    | split
    | rfl

theorem State.repeatFrame_fixed (s : State) (nb : Bool) (type src hops : Nat) (payload : List Byte) : (State.repeatFrame s nb
    type src hops payload).fixed = s.fixed := by
  unfold State.repeatFrame
  repeat' first
    | simp only [↓State.sendOn_fixed, ↓fixed_mk, ↓apply_ite State.fixed, fixed_eta, ite_self]
    | split
    | rfl

theorem State.repeatDelay_fixed (s : State) (nb response : Bool) (turnaround : BitVec 24) : (State.repeatDelay s nb response
    turnaround).fixed = s.fixed := by
  unfold State.repeatDelay
  repeat' first
    | simp only [↓State.draw_fixed, ↓State.repeatFrame_fixed, ↓fixed_mk, ↓apply_ite State.fixed, fixed_eta, ite_self]
    | split
    | rfl

theorem State.setMaster_fixed (s : State) (n : Nat) : (State.setMaster s n).fixed = s.fixed := by
  unfold State.setMaster
  repeat' first
    | simp only [↓State.report_fixed, ↓State.modRing_fixed, ↓State.refreshLock_fixed, ↓fixed_mk, ↓apply_ite
        State.fixed, fixed_eta, ite_self]
    | split
    | rfl

theorem State.refreshSplit_fixed (s : State) : (State.refreshSplit s).fixed = s.fixed := by
  unfold State.refreshSplit
  repeat' first
    | simp only [↓State.modRing_fixed, ↓fixed_mk, ↓apply_ite State.fixed, fixed_eta, ite_self]
    | split
    | rfl

theorem State.heardBeat_fixed (s : State) (nb : Bool) (src hops : Nat) (payload : List Byte) : (State.heardBeat s nb src hops
    payload).fixed = s.fixed := by
  unfold State.heardBeat
  repeat' first
    | simp only [↓State.report_fixed, ↓State.modRing_fixed, ↓State.modNode_fixed, ↓State.setMaster_fixed,
        ↓State.refreshSplit_fixed, ↓fixed_mk, ↓apply_ite State.fixed, fixed_eta, ite_self]
    | split
    | rfl

theorem evMasterElection_fixed (s : State) : (evMasterElection s).fixed = s.fixed := by
  unfold evMasterElection
  repeat' first
    | simp only [↓State.advanceTo_fixed, ↓State.setMaster_fixed, ↓fixed_mk, ↓apply_ite State.fixed, fixed_eta,
        ite_self]
    | split
    | rfl

theorem State.loseNode_fixed (s : State) (n : Nat) : (State.loseNode s n).fixed = s.fixed := by
  unfold State.loseNode
  repeat' first
    | simp only [↓State.advanceTo_fixed, ↓State.report_fixed, ↓State.modNode_fixed, ↓State.refreshSplit_fixed,
        ↓fixed_mk, ↓apply_ite State.fixed, fixed_eta, ite_self]
    | split
    | rfl

theorem State.ringServo_fixed (s : State) (off : Int) : (State.ringServo s off).fixed = s.fixed := by
  unfold State.ringServo
  repeat' first
    | simp only [↓State.setDtb_fixed, ↓State.slew_fixed, ↓State.freeIncr_fixed, ↓fixed_mk, ↓apply_ite State.fixed,
        fixed_eta, ite_self]
    | split
    | rfl

theorem evTimeFrame_fixed (nb : Bool) (src hops : BitVec 4) (payload : List Byte) (s : State) : (evTimeFrame nb src hops
    payload s).fixed = s.fixed := by
  unfold evTimeFrame
  repeat' first
    | simp only [↓State.draw_fixed, ↓State.modTime_fixed, ↓State.modRing_fixed, ↓State.refreshLock_fixed,
        ↓State.modNode_fixed, ↓State.forward_fixed, ↓State.ringServo_fixed, ↓fixed_mk, ↓apply_ite State.fixed,
        fixed_eta, ite_self]
    | split
    | rfl

theorem evAlignedChange_fixed (s : State) : (evAlignedChange s).fixed = s.fixed := by
  unfold evAlignedChange
  repeat' first
    | simp only [↓State.advanceTo_fixed, ↓State.modRing_fixed, ↓State.refreshLock_fixed, ↓fixed_mk, ↓apply_ite
        State.fixed, fixed_eta, ite_self]
    | split
    | rfl

theorem evDelayTimer_fixed (s : State) : (evDelayTimer s).fixed = s.fixed := by
  unfold evDelayTimer
  repeat' first
    | simp only [↓State.advanceTo_fixed, ↓State.modRing_fixed, ↓State.sendBoth_fixed, ↓fixed_mk, ↓apply_ite
        State.fixed, fixed_eta, ite_self]
    | split
    | rfl

theorem evDelayFrame_fixed (nb response : Bool) (turnaround : BitVec 24) (s : State) : (evDelayFrame nb response turnaround
    s).fixed = s.fixed := by
  unfold evDelayFrame
  repeat' first
    | simp only [↓State.draw_fixed, ↓State.modRing_fixed, ↓State.sendOn_fixed, ↓fixed_mk, ↓apply_ite State.fixed,
        fixed_eta, ite_self]
    | split
    | rfl

theorem evTelemetryFrame_fixed (nb : Bool) (src hops : BitVec 4) (record : List Byte) (s : State) : (evTelemetryFrame nb src
    hops record s).fixed = s.fixed := by
  unfold evTelemetryFrame
  repeat' first
    | simp only [↓State.report_fixed, ↓State.modNode_fixed, ↓State.forward_fixed, ↓fixed_mk, ↓apply_ite State.fixed,
        fixed_eta, ite_self]
    | split
    | rfl

theorem effNrPublish_fixed (t : Ticket) (p : Pkt) (s : State) : (effNrPublish t p s).fixed = s.fixed := by
  unfold effNrPublish
  repeat' first
    | simp only [↓State.ends_fixed, ↓State.modRing_fixed, ↓fixed_mk, ↓apply_ite State.fixed, fixed_eta, ite_self]
    | split
    | rfl

theorem effNrTelemRead_fixed (t : Ticket) (p : Pkt) (s : State) : (effNrTelemRead t p s).fixed = s.fixed := by
  unfold effNrTelemRead
  repeat' first
    | simp only [↓State.answer_fixed, ↓fixed_mk, ↓apply_ite State.fixed, fixed_eta, ite_self]
    | split
    | rfl

theorem effNrSend_fixed (t : Ticket) (p : Pkt) (s : State) : (effNrSend t p s).fixed = s.fixed := by
  unfold effNrSend
  repeat' first
    | simp only [↓State.ends_fixed, ↓State.modRing_fixed, ↓fixed_mk, ↓apply_ite State.fixed, fixed_eta, ite_self]
    | split
    | rfl

theorem effNrRecv_fixed (t : Ticket) (x1 : Pkt) (s : State) : (effNrRecv t x1 s).fixed = s.fixed := by
  unfold effNrRecv
  repeat' first
    | simp only [↓State.modRing_fixed, ↓fixed_mk, ↓apply_ite State.fixed, fixed_eta, ite_self]
    | split
    | rfl

theorem State.sendFragment_fixed (s : State) : (State.sendFragment s).fixed = s.fixed := by
  unfold State.sendFragment
  repeat' first
    | simp only [↓State.ends_fixed, ↓State.modRing_fixed, ↓State.sendOn_fixed, ↓State.sendBoth_fixed, ↓fixed_mk,
        ↓apply_ite State.fixed, fixed_eta, ite_self]
    | split
    | rfl

theorem State.assemble_fixed (s : State) (src : Nat) (payload : List Byte) : (State.assemble s src payload).1.fixed = s.fixed
    := by
  unfold State.assemble
  repeat' first
    | simp only [↓State.modNode_fixed, ↓fixed_mk, ↓apply_ite State.fixed, fixed_eta, ite_self]
    | split
    | rfl

theorem State.oweAck_fixed (s : State) (src num result : Nat) : (State.oweAck s src num result).fixed = s.fixed := by
  unfold State.oweAck
  repeat' first
    | simp only [↓State.modRing_fixed, ↓fixed_mk, ↓apply_ite State.fixed, fixed_eta, ite_self]
    | split
    | rfl

theorem State.takeMessage_fixed (s : State) (src : Nat) (bs : List Byte) : (State.takeMessage s src bs).1.fixed = s.fixed :=
    by
  unfold State.takeMessage
  repeat' first
    | simp only [↓State.answer_fixed, ↓State.modRing_fixed, ↓fixed_mk, ↓apply_ite State.fixed, fixed_eta, ite_self]
    | split
    | rfl

theorem evRingAckFrame_fixed (nb : Bool) (src hops : BitVec 4) (dest msg result : Byte) (s : State) : (evRingAckFrame nb src
    hops dest msg result s).fixed = s.fixed := by
  unfold evRingAckFrame
  repeat' first
    | simp only [↓State.ends_fixed, ↓State.modRing_fixed, ↓State.forward_fixed, ↓fixed_mk, ↓apply_ite State.fixed,
        fixed_eta, ite_self]
    | split
    | rfl

theorem evNrSendTimeout_fixed (s : State) : (evNrSendTimeout s).fixed = s.fixed := by
  unfold evNrSendTimeout
  repeat' first
    | simp only [↓State.advanceTo_fixed, ↓State.ends_fixed, ↓State.modRing_fixed, ↓fixed_mk, ↓apply_ite State.fixed,
        fixed_eta, ite_self]
    | split
    | rfl

theorem State.sendMirrorFrame_fixed (s : State) (count : Nat) : (State.sendMirrorFrame s count).fixed = s.fixed := by
  unfold State.sendMirrorFrame
  repeat' first
    | simp only [↓State.sendBoth_fixed, ↓fixed_mk, ↓apply_ite State.fixed, fixed_eta, ite_self]
    | split
    | rfl

theorem State.sendOwed_fixed (s : State) : (State.sendOwed s).fixed = s.fixed := by
  unfold State.sendOwed
  repeat' first
    | with_reducible refine (foldl_fixed _ _ _ (fun _ _ => ?_)).trans ?_
    | simp only [↓State.modRing_fixed, ↓State.sendOn_fixed, ↓State.sendBoth_fixed, ↓fixed_mk, ↓apply_ite State.fixed,
        fixed_eta, ite_self]
    | split
    | rfl

theorem evRingCycle_fixed (s : State) : (evRingCycle s).fixed = s.fixed := by
  unfold evRingCycle
  repeat' first
    | simp only [↓State.advanceToNs_fixed, ↓State.modRing_fixed, ↓State.sendBoth_fixed, ↓State.sendFragment_fixed,
        ↓State.sendMirrorFrame_fixed, ↓State.sendOwed_fixed, ↓fixed_mk, ↓apply_ite State.fixed, fixed_eta, ite_self]
    | split
    | rfl

theorem evRingFrameDiscard_fixed (_nb : Bool) (s : State) : (evRingFrameDiscard _nb s).fixed = s.fixed := by
  unfold evRingFrameDiscard
  repeat' first
    | simp only [↓State.modRing_fixed, ↓fixed_mk, ↓apply_ite State.fixed, fixed_eta, ite_self]
    | split
    | rfl

theorem evRingPortUpset_fixed (nb : Bool) (s : State) : (evRingPortUpset nb s).fixed = s.fixed := by
  unfold evRingPortUpset
  repeat' first
    | simp only [↓State.detect_fixed, ↓State.modRing_fixed, ↓fixed_mk, ↓apply_ite State.fixed, fixed_eta, ite_self]
    | split
    | rfl

theorem State.retrained_fixed (s : State) (n : Nat) : (State.retrained s n).fixed = s.fixed := by
  unfold State.retrained
  repeat' first
    | simp only [↓State.modRing_fixed, ↓fixed_mk, ↓apply_ite State.fixed, fixed_eta, ite_self]
    | split
    | rfl

theorem evRingRelaysEnergise_fixed (s : State) : (evRingRelaysEnergise s).fixed = s.fixed := by
  unfold evRingRelaysEnergise
  repeat' first
    | simp only [↓State.modRing_fixed, ↓fixed_mk, ↓apply_ite State.fixed, fixed_eta, ite_self]
    | split
    | rfl

theorem evRingInsertTimeout_fixed (s : State) : (evRingInsertTimeout s).fixed = s.fixed := by
  unfold evRingInsertTimeout
  repeat' first
    | simp only [↓State.advanceTo_fixed, ↓State.dropRelays_fixed, ↓State.modRing_fixed, ↓fixed_mk, ↓apply_ite
        State.fixed, fixed_eta, ite_self]
    | split
    | rfl

theorem evRingInsertRetry_fixed (s : State) : (evRingInsertRetry s).fixed = s.fixed := by
  unfold evRingInsertRetry
  repeat' first
    | simp only [↓State.advanceTo_fixed, ↓State.modRing_fixed, ↓fixed_mk, ↓apply_ite State.fixed, fixed_eta, ite_self]
    | split
    | rfl

theorem effNrStatus_fixed (t : Ticket) (x1 : Pkt) (s : State) : (effNrStatus t x1 s).fixed = s.fixed := by
  unfold effNrStatus
  repeat' first
    | with_reducible refine (foldl_fixed _ _ _ (fun _ _ => ?_)).trans ?_
    | simp only [↓State.answer_fixed, ↓fixed_mk, ↓apply_ite State.fixed, fixed_eta, ite_self]
    | split
    | rfl

theorem State.movePhase_fixed (s : State) (g : Nat) : (State.movePhase s g).fixed = s.fixed := by
  unfold State.movePhase
  repeat' first
    | simp only [↓State.enterPhase_fixed, ↓State.rampFromLive_fixed, ↓State.closeLive_fixed, ↓State.holdoffDone_fixed,
        ↓fixed_mk, ↓apply_ite State.fixed, fixed_eta, ite_self]
    | split
    | rfl

theorem State.rampSetpoints_fixed (s : State) (g : Nat) : (State.rampSetpoints s g).fixed = s.fixed := by
  unfold State.rampSetpoints
  repeat' first
    | simp only [↓State.modGf_fixed, ↓fixed_mk, ↓apply_ite State.fixed, fixed_eta, ite_self]
    | split
    | rfl

theorem State.takePeak_fixed (s : State) (g : Nat) : (State.takePeak s g).fixed = s.fixed := by
  unfold State.takePeak
  repeat' first
    | simp only [↓State.modGf_fixed, ↓State.modLc_fixed, ↓fixed_mk, ↓apply_ite State.fixed, fixed_eta, ite_self]
    | split
    | rfl

theorem State.outerStep_fixed (s : State) (g : Fin 4) (tn : Nat) : (State.outerStep s g tn).fixed = s.fixed := by
  unfold State.outerStep
  repeat' first
    | simp only [↓State.modGf_fixed, ↓State.engageLimit_fixed, ↓State.releaseLimit_fixed, ↓State.gfFault_fixed,
        ↓State.setDeadBus_fixed, ↓State.detach_fixed, ↓State.movePhase_fixed, ↓State.rampSetpoints_fixed,
        ↓State.takePeak_fixed, ↓fixed_mk, ↓apply_ite State.fixed, fixed_eta, ite_self]
    | split
    | rfl

theorem evGfOuterStep_fixed (g : Fin 4) (s : State) : (evGfOuterStep g s).fixed = s.fixed := by
  unfold evGfOuterStep
  repeat' first
    | simp only [↓State.outerStep_fixed, ↓fixed_mk, ↓apply_ite State.fixed, fixed_eta, ite_self]
    | split
    | rfl

theorem effLoopConfig_fixed (t : Ticket) (p : Pkt) (s : State) : (effLoopConfig t p s).fixed = s.fixed := by
  unfold effLoopConfig
  repeat' first
    | simp only [↓State.modLc_fixed, ↓State.answer_fixed, ↓State.ends_fixed, ↓fixed_mk, ↓apply_ite State.fixed,
        fixed_eta, ite_self]
    | split
    | rfl

theorem effLoopCoefLoad_fixed (t : Ticket) (p : Pkt) (s : State) : (effLoopCoefLoad t p s).fixed = s.fixed := by
  unfold effLoopCoefLoad
  repeat' first
    | simp only [↓State.modLc_fixed, ↓State.ends_fixed, ↓fixed_mk, ↓apply_ite State.fixed, fixed_eta, ite_self]
    | split
    | rfl

theorem effLoopCoefSwap_fixed (t : Ticket) (p : Pkt) (s : State) : (effLoopCoefSwap t p s).fixed = s.fixed := by
  unfold effLoopCoefSwap
  repeat' first
    | simp only [↓State.modLc_fixed, ↓State.answer_fixed, ↓State.ends_fixed, ↓State.finishCoef_fixed, ↓fixed_mk,
        ↓apply_ite State.fixed, fixed_eta, ite_self]
    | split
    | rfl

theorem effLoopTableLoad_fixed (t : Ticket) (p : Pkt) (s : State) : (effLoopTableLoad t p s).fixed = s.fixed := by
  unfold effLoopTableLoad
  repeat' first
    | simp only [↓State.modLc_fixed, ↓State.ends_fixed, ↓fixed_mk, ↓apply_ite State.fixed, fixed_eta, ite_self]
    | split
    | rfl

theorem effLoopTableSwap_fixed (t : Ticket) (p : Pkt) (s : State) : (effLoopTableSwap t p s).fixed = s.fixed := by
  unfold effLoopTableSwap
  repeat' first
    | simp only [↓State.modLc_fixed, ↓State.ends_fixed, ↓State.doneAt_fixed, ↓State.swapTables_fixed, ↓fixed_mk,
        ↓apply_ite State.fixed, fixed_eta, ite_self]
    | split
    | rfl

theorem effLoopStateSet_fixed (t : Ticket) (p : Pkt) (s : State) : (effLoopStateSet t p s).fixed = s.fixed := by
  unfold effLoopStateSet
  repeat' first
    | simp only [↓State.modLc_fixed, ↓State.ends_fixed, ↓fixed_mk, ↓apply_ite State.fixed, fixed_eta, ite_self]
    | split
    | rfl

theorem effLoopSetpoint_fixed (t : Ticket) (p : Pkt) (s : State) : (effLoopSetpoint t p s).fixed = s.fixed := by
  unfold effLoopSetpoint
  repeat' first
    | simp only [↓State.modLc_fixed, ↓State.ends_fixed, ↓fixed_mk, ↓apply_ite State.fixed, fixed_eta, ite_self]
    | split
    | rfl

theorem effLoopSubst_fixed (t : Ticket) (p : Pkt) (s : State) : (effLoopSubst t p s).fixed = s.fixed := by
  unfold effLoopSubst
  repeat' first
    | simp only [↓State.modLc_fixed, ↓State.ends_fixed, ↓State.applySubst_fixed, ↓fixed_mk, ↓apply_ite State.fixed,
        fixed_eta, ite_self]
    | split
    | rfl

theorem effLoopInject_fixed (t : Ticket) (p : Pkt) (s : State) : (effLoopInject t p s).fixed = s.fixed := by
  unfold effLoopInject
  repeat' first
    | simp only [↓State.modLc_fixed, ↓State.ends_fixed, ↓fixed_mk, ↓apply_ite State.fixed, fixed_eta, ite_self]
    | split
    | rfl

theorem effLoopInjectStop_fixed (t : Ticket) (p : Pkt) (s : State) : (effLoopInjectStop t p s).fixed = s.fixed := by
  unfold effLoopInjectStop
  repeat' first
    | simp only [↓State.modLc_fixed, ↓State.ends_fixed, ↓fixed_mk, ↓apply_ite State.fixed, fixed_eta, ite_self]
    | split
    | rfl

theorem effLoopStatus_fixed (t : Ticket) (p : Pkt) (s : State) : (effLoopStatus t p s).fixed = s.fixed := by
  unfold effLoopStatus
  repeat' first
    | simp only [↓State.modLc_fixed, ↓State.answer_fixed, ↓State.ends_fixed, ↓fixed_mk, ↓apply_ite State.fixed,
        fixed_eta, ite_self]
    | split
    | rfl

theorem effLoopUnload_fixed (t : Ticket) (p : Pkt) (s : State) : (effLoopUnload t p s).fixed = s.fixed := by
  unfold effLoopUnload
  repeat' first
    | simp only [↓State.modLc_fixed, ↓State.ends_fixed, ↓fixed_mk, ↓apply_ite State.fixed, fixed_eta, ite_self]
    | split
    | rfl

theorem State.angleAt_fixed (s : State) (k b at_ : Nat) : (State.angleAt s k b at_).2.fixed = s.fixed := by
  unfold State.angleAt
  repeat' first
    | simp only [↓State.draw_fixed, ↓fixed_mk, ↓apply_ite State.fixed, fixed_eta, ite_self]
    | split
    | rfl

theorem State.latchSample_fixed (s : State) (b : Nat) : (State.latchSample s b).fixed = s.fixed := by
  unfold State.latchSample
  repeat' first
    | simp only [↓State.modLc_fixed, ↓State.angleAt_fixed, ↓fixed_mk, ↓apply_ite State.fixed, fixed_eta, ite_self]
    | split
    | rfl

theorem State.boundary_fixed (s : State) (k b : Nat) (ns : DWord) : (State.boundary s k b ns).fixed = s.fixed := by
  unfold State.boundary
  repeat' first
    | with_reducible refine (foldl_fixed _ _ _ (fun _ _ => ?_)).trans ?_
    | simp only [↓State.modLc_fixed, ↓State.finishCoef_fixed, ↓State.finishTables_fixed, ↓State.applySubst_fixed,
        ↓fixed_mk, ↓apply_ite State.fixed, fixed_eta, ite_self]
    | split
    | rfl

theorem State.judgeLate_fixed (s : State) (k g : Nat) (d : DueSample) : (State.judgeLate s k g d).fixed = s.fixed := by
  unfold State.judgeLate
  repeat' first
    | simp only [↓State.modGf_fixed, ↓State.gfFault_fixed, ↓fixed_mk, ↓apply_ite State.fixed, fixed_eta, ite_self]
    | split
    | rfl

theorem State.handOf_fixed (s : State) (k g tk : Nat) : (State.handOf s k g tk).2.2.fixed = s.fixed := by
  unfold State.handOf
  repeat' first
    | simp only [↓State.modLc_fixed, ↓State.draw_fixed, ↓fixed_mk, ↓apply_ite State.fixed, fixed_eta, ite_self]
    | split
    | rfl

theorem State.noteSubst_fixed (s : State) (k : Nat) (l : Latched) : (State.noteSubst s k l).fixed = s.fixed := by
  unfold State.noteSubst
  repeat' first
    | with_reducible refine (foldl_fixed _ _ _ (fun _ _ => ?_)).trans ?_
    | simp only [↓State.modLc_fixed, ↓fixed_mk, ↓apply_ite State.fixed, fixed_eta, ite_self]
    | split
    | rfl

theorem State.firstDuty_fixed (s : State) (b : Nat) : (State.firstDuty s b).fixed = s.fixed := by
  unfold State.firstDuty
  repeat' first
    | simp only [↓State.modB_fixed, ↓State.ends_fixed, ↓fixed_mk, ↓apply_ite State.fixed, fixed_eta, ite_self]
    | split
    | rfl

theorem State.runSample_fixed (s : State) (k b : Nat) (d : DueSample) : (State.runSample s k b d).fixed = s.fixed := by
  unfold State.runSample
  repeat' first
    | simp only [↓State.modLc_fixed, ↓State.draw_fixed, ↓State.commitLegs_fixed, ↓State.handOf_fixed,
        ↓State.noteSubst_fixed, ↓State.firstDuty_fixed, ↓fixed_mk, ↓apply_ite State.fixed, fixed_eta, ite_self]
    | split
    | rfl

theorem State.abandon_fixed (s : State) (k : Nat) : (State.abandon s k).fixed = s.fixed := by
  unfold State.abandon
  repeat' first
    | simp only [↓State.modLc_fixed, ↓State.advanceTo_fixed, ↓State.enterSafe_fixed, ↓State.boundary_fixed, ↓fixed_mk,
        ↓apply_ite State.fixed, fixed_eta, ite_self]
    | split
    | rfl

theorem State.sampleNow_fixed (s : State) (k b : Nat) (d : DueSample) : (State.sampleNow s k b d).fixed = s.fixed := by
  unfold State.sampleNow
  repeat' first
    | simp only [↓State.boundary_fixed, ↓State.judgeLate_fixed, ↓State.runSample_fixed, ↓fixed_mk, ↓apply_ite
        State.fixed, fixed_eta, ite_self]
    | split
    | rfl

theorem evLoopSample_fixed (k : Fin 24) (s : State) : (evLoopSample k s).fixed = s.fixed := by
  unfold evLoopSample
  repeat' first
    | simp only [↓State.abandon_fixed, ↓State.sampleNow_fixed, ↓fixed_mk, ↓apply_ite State.fixed, fixed_eta, ite_self]
    | split
    | rfl

theorem evCommitDeadlineOverrun_fixed (k : Fin 24) (s : State) : (evCommitDeadlineOverrun k s).fixed = s.fixed := by
  unfold evCommitDeadlineOverrun
  repeat' first
    | simp only [↓State.abandon_fixed, ↓fixed_mk, ↓apply_ite State.fixed, fixed_eta, ite_self]
    | split
    | rfl

theorem State.expireSamples_fixed (s : State) (b : Nat) : (State.expireSamples s b).fixed = s.fixed := by
  unfold State.expireSamples
  repeat' first
    | with_reducible refine (forEach_fixed _ _ _ (fun _ _ => ?_)).trans ?_
    | simp only [↓State.abandon_fixed, ↓fixed_mk, ↓apply_ite State.fixed, fixed_eta, ite_self]
    | split
    | rfl

theorem evSubstTimeout_fixed (k : Fin 24) (s : State) : (evSubstTimeout k s).fixed = s.fixed := by
  unfold evSubstTimeout
  repeat' first
    | simp only [↓State.advanceTo_fixed, ↓State.enterSafe_fixed, ↓fixed_mk, ↓apply_ite State.fixed, fixed_eta,
        ite_self]
    | split
    | rfl

theorem evInjectionEnd_fixed (k : Fin 24) (s : State) : (evInjectionEnd k s).fixed = s.fixed := by
  unfold evInjectionEnd
  repeat' first
    | simp only [↓State.modLc_fixed, ↓State.doneAt_fixed, ↓fixed_mk, ↓apply_ite State.fixed, fixed_eta, ite_self]
    | split
    | rfl

theorem State.modGroup_fixed (s : State) (l : Nat) (f : CapUnit → CapUnit) : (State.modGroup s l f).fixed = s.fixed := by
  unfold State.modGroup
  repeat' first
    | with_reducible refine (forEach_fixed _ _ _ (fun _ _ => ?_)).trans ?_
    | simp only [↓State.modCap_fixed, ↓fixed_mk, ↓apply_ite State.fixed, fixed_eta, ite_self]
    | split
    | rfl

theorem State.setGroup_fixed (s : State) (l : Nat) (st : CapState) : (State.setGroup s l st).fixed = s.fixed := by
  unfold State.setGroup
  repeat' first
    | simp only [↓State.modGroup_fixed, ↓fixed_mk, ↓apply_ite State.fixed, fixed_eta, ite_self]
    | split
    | rfl

theorem State.capPoll_fixed (s : State) : (State.capPoll s).fixed = s.fixed := by
  unfold State.capPoll
  repeat' first
    | with_reducible refine (forEach_fixed _ _ _ (fun _ _ => ?_)).trans ?_
    | simp only [↓State.modCap_fixed, ↓fixed_mk, ↓apply_ite State.fixed, fixed_eta, ite_self]
    | split
    | rfl

theorem State.armGroup_fixed (s : State) (l : Nat) : (State.armGroup s l).fixed = s.fixed := by
  unfold State.armGroup
  repeat' first
    | simp only [↓State.modGroup_fixed, ↓State.setGroup_fixed, ↓fixed_mk, ↓apply_ite State.fixed, fixed_eta, ite_self]
    | split
    | rfl

theorem State.armNow_fixed (s : State) (l : Nat) (w : ArmWait) : (State.armNow s l w).fixed = s.fixed := by
  unfold State.armNow
  repeat' first
    | simp only [↓State.doneAt_fixed, ↓fixed_mk, ↓apply_ite State.fixed, fixed_eta, ite_self]
    | split
    | rfl

theorem State.capTick_fixed (s : State) (src : Nat) : (State.capTick s src).fixed = s.fixed := by
  unfold State.capTick
  repeat' first
    | with_reducible refine (forEach_fixed _ _ _ (fun _ _ => ?_)).trans ?_
    | with_reducible refine (foldl_fixed _ _ _ (fun _ _ => ?_)).trans ?_
    | simp only [↓State.modCap_fixed, ↓State.armGroup_fixed, ↓State.armNow_fixed, ↓fixed_mk, ↓apply_ite State.fixed,
        fixed_eta, ite_self]
    | split
    | rfl

theorem State.closeUnit_fixed (s : State) (u : Nat) (cut : Bool) : (State.closeUnit s u cut).fixed = s.fixed := by
  unfold State.closeUnit
  repeat' first
    | simp only [↓State.modCap_fixed, ↓State.draw_fixed, ↓fixed_mk, ↓apply_ite State.fixed, fixed_eta, ite_self]
    | split
    | rfl

theorem State.dropForces_fixed (s : State) (l : Nat) : (State.dropForces s l).fixed = s.fixed := by
  unfold State.dropForces
  repeat' first
    | simp only [↓State.endAll_fixed, ↓fixed_mk, ↓apply_ite State.fixed, fixed_eta, ite_self]
    | split
    | rfl

theorem State.closeRecord_fixed (s : State) (l : Nat) : (State.closeRecord s l).fixed = s.fixed := by
  unfold State.closeRecord
  repeat' first
    | with_reducible refine (forEach_fixed _ _ _ (fun _ _ => ?_)).trans ?_
    | simp only [↓State.modGroup_fixed, ↓State.setGroup_fixed, ↓State.closeUnit_fixed, ↓State.dropForces_fixed,
        ↓fixed_mk, ↓apply_ite State.fixed, fixed_eta, ite_self]
    | split
    | rfl

theorem State.landForce_fixed (s : State) (l : Nat) (note : Bool) (w : ForceWait) : (State.landForce s l note w).fixed =
    s.fixed := by
  unfold State.landForce
  repeat' first
    | simp only [↓State.answer_fixed, ↓fixed_mk, ↓apply_ite State.fixed, fixed_eta, ite_self]
    | split
    | rfl

theorem State.startRecord_fixed (s : State) (l cause : Nat) (firing : Byte) : (State.startRecord s l cause firing).fixed =
    s.fixed := by
  unfold State.startRecord
  repeat' first
    | simp only [↓State.modGroup_fixed, ↓State.setGroup_fixed, ↓fixed_mk, ↓apply_ite State.fixed, fixed_eta, ite_self]
    | split
    | rfl

theorem State.closeRow_fixed (s : State) (u keep : Nat) (r : CapRow) : (State.closeRow s u keep r).fixed = s.fixed := by
  unfold State.closeRow
  repeat' first
    | simp only [↓State.modCap_fixed, ↓fixed_mk, ↓apply_ite State.fixed, fixed_eta, ite_self]
    | split
    | rfl

theorem State.closeSample_fixed (s : State) (l : Nat) (row : CapRow) : (State.closeSample s l row).fixed = s.fixed := by
  unfold State.closeSample
  repeat' first
    | with_reducible refine (forEach_fixed _ _ _ (fun _ _ => ?_)).trans ?_
    | with_reducible refine (foldl_fixed _ _ _ (fun _ _ => ?_)).trans ?_
    | simp only [↓State.modCap_fixed, ↓State.advanceTo_fixed, ↓State.modGroup_fixed, ↓State.closeRecord_fixed,
        ↓State.landForce_fixed, ↓State.startRecord_fixed, ↓State.closeRow_fixed, ↓fixed_mk, ↓apply_ite State.fixed,
        fixed_eta, ite_self]
    | split
    | rfl

theorem evCapSampleClose_fixed (u : Fin 4) (s : State) : (evCapSampleClose u s).fixed = s.fixed := by
  unfold evCapSampleClose
  repeat' first
    | simp only [↓State.closeSample_fixed, ↓fixed_mk, ↓apply_ite State.fixed, fixed_eta, ite_self]
    | split
    | rfl

theorem evCapExtEdge_fixed (n : Fin 2) (s : State) : (evCapExtEdge n s).fixed = s.fixed := by
  unfold evCapExtEdge
  repeat' first
    | with_reducible refine (forEach_fixed _ _ _ (fun _ _ => ?_)).trans ?_
    | simp only [↓State.modCap_fixed, ↓fixed_mk, ↓apply_ite State.fixed, fixed_eta, ite_self]
    | split
    | rfl

theorem evCaptureUpset_fixed (u : Fin 4) (s : State) : (evCaptureUpset u s).fixed = s.fixed := by
  unfold evCaptureUpset
  repeat' first
    | simp only [↓State.detect_fixed, ↓fixed_mk, ↓apply_ite State.fixed, fixed_eta, ite_self]
    | split
    | rfl

theorem State.freeUnit_fixed (s : State) (u : Nat) : (State.freeUnit s u).fixed = s.fixed := by
  unfold State.freeUnit
  repeat' first
    | simp only [↓State.modCap_fixed, ↓fixed_mk, ↓apply_ite State.fixed, fixed_eta, ite_self]
    | split
    | rfl

theorem State.dropCapWaits_fixed (s : State) (l : Nat) : (State.dropCapWaits s l).fixed = s.fixed := by
  unfold State.dropCapWaits
  repeat' first
    | simp only [↓State.endAll_fixed, ↓State.dropForces_fixed, ↓fixed_mk, ↓apply_ite State.fixed, fixed_eta, ite_self]
    | split
    | rfl

theorem effCapConfig_fixed (t : Ticket) (p : Pkt) (s : State) : (effCapConfig t p s).fixed = s.fixed := by
  unfold effCapConfig
  repeat' first
    | with_reducible refine (forEach_fixed _ _ _ (fun _ _ => ?_)).trans ?_
    | simp only [↓State.modCap_fixed, ↓State.answer_fixed, ↓State.ends_fixed, ↓State.freeUnit_fixed,
        ↓State.dropCapWaits_fixed, ↓fixed_mk, ↓apply_ite State.fixed, fixed_eta, ite_self]
    | split
    | rfl

theorem effCapArm_fixed (t : Ticket) (p : Pkt) (s : State) : (effCapArm t p s).fixed = s.fixed := by
  unfold effCapArm
  repeat' first
    | simp only [↓State.draw_fixed, ↓State.ends_fixed, ↓State.doneAt_fixed, ↓fixed_mk, ↓apply_ite State.fixed,
        fixed_eta, ite_self]
    | split
    | rfl

theorem effCapDisarm_fixed (t : Ticket) (p : Pkt) (s : State) : (effCapDisarm t p s).fixed = s.fixed := by
  unfold effCapDisarm
  repeat' first
    | with_reducible refine (forEach_fixed _ _ _ (fun _ _ => ?_)).trans ?_
    | simp only [↓State.ends_fixed, ↓State.modGroup_fixed, ↓State.setGroup_fixed, ↓State.closeUnit_fixed,
        ↓State.dropForces_fixed, ↓fixed_mk, ↓apply_ite State.fixed, fixed_eta, ite_self]
    | split
    | rfl

theorem effCapForce_fixed (t : Ticket) (p : Pkt) (s : State) : (effCapForce t p s).fixed = s.fixed := by
  unfold effCapForce
  repeat' first
    | simp only [↓State.draw_fixed, ↓State.ends_fixed, ↓State.doneAt_fixed, ↓fixed_mk, ↓apply_ite State.fixed,
        fixed_eta, ite_self]
    | split
    | rfl

theorem effCapRead_fixed (t : Ticket) (p : Pkt) (s : State) : (effCapRead t p s).fixed = s.fixed := by
  unfold effCapRead
  repeat' first
    | simp only [↓State.draw_fixed, ↓State.answer_fixed, ↓State.ends_fixed, ↓fixed_mk, ↓apply_ite State.fixed,
        fixed_eta, ite_self]
    | split
    | rfl

theorem effCapStatus_fixed (t : Ticket) (p : Pkt) (s : State) : (effCapStatus t p s).fixed = s.fixed := by
  unfold effCapStatus
  repeat' first
    | simp only [↓State.answer_fixed, ↓fixed_mk, ↓apply_ite State.fixed, fixed_eta, ite_self]
    | split
    | rfl

theorem effCapRelease_fixed (t : Ticket) (p : Pkt) (s : State) : (effCapRelease t p s).fixed = s.fixed := by
  unfold effCapRelease
  repeat' first
    | with_reducible refine (forEach_fixed _ _ _ (fun _ _ => ?_)).trans ?_
    | simp only [↓State.ends_fixed, ↓State.freeUnit_fixed, ↓State.dropCapWaits_fixed, ↓fixed_mk, ↓apply_ite
        State.fixed, fixed_eta, ite_self]
    | split
    | rfl

theorem State.withdrawPage_fixed (s : State) : (State.withdrawPage s).fixed = s.fixed := by
  unfold State.withdrawPage
  repeat' first
    | with_reducible refine (forEach_fixed _ _ _ (fun _ _ => ?_)).trans ?_
    | simp only [↓State.modCap_fixed, ↓State.draw_fixed, ↓fixed_mk, ↓apply_ite State.fixed, fixed_eta, ite_self]
    | split
    | rfl

theorem State.withdrawn_fixed (s : State) (kind : Nat) : (State.withdrawn s kind).fixed = s.fixed := by
  unfold State.withdrawn
  repeat' first
    | simp only [↓State.withdrawPage_fixed, ↓fixed_mk, ↓apply_ite State.fixed, fixed_eta, ite_self]
    | split
    | rfl

theorem State.restored_fixed (s : State) (kind unit : Nat) : (State.restored s kind unit).fixed = s.fixed := by
  unfold State.restored
  repeat' first
    | simp only [↓State.modLink_fixed, ↓State.modSlot_fixed, ↓State.modPos_fixed, ↓State.retrained_fixed, ↓fixed_mk,
        ↓apply_ite State.fixed, fixed_eta, ite_self]
    | split
    | rfl

theorem State.reinstated_fixed (s : State) (kind unit : Nat) : (State.reinstated s kind unit).fixed = s.fixed := by
  unfold State.reinstated
  repeat' first
    | simp only [↓State.modLink_fixed, ↓State.modSlot_fixed, ↓State.modPos_fixed, ↓State.logEntry_fixed,
        ↓State.modChan_fixed, ↓State.toOffline_fixed, ↓State.modRing_fixed, ↓State.retrained_fixed, ↓fixed_mk,
        ↓apply_ite State.fixed, fixed_eta, ite_self]
    | split
    | rfl

theorem State.chargeBlock_fixed (s : State) (e : Nat) : (State.chargeBlock s e).fixed = s.fixed := by
  unfold State.chargeBlock
  repeat' first
    | simp only [↓State.modLc_fixed, ↓State.draw_fixed, ↓fixed_mk, ↓apply_ite State.fixed, fixed_eta, ite_self]
    | split
    | rfl

theorem State.runEnds_fixed (s : State) (kind unit : Nat) (ok : Bool) : (State.runEnds s kind unit ok).fixed = s.fixed := by
  unfold State.runEnds
  repeat' first
    | simp only [↓State.countUpset_fixed, ↓State.detect_fixed, ↓State.runFailed_fixed, ↓State.withdrawn_fixed,
        ↓State.restored_fixed, ↓State.chargeBlock_fixed, ↓fixed_mk, ↓apply_ite State.fixed, fixed_eta, ite_self]
    | split
    | rfl

theorem evRetryRunEnd_fixed (kind : Fin 13) (unit : Word) (ok : Bool) (s : State) : (evRetryRunEnd kind unit ok s).fixed =
    s.fixed := by
  unfold evRetryRunEnd
  repeat' first
    | simp only [↓State.ends_fixed, ↓State.reinstated_fixed, ↓State.runEnds_fixed, ↓fixed_mk, ↓apply_ite State.fixed,
        fixed_eta, ite_self]
    | split
    | rfl

theorem effReinstate_fixed (t : Ticket) (p : Pkt) (s : State) : (effReinstate t p s).fixed = s.fixed := by
  unfold effReinstate
  repeat' first
    | simp only [↓State.ends_fixed, ↓fixed_mk, ↓apply_ite State.fixed, fixed_eta, ite_self]
    | split
    | rfl

theorem evBucketLeak_fixed (kind : Fin 13) (unit : Word) (s : State) : (evBucketLeak kind unit s).fixed = s.fixed := by
  unfold evBucketLeak
  repeat' first
    | simp only [↓State.advanceTo_fixed, ↓State.leak_fixed, ↓fixed_mk, ↓apply_ite State.fixed, fixed_eta, ite_self]
    | split
    | rfl

theorem State.losePage_fixed (s : State) : (State.losePage s).fixed = s.fixed := by
  unfold State.losePage
  repeat' first
    | simp only [↓State.draw_fixed, ↓State.haltQp_fixed, ↓fixed_mk, ↓apply_ite State.fixed, fixed_eta, ite_self]
    | split
    | rfl

theorem evEccError_fixed (page : Word) (corrected retryOk : Bool) (s : State) : (evEccError page corrected retryOk s).fixed =
    s.fixed := by
  unfold evEccError
  repeat' first
    | simp only [↓State.retire_fixed, ↓State.detect_fixed, ↓State.withdrawn_fixed, ↓State.runEnds_fixed,
        ↓State.losePage_fixed, ↓fixed_mk, ↓apply_ite State.fixed, fixed_eta, ite_self]
    | split
    | rfl

theorem effFltLogRead_fixed (t : Ticket) (p : Pkt) (s : State) : (effFltLogRead t p s).fixed = s.fixed := by
  unfold effFltLogRead
  repeat' first
    | simp only [↓State.draw_fixed, ↓State.answer_fixed, ↓fixed_mk, ↓apply_ite State.fixed, fixed_eta, ite_self]
    | split
    | rfl

theorem effFltConfig_fixed (t : Ticket) (p : Pkt) (s : State) : (effFltConfig t p s).fixed = s.fixed := by
  unfold effFltConfig
  repeat' first
    | simp only [↓State.ends_fixed, ↓fixed_mk, ↓apply_ite State.fixed, fixed_eta, ite_self]
    | split
    | rfl

theorem effFltStatus_fixed (t : Ticket) (p : Pkt) (s : State) : (effFltStatus t p s).fixed = s.fixed := by
  unfold effFltStatus
  repeat' first
    | simp only [↓State.answer_fixed, ↓State.ends_fixed, ↓fixed_mk, ↓apply_ite State.fixed, fixed_eta, ite_self]
    | split
    | rfl

theorem evConesRound_fixed (failed : List TestFail) (s : State) : (evConesRound failed s).fixed = s.fixed := by
  unfold evConesRound
  repeat' first
    | with_reducible refine (foldl_fixed _ _ _ (fun _ _ => ?_)).trans ?_
    | simp only [↓State.logEntry_fixed, ↓State.detect_fixed, ↓fixed_mk, ↓apply_ite State.fixed, fixed_eta, ite_self]
    | split
    | rfl

theorem State.modChannel_fixed (s : State) (chB : Bool) (f : Channel → Channel) : (State.modChannel s chB f).fixed = s.fixed
    := by
  unfold State.modChannel
  repeat' first
    | simp only [↓fixed_mk, ↓apply_ite State.fixed, fixed_eta, ite_self]
    | split
    | rfl

theorem State.modFn_fixed (s : State) (chB : Bool) (n : Nat) (f : SafeFn → SafeFn) : (State.modFn s chB n f).fixed = s.fixed
    := by
  unfold State.modFn
  repeat' first
    | simp only [↓State.modChannel_fixed, ↓fixed_mk, ↓apply_ite State.fixed, fixed_eta, ite_self]
    | split
    | rfl

theorem State.sagTime_fixed (s : State) (chB : Bool) (t : Nat) : (State.sagTime s chB t).2.fixed = s.fixed := by
  unfold State.sagTime
  repeat' first
    | simp only [↓State.draw_fixed, ↓fixed_mk, ↓apply_ite State.fixed, fixed_eta, ite_self]
    | split
    | rfl

theorem State.passSafe_fixed (s : State) (chB : Bool) (n : Nat) : (State.passSafe s chB n).fixed = s.fixed := by
  unfold State.passSafe
  repeat' first
    | simp only [↓State.modFn_fixed, ↓State.sagTime_fixed, ↓fixed_mk, ↓apply_ite State.fixed, fixed_eta, ite_self]
    | split
    | rfl

theorem State.demandBegins_fixed (s : State) (chB : Bool) (n : Nat) : (State.demandBegins s chB n).fixed = s.fixed := by
  unfold State.demandBegins
  repeat' first
    | with_reducible refine (forEach_fixed _ _ _ (fun _ _ => ?_)).trans ?_
    | simp only [↓State.modB_fixed, ↓State.enterSafe_fixed, ↓State.startRamp_fixed, ↓State.modFn_fixed,
        ↓State.sagTime_fixed, ↓State.passSafe_fixed, ↓fixed_mk, ↓apply_ite State.fixed, fixed_eta, ite_self]
    | split
    | rfl

theorem State.judgeDemand_fixed (s : State) (chB : Bool) (n : Nat) : (State.judgeDemand s chB n).fixed = s.fixed := by
  unfold State.judgeDemand
  repeat' first
    | simp only [↓State.modFn_fixed, ↓State.demandBegins_fixed, ↓fixed_mk, ↓apply_ite State.fixed, fixed_eta, ite_self]
    | split
    | rfl

theorem State.freshFn_fixed (s : State) (chB : Bool) (n : Nat) : (State.freshFn s chB n).fixed = s.fixed := by
  unfold State.freshFn
  repeat' first
    | simp only [↓State.modFn_fixed, ↓State.demandBegins_fixed, ↓fixed_mk, ↓apply_ite State.fixed, fixed_eta, ite_self]
    | split
    | rfl

theorem State.setComm_fixed (s : State) (c : CommState) : (State.setComm s c).fixed = s.fixed := by
  unfold State.setComm
  repeat' first
    | simp only [↓State.report_fixed, ↓State.refreshSsl_fixed, ↓fixed_mk, ↓apply_ite State.fixed, fixed_eta, ite_self]
    | split
    | rfl

theorem State.logCheck_fixed (s : State) : (State.logCheck s).fixed = s.fixed := by
  unfold State.logCheck
  repeat' first
    | simp only [↓State.draw_fixed, ↓State.logEntry_fixed, ↓fixed_mk, ↓apply_ite State.fixed, fixed_eta, ite_self]
    | split
    | rfl

theorem State.resetSaggar_fixed (s : State) : (State.resetSaggar s).fixed = s.fixed := by
  unfold State.resetSaggar
  repeat' first
    | with_reducible refine (foldl_fixed _ _ _ (fun _ _ => ?_)).trans ?_
    | simp only [↓State.refreshSsl_fixed, ↓State.freshFn_fixed, ↓State.logCheck_fixed, ↓fixed_mk, ↓apply_ite
        State.fixed, fixed_eta, ite_self]
    | split
    | rfl

theorem effSafeStage_fixed (t : Ticket) (p : Pkt) (s : State) : (effSafeStage t p s).fixed = s.fixed := by
  unfold effSafeStage
  repeat' first
    | simp only [↓State.answer_fixed, ↓State.ends_fixed, ↓State.setComm_fixed, ↓fixed_mk, ↓apply_ite State.fixed,
        fixed_eta, ite_self]
    | split
    | rfl

theorem effSafeConfirm_fixed (t : Ticket) (p : Pkt) (s : State) : (effSafeConfirm t p s).fixed = s.fixed := by
  unfold effSafeConfirm
  repeat' first
    | simp only [↓State.answer_fixed, ↓State.ends_fixed, ↓State.setComm_fixed, ↓fixed_mk, ↓apply_ite State.fixed,
        fixed_eta, ite_self]
    | split
    | rfl

theorem effSafeStatus_fixed (t : Ticket) (x1 : Pkt) (s : State) : (effSafeStatus t x1 s).fixed = s.fixed := by
  unfold effSafeStatus
  repeat' first
    | simp only [↓State.answer_fixed, ↓fixed_mk, ↓apply_ite State.fixed, fixed_eta, ite_self]
    | split
    | rfl

theorem effSafeOutput_fixed (t : Ticket) (p : Pkt) (s : State) : (effSafeOutput t p s).fixed = s.fixed := by
  unfold effSafeOutput
  repeat' first
    | simp only [↓State.ends_fixed, ↓fixed_mk, ↓apply_ite State.fixed, fixed_eta, ite_self]
    | split
    | rfl

theorem effSafeRead_fixed (t : Ticket) (p : Pkt) (s : State) : (effSafeRead t p s).fixed = s.fixed := by
  unfold effSafeRead
  repeat' first
    | simp only [↓State.answer_fixed, ↓State.ends_fixed, ↓fixed_mk, ↓apply_ite State.fixed, fixed_eta, ite_self]
    | split
    | rfl

theorem effSafeRequest_fixed (t : Ticket) (p : Pkt) (s : State) : (effSafeRequest t p s).fixed = s.fixed := by
  unfold effSafeRequest
  repeat' first
    | with_reducible refine (forEach_fixed _ _ _ (fun _ _ => ?_)).trans ?_
    | simp only [↓State.ends_fixed, ↓State.modFn_fixed, ↓State.judgeDemand_fixed, ↓fixed_mk, ↓apply_ite State.fixed,
        fixed_eta, ite_self]
    | split
    | rfl

theorem evSinFilteredChange_fixed (chB : Bool) (sin : Fin 8) (level : Bool) (s : State) : (evSinFilteredChange chB sin level
    s).fixed = s.fixed := by
  unfold evSinFilteredChange
  repeat' first
    | simp only [↓State.refreshSsl_fixed, ↓State.modFn_fixed, ↓State.judgeDemand_fixed, ↓fixed_mk, ↓apply_ite
        State.fixed, fixed_eta, ite_self]
    | split
    | rfl

theorem State.setDisc_fixed (s : State) (chB : Bool) (n : Nat) : (State.setDisc s chB n).fixed = s.fixed := by
  unfold State.setDisc
  repeat' first
    | with_reducible refine (forEach_fixed _ _ _ (fun _ _ => ?_)).trans ?_
    | simp only [↓State.enterSafe_fixed, ↓State.modFn_fixed, ↓fixed_mk, ↓apply_ite State.fixed, fixed_eta, ite_self]
    | split
    | rfl

theorem evDiscrepancyLatch_fixed (chB : Bool) (f : Fin 4) (s : State) : (evDiscrepancyLatch chB f s).fixed = s.fixed := by
  unfold evDiscrepancyLatch
  repeat' first
    | simp only [↓State.advanceTo_fixed, ↓State.refreshSsl_fixed, ↓State.sagTime_fixed, ↓State.setDisc_fixed,
        ↓fixed_mk, ↓apply_ite State.fixed, fixed_eta, ite_self]
    | split
    | rfl

theorem evSs1SafeInstant_fixed (chB : Bool) (f : Fin 4) (s : State) : (evSs1SafeInstant chB f s).fixed = s.fixed := by
  unfold evSs1SafeInstant
  repeat' first
    | with_reducible refine (forEach_fixed _ _ _ (fun _ _ => ?_)).trans ?_
    | simp only [↓State.advanceTo_fixed, ↓State.refreshSsl_fixed, ↓State.enterSafe_fixed, ↓State.passSafe_fixed,
        ↓fixed_mk, ↓apply_ite State.fixed, fixed_eta, ite_self]
    | split
    | rfl

theorem evSbcDelayExpiry_fixed (chB : Bool) (out : Fin 2) (s : State) : (evSbcDelayExpiry chB out s).fixed = s.fixed := by
  unfold evSbcDelayExpiry
  repeat' first
    | with_reducible refine (foldl_fixed _ _ _ (fun _ _ => ?_)).trans ?_
    | simp only [↓State.advanceTo_fixed, ↓State.modChannel_fixed, ↓fixed_mk, ↓apply_ite State.fixed, fixed_eta,
        ite_self]
    | split
    | rfl

theorem evSafeEnFall_fixed (s : State) : (evSafeEnFall s).fixed = s.fixed := by
  unfold evSafeEnFall
  repeat' first
    | with_reducible refine (forEach_fixed _ _ _ (fun _ _ => ?_)).trans ?_
    | simp only [↓State.modLink_fixed, ↓State.sendDown_fixed, ↓fixed_mk, ↓apply_ite State.fixed, fixed_eta, ite_self]
    | split
    | rfl

theorem State.clearFn_fixed (s : State) (takenA takenB : Bool) (n : Nat) : (State.clearFn s takenA takenB n).fixed = s.fixed
    := by
  unfold State.clearFn
  repeat' first
    | simp only [↓State.logEntry_fixed, ↓State.modFn_fixed, ↓fixed_mk, ↓apply_ite State.fixed, fixed_eta, ite_self]
    | split
    | rfl

theorem State.countToggle_fixed (s : State) (chB taken : Bool) : (State.countToggle s chB taken).fixed = s.fixed := by
  unfold State.countToggle
  repeat' first
    | simp only [↓State.modChannel_fixed, ↓fixed_mk, ↓apply_ite State.fixed, fixed_eta, ite_self]
    | split
    | rfl

theorem State.commitQueued_fixed (s : State) : (State.commitQueued s).fixed = s.fixed := by
  unfold State.commitQueued
  repeat' first
    | simp only [↓State.queueNor_fixed, ↓fixed_mk, ↓apply_ite State.fixed, fixed_eta, ite_self]
    | split
    | rfl

theorem evSafeEnToggle_fixed (mayA mayB : Bool) (tripPins : Byte) (s : State) : (evSafeEnToggle mayA mayB tripPins s).fixed =
    s.fixed := by
  unfold evSafeEnToggle
  repeat' first
    | with_reducible refine (forEach_fixed _ _ _ (fun _ _ => ?_)).trans ?_
    | simp only [↓State.modTrip_fixed, ↓State.refreshSsl_fixed, ↓State.clearBridge_fixed, ↓State.clearFn_fixed,
        ↓State.countToggle_fixed, ↓State.commitQueued_fixed, ↓fixed_mk, ↓apply_ite State.fixed, fixed_eta, ite_self]
    | split
    | rfl

theorem evBlockCommit_fixed (ok : Bool) (s : State) : (evBlockCommit ok s).fixed = s.fixed := by
  unfold evBlockCommit
  repeat' first
    | with_reducible refine (forEach_fixed _ _ _ (fun _ _ => ?_)).trans ?_
    | simp only [↓State.modSvc_fixed, ↓State.ends_fixed, ↓State.freshFn_fixed, ↓State.setComm_fixed, ↓fixed_mk,
        ↓apply_ite State.fixed, fixed_eta, ite_self]
    | split
    | rfl

theorem evConfirmWindowExpiry_fixed (s : State) : (evConfirmWindowExpiry s).fixed = s.fixed := by
  unfold evConfirmWindowExpiry
  repeat' first
    | simp only [↓State.advanceTo_fixed, ↓State.ends_fixed, ↓State.setComm_fixed, ↓fixed_mk, ↓apply_ite State.fixed,
        fixed_eta, ite_self]
    | split
    | rfl

theorem State.faultSbcIn_fixed (s : State) (chB : Bool) : (State.faultSbcIn s chB).fixed = s.fixed := by
  unfold State.faultSbcIn
  repeat' first
    | simp only [↓State.modChannel_fixed, ↓State.sagTime_fixed, ↓fixed_mk, ↓apply_ite State.fixed, fixed_eta, ite_self]
    | split
    | rfl

theorem State.faultSbc_fixed (s : State) : (State.faultSbc s).fixed = s.fixed := by
  unfold State.faultSbc
  repeat' first
    | simp only [↓State.faultSbcIn_fixed, ↓fixed_mk, ↓apply_ite State.fixed, fixed_eta, ite_self]
    | split
    | rfl

theorem State.crossFault_fixed (s : State) : (State.crossFault s).fixed = s.fixed := by
  unfold State.crossFault
  repeat' first
    | simp only [↓State.refreshSsl_fixed, ↓State.allSafe_fixed, ↓State.faultSbc_fixed, ↓fixed_mk, ↓apply_ite
        State.fixed, fixed_eta, ite_self]
    | split
    | rfl

theorem evSagExchange_fixed (received : Bool) (s : State) : (evSagExchange received s).fixed = s.fixed := by
  unfold evSagExchange
  repeat' first
    | with_reducible refine (forEach_fixed _ _ _ (fun _ _ => ?_)).trans ?_
    | simp only [↓State.refreshSsl_fixed, ↓State.modFn_fixed, ↓State.judgeDemand_fixed, ↓State.setDisc_fixed,
        ↓State.crossFault_fixed, ↓fixed_mk, ↓apply_ite State.fixed, fixed_eta, ite_self]
    | split
    | rfl

theorem evSaggarInternalFault_fixed (s : State) : (evSaggarInternalFault s).fixed = s.fixed := by
  unfold evSaggarInternalFault
  repeat' first
    | simp only [↓State.refreshSsl_fixed, ↓State.allSafe_fixed, ↓State.faultSbc_fixed, ↓fixed_mk, ↓apply_ite
        State.fixed, fixed_eta, ite_self]
    | split
    | rfl

theorem evLockstepMismatch_fixed (s : State) : (evLockstepMismatch s).fixed = s.fixed := by
  unfold evLockstepMismatch
  repeat' first
    | simp only [↓State.allSafe_fixed, ↓fixed_mk, ↓apply_ite State.fixed, fixed_eta, ite_self]
    | split
    | rfl

theorem State.modDpx_fixed (s : State) (f : Duplex → Duplex) : (State.modDpx s f).fixed = s.fixed := by
  unfold State.modDpx
  repeat' first
    | simp only [↓fixed_mk, ↓apply_ite State.fixed, fixed_eta, ite_self]
    | split
    | rfl

theorem State.judgeStandby_fixed (s : State) : (State.judgeStandby s).fixed = s.fixed := by
  unfold State.judgeStandby
  repeat' first
    | simp only [↓State.report_fixed, ↓State.modDpx_fixed, ↓fixed_mk, ↓apply_ite State.fixed, fixed_eta, ite_self]
    | split
    | rfl

theorem State.setDuplexRole_fixed (s : State) (r : DpxRole) : (State.setDuplexRole s r).fixed = s.fixed := by
  unfold State.setDuplexRole
  repeat' first
    | with_reducible refine (forEach_fixed _ _ _ (fun _ _ => ?_)).trans ?_
    | simp only [↓State.modB_fixed, ↓State.report_fixed, ↓State.modDpx_fixed, ↓fixed_mk, ↓apply_ite State.fixed,
        fixed_eta, ite_self]
    | split
    | rfl

theorem evRingInserted_fixed (closed : Bool) (s : State) : (evRingInserted closed s).fixed = s.fixed := by
  unfold evRingInserted
  repeat' first
    | simp only [↓State.modRing_fixed, ↓State.setDuplexRole_fixed, ↓fixed_mk, ↓apply_ite State.fixed, fixed_eta,
        ite_self]
    | split
    | rfl

theorem evPairingTimeout_fixed (s : State) : (evPairingTimeout s).fixed = s.fixed := by
  unfold evPairingTimeout
  repeat' first
    | simp only [↓State.advanceTo_fixed, ↓State.judgeStandby_fixed, ↓State.setDuplexRole_fixed, ↓fixed_mk, ↓apply_ite
        State.fixed, fixed_eta, ite_self]
    | split
    | rfl

theorem evStateTransferDone_fixed (s : State) : (evStateTransferDone s).fixed = s.fixed := by
  unfold evStateTransferDone
  repeat' first
    | simp only [↓State.judgeStandby_fixed, ↓State.setDuplexRole_fixed, ↓fixed_mk, ↓apply_ite State.fixed, fixed_eta,
        ite_self]
    | split
    | rfl

theorem State.takeMirror_fixed (s : State) (r : List Byte) : (State.takeMirror s r).fixed = s.fixed := by
  unfold State.takeMirror
  repeat' first
    | simp only [↓State.modB_fixed, ↓State.modGf_fixed, ↓State.modLc_fixed, ↓State.modPwm_fixed, ↓State.draw_fixed,
        ↓State.modDpx_fixed, ↓fixed_mk, ↓apply_ite State.fixed, fixed_eta, ite_self]
    | split
    | rfl

theorem evMirrorFrame_fixed (nb : Bool) (src hops : BitVec 4) (payload : List Byte) (s : State) : (evMirrorFrame nb src hops
    payload s).fixed = s.fixed := by
  unfold evMirrorFrame
  repeat' first
    | simp only [↓State.forward_fixed, ↓State.modDpx_fixed, ↓State.takeMirror_fixed, ↓fixed_mk, ↓apply_ite
        State.fixed, fixed_eta, ite_self]
    | split
    | rfl

theorem State.runMirrored_fixed (s : State) (b : Nat) : (State.runMirrored s b).fixed = s.fixed := by
  unfold State.runMirrored
  repeat' first
    | simp only [↓State.modB_fixed, ↓State.modLc_fixed, ↓State.turnGf_fixed, ↓fixed_mk, ↓apply_ite State.fixed,
        fixed_eta, ite_self]
    | split
    | rfl

theorem effDpxSwitch_fixed (t : Ticket) (x1 : Pkt) (s : State) : (effDpxSwitch t x1 s).fixed = s.fixed := by
  unfold effDpxSwitch
  repeat' first
    | simp only [↓State.ends_fixed, ↓State.startHandover_fixed, ↓State.modDpx_fixed, ↓fixed_mk, ↓apply_ite
        State.fixed, fixed_eta, ite_self]
    | split
    | rfl

theorem evHandoverCommit_fixed (b : Fin 8) (s : State) : (evHandoverCommit b s).fixed = s.fixed := by
  unfold evHandoverCommit
  repeat' first
    | simp only [↓State.modB_fixed, ↓State.modPwm_fixed, ↓State.advanceTo_fixed, ↓State.transfer_fixed,
        ↓State.modDpx_fixed, ↓State.runMirrored_fixed, ↓fixed_mk, ↓apply_ite State.fixed, fixed_eta, ite_self]
    | split
    | rfl

theorem evHandoverOwn_fixed (b : Fin 8) (s : State) : (evHandoverOwn b s).fixed = s.fixed := by
  unfold evHandoverOwn
  repeat' first
    | simp only [↓State.modB_fixed, ↓State.advanceTo_fixed, ↓fixed_mk, ↓apply_ite State.fixed, fixed_eta, ite_self]
    | split
    | rfl

theorem State.roleChange_fixed (s : State) : (State.roleChange s).fixed = s.fixed := by
  unfold State.roleChange
  repeat' first
    | with_reducible refine (forEach_fixed _ _ _ (fun _ _ => ?_)).trans ?_
    | simp only [↓State.modB_fixed, ↓State.modLink_fixed, ↓State.ends_fixed, ↓State.logEntry_fixed,
        ↓State.enterSafe_fixed, ↓State.retireServed_fixed, ↓State.modDpx_fixed, ↓State.judgeStandby_fixed,
        ↓State.setDuplexRole_fixed, ↓fixed_mk, ↓apply_ite State.fixed, fixed_eta, ite_self]
    | split
    | rfl

theorem evHandoverAbandon_fixed (s : State) : (evHandoverAbandon s).fixed = s.fixed := by
  unfold evHandoverAbandon
  repeat' first
    | with_reducible refine (forEach_fixed _ _ _ (fun _ _ => ?_)).trans ?_
    | simp only [↓State.modB_fixed, ↓State.modLink_fixed, ↓State.advanceTo_fixed, ↓State.ends_fixed,
        ↓State.retire_fixed, ↓State.modDpx_fixed, ↓fixed_mk, ↓apply_ite State.fixed, fixed_eta, ite_self]
    | split
    | rfl

theorem State.startTakeover_fixed (s : State) : (State.startTakeover s).fixed = s.fixed := by
  unfold State.startTakeover
  repeat' first
    | with_reducible refine (forEach_fixed _ _ _ (fun _ _ => ?_)).trans ?_
    | simp only [↓State.modB_fixed, ↓State.logEntry_fixed, ↓State.drivePattern_fixed, ↓State.download_fixed,
        ↓State.enterSafe_fixed, ↓State.modDpx_fixed, ↓fixed_mk, ↓apply_ite State.fixed, fixed_eta, ite_self]
    | split
    | rfl

theorem State.takeBridge_fixed (s : State) (b : Nat) : (State.takeBridge s b).fixed = s.fixed := by
  unfold State.takeBridge
  repeat' first
    | simp only [↓State.enterSafe_fixed, ↓State.runMirrored_fixed, ↓fixed_mk, ↓apply_ite State.fixed, fixed_eta,
        ite_self]
    | split
    | rfl

theorem State.takeoverAcks_fixed (s : State) : (State.takeoverAcks s).fixed = s.fixed := by
  unfold State.takeoverAcks
  repeat' first
    | with_reducible refine (forEach_fixed _ _ _ (fun _ _ => ?_)).trans ?_
    | simp only [↓State.modDpx_fixed, ↓State.judgeStandby_fixed, ↓State.setDuplexRole_fixed, ↓State.takeBridge_fixed,
        ↓fixed_mk, ↓apply_ite State.fixed, fixed_eta, ite_self]
    | split
    | rfl

theorem evStandDown_fixed (g : Fin 24) (s : State) : (evStandDown g s).fixed = s.fixed := by
  unfold evStandDown
  repeat' first
    | with_reducible refine (forEach_fixed _ _ _ (fun _ _ => ?_)).trans ?_
    | simp only [↓State.advanceTo_fixed, ↓State.logEntry_fixed, ↓State.drivePattern_fixed, ↓State.modDpx_fixed,
        ↓State.setDuplexRole_fixed, ↓fixed_mk, ↓apply_ite State.fixed, fixed_eta, ite_self]
    | split
    | rfl

theorem evNodeLost_fixed (node : Fin 16) (s : State) : (evNodeLost node s).fixed = s.fixed := by
  unfold evNodeLost
  repeat' first
    | simp only [↓State.loseNode_fixed, ↓State.modDpx_fixed, ↓State.judgeStandby_fixed, ↓State.startTakeover_fixed,
        ↓fixed_mk, ↓apply_ite State.fixed, fixed_eta, ite_self]
    | split
    | rfl

theorem State.partnerBeat_fixed (s : State) (payload : List Byte) : (State.partnerBeat s payload).fixed = s.fixed := by
  unfold State.partnerBeat
  repeat' first
    | with_reducible refine (forEach_fixed _ _ _ (fun _ _ => ?_)).trans ?_
    | simp only [↓State.modB_fixed, ↓State.modDpx_fixed, ↓State.judgeStandby_fixed, ↓State.setDuplexRole_fixed,
        ↓State.startTakeover_fixed, ↓fixed_mk, ↓apply_ite State.fixed, fixed_eta, ite_self]
    | split
    | rfl

theorem evHeartbeatFrame_fixed (nb : Bool) (src hops : BitVec 4) (payload : List Byte) (s : State) : (evHeartbeatFrame nb src
    hops payload s).fixed = s.fixed := by
  unfold evHeartbeatFrame
  repeat' first
    | simp only [↓State.forward_fixed, ↓State.heardBeat_fixed, ↓State.partnerBeat_fixed, ↓fixed_mk, ↓apply_ite
        State.fixed, fixed_eta, ite_self]
    | split
    | rfl

theorem evForwardTimeout_fixed (qp : Fin 16) (tag : Half) (s : State) : (evForwardTimeout qp tag s).fixed = s.fixed := by
  unfold evForwardTimeout
  repeat' first
    | simp only [↓State.advanceTo_fixed, ↓State.answerNow_fixed, ↓State.modDpx_fixed, ↓State.judgeStandby_fixed,
        ↓fixed_mk, ↓apply_ite State.fixed, fixed_eta, ite_self]
    | split
    | rfl

theorem State.forwardResult_fixed (s : State) (q tag code : Nat) : (State.forwardResult s q tag code).fixed = s.fixed := by
  unfold State.forwardResult
  repeat' first
    | simp only [↓State.answerNow_fixed, ↓State.modDpx_fixed, ↓fixed_mk, ↓apply_ite State.fixed, fixed_eta, ite_self]
    | split
    | rfl

theorem effDpxReport_fixed (t : Ticket) (x1 : Pkt) (s : State) : (effDpxReport t x1 s).fixed = s.fixed := by
  unfold effDpxReport
  repeat' first
    | simp only [↓State.answer_fixed, ↓fixed_mk, ↓apply_ite State.fixed, fixed_eta, ite_self]
    | split
    | rfl

theorem effDpxHealth_fixed (t : Ticket) (x1 : Pkt) (s : State) : (effDpxHealth t x1 s).fixed = s.fixed := by
  unfold effDpxHealth
  repeat' first
    | simp only [↓State.answer_fixed, ↓fixed_mk, ↓apply_ite State.fixed, fixed_eta, ite_self]
    | split
    | rfl

theorem State.modBank_fixed (s : State) (k : Nat) (f : FwBank → FwBank) : (State.modBank s k f).fixed = s.fixed := by
  unfold State.modBank
  repeat' first
    | simp only [↓State.modSvc_fixed, ↓fixed_mk, ↓apply_ite State.fixed, fixed_eta, ite_self]
    | split
    | rfl

theorem effFwLoad_fixed (t : Ticket) (p : Pkt) (s : State) : (effFwLoad t p s).fixed = s.fixed := by
  unfold effFwLoad
  repeat' first
    | simp only [↓State.queueNor_fixed, ↓State.ends_fixed, ↓State.modBank_fixed, ↓fixed_mk, ↓apply_ite State.fixed,
        fixed_eta, ite_self]
    | split
    | rfl

theorem effFwVerify_fixed (t : Ticket) (x1 : Pkt) (s : State) : (effFwVerify t x1 s).fixed = s.fixed := by
  unfold effFwVerify
  repeat' first
    | simp only [↓State.answer_fixed, ↓State.ends_fixed, ↓State.modBank_fixed, ↓fixed_mk, ↓apply_ite State.fixed,
        fixed_eta, ite_self]
    | split
    | rfl

theorem effFwActivate_fixed (t : Ticket) (p : Pkt) (s : State) : (effFwActivate t p s).fixed = s.fixed := by
  unfold effFwActivate
  repeat' first
    | simp only [↓State.queueNor_fixed, ↓State.ends_fixed, ↓fixed_mk, ↓apply_ite State.fixed, fixed_eta, ite_self]
    | split
    | rfl

theorem effFwConfirm_fixed (t : Ticket) (x1 : Pkt) (s : State) : (effFwConfirm t x1 s).fixed = s.fixed := by
  unfold effFwConfirm
  repeat' first
    | simp only [↓State.queueNor_fixed, ↓fixed_mk, ↓apply_ite State.fixed, fixed_eta, ite_self]
    | split
    | rfl

theorem effFwStatus_fixed (t : Ticket) (x1 : Pkt) (s : State) : (effFwStatus t x1 s).fixed = s.fixed := by
  unfold effFwStatus
  repeat' first
    | simp only [↓State.answer_fixed, ↓fixed_mk, ↓apply_ite State.fixed, fixed_eta, ite_self]
    | split
    | rfl

theorem State.calPut_fixed (s : State) (i v : Nat) : (State.calPut s i v).fixed = s.fixed := by
  unfold State.calPut
  repeat' first
    | simp only [↓State.modSlot_fixed, ↓State.modSvc_fixed, ↓fixed_mk, ↓apply_ite State.fixed, fixed_eta, ite_self]
    | split
    | rfl

theorem State.calWrite_fixed (s : State) (t : Ticket) (first : Nat) (es : List Nat) : (State.calWrite s t first es).fixed =
    s.fixed := by
  unfold State.calWrite
  repeat' first
    | simp only [↓State.queueNor_fixed, ↓State.ends_fixed, ↓fixed_mk, ↓apply_ite State.fixed, fixed_eta, ite_self]
    | split
    | rfl

theorem effCalWrite_fixed (t : Ticket) (p : Pkt) (s : State) : (effCalWrite t p s).fixed = s.fixed := by
  unfold effCalWrite
  repeat' first
    | simp only [↓State.ends_fixed, ↓State.calWrite_fixed, ↓fixed_mk, ↓apply_ite State.fixed, fixed_eta, ite_self]
    | split
    | rfl

theorem effCalRead_fixed (t : Ticket) (x1 : Pkt) (s : State) : (effCalRead t x1 s).fixed = s.fixed := by
  unfold effCalRead
  repeat' first
    | simp only [↓State.answer_fixed, ↓fixed_mk, ↓apply_ite State.fixed, fixed_eta, ite_self]
    | split
    | rfl

theorem effCalExport_fixed (t : Ticket) (x1 : Pkt) (s : State) : (effCalExport t x1 s).fixed = s.fixed := by
  unfold effCalExport
  repeat' first
    | simp only [↓State.answer_fixed, ↓fixed_mk, ↓apply_ite State.fixed, fixed_eta, ite_self]
    | split
    | rfl

theorem effCalImport_fixed (t : Ticket) (p : Pkt) (s : State) : (effCalImport t p s).fixed = s.fixed := by
  unfold effCalImport
  repeat' first
    | simp only [↓State.ends_fixed, ↓State.calWrite_fixed, ↓fixed_mk, ↓apply_ite State.fixed, fixed_eta, ite_self]
    | split
    | rfl

theorem State.modSvcSlot_fixed (s : State) (k : Nat) (f : SvcSlot → SvcSlot) : (State.modSvcSlot s k f).fixed = s.fixed := by
  unfold State.modSvcSlot
  repeat' first
    | simp only [↓State.modSvc_fixed, ↓fixed_mk, ↓apply_ite State.fixed, fixed_eta, ite_self]
    | split
    | rfl

theorem State.eraseSlot_fixed (s : State) (k : Nat) : (State.eraseSlot s k).fixed = s.fixed := by
  unfold State.eraseSlot
  repeat' first
    | with_reducible refine (forEach_fixed _ _ _ (fun _ _ => ?_)).trans ?_
    | simp only [↓State.freeContext_fixed, ↓State.modSvcSlot_fixed, ↓fixed_mk, ↓apply_ite State.fixed, fixed_eta,
        ite_self]
    | split
    | rfl

theorem effSvcLoad_fixed (t : Ticket) (p : Pkt) (s : State) : (effSvcLoad t p s).fixed = s.fixed := by
  unfold effSvcLoad
  repeat' first
    | simp only [↓State.queueNor_fixed, ↓State.ends_fixed, ↓State.eraseSlot_fixed, ↓fixed_mk, ↓apply_ite State.fixed,
        fixed_eta, ite_self]
    | split
    | rfl

theorem State.norDone_fixed (s : State) (w : NorWrite) : (State.norDone s w).fixed = s.fixed := by
  unfold State.norDone
  repeat' first
    | with_reducible refine (foldl_fixed _ _ _ (fun _ _ => ?_)).trans ?_
    | simp only [↓State.modSvc_fixed, ↓State.answer_fixed, ↓State.ends_fixed, ↓State.modCyc_fixed,
        ↓State.modBank_fixed, ↓State.calPut_fixed, ↓State.modSvcSlot_fixed, ↓State.eraseSlot_fixed, ↓fixed_mk,
        ↓apply_ite State.fixed, fixed_eta, ite_self]
    | split
    | rfl

theorem State.norFailed_fixed (s : State) (w : NorWrite) : (State.norFailed s w).fixed = s.fixed := by
  unfold State.norFailed
  repeat' first
    | simp only [↓State.ends_fixed, ↓fixed_mk, ↓apply_ite State.fixed, fixed_eta, ite_self]
    | split
    | rfl

theorem State.modPwr_fixed (s : State) (f : Power → Power) : (State.modPwr s f).fixed = s.fixed := by
  unfold State.modPwr
  repeat' first
    | simp only [↓fixed_mk, ↓apply_ite State.fixed, fixed_eta, ite_self]
    | split
    | rfl

theorem State.modPll_fixed (s : State) (n : Nat) (f : Pll → Pll) : (State.modPll s n f).fixed = s.fixed := by
  unfold State.modPll
  repeat' first
    | simp only [↓State.modPwr_fixed, ↓fixed_mk, ↓apply_ite State.fixed, fixed_eta, ite_self]
    | split
    | rfl

theorem State.startRelock_fixed (s : State) (n : Nat) : (State.startRelock s n).fixed = s.fixed := by
  unfold State.startRelock
  repeat' first
    | with_reducible refine (forEach_fixed _ _ _ (fun _ _ => ?_)).trans ?_
    | simp only [↓State.modLink_fixed, ↓State.catchUp_fixed, ↓State.slotsStop_fixed, ↓State.modPll_fixed, ↓fixed_mk,
        ↓apply_ite State.fixed, fixed_eta, ite_self]
    | split
    | rfl

theorem State.retrainLinks_fixed (s : State) : (State.retrainLinks s).fixed = s.fixed := by
  unfold State.retrainLinks
  repeat' first
    | with_reducible refine (forEach_fixed _ _ _ (fun _ _ => ?_)).trans ?_
    | simp only [↓State.modLink_fixed, ↓fixed_mk, ↓apply_ite State.fixed, fixed_eta, ite_self]
    | split
    | rfl

theorem evPllLockLoss_fixed (n : Fin 5) (s : State) : (evPllLockLoss n s).fixed = s.fixed := by
  unfold evPllLockLoss
  repeat' first
    | simp only [↓State.report_fixed, ↓State.detect_fixed, ↓State.modPll_fixed, ↓State.startRelock_fixed, ↓fixed_mk,
        ↓apply_ite State.fixed, fixed_eta, ite_self]
    | split
    | rfl

theorem evPllRelockStart_fixed (n : Fin 5) (s : State) : (evPllRelockStart n s).fixed = s.fixed := by
  unfold evPllRelockStart
  repeat' first
    | simp only [↓State.advanceTo_fixed, ↓State.startRelock_fixed, ↓fixed_mk, ↓apply_ite State.fixed, fixed_eta,
        ite_self]
    | split
    | rfl

theorem evPllLockDeclared_fixed (n : Fin 5) (s : State) : (evPllLockDeclared n s).fixed = s.fixed := by
  unfold evPllLockDeclared
  repeat' first
    | with_reducible refine (forEach_fixed _ _ _ (fun _ _ => ?_)).trans ?_
    | simp only [↓State.catchUp_fixed, ↓State.slotsStart_fixed, ↓State.runEnds_fixed, ↓State.modPll_fixed,
        ↓State.retrainLinks_fixed, ↓fixed_mk, ↓apply_ite State.fixed, fixed_eta, ite_self]
    | split
    | rfl

theorem evPllRelockTimeout_fixed (n : Fin 5) (s : State) : (evPllRelockTimeout n s).fixed = s.fixed := by
  unfold evPllRelockTimeout
  repeat' first
    | simp only [↓State.advanceTo_fixed, ↓State.catchUp_fixed, ↓State.detect_fixed, ↓State.runEnds_fixed,
        ↓State.modPll_fixed, ↓State.startRelock_fixed, ↓fixed_mk, ↓apply_ite State.fixed, fixed_eta, ite_self]
    | split
    | rfl

theorem evPllHoldoverTimeout_fixed (s : State) : (evPllHoldoverTimeout s).fixed = s.fixed := by
  unfold evPllHoldoverTimeout
  repeat' first
    | with_reducible refine (forEach_fixed _ _ _ (fun _ _ => ?_)).trans ?_
    | simp only [↓State.advanceTo_fixed, ↓State.enterSafe_fixed, ↓State.startRelock_fixed, ↓fixed_mk, ↓apply_ite
        State.fixed, fixed_eta, ite_self]
    | split
    | rfl

theorem evRefSwitchToRing_fixed (s : State) : (evRefSwitchToRing s).fixed = s.fixed := by
  unfold evRefSwitchToRing
  repeat' first
    | simp only [↓State.modPwr_fixed, ↓fixed_mk, ↓apply_ite State.fixed, fixed_eta, ite_self]
    | split
    | rfl

theorem evRefClockLoss_fixed (s : State) : (evRefClockLoss s).fixed = s.fixed := by
  unfold evRefClockLoss
  repeat' first
    | simp only [↓State.report_fixed, ↓State.modPwr_fixed, ↓fixed_mk, ↓apply_ite State.fixed, fixed_eta, ite_self]
    | split
    | rfl

theorem State.writeReg_fixed (s : State) (off v : Nat) : (State.writeReg s off v).fixed = s.fixed := by
  unfold State.writeReg
  repeat' first
    | simp only [↓State.regPut_fixed, ↓fixed_mk, ↓apply_ite State.fixed, fixed_eta, ite_self]
    | split
    | rfl

theorem State.writeCtrl_fixed (s : State) (v : Nat) : (State.writeCtrl s v).fixed = s.fixed := by
  unfold State.writeCtrl
  repeat' first
    | simp only [↓State.writeReg_fixed, ↓fixed_mk, ↓apply_ite State.fixed, fixed_eta, ite_self]
    | split
    | rfl

theorem evSetupLock_fixed (v : Word) (s : State) : (evSetupLock v s).fixed = s.fixed := by
  unfold evSetupLock
  repeat' first
    | simp only [↓State.writeCtrl_fixed, ↓fixed_mk, ↓apply_ite State.fixed, fixed_eta, ite_self]
    | split
    | rfl

theorem State.unmask_fixed (s : State) (v : Nat) : (State.unmask s v).fixed = s.fixed := by
  unfold State.unmask
  repeat' first
    | simp only [↓fixed_mk, ↓apply_ite State.fixed, fixed_eta, ite_self]
    | split
    | rfl

theorem State.lockEffect_fixed (s : State) : (State.lockEffect s).fixed = s.fixed := by
  unfold State.lockEffect
  repeat' first
    | with_reducible refine (forEach_fixed _ _ _ (fun _ _ => ?_)).trans ?_
    | with_reducible refine (foldl_fixed _ _ _ (fun _ _ => ?_)).trans ?_
    | simp only [↓State.queueNor_fixed, ↓State.startQps_fixed, ↓State.modTime_fixed, ↓State.modRing_fixed,
        ↓State.refreshLock_fixed, ↓State.modPwr_fixed, ↓State.startRelock_fixed, ↓fixed_mk, ↓apply_ite State.fixed,
        fixed_eta, ite_self]
    | split
    | rfl

theorem evSetupLockEffect_fixed (s : State) : (evSetupLockEffect s).fixed = s.fixed := by
  unfold evSetupLockEffect
  repeat' first
    | simp only [↓State.lockEffect_fixed, ↓fixed_mk, ↓apply_ite State.fixed, fixed_eta, ite_self]
    | split
    | rfl

theorem evProfileSave_fixed (ok : Bool) (s : State) : (evProfileSave ok s).fixed = s.fixed := by
  unfold evProfileSave
  repeat' first
    | simp only [↓State.modSvc_fixed, ↓State.modPwr_fixed, ↓fixed_mk, ↓apply_ite State.fixed, fixed_eta, ite_self]
    | split
    | rfl

theorem State.applyProfile_fixed (s : State) (p : List (Nat × Nat)) : (State.applyProfile s p).fixed = s.fixed := by
  unfold State.applyProfile
  repeat' first
    | with_reducible refine (foldl_fixed _ _ _ (fun _ _ => ?_)).trans ?_
    | simp only [↓State.writeReg_fixed, ↓State.writeCtrl_fixed, ↓fixed_mk, ↓apply_ite State.fixed, fixed_eta, ite_self]
    | split
    | rfl

theorem State.modFeed_fixed (s : State) (n : Nat) (f : Feed → Feed) : (State.modFeed s n f).fixed = s.fixed := by
  unfold State.modFeed
  repeat' first
    | simp only [↓State.modPwr_fixed, ↓fixed_mk, ↓apply_ite State.fixed, fixed_eta, ite_self]
    | split
    | rfl

theorem State.restartAon_fixed (s : State) : (State.restartAon s).fixed = s.fixed := by
  unfold State.restartAon
  repeat' first
    | simp only [↓State.modPwr_fixed, ↓fixed_mk, ↓apply_ite State.fixed, fixed_eta, ite_self]
    | split
    | rfl

theorem evPwrAonLoRead_fixed (s : State) : (evPwrAonLoRead s).fixed = s.fixed := by
  unfold evPwrAonLoRead
  repeat' first
    | simp only [↓State.modPwr_fixed, ↓fixed_mk, ↓apply_ite State.fixed, fixed_eta, ite_self]
    | split
    | rfl

theorem State.checkCal_fixed (s : State) : (State.checkCal s).fixed = s.fixed := by
  unfold State.checkCal
  repeat' first
    | simp only [↓State.draw_fixed, ↓fixed_mk, ↓apply_ite State.fixed, fixed_eta, ite_self]
    | split
    | rfl

theorem State.interruptedCal_fixed (s : State) : (State.interruptedCal s).fixed = s.fixed := by
  unfold State.interruptedCal
  repeat' first
    | with_reducible refine (foldl_fixed _ _ _ (fun _ _ => ?_)).trans ?_
    | simp only [↓State.draw_fixed, ↓State.calPut_fixed, ↓fixed_mk, ↓apply_ite State.fixed, fixed_eta, ite_self]
    | split
    | rfl

theorem State.resetDies_fixed (s : State) : (State.resetDies s).fixed = s.fixed := by
  unfold State.resetDies
  repeat' first
    | simp only [↓State.interruptedCal_fixed, ↓fixed_mk, ↓apply_ite State.fixed, fixed_eta, ite_self]
    | split
    | rfl

theorem State.boot_fixed (s : State) (cause wake : Nat) : (State.boot s cause wake).fixed = s.fixed := by
  unfold State.boot
  repeat' first
    | simp only [↓State.modSvc_fixed, ↓State.resetSaggar_fixed, ↓State.modPwr_fixed, ↓State.checkCal_fixed,
        ↓State.resetDies_fixed, ↓fixed_mk, ↓apply_ite State.fixed, fixed_eta, ite_self]
    | split
    | rfl

theorem State.wakeUp_fixed (s : State) (cause : Nat) : (State.wakeUp s cause).fixed = s.fixed := by
  unfold State.wakeUp
  repeat' first
    | simp only [↓State.modPwr_fixed, ↓State.boot_fixed, ↓fixed_mk, ↓apply_ite State.fixed, fixed_eta, ite_self]
    | split
    | rfl

theorem State.loseBackup_fixed (s : State) : (State.loseBackup s).fixed = s.fixed := by
  unfold State.loseBackup
  repeat' first
    | simp only [↓State.modCyc_fixed, ↓State.restartAon_fixed, ↓fixed_mk, ↓apply_ite State.fixed, fixed_eta, ite_self]
    | split
    | rfl

theorem evFeedOutOfWindow_fixed (vfb : Bool) (level : Byte) (s : State) : (evFeedOutOfWindow vfb level s).fixed = s.fixed :=
    by
  unfold evFeedOutOfWindow
  repeat' first
    | simp only [↓State.detect_fixed, ↓State.modFeed_fixed, ↓fixed_mk, ↓apply_ite State.fixed, fixed_eta, ite_self]
    | split
    | rfl

theorem evFeedReconnect_fixed (vfb : Bool) (level : Byte) (s : State) : (evFeedReconnect vfb level s).fixed = s.fixed := by
  unfold evFeedReconnect
  repeat' first
    | simp only [↓State.runEnds_fixed, ↓State.modFeed_fixed, ↓State.boot_fixed, ↓fixed_mk, ↓apply_ite State.fixed,
        fixed_eta, ite_self]
    | split
    | rfl

theorem evPowerFail_fixed (s : State) : (evPowerFail s).fixed = s.fixed := by
  unfold evPowerFail
  repeat' first
    | simp only [↓State.allSafe_fixed, ↓State.dropRelays_fixed, ↓evSaggarInternalFault_fixed, ↓State.modPwr_fixed,
        ↓fixed_mk, ↓apply_ite State.fixed, fixed_eta, ite_self]
    | split
    | rfl

theorem evPowerFailEnd_fixed (s : State) : (evPowerFailEnd s).fixed = s.fixed := by
  unfold evPowerFailEnd
  repeat' first
    | simp only [↓State.modPwr_fixed, ↓State.resetDies_fixed, ↓State.boot_fixed, ↓State.loseBackup_fixed, ↓fixed_mk,
        ↓apply_ite State.fixed, fixed_eta, ite_self]
    | split
    | rfl

theorem evPowerOn_fixed (vfa vfb vhold vbak : Byte) (s : State) : (evPowerOn vfa vfb vhold vbak s).fixed = s.fixed := by
  unfold evPowerOn
  repeat' first
    | simp only [↓State.modPwr_fixed, ↓State.boot_fixed, ↓State.loseBackup_fixed, ↓fixed_mk, ↓apply_ite State.fixed,
        fixed_eta, ite_self]
    | split
    | rfl

theorem evResetNLow_fixed (s : State) : (evResetNLow s).fixed = s.fixed := by
  unfold evResetNLow
  repeat' first
    | simp only [↓State.modPwr_fixed, ↓State.resetDies_fixed, ↓fixed_mk, ↓apply_ite State.fixed, fixed_eta, ite_self]
    | split
    | rfl

theorem evResetNRise_fixed (s : State) : (evResetNRise s).fixed = s.fixed := by
  unfold evResetNRise
  repeat' first
    | simp only [↓State.modPwr_fixed, ↓State.boot_fixed, ↓State.wakeUp_fixed, ↓fixed_mk, ↓apply_ite State.fixed,
        fixed_eta, ite_self]
    | split
    | rfl

theorem State.selfTestFail_fixed (s : State) (c : ChanRef) : (State.selfTestFail s c).fixed = s.fixed := by
  unfold State.selfTestFail
  repeat' first
    | simp only [↓State.retire_fixed, ↓fixed_mk, ↓apply_ite State.fixed, fixed_eta, ite_self]
    | split
    | rfl

theorem evBootReady_fixed (fails : List ChanRef) (s : State) : (evBootReady fails s).fixed = s.fixed := by
  unfold evBootReady
  repeat' first
    | with_reducible refine (foldl_fixed _ _ _ (fun _ _ => ?_)).trans ?_
    | simp only [↓State.modPwr_fixed, ↓State.lockEffect_fixed, ↓State.applyProfile_fixed, ↓State.selfTestFail_fixed,
        ↓fixed_mk, ↓apply_ite State.fixed, fixed_eta, ite_self]
    | split
    | rfl

theorem State.refreshPower_fixed (s : State) : (State.refreshPower s).fixed = s.fixed := by
  unfold State.refreshPower
  repeat' first
    | simp only [↓State.modPwr_fixed, ↓fixed_mk, ↓apply_ite State.fixed, fixed_eta, ite_self]
    | split
    | rfl

theorem evReadyReturn_fixed (s : State) : (evReadyReturn s).fixed = s.fixed := by
  unfold evReadyReturn
  repeat' first
    | simp only [↓State.advanceTo_fixed, ↓State.modPwr_fixed, ↓fixed_mk, ↓apply_ite State.fixed, fixed_eta, ite_self]
    | split
    | rfl

theorem evSleep_fixed (s : State) : (evSleep s).fixed = s.fixed := by
  unfold evSleep
  repeat' first
    | with_reducible refine (foldl_fixed _ _ _ (fun _ _ => ?_)).trans ?_
    | simp only [↓State.advanceTo_fixed, ↓State.dropRelays_fixed, ↓State.haltQp_fixed, ↓State.modPwr_fixed, ↓fixed_mk,
        ↓apply_ite State.fixed, fixed_eta, ite_self]
    | split
    | rfl

theorem evWakePin_fixed (s : State) : (evWakePin s).fixed = s.fixed := by
  unfold evWakePin
  repeat' first
    | simp only [↓State.wakeUp_fixed, ↓fixed_mk, ↓apply_ite State.fixed, fixed_eta, ite_self]
    | split
    | rfl

theorem evWakeInterval_fixed (s : State) : (evWakeInterval s).fixed = s.fixed := by
  unfold evWakeInterval
  repeat' first
    | simp only [↓State.advanceTo_fixed, ↓State.wakeUp_fixed, ↓fixed_mk, ↓apply_ite State.fixed, fixed_eta, ite_self]
    | split
    | rfl

theorem evWatchConversion_fixed (code : Half) (s : State) : (evWatchConversion code s).fixed = s.fixed := by
  unfold evWatchConversion
  repeat' first
    | simp only [↓State.modPwr_fixed, ↓State.wakeUp_fixed, ↓fixed_mk, ↓apply_ite State.fixed, fixed_eta, ite_self]
    | split
    | rfl

theorem evWakeFrame_fixed (nb : Bool) (src hops : BitVec 4) (target : Byte) (s : State) : (evWakeFrame nb src hops target
    s).fixed = s.fixed := by
  unfold evWakeFrame
  repeat' first
    | simp only [↓State.forward_fixed, ↓State.repeatFrame_fixed, ↓State.wakeUp_fixed, ↓fixed_mk, ↓apply_ite
        State.fixed, fixed_eta, ite_self]
    | split
    | rfl

theorem evNorWriteDone_fixed (ok : Bool) (s : State) : (evNorWriteDone ok s).fixed = s.fixed := by
  unfold evNorWriteDone
  repeat' first
    | with_reducible refine (foldl_fixed _ _ _ (fun _ _ => ?_)).trans ?_
    | simp only [↓State.modSvc_fixed, ↓State.haltQp_fixed, ↓State.norDone_fixed, ↓State.norFailed_fixed,
        ↓State.boot_fixed, ↓fixed_mk, ↓apply_ite State.fixed, fixed_eta, ite_self]
    | split
    | rfl

theorem State.modDbg_fixed (s : State) (f : Debug → Debug) : (State.modDbg s f).fixed = s.fixed := by
  unfold State.modDbg
  repeat' first
    | simp only [↓fixed_mk, ↓apply_ite State.fixed, fixed_eta, ite_self]
    | split
    | rfl

theorem State.dbgOff_fixed (s : State) : (State.dbgOff s).fixed = s.fixed := by
  unfold State.dbgOff
  repeat' first
    | with_reducible refine (forEach_fixed _ _ _ (fun _ _ => ?_)).trans ?_
    | simp only [↓State.regPut_fixed, ↓State.leaveHold_fixed, ↓State.modDbg_fixed, ↓fixed_mk, ↓apply_ite State.fixed,
        fixed_eta, ite_self]
    | split
    | rfl

theorem State.setLevel_fixed (s : State) (level : Nat) : (State.setLevel s level).fixed = s.fixed := by
  unfold State.setLevel
  repeat' first
    | simp only [↓State.modDbg_fixed, ↓State.dbgOff_fixed, ↓fixed_mk, ↓apply_ite State.fixed, fixed_eta, ite_self]
    | split
    | rfl

theorem State.request_fixed (s : State) (v : Nat) : (State.request s v).fixed = s.fixed := by
  unfold State.request
  repeat' first
    | with_reducible refine (forEach_fixed _ _ _ (fun _ _ => ?_)).trans ?_
    | simp only [↓State.regPut_fixed, ↓State.draw_fixed, ↓State.modDbg_fixed, ↓fixed_mk, ↓apply_ite State.fixed,
        fixed_eta, ite_self]
    | split
    | rfl

theorem evDbgSubmit_fixed (s : State) : (evDbgSubmit s).fixed = s.fixed := by
  unfold evDbgSubmit
  repeat' first
    | simp only [↓State.modDbg_fixed, ↓State.setLevel_fixed, ↓fixed_mk, ↓apply_ite State.fixed, fixed_eta, ite_self]
    | split
    | rfl

theorem evDbgRevoke_fixed (s : State) : (evDbgRevoke s).fixed = s.fixed := by
  unfold evDbgRevoke
  repeat' first
    | simp only [↓State.setLevel_fixed, ↓fixed_mk, ↓apply_ite State.fixed, fixed_eta, ite_self]
    | split
    | rfl

theorem evDbgLockoutEnd_fixed (s : State) : (evDbgLockoutEnd s).fixed = s.fixed := by
  unfold evDbgLockoutEnd
  repeat' first
    | simp only [↓State.advanceTo_fixed, ↓State.modDbg_fixed, ↓fixed_mk, ↓apply_ite State.fixed, fixed_eta, ite_self]
    | split
    | rfl

theorem State.writeDbgCtrl_fixed (s : State) (v : Nat) : (State.writeDbgCtrl s v).fixed = s.fixed := by
  unfold State.writeDbgCtrl
  repeat' first
    | simp only [↓State.request_fixed, ↓evDbgSubmit_fixed, ↓evDbgRevoke_fixed, ↓fixed_mk, ↓apply_ite State.fixed,
        fixed_eta, ite_self]
    | split
    | rfl

theorem evDbgReq_fixed (v : Word) (s : State) : (evDbgReq v s).fixed = s.fixed := by
  unfold evDbgReq
  repeat' first
    | simp only [↓State.request_fixed, ↓fixed_mk, ↓apply_ite State.fixed, fixed_eta, ite_self]
    | split
    | rfl

theorem evDbgAtestWrite_fixed (v : Word) (s : State) : (evDbgAtestWrite v s).fixed = s.fixed := by
  unfold evDbgAtestWrite
  repeat' first
    | simp only [↓State.modDbg_fixed, ↓fixed_mk, ↓apply_ite State.fixed, fixed_eta, ite_self]
    | split
    | rfl

theorem State.refreshAtest_fixed (s : State) : (State.refreshAtest s).fixed = s.fixed := by
  unfold State.refreshAtest
  repeat' first
    | simp only [↓State.modDbg_fixed, ↓fixed_mk, ↓apply_ite State.fixed, fixed_eta, ite_self]
    | split
    | rfl

theorem State.writeDbg_fixed (s : State) (off v : Nat) : (State.writeDbg s off v).fixed = s.fixed := by
  unfold State.writeDbg
  repeat' first
    | simp only [↓State.regPut_fixed, ↓State.modDbg_fixed, ↓State.writeDbgCtrl_fixed, ↓evDbgAtestWrite_fixed,
        ↓fixed_mk, ↓apply_ite State.fixed, fixed_eta, ite_self]
    | split
    | rfl

theorem evRegisterWrite_fixed (off v : Word) (s : State) : (evRegisterWrite off v s).fixed = s.fixed := by
  unfold evRegisterWrite
  repeat' first
    | simp only [↓State.writeReg_fixed, ↓State.writeCtrl_fixed, ↓State.unmask_fixed, ↓State.writeDbg_fixed, ↓fixed_mk,
        ↓apply_ite State.fixed, fixed_eta, ite_self]
    | split
    | rfl

theorem evExtestEnd_fixed (s : State) : (evExtestEnd s).fixed = s.fixed := by
  unfold evExtestEnd
  repeat' first
    | with_reducible refine (forEach_fixed _ _ _ (fun _ _ => ?_)).trans ?_
    | simp only [↓State.modLink_fixed, ↓State.modDbg_fixed, ↓fixed_mk, ↓apply_ite State.fixed, fixed_eta, ite_self]
    | split
    | rfl

theorem evDbgAuth_fixed (dr : BitVec 40) (s : State) : (evDbgAuth dr s).fixed = s.fixed := by
  unfold evDbgAuth
  repeat' first
    | simp only [↓State.modDbg_fixed, ↓State.writeDbg_fixed, ↓evExtestEnd_fixed, ↓fixed_mk, ↓apply_ite State.fixed,
        fixed_eta, ite_self]
    | split
    | rfl

theorem evExtest_fixed (s : State) : (evExtest s).fixed = s.fixed := by
  unfold evExtest
  repeat' first
    | simp only [↓State.modDbg_fixed, ↓evExtestEnd_fixed, ↓fixed_mk, ↓apply_ite State.fixed, fixed_eta, ite_self]
    | split
    | rfl

theorem evDbgMbox_fixed (bytes : List Byte) (first last : Bool) (s : State) : (evDbgMbox bytes first last s).fixed = s.fixed
    := by
  unfold evDbgMbox
  repeat' first
    | simp only [↓State.modBank_fixed, ↓State.modDbg_fixed, ↓fixed_mk, ↓apply_ite State.fixed, fixed_eta, ite_self]
    | split
    | rfl

theorem evIdcode_fixed (s : State) : (evIdcode s).fixed = s.fixed := by
  unfold evIdcode
  repeat' first
    | simp only [↓State.modDbg_fixed, ↓evExtestEnd_fixed, ↓fixed_mk, ↓apply_ite State.fixed, fixed_eta, ite_self]
    | split
    | rfl

theorem evBypass_fixed (s : State) : (evBypass s).fixed = s.fixed := by
  unfold evBypass
  repeat' first
    | simp only [↓State.modDbg_fixed, ↓evExtestEnd_fixed, ↓fixed_mk, ↓apply_ite State.fixed, fixed_eta, ite_self]
    | split
    | rfl

theorem evSamplePreload_fixed (s : State) : (evSamplePreload s).fixed = s.fixed := by
  unfold evSamplePreload
  repeat' first
    | simp only [↓State.modDbg_fixed, ↓evExtestEnd_fixed, ↓fixed_mk, ↓apply_ite State.fixed, fixed_eta, ite_self]
    | split
    | rfl

theorem State.effect_fixed (s : State) (t : Ticket) (i : Instr) : (State.effect s t i).fixed = s.fixed := by
  unfold State.effect
  repeat' first
    | simp only [↓State.ends_fixed, ↓effAdminNop_fixed, ↓effIdentify_fixed, ↓effAdminEventWait_fixed,
        ↓effAdminAbort_fixed, ↓effFence_fixed, ↓effBarrier_fixed, ↓effBridgeDefine_fixed, ↓effBridgeSetRole_fixed,
        ↓effBridgeBind_fixed, ↓effBridgeArm_fixed, ↓effBridgeDisarm_fixed, ↓effBridgePrecharge_fixed,
        ↓effBridgeStart_fixed, ↓effBridgeStop_fixed, ↓effBridgeSafe_fixed, ↓effBridgeRecover_fixed,
        ↓effBridgeStatus_fixed, ↓effBridgeBindImage_fixed, ↓effWheelConfig_fixed, ↓effWheelContext_fixed,
        ↓effWheelReady_fixed, ↓effWheelDelay_fixed, ↓effWheelWait_fixed, ↓effWheelCancel_fixed, ↓effWheelSignal_fixed,
        ↓effWheelSigmap_fixed, ↓effWheelStatus_fixed, ↓effWheelRelease_fixed, ↓effGateProfile_fixed,
        ↓effGateAdapt_fixed, ↓effGateStatus_fixed, ↓effGateTelem_fixed, ↓effGateBoosterRw_fixed, ↓effPwmCarrier_fixed,
        ↓effPwmEdges_fixed, ↓effPwmPeriod_fixed, ↓effPwmBoot_fixed, ↓effPwmTripConfig_fixed, ↓effPwmStatus_fixed,
        ↓effPugSlotConfig_fixed, ↓effPugFirLoad_fixed, ↓effPugFirSwap_fixed, ↓effPugDsmClock_fixed,
        ↓effPugTimer_fixed, ↓effPugRecal_fixed, ↓effPugRead_fixed, ↓effPugStatus_fixed, ↓effPugPosConfig_fixed,
        ↓effGfConfig_fixed, ↓effGfTune_fixed, ↓effGfSetpoint_fixed, ↓effGfSecondary_fixed, ↓effGfStatus_fixed,
        ↓effCycConfig_fixed, ↓effCycLoad_fixed, ↓effCycVerify_fixed, ↓effCycChange_fixed, ↓effCycMode_fixed,
        ↓effCycStation_fixed, ↓effCycForce_fixed, ↓effCycRead_fixed, ↓effCycWrite_fixed, ↓effCycDebug_fixed,
        ↓effCycStore_fixed, ↓effCycDiscard_fixed, ↓effCycStatus_fixed, ↓effTimeAdj_fixed, ↓effTimeStep_fixed,
        ↓effTimeSource_fixed, ↓effTimePtpConfig_fixed, ↓effTimeStatus_fixed, ↓effNetTx_fixed, ↓effNetRx_fixed,
        ↓effNetFilter_fixed, ↓effNetGcl_fixed, ↓effNetStatus_fixed, ↓effNrPublish_fixed, ↓effNrTelemRead_fixed,
        ↓effNrSend_fixed, ↓effNrRecv_fixed, ↓effNrStatus_fixed, ↓effLoopConfig_fixed, ↓effLoopCoefLoad_fixed,
        ↓effLoopCoefSwap_fixed, ↓effLoopTableLoad_fixed, ↓effLoopTableSwap_fixed, ↓effLoopStateSet_fixed,
        ↓effLoopSetpoint_fixed, ↓effLoopSubst_fixed, ↓effLoopInject_fixed, ↓effLoopInjectStop_fixed,
        ↓effLoopStatus_fixed, ↓effLoopUnload_fixed, ↓effCapConfig_fixed, ↓effCapArm_fixed, ↓effCapDisarm_fixed,
        ↓effCapForce_fixed, ↓effCapRead_fixed, ↓effCapStatus_fixed, ↓effCapRelease_fixed, ↓effReinstate_fixed,
        ↓effFltLogRead_fixed, ↓effFltConfig_fixed, ↓effFltStatus_fixed, ↓effSafeStage_fixed, ↓effSafeConfirm_fixed,
        ↓effSafeStatus_fixed, ↓effSafeOutput_fixed, ↓effSafeRead_fixed, ↓effSafeRequest_fixed, ↓effDpxSwitch_fixed,
        ↓effDpxReport_fixed, ↓effDpxHealth_fixed, ↓effFwLoad_fixed, ↓effFwVerify_fixed, ↓effFwActivate_fixed,
        ↓effFwConfirm_fixed, ↓effFwStatus_fixed, ↓State.calWrite_fixed, ↓effCalWrite_fixed, ↓effCalRead_fixed,
        ↓effCalExport_fixed, ↓effCalImport_fixed, ↓effSvcLoad_fixed, ↓fixed_mk, ↓apply_ite State.fixed, fixed_eta,
        ite_self]
    | split
    | rfl

theorem State.unforward_fixed (s : State) (t : Ticket) : (State.unforward s t).fixed = s.fixed := by
  unfold State.unforward
  repeat' first
    | simp only [↓State.answerNow_fixed, ↓State.modDpx_fixed, ↓fixed_mk, ↓apply_ite State.fixed, fixed_eta, ite_self]
    | split
    | rfl

theorem State.accept_fixed (s : State) (t : Ticket) (op : Nat) (i : Instr) (p : Pkt) : (State.accept s t op i p).fixed =
    s.fixed := by
  unfold State.accept
  repeat' first
    | simp only [↓State.modDpx_fixed, ↓State.effect_fixed, ↓State.unforward_fixed, ↓fixed_mk, ↓apply_ite State.fixed,
        fixed_eta, ite_self]
    | split
    | rfl

theorem State.start_fixed (s : State) (q : Fin 16) (f : Flight) : (State.start s q f).fixed = s.fixed := by
  unfold State.start
  repeat' first
    | simp only [↓State.modQp_fixed, ↓State.ends_fixed, ↓State.accept_fixed, ↓fixed_mk, ↓apply_ite State.fixed,
        fixed_eta, ite_self]
    | split
    | rfl

theorem State.settle_fixed (n : Nat) (s : State) : (State.settle n s).fixed = s.fixed := by
  induction n generalizing s with
  | zero => rfl
  | succ n ih =>
    unfold State.settle
    split
    · rw [ih, State.start_fixed]
    · rfl

theorem State.finish_fixed (s : State) : (State.finish s).fixed = s.fixed := by
  unfold State.finish
  repeat' first
    | simp only [↓State.refreshPower_fixed, ↓State.refreshAtest_fixed, ↓State.settle_fixed, ↓fixed_mk, ↓apply_ite
        State.fixed, fixed_eta, ite_self]
    | split
    | rfl

theorem State.happen_fixed (s : State) (f : State → State) (h : (f s).fixed = s.fixed) : (s.happen f).fixed = s.fixed := by
  unfold State.happen
  split
  · rw [State.finish_fixed]; exact h
  · rfl

theorem State.moveFetch_fixed (s : State) (q : Fin 16) (index g : Nat) (lap : Bool) : (State.moveFetch s q index g lap).fixed
    = s.fixed := by
  unfold State.moveFetch
  repeat' first
    | simp only [↓State.modQp_fixed, ↓fixed_mk, ↓apply_ite State.fixed, fixed_eta, ite_self]
    | split
    | rfl

theorem State.enlist_fixed (s : State) (q : Fin 16) (i : Instr) (p : Pkt) (undef : Option Nat) : (State.enlist s q i p
    undef).fixed = s.fixed := by
  unfold State.enlist
  repeat' first
    | simp only [↓State.modQp_fixed, ↓fixed_mk, ↓apply_ite State.fixed, fixed_eta, ite_self]
    | split
    | rfl

theorem State.takePacket_fixed (s : State) (i : Instr) (p : Pkt) (undef : Option Nat) : (State.takePacket s i p undef).fixed =
    s.fixed := by
  unfold State.takePacket
  repeat' first
    | simp only [↓State.modQp_fixed, ↓State.haltQp_fixed, ↓State.moveFetch_fixed, ↓State.enlist_fixed, ↓fixed_mk,
        ↓apply_ite State.fixed, fixed_eta, ite_self]
    | split
    | rfl

theorem State.fetched_fixed (s : State) (i : Instr) (p : Pkt) : (State.fetched s i p).fixed = s.fixed := by
  unfold State.fetched
  repeat' first
    | simp only [↓State.moveFetch_fixed, ↓State.takePacket_fixed, ↓fixed_mk, ↓apply_ite State.fixed, fixed_eta,
        ite_self]
    | split
    | rfl

theorem State.arrive_fixed (s : State) (i : Instr) (p : Pkt) : (State.arrive s i p).fixed = s.fixed := by
  unfold State.arrive
  repeat' first
    | simp only [↓State.happen_fixed, ↓State.fetched_fixed, ↓fixed_mk, ↓apply_ite State.fixed, fixed_eta, ite_self]
    | split
    | rfl

theorem evWindowWord0Read_fixed (cls : Fin 17) (unit : Fin 128) (s : State) : (evWindowWord0Read cls unit s).fixed = s.fixed
    := by
  unfold evWindowWord0Read
  repeat' first
    | simp only [↓State.modPwr_fixed, ↓fixed_mk, ↓apply_ite State.fixed, fixed_eta, ite_self]
    | split
    | rfl

theorem evPacketFetch_fixed (q : Fin 16) (bytes : List Byte) (s : State) : (evPacketFetch q bytes s).fixed = s.fixed := by
  unfold evPacketFetch
  repeat' first
    | simp only [↓State.takePacket_fixed, ↓State.fetched_fixed, ↓fixed_mk, ↓apply_ite State.fixed, fixed_eta, ite_self]
    | split
    | rfl

theorem evNotBeforeReached_fixed (q : Fin 16) (tag : Half) (s : State) : (evNotBeforeReached q tag s).fixed = s.fixed := by
  unfold evNotBeforeReached
  repeat' first
    | simp only [↓State.advanceToNs_fixed, ↓fixed_mk, ↓apply_ite State.fixed, fixed_eta, ite_self]
    | split
    | rfl

theorem evLateWindowExpiry_fixed (q : Fin 16) (tag : Half) (s : State) : (evLateWindowExpiry q tag s).fixed = s.fixed := by
  unfold evLateWindowExpiry
  repeat' first
    | simp only [↓State.advanceTo_fixed, ↓State.advanceToNs_fixed, ↓State.ends_fixed, ↓State.settle_fixed,
        ↓State.fetched_fixed, ↓fixed_mk, ↓apply_ite State.fixed, fixed_eta, ite_self]
    | split
    | rfl

theorem State.replay_fixed (s : State) (bs : List Byte) : (State.replay s bs).fixed = s.fixed := by
  unfold State.replay
  repeat' first
    | simp only [↓State.effect_fixed, ↓fixed_mk, ↓apply_ite State.fixed, fixed_eta, ite_self]
    | split
    | rfl

theorem State.takePartner_fixed (s : State) (m : DpxMsg) : (State.takePartner s m).fixed = s.fixed := by
  unfold State.takePartner
  repeat' first
    | simp only [↓State.modDpx_fixed, ↓State.judgeStandby_fixed, ↓State.forwardResult_fixed, ↓State.replay_fixed,
        ↓fixed_mk, ↓apply_ite State.fixed, fixed_eta, ite_self]
    | split
    | rfl

theorem State.wholeMessage_fixed (s : State) (src : Nat) (bs : List Byte) : (State.wholeMessage s src bs).1.fixed = s.fixed :=
    by
  unfold State.wholeMessage
  repeat' first
    | simp only [↓State.takeMessage_fixed, ↓State.takePartner_fixed, ↓fixed_mk, ↓apply_ite State.fixed, fixed_eta,
        ite_self]
    | split
    | rfl

theorem evFragmentFrame_fixed (nb : Bool) (src hops : BitVec 4) (payload : List Byte) (s : State) : (evFragmentFrame nb src
    hops payload s).fixed = s.fixed := by
  unfold evFragmentFrame
  repeat' first
    | simp only [↓State.modRing_fixed, ↓State.forward_fixed, ↓State.assemble_fixed, ↓State.oweAck_fixed,
        ↓State.wholeMessage_fixed, ↓fixed_mk, ↓apply_ite State.fixed, fixed_eta, ite_self]
    | split
    | rfl

theorem carrierThen_fixed (b : Fin 8) (s : State) : (carrierThen b s).fixed = s.fixed := by
  unfold carrierThen; split <;> simp only [State.capTick_fixed, State.latchOuter_fixed, State.latchSample_fixed,
      evCarrierEvent_fixed, State.expireSamples_fixed]

theorem pugFrameThen_fixed (src : Fin 10) (inputs : List SlotInput) (s : State) : (pugFrameThen src inputs s).fixed = s.fixed := by
  unfold pugFrameThen; simp only; split <;> simp only [State.capTick_fixed, evPugFrame_fixed]

theorem lockstepThen_fixed (s : State) : (lockstepThen s).fixed = s.fixed := by
  unfold lockstepThen; simp only; split <;> simp only [State.yieldControl_fixed, evLockstepMismatch_fixed]

/-- A packet command keeps the part. -/
theorem packet_fixed {i : Instr} {p : Pkt} {s t : State} (h : packet i p s = .next t) : t.fixed = s.fixed := by
  unfold packet at h
  split at h
  · injection h with h; rw [← h]; exact State.arrive_fixed s i p
  · cases h

/-- An event keeps it if its effect does. -/
theorem event_fixed {w : Bool} {f : State → State} {s t : State} (hf : (f s).fixed = s.fixed) (h : event w f s = .next t) :
    t.fixed = s.fixed := by
  unfold event at h
  split at h
  · injection h with h; rw [← h]; exact State.happen_fixed s f hf
  · cases h

/-- A ring frame keeps it if its repetition and its effect do. -/
theorem frameEvent_fixed {w : Bool} {g f : State → State} {s t : State} (hg : (g s).fixed = s.fixed)
    (hf : (f (g s)).fixed = (g s).fixed) (h : frameEvent w g f s = .next t) : t.fixed = s.fixed := by
  unfold frameEvent at h
  split at h
  · injection h with h; rw [← h]; exact (State.happen_fixed _ f hf).trans hg
  · cases h

/-- An event in any power state keeps it if its effect does. -/
theorem always_fixed {f : State → State} {s t : State} (hf : (f s).fixed = s.fixed) (h : always f s = .next t) :
    t.fixed = s.fixed := by
  unfold always at h
  injection h with h; rw [← h]
  simp only
  split
  · rw [State.finish_fixed]; exact hf
  · exact hf

end Sys2Proof.Machine
end

