-- ==== Sys2Proof/Laws/PerInstr.lean ====
section
/-! SUPPORT. Laws of every command as syntax: a packet command is well formed exactly where its packet is, and its opcode is read
back as the same command (10 R12, R420: no two packet commands share an opcode). -/

namespace Sys2Proof.Laws.Packet

/-- What holds of a command: if it carries a packet, the packet decides whether it is well formed, and its opcode names it. -/
def Statement (i : Instr) : Prop :=
  ∀ p, i.pkt = some p → i.wf = p.wf ∧ ∃ op, Machine.opcodeOf i = some op ∧ Machine.packetOf op p = some i

theorem adminNop (p : Pkt) : Statement (.adminNop p) := fun _ h => by cases h; exact ⟨rfl, _, rfl, rfl⟩
theorem identify (p : Pkt) : Statement (.identify p) := fun _ h => by cases h; exact ⟨rfl, _, rfl, rfl⟩
theorem adminPad (p : Pkt) : Statement (.adminPad p) := fun _ h => by cases h; exact ⟨rfl, _, rfl, rfl⟩
theorem adminEventWait (p : Pkt) : Statement (.adminEventWait p) := fun _ h => by cases h; exact ⟨rfl, _, rfl, rfl⟩
theorem adminAbort (p : Pkt) : Statement (.adminAbort p) := fun _ h => by cases h; exact ⟨rfl, _, rfl, rfl⟩
theorem reinstate (p : Pkt) : Statement (.reinstate p) := fun _ h => by cases h; exact ⟨rfl, _, rfl, rfl⟩
theorem fence (p : Pkt) : Statement (.fence p) := fun _ h => by cases h; exact ⟨rfl, _, rfl, rfl⟩
theorem barrier (p : Pkt) : Statement (.barrier p) := fun _ h => by cases h; exact ⟨rfl, _, rfl, rfl⟩
theorem bridgeDefine (p : Pkt) : Statement (.bridgeDefine p) := fun _ h => by cases h; exact ⟨rfl, _, rfl, rfl⟩
theorem bridgeSetRole (p : Pkt) : Statement (.bridgeSetRole p) := fun _ h => by cases h; exact ⟨rfl, _, rfl, rfl⟩
theorem bridgeBind (p : Pkt) : Statement (.bridgeBind p) := fun _ h => by cases h; exact ⟨rfl, _, rfl, rfl⟩
theorem bridgeArm (p : Pkt) : Statement (.bridgeArm p) := fun _ h => by cases h; exact ⟨rfl, _, rfl, rfl⟩
theorem bridgeDisarm (p : Pkt) : Statement (.bridgeDisarm p) := fun _ h => by cases h; exact ⟨rfl, _, rfl, rfl⟩
theorem bridgePrecharge (p : Pkt) : Statement (.bridgePrecharge p) := fun _ h => by cases h; exact ⟨rfl, _, rfl, rfl⟩
theorem bridgeStart (p : Pkt) : Statement (.bridgeStart p) := fun _ h => by cases h; exact ⟨rfl, _, rfl, rfl⟩
theorem bridgeStop (p : Pkt) : Statement (.bridgeStop p) := fun _ h => by cases h; exact ⟨rfl, _, rfl, rfl⟩
theorem bridgeSafe (p : Pkt) : Statement (.bridgeSafe p) := fun _ h => by cases h; exact ⟨rfl, _, rfl, rfl⟩
theorem bridgeRecover (p : Pkt) : Statement (.bridgeRecover p) := fun _ h => by cases h; exact ⟨rfl, _, rfl, rfl⟩
theorem bridgeStatus (p : Pkt) : Statement (.bridgeStatus p) := fun _ h => by cases h; exact ⟨rfl, _, rfl, rfl⟩
theorem bridgeBindImage (p : Pkt) : Statement (.bridgeBindImage p) := fun _ h => by cases h; exact ⟨rfl, _, rfl, rfl⟩
theorem gfConfig (p : Pkt) : Statement (.gfConfig p) := fun _ h => by cases h; exact ⟨rfl, _, rfl, rfl⟩
theorem gfTune (p : Pkt) : Statement (.gfTune p) := fun _ h => by cases h; exact ⟨rfl, _, rfl, rfl⟩
theorem gfSetpoint (p : Pkt) : Statement (.gfSetpoint p) := fun _ h => by cases h; exact ⟨rfl, _, rfl, rfl⟩
theorem gfSecondary (p : Pkt) : Statement (.gfSecondary p) := fun _ h => by cases h; exact ⟨rfl, _, rfl, rfl⟩
theorem gfStatus (p : Pkt) : Statement (.gfStatus p) := fun _ h => by cases h; exact ⟨rfl, _, rfl, rfl⟩
theorem loopConfig (p : Pkt) : Statement (.loopConfig p) := fun _ h => by cases h; exact ⟨rfl, _, rfl, rfl⟩
theorem loopCoefLoad (p : Pkt) : Statement (.loopCoefLoad p) := fun _ h => by cases h; exact ⟨rfl, _, rfl, rfl⟩
theorem loopCoefSwap (p : Pkt) : Statement (.loopCoefSwap p) := fun _ h => by cases h; exact ⟨rfl, _, rfl, rfl⟩
theorem loopTableLoad (p : Pkt) : Statement (.loopTableLoad p) := fun _ h => by cases h; exact ⟨rfl, _, rfl, rfl⟩
theorem loopTableSwap (p : Pkt) : Statement (.loopTableSwap p) := fun _ h => by cases h; exact ⟨rfl, _, rfl, rfl⟩
theorem loopStateSet (p : Pkt) : Statement (.loopStateSet p) := fun _ h => by cases h; exact ⟨rfl, _, rfl, rfl⟩
theorem loopSetpoint (p : Pkt) : Statement (.loopSetpoint p) := fun _ h => by cases h; exact ⟨rfl, _, rfl, rfl⟩
theorem loopSubst (p : Pkt) : Statement (.loopSubst p) := fun _ h => by cases h; exact ⟨rfl, _, rfl, rfl⟩
theorem loopInject (p : Pkt) : Statement (.loopInject p) := fun _ h => by cases h; exact ⟨rfl, _, rfl, rfl⟩
theorem loopInjectStop (p : Pkt) : Statement (.loopInjectStop p) := fun _ h => by cases h; exact ⟨rfl, _, rfl, rfl⟩
theorem loopStatus (p : Pkt) : Statement (.loopStatus p) := fun _ h => by cases h; exact ⟨rfl, _, rfl, rfl⟩
theorem loopUnload (p : Pkt) : Statement (.loopUnload p) := fun _ h => by cases h; exact ⟨rfl, _, rfl, rfl⟩
theorem pwmCarrier (p : Pkt) : Statement (.pwmCarrier p) := fun _ h => by cases h; exact ⟨rfl, _, rfl, rfl⟩
theorem pwmEdges (p : Pkt) : Statement (.pwmEdges p) := fun _ h => by cases h; exact ⟨rfl, _, rfl, rfl⟩
theorem pwmPeriod (p : Pkt) : Statement (.pwmPeriod p) := fun _ h => by cases h; exact ⟨rfl, _, rfl, rfl⟩
theorem pwmBoot (p : Pkt) : Statement (.pwmBoot p) := fun _ h => by cases h; exact ⟨rfl, _, rfl, rfl⟩
theorem pwmTripConfig (p : Pkt) : Statement (.pwmTripConfig p) := fun _ h => by cases h; exact ⟨rfl, _, rfl, rfl⟩
theorem pwmStatus (p : Pkt) : Statement (.pwmStatus p) := fun _ h => by cases h; exact ⟨rfl, _, rfl, rfl⟩
theorem gateProfile (p : Pkt) : Statement (.gateProfile p) := fun _ h => by cases h; exact ⟨rfl, _, rfl, rfl⟩
theorem gateAdapt (p : Pkt) : Statement (.gateAdapt p) := fun _ h => by cases h; exact ⟨rfl, _, rfl, rfl⟩
theorem gateStatus (p : Pkt) : Statement (.gateStatus p) := fun _ h => by cases h; exact ⟨rfl, _, rfl, rfl⟩
theorem gateTelem (p : Pkt) : Statement (.gateTelem p) := fun _ h => by cases h; exact ⟨rfl, _, rfl, rfl⟩
theorem gateBoosterRw (p : Pkt) : Statement (.gateBoosterRw p) := fun _ h => by cases h; exact ⟨rfl, _, rfl, rfl⟩
theorem pugSlotConfig (p : Pkt) : Statement (.pugSlotConfig p) := fun _ h => by cases h; exact ⟨rfl, _, rfl, rfl⟩
theorem pugFirLoad (p : Pkt) : Statement (.pugFirLoad p) := fun _ h => by cases h; exact ⟨rfl, _, rfl, rfl⟩
theorem pugFirSwap (p : Pkt) : Statement (.pugFirSwap p) := fun _ h => by cases h; exact ⟨rfl, _, rfl, rfl⟩
theorem pugDsmClock (p : Pkt) : Statement (.pugDsmClock p) := fun _ h => by cases h; exact ⟨rfl, _, rfl, rfl⟩
theorem pugTimer (p : Pkt) : Statement (.pugTimer p) := fun _ h => by cases h; exact ⟨rfl, _, rfl, rfl⟩
theorem pugPosConfig (p : Pkt) : Statement (.pugPosConfig p) := fun _ h => by cases h; exact ⟨rfl, _, rfl, rfl⟩
theorem pugRecal (p : Pkt) : Statement (.pugRecal p) := fun _ h => by cases h; exact ⟨rfl, _, rfl, rfl⟩
theorem pugRead (p : Pkt) : Statement (.pugRead p) := fun _ h => by cases h; exact ⟨rfl, _, rfl, rfl⟩
theorem pugStatus (p : Pkt) : Statement (.pugStatus p) := fun _ h => by cases h; exact ⟨rfl, _, rfl, rfl⟩
theorem capConfig (p : Pkt) : Statement (.capConfig p) := fun _ h => by cases h; exact ⟨rfl, _, rfl, rfl⟩
theorem capArm (p : Pkt) : Statement (.capArm p) := fun _ h => by cases h; exact ⟨rfl, _, rfl, rfl⟩
theorem capDisarm (p : Pkt) : Statement (.capDisarm p) := fun _ h => by cases h; exact ⟨rfl, _, rfl, rfl⟩
theorem capForce (p : Pkt) : Statement (.capForce p) := fun _ h => by cases h; exact ⟨rfl, _, rfl, rfl⟩
theorem capRead (p : Pkt) : Statement (.capRead p) := fun _ h => by cases h; exact ⟨rfl, _, rfl, rfl⟩
theorem capStatus (p : Pkt) : Statement (.capStatus p) := fun _ h => by cases h; exact ⟨rfl, _, rfl, rfl⟩
theorem capRelease (p : Pkt) : Statement (.capRelease p) := fun _ h => by cases h; exact ⟨rfl, _, rfl, rfl⟩
theorem safeStage (p : Pkt) : Statement (.safeStage p) := fun _ h => by cases h; exact ⟨rfl, _, rfl, rfl⟩
theorem safeConfirm (p : Pkt) : Statement (.safeConfirm p) := fun _ h => by cases h; exact ⟨rfl, _, rfl, rfl⟩
theorem safeStatus (p : Pkt) : Statement (.safeStatus p) := fun _ h => by cases h; exact ⟨rfl, _, rfl, rfl⟩
theorem safeOutput (p : Pkt) : Statement (.safeOutput p) := fun _ h => by cases h; exact ⟨rfl, _, rfl, rfl⟩
theorem safeRead (p : Pkt) : Statement (.safeRead p) := fun _ h => by cases h; exact ⟨rfl, _, rfl, rfl⟩
theorem safeRequest (p : Pkt) : Statement (.safeRequest p) := fun _ h => by cases h; exact ⟨rfl, _, rfl, rfl⟩
theorem wheelConfig (p : Pkt) : Statement (.wheelConfig p) := fun _ h => by cases h; exact ⟨rfl, _, rfl, rfl⟩
theorem wheelContext (p : Pkt) : Statement (.wheelContext p) := fun _ h => by cases h; exact ⟨rfl, _, rfl, rfl⟩
theorem wheelReady (p : Pkt) : Statement (.wheelReady p) := fun _ h => by cases h; exact ⟨rfl, _, rfl, rfl⟩
theorem wheelDelay (p : Pkt) : Statement (.wheelDelay p) := fun _ h => by cases h; exact ⟨rfl, _, rfl, rfl⟩
theorem wheelWait (p : Pkt) : Statement (.wheelWait p) := fun _ h => by cases h; exact ⟨rfl, _, rfl, rfl⟩
theorem wheelCancel (p : Pkt) : Statement (.wheelCancel p) := fun _ h => by cases h; exact ⟨rfl, _, rfl, rfl⟩
theorem wheelSignal (p : Pkt) : Statement (.wheelSignal p) := fun _ h => by cases h; exact ⟨rfl, _, rfl, rfl⟩
theorem wheelSigmap (p : Pkt) : Statement (.wheelSigmap p) := fun _ h => by cases h; exact ⟨rfl, _, rfl, rfl⟩
theorem wheelStatus (p : Pkt) : Statement (.wheelStatus p) := fun _ h => by cases h; exact ⟨rfl, _, rfl, rfl⟩
theorem wheelRelease (p : Pkt) : Statement (.wheelRelease p) := fun _ h => by cases h; exact ⟨rfl, _, rfl, rfl⟩
theorem cycConfig (p : Pkt) : Statement (.cycConfig p) := fun _ h => by cases h; exact ⟨rfl, _, rfl, rfl⟩
theorem cycLoad (p : Pkt) : Statement (.cycLoad p) := fun _ h => by cases h; exact ⟨rfl, _, rfl, rfl⟩
theorem cycVerify (p : Pkt) : Statement (.cycVerify p) := fun _ h => by cases h; exact ⟨rfl, _, rfl, rfl⟩
theorem cycChange (p : Pkt) : Statement (.cycChange p) := fun _ h => by cases h; exact ⟨rfl, _, rfl, rfl⟩
theorem cycMode (p : Pkt) : Statement (.cycMode p) := fun _ h => by cases h; exact ⟨rfl, _, rfl, rfl⟩
theorem cycStation (p : Pkt) : Statement (.cycStation p) := fun _ h => by cases h; exact ⟨rfl, _, rfl, rfl⟩
theorem cycForce (p : Pkt) : Statement (.cycForce p) := fun _ h => by cases h; exact ⟨rfl, _, rfl, rfl⟩
theorem cycRead (p : Pkt) : Statement (.cycRead p) := fun _ h => by cases h; exact ⟨rfl, _, rfl, rfl⟩
theorem cycWrite (p : Pkt) : Statement (.cycWrite p) := fun _ h => by cases h; exact ⟨rfl, _, rfl, rfl⟩
theorem cycDebug (p : Pkt) : Statement (.cycDebug p) := fun _ h => by cases h; exact ⟨rfl, _, rfl, rfl⟩
theorem cycStore (p : Pkt) : Statement (.cycStore p) := fun _ h => by cases h; exact ⟨rfl, _, rfl, rfl⟩
theorem cycDiscard (p : Pkt) : Statement (.cycDiscard p) := fun _ h => by cases h; exact ⟨rfl, _, rfl, rfl⟩
theorem cycStatus (p : Pkt) : Statement (.cycStatus p) := fun _ h => by cases h; exact ⟨rfl, _, rfl, rfl⟩
theorem timeAdj (p : Pkt) : Statement (.timeAdj p) := fun _ h => by cases h; exact ⟨rfl, _, rfl, rfl⟩
theorem timeStep (p : Pkt) : Statement (.timeStep p) := fun _ h => by cases h; exact ⟨rfl, _, rfl, rfl⟩
theorem timeSource (p : Pkt) : Statement (.timeSource p) := fun _ h => by cases h; exact ⟨rfl, _, rfl, rfl⟩
theorem timePtpConfig (p : Pkt) : Statement (.timePtpConfig p) := fun _ h => by cases h; exact ⟨rfl, _, rfl, rfl⟩
theorem timeStatus (p : Pkt) : Statement (.timeStatus p) := fun _ h => by cases h; exact ⟨rfl, _, rfl, rfl⟩
theorem netTx (p : Pkt) : Statement (.netTx p) := fun _ h => by cases h; exact ⟨rfl, _, rfl, rfl⟩
theorem netRx (p : Pkt) : Statement (.netRx p) := fun _ h => by cases h; exact ⟨rfl, _, rfl, rfl⟩
theorem netFilter (p : Pkt) : Statement (.netFilter p) := fun _ h => by cases h; exact ⟨rfl, _, rfl, rfl⟩
theorem netGcl (p : Pkt) : Statement (.netGcl p) := fun _ h => by cases h; exact ⟨rfl, _, rfl, rfl⟩
theorem netStatus (p : Pkt) : Statement (.netStatus p) := fun _ h => by cases h; exact ⟨rfl, _, rfl, rfl⟩
theorem nrPublish (p : Pkt) : Statement (.nrPublish p) := fun _ h => by cases h; exact ⟨rfl, _, rfl, rfl⟩
theorem nrTelemRead (p : Pkt) : Statement (.nrTelemRead p) := fun _ h => by cases h; exact ⟨rfl, _, rfl, rfl⟩
theorem nrSend (p : Pkt) : Statement (.nrSend p) := fun _ h => by cases h; exact ⟨rfl, _, rfl, rfl⟩
theorem nrRecv (p : Pkt) : Statement (.nrRecv p) := fun _ h => by cases h; exact ⟨rfl, _, rfl, rfl⟩
theorem nrStatus (p : Pkt) : Statement (.nrStatus p) := fun _ h => by cases h; exact ⟨rfl, _, rfl, rfl⟩
theorem dpxReport (p : Pkt) : Statement (.dpxReport p) := fun _ h => by cases h; exact ⟨rfl, _, rfl, rfl⟩
theorem dpxSwitch (p : Pkt) : Statement (.dpxSwitch p) := fun _ h => by cases h; exact ⟨rfl, _, rfl, rfl⟩
theorem dpxHealth (p : Pkt) : Statement (.dpxHealth p) := fun _ h => by cases h; exact ⟨rfl, _, rfl, rfl⟩
theorem fltConfig (p : Pkt) : Statement (.fltConfig p) := fun _ h => by cases h; exact ⟨rfl, _, rfl, rfl⟩
theorem fltLogRead (p : Pkt) : Statement (.fltLogRead p) := fun _ h => by cases h; exact ⟨rfl, _, rfl, rfl⟩
theorem fltStatus (p : Pkt) : Statement (.fltStatus p) := fun _ h => by cases h; exact ⟨rfl, _, rfl, rfl⟩
theorem fwLoad (p : Pkt) : Statement (.fwLoad p) := fun _ h => by cases h; exact ⟨rfl, _, rfl, rfl⟩
theorem fwVerify (p : Pkt) : Statement (.fwVerify p) := fun _ h => by cases h; exact ⟨rfl, _, rfl, rfl⟩
theorem fwActivate (p : Pkt) : Statement (.fwActivate p) := fun _ h => by cases h; exact ⟨rfl, _, rfl, rfl⟩
theorem fwConfirm (p : Pkt) : Statement (.fwConfirm p) := fun _ h => by cases h; exact ⟨rfl, _, rfl, rfl⟩
theorem fwStatus (p : Pkt) : Statement (.fwStatus p) := fun _ h => by cases h; exact ⟨rfl, _, rfl, rfl⟩
theorem calWrite (p : Pkt) : Statement (.calWrite p) := fun _ h => by cases h; exact ⟨rfl, _, rfl, rfl⟩
theorem calRead (p : Pkt) : Statement (.calRead p) := fun _ h => by cases h; exact ⟨rfl, _, rfl, rfl⟩
theorem calExport (p : Pkt) : Statement (.calExport p) := fun _ h => by cases h; exact ⟨rfl, _, rfl, rfl⟩
theorem calImport (p : Pkt) : Statement (.calImport p) := fun _ h => by cases h; exact ⟨rfl, _, rfl, rfl⟩
theorem svcLoad (p : Pkt) : Statement (.svcLoad p) := fun _ h => by cases h; exact ⟨rfl, _, rfl, rfl⟩
theorem eicSubmit : ∀ r, Statement (.eicSubmit r) := fun _ _ h => by cases h
theorem eicPoll : ∀ r, Statement (.eicPoll r) := fun _ _ h => by cases h
theorem eicReady : ∀ r, Statement (.eicReady r) := fun _ _ h => by cases h
theorem eicSignal : ∀ r, Statement (.eicSignal r) := fun _ _ h => by cases h
theorem rdtime : ∀ r, Statement (.rdtime r) := fun _ _ h => by cases h
theorem rdcnt : ∀ r, Statement (.rdcnt r) := fun _ _ h => by cases h
theorem trace : ∀ r, Statement (.trace r) := fun _ _ h => by cases h
theorem threadEnd : ∀ c, Statement (.threadEnd c) := fun _ _ h => by cases h
theorem threadReady : ∀ c ctx, Statement (.threadReady c ctx) := fun _ _ _ h => by cases h
theorem threadSignal : ∀ c mask, Statement (.threadSignal c mask) := fun _ _ _ h => by cases h
theorem threadDelay : ∀ c n, Statement (.threadDelay c n) := fun _ _ _ h => by cases h
theorem threadWait : ∀ c mask tmo, Statement (.threadWait c mask tmo) := fun _ _ _ _ h => by cases h
theorem threadSubmit : ∀ c qp bytes, Statement (.threadSubmit c qp bytes) := fun _ _ _ _ h => by cases h
theorem threadPoll : ∀ c qp addr, Statement (.threadPoll c qp addr) := fun _ _ _ _ h => by cases h
theorem threadTime : ∀ c, Statement (.threadTime c) := fun _ _ h => by cases h
theorem threadImageRead : ∀ c ofs count addr, Statement (.threadImageRead c ofs count addr) := fun _ _ _ _ _ h => by cases h
theorem threadFault : ∀ c, Statement (.threadFault c) := fun _ _ h => by cases h
theorem commandTailWrite : ∀ qp t, Statement (.commandTailWrite qp t) := fun _ _ _ h => by cases h
theorem completionHeadWrite : ∀ qp h, Statement (.completionHeadWrite qp h) := fun _ _ _ h => by cases h
theorem qpResume : ∀ qp, Statement (.qpResume qp) := fun _ _ h => by cases h
theorem qpReset : ∀ qp, Statement (.qpReset qp) := fun _ _ h => by cases h
theorem setupLock : ∀ v, Statement (.setupLock v) := fun _ _ h => by cases h
theorem setupLockEffect : Statement .setupLockEffect := fun _ h => by cases h
theorem profileSave : ∀ ok, Statement (.profileSave ok) := fun _ _ h => by cases h
theorem registerWrite : ∀ off v, Statement (.registerWrite off v) := fun _ _ _ h => by cases h
theorem timeSnapRead : Statement .timeSnapRead := fun _ h => by cases h
theorem pwrAonLoRead : Statement .pwrAonLoRead := fun _ h => by cases h
theorem windowWord0Read : ∀ cls unit, Statement (.windowWord0Read cls unit) := fun _ _ _ h => by cases h
theorem dbgReq : ∀ v, Statement (.dbgReq v) := fun _ _ h => by cases h
theorem dbgSubmit : Statement .dbgSubmit := fun _ h => by cases h
theorem dbgRevoke : Statement .dbgRevoke := fun _ h => by cases h
theorem dbgLockoutEnd : Statement .dbgLockoutEnd := fun _ h => by cases h
theorem dbgAtestWrite : ∀ v, Statement (.dbgAtestWrite v) := fun _ _ h => by cases h
theorem dbgAuth : ∀ dr, Statement (.dbgAuth dr) := fun _ _ h => by cases h
theorem extest : Statement .extest := fun _ h => by cases h
theorem extestEnd : Statement .extestEnd := fun _ h => by cases h
theorem dbgMbox : ∀ bytes first last, Statement (.dbgMbox bytes first last) := fun _ _ _ _ h => by cases h
theorem idcode : Statement .idcode := fun _ h => by cases h
theorem bypass : Statement .bypass := fun _ h => by cases h
theorem samplePreload : Statement .samplePreload := fun _ h => by cases h
theorem packetFetch : ∀ qp bytes, Statement (.packetFetch qp bytes) := fun _ _ _ h => by cases h
theorem notBeforeReached : ∀ qp tag, Statement (.notBeforeReached qp tag) := fun _ _ _ h => by cases h
theorem lateWindowExpiry : ∀ qp tag, Statement (.lateWindowExpiry qp tag) := fun _ _ _ h => by cases h
theorem irqModTime : ∀ qp, Statement (.irqModTime qp) := fun _ _ h => by cases h
theorem ringReadFail : ∀ qp addr, Statement (.ringReadFail qp addr) := fun _ _ _ h => by cases h
theorem barrierTimeout : ∀ ident, Statement (.barrierTimeout ident) := fun _ _ h => by cases h
theorem hostUnavailable : ∀ linkUp bme, Statement (.hostUnavailable linkUp bme) := fun _ _ _ h => by cases h
theorem carrierEvent : ∀ b, Statement (.carrierEvent b) := fun _ _ h => by cases h
theorem tripSourceActive : ∀ src, Statement (.tripSourceActive src) := fun _ _ h => by cases h
theorem tripBreak : ∀ g, Statement (.tripBreak g) := fun _ _ h => by cases h
theorem faultCodeReceived : ∀ g group, Statement (.faultCodeReceived g group) := fun _ _ _ h => by cases h
theorem blankWindowClose : ∀ sw, Statement (.blankWindowClose sw) := fun _ _ h => by cases h
theorem alertSymbol : ∀ g group, Statement (.alertSymbol g group) := fun _ _ _ h => by cases h
theorem bootLow : ∀ g, Statement (.bootLow g) := fun _ _ h => by cases h
theorem forcedRefreshEnd : ∀ g, Statement (.forcedRefreshEnd g) := fun _ _ h => by cases h
theorem statusFrame : ∀ g supply temp status, Statement (.statusFrame g supply temp status) := fun _ _ _ _ _ h => by cases h
theorem edgeFrame : ∀ g second off entry exit, Statement (.edgeFrame g second off entry exit) := fun _ _ _ _ _ _ h => by cases h
theorem readDataFrame : ∀ g addr data, Statement (.readDataFrame g addr data) := fun _ _ _ _ h => by cases h
theorem ackFrame : ∀ g result, Statement (.ackFrame g result) := fun _ _ _ h => by cases h
theorem commitAckTimeout : ∀ g, Statement (.commitAckTimeout g) := fun _ _ h => by cases h
theorem uplinkFrameDiscard : ∀ f, Statement (.uplinkFrameDiscard f) := fun _ _ h => by cases h
theorem statusTimeout : ∀ g, Statement (.statusTimeout g) := fun _ _ h => by cases h
theorem trainingComplete : ∀ g ident caps acked, Statement (.trainingComplete g ident caps acked) := fun _ _ _ _ _ h => by cases h
theorem armTimeout : ∀ b, Statement (.armTimeout b) := fun _ _ h => by cases h
theorem prechargeDone : ∀ b, Statement (.prechargeDone b) := fun _ _ h => by cases h
theorem prechargeTimeout : ∀ b, Statement (.prechargeTimeout b) := fun _ _ h => by cases h
theorem prechargeTimedDone : ∀ b, Statement (.prechargeTimedDone b) := fun _ _ h => by cases h
theorem stopRampEnd : ∀ b, Statement (.stopRampEnd b) := fun _ _ h => by cases h
theorem sslLoss : ∀ b, Statement (.sslLoss b) := fun _ _ h => by cases h
theorem loopSample : ∀ c, Statement (.loopSample c) := fun _ _ h => by cases h
theorem commitDeadlineOverrun : ∀ c, Statement (.commitDeadlineOverrun c) := fun _ _ h => by cases h
theorem substTimeout : ∀ c, Statement (.substTimeout c) := fun _ _ h => by cases h
theorem injectionEnd : ∀ c, Statement (.injectionEnd c) := fun _ _ h => by cases h
theorem gfOuterStep : ∀ g, Statement (.gfOuterStep g) := fun _ _ h => by cases h
theorem gfLimitRelease : ∀ g, Statement (.gfLimitRelease g) := fun _ _ h => by cases h
theorem gfRtTimeout : ∀ g, Statement (.gfRtTimeout g) := fun _ _ h => by cases h
theorem gfWFault : ∀ g, Statement (.gfWFault g) := fun _ _ h => by cases h
theorem secExpired : ∀ g, Statement (.secExpired g) := fun _ _ h => by cases h
theorem deadBusSet : ∀ g, Statement (.deadBusSet g) := fun _ _ h => by cases h
theorem holdoffEnd : ∀ g, Statement (.holdoffEnd g) := fun _ _ h => by cases h
theorem waitLiveQualified : ∀ g, Statement (.waitLiveQualified g) := fun _ _ h => by cases h
theorem joinWindowsQualified : ∀ g, Statement (.joinWindowsQualified g) := fun _ _ h => by cases h
theorem joinFbRise : ∀ g, Statement (.joinFbRise g) := fun _ _ h => by cases h
theorem joinFbFall : ∀ g, Statement (.joinFbFall g) := fun _ _ h => by cases h
theorem contactorAssumedClosed : ∀ g, Statement (.contactorAssumedClosed g) := fun _ _ h => by cases h
theorem contactorTimeout : ∀ g, Statement (.contactorTimeout g) := fun _ _ h => by cases h
theorem retryWaitEnd : ∀ g, Statement (.retryWaitEnd g) := fun _ _ h => by cases h
theorem detachment : ∀ g, Statement (.detachment g) := fun _ _ h => by cases h
theorem pugFrame : ∀ src inputs, Statement (.pugFrame src inputs) := fun _ _ _ h => by cases h
theorem slotOutputReady : ∀ slot, Statement (.slotOutputReady slot) := fun _ _ h => by cases h
theorem resolverPeriod : ∀ n pairs, Statement (.resolverPeriod n pairs) := fun _ _ _ h => by cases h
theorem zEdge : ∀ n, Statement (.zEdge n) := fun _ _ h => by cases h
theorem measurementUpset : ∀ kind unit, Statement (.measurementUpset kind unit) := fun _ _ _ h => by cases h
theorem retryRunEnd : ∀ kind unit ok, Statement (.retryRunEnd kind unit ok) := fun _ _ _ _ h => by cases h
theorem bucketLeak : ∀ kind unit, Statement (.bucketLeak kind unit) := fun _ _ _ h => by cases h
theorem eccError : ∀ page corrected retryOk, Statement (.eccError page corrected retryOk) := fun _ _ _ _ h => by cases h
theorem recalEnd : ∀ off gain, Statement (.recalEnd off gain) := fun _ _ _ h => by cases h
theorem capSampleClose : ∀ u, Statement (.capSampleClose u) := fun _ _ h => by cases h
theorem capExtEdge : ∀ n, Statement (.capExtEdge n) := fun _ _ h => by cases h
theorem captureUpset : ∀ u, Statement (.captureUpset u) := fun _ _ h => by cases h
theorem sinFilteredChange : ∀ chB sin level, Statement (.sinFilteredChange chB sin level) := fun _ _ _ _ h => by cases h
theorem discrepancyLatch : ∀ chB f, Statement (.discrepancyLatch chB f) := fun _ _ _ h => by cases h
theorem ss1SafeInstant : ∀ chB f, Statement (.ss1SafeInstant chB f) := fun _ _ _ h => by cases h
theorem sbcDelayExpiry : ∀ chB out, Statement (.sbcDelayExpiry chB out) := fun _ _ _ h => by cases h
theorem safeEnFall : Statement .safeEnFall := fun _ h => by cases h
theorem safeEnToggle : ∀ takenA takenB tripPins, Statement (.safeEnToggle takenA takenB tripPins) := fun _ _ _ _ h => by cases h
theorem blockCommit : ∀ ok, Statement (.blockCommit ok) := fun _ _ h => by cases h
theorem confirmWindowExpiry : Statement .confirmWindowExpiry := fun _ h => by cases h
theorem sagExchange : ∀ received, Statement (.sagExchange received) := fun _ _ h => by cases h
theorem saggarInternalFault : Statement .saggarInternalFault := fun _ h => by cases h
theorem lockstepMismatch : Statement .lockstepMismatch := fun _ h => by cases h
theorem wheelCycle : Statement .wheelCycle := fun _ h => by cases h
theorem delayExpiry : Statement .delayExpiry := fun _ h => by cases h
theorem waitTimeout : ∀ c, Statement (.waitTimeout c) := fun _ _ h => by cases h
theorem eventTaskEnd : Statement .eventTaskEnd := fun _ h => by cases h
theorem cycleStart : ∀ k, Statement (.cycleStart k) := fun _ _ h => by cases h
theorem cycleEnd : ∀ k, Statement (.cycleEnd k) := fun _ _ h => by cases h
theorem outputWindow : ∀ k, Statement (.outputWindow k) := fun _ _ h => by cases h
theorem kilnSitterTrip : Statement .kilnSitterTrip := fun _ h => by cases h
theorem changeSwitch : Statement .changeSwitch := fun _ h => by cases h
theorem imageBootLoad : Statement .imageBootLoad := fun _ h => by cases h
theorem incrChange : Statement .incrChange := fun _ h => by cases h
theorem durationExpiry : Statement .durationExpiry := fun _ h => by cases h
theorem timeStepEffect : Statement .timeStepEffect := fun _ h => by cases h
theorem gclSwitch : ∀ port, Statement (.gclSwitch port) := fun _ _ h => by cases h
theorem ethFrameReceived : ∀ port bytes sec ns sub, Statement (.ethFrameReceived port bytes sec ns sub) := fun _ _ _ _ _ _ h => by cases h
theorem frameTransmitted : ∀ port sec ns sub, Statement (.frameTransmitted port sec ns sub) := fun _ _ _ _ _ h => by cases h
theorem netTxTimeout : ∀ port, Statement (.netTxTimeout port) := fun _ _ h => by cases h
theorem ethLinkChange : ∀ port up speed, Statement (.ethLinkChange port up speed) := fun _ _ _ _ h => by cases h
theorem ethPortUpset : ∀ port, Statement (.ethPortUpset port) := fun _ _ h => by cases h
theorem ringCycle : Statement .ringCycle := fun _ h => by cases h
theorem timeFrame : ∀ nb src hops payload, Statement (.timeFrame nb src hops payload) := fun _ _ _ _ _ h => by cases h
theorem delayTimer : Statement .delayTimer := fun _ h => by cases h
theorem delayFrame : ∀ nb response turnaround, Statement (.delayFrame nb response turnaround) := fun _ _ _ _ h => by cases h
theorem heartbeatFrame : ∀ nb src hops payload, Statement (.heartbeatFrame nb src hops payload) := fun _ _ _ _ _ h => by cases h
theorem telemetryFrame : ∀ nb src hops record, Statement (.telemetryFrame nb src hops record) := fun _ _ _ _ _ h => by cases h
theorem mirrorFrame : ∀ nb src hops payload, Statement (.mirrorFrame nb src hops payload) := fun _ _ _ _ _ h => by cases h
theorem fragmentFrame : ∀ nb src hops payload, Statement (.fragmentFrame nb src hops payload) := fun _ _ _ _ _ h => by cases h
theorem ringAckFrame : ∀ nb src hops dest msg result, Statement (.ringAckFrame nb src hops dest msg result) := fun _ _ _ _ _ _ _ h => by cases h
theorem nrSendTimeout : Statement .nrSendTimeout := fun _ h => by cases h
theorem wakeFrame : ∀ nb src hops target, Statement (.wakeFrame nb src hops target) := fun _ _ _ _ _ h => by cases h
theorem ringFrameDiscard : ∀ nb, Statement (.ringFrameDiscard nb) := fun _ _ h => by cases h
theorem nodeLost : ∀ node, Statement (.nodeLost node) := fun _ _ h => by cases h
theorem masterElection : Statement .masterElection := fun _ h => by cases h
theorem alignedChange : Statement .alignedChange := fun _ h => by cases h
theorem ringPortUpset : ∀ nb, Statement (.ringPortUpset nb) := fun _ _ h => by cases h
theorem ringRelaysEnergise : Statement .ringRelaysEnergise := fun _ h => by cases h
theorem ringInserted : ∀ closed, Statement (.ringInserted closed) := fun _ _ h => by cases h
theorem ringInsertTimeout : Statement .ringInsertTimeout := fun _ h => by cases h
theorem pairingTimeout : Statement .pairingTimeout := fun _ h => by cases h
theorem stateTransferDone : Statement .stateTransferDone := fun _ h => by cases h
theorem forwardTimeout : ∀ qp tag, Statement (.forwardTimeout qp tag) := fun _ _ _ h => by cases h
theorem handoverCommit : ∀ b, Statement (.handoverCommit b) := fun _ _ h => by cases h
theorem handoverOwn : ∀ b, Statement (.handoverOwn b) := fun _ _ h => by cases h
theorem handoverAbandon : Statement .handoverAbandon := fun _ h => by cases h
theorem standDown : ∀ g, Statement (.standDown g) := fun _ _ h => by cases h
theorem conesRound : ∀ failed, Statement (.conesRound failed) := fun _ _ h => by cases h
theorem feedOutOfWindow : ∀ vfb level, Statement (.feedOutOfWindow vfb level) := fun _ _ _ h => by cases h
theorem feedReconnect : ∀ vfb level, Statement (.feedReconnect vfb level) := fun _ _ _ h => by cases h
theorem powerFail : Statement .powerFail := fun _ h => by cases h
theorem powerFailEnd : Statement .powerFailEnd := fun _ h => by cases h
theorem powerOn : ∀ vfa vfb vhold vbak, Statement (.powerOn vfa vfb vhold vbak) := fun _ _ _ _ _ h => by cases h
theorem resetNLow : Statement .resetNLow := fun _ h => by cases h
theorem resetNRise : Statement .resetNRise := fun _ h => by cases h
theorem bootReady : ∀ selfTestFails, Statement (.bootReady selfTestFails) := fun _ _ h => by cases h
theorem readyReturn : Statement .readyReturn := fun _ h => by cases h
theorem sleep : Statement .sleep := fun _ h => by cases h
theorem wakePin : Statement .wakePin := fun _ h => by cases h
theorem wakeInterval : Statement .wakeInterval := fun _ h => by cases h
theorem watchConversion : ∀ code, Statement (.watchConversion code) := fun _ _ h => by cases h
theorem pllLockLoss : ∀ n, Statement (.pllLockLoss n) := fun _ _ h => by cases h
theorem pllRelockStart : ∀ n, Statement (.pllRelockStart n) := fun _ _ h => by cases h
theorem pllLockDeclared : ∀ n, Statement (.pllLockDeclared n) := fun _ _ h => by cases h
theorem pllRelockTimeout : ∀ n, Statement (.pllRelockTimeout n) := fun _ _ h => by cases h
theorem pllHoldoverTimeout : Statement .pllHoldoverTimeout := fun _ h => by cases h
theorem refSwitchToRing : Statement .refSwitchToRing := fun _ h => by cases h
theorem refClockLoss : Statement .refClockLoss := fun _ h => by cases h
theorem norWriteDone : ∀ ok, Statement (.norWriteDone ok) := fun _ _ h => by cases h
theorem pcieLinkUp : ∀ rate width, Statement (.pcieLinkUp rate width) := fun _ _ _ h => by cases h
theorem quadratureEdge : ∀ n a b, Statement (.quadratureEdge n a b) := fun _ _ _ _ h => by cases h
theorem gateControlEntry : ∀ port, Statement (.gateControlEntry port) := fun _ _ h => by cases h
theorem ringInsertRetry : Statement .ringInsertRetry := fun _ h => by cases h
theorem ptpSyncInterval : ∀ kind, Statement (.ptpSyncInterval kind) := fun _ _ h => by cases h

end Sys2Proof.Laws.Packet
end

