-- ==== Sys2Proof/Laws/Registers.lean ====
section
/-! SUPPORT. Laws of the register lists: every store keeps the canonical form, is read back, and leaves every other register. -/

namespace Sys2Proof.Machine

theorem regsFrom_mono {lo hi : Nat} {m : Cells} (h : regsFrom hi m = true) (hl : lo ≤ hi) : regsFrom lo m = true := by
  cases m with
  | nil => rfl
  | cons c m =>
    simp only [regsFrom, Bool.and_eq_true, decide_eq_true_eq] at h ⊢
    exact ⟨⟨by omega, h.1.2⟩, h.2⟩

/-- A store keeps the form from any bound below its offset. -/
theorem regPut_from {lo a v : Nat} {m : Cells} (h : regsFrom lo m = true) (hl : lo ≤ a) :
    regsFrom lo (cellPut (regReset a) a v m) = true := by
  induction m generalizing lo with
  | nil =>
    unfold cellPut
    split
    · rfl
    · simp only [regsFrom, Bool.and_eq_true, decide_eq_true_eq]
      exact ⟨⟨hl, by assumption⟩, trivial⟩
  | cons c m ih =>
    obtain ⟨k, w⟩ := c
    have h' := h
    simp only [regsFrom, Bool.and_eq_true, decide_eq_true_eq] at h
    unfold cellPut
    split
    · split
      · exact h'
      · simp only [regsFrom, Bool.and_eq_true, decide_eq_true_eq]
        exact ⟨⟨hl, by assumption⟩, ⟨by omega, h.1.2⟩, h.2⟩
    · split
      · subst_vars
        split
        · exact regsFrom_mono h.2 (by omega)
        · simp only [regsFrom, Bool.and_eq_true, decide_eq_true_eq]
          exact ⟨⟨h.1.1, by assumption⟩, h.2⟩
      · simp only [regsFrom, Bool.and_eq_true, decide_eq_true_eq]
        exact ⟨h.1, ih h.2 (by omega)⟩

/-- A register store keeps the canonical form. -/
theorem regPut_wf {s : State} {off v : Nat} (h : regsFrom 0 s.regs = true) : regsFrom 0 (s.regPut off v).regs = true :=
  regPut_from h (Nat.zero_le off)

/-- Below a list's bound every cell reads as the default asked for. -/
theorem cellGet_low {d lo a : Nat} {m : Cells} (h : regsFrom lo m = true) (ha : a < lo) : cellGet d a m = d := by
  cases m with
  | nil => rfl
  | cons c m =>
    simp only [regsFrom, Bool.and_eq_true, decide_eq_true_eq] at h
    unfold cellGet
    rw [if_neg (by omega), if_pos (by omega)]

/-- A register stored is read back. -/
theorem reg_regPut_same {s : State} {off v : Nat} (h : regsFrom 0 s.regs = true) : (s.regPut off v).reg off = v := by
  show cellGet _ off (cellPut _ off v s.regs) = v
  generalize s.regs = m at h
  generalize (0 : Nat) = lo at h
  induction m generalizing lo with
  | nil =>
    unfold cellPut
    split <;> simp_all [cellGet]
  | cons c m ih =>
    obtain ⟨k, w⟩ := c
    simp only [regsFrom, Bool.and_eq_true, decide_eq_true_eq] at h
    unfold cellPut
    split
    · split
      · subst_vars; unfold cellGet; rw [if_neg (by omega), if_pos (by assumption)]
      · simp [cellGet]
    · split
      · split
        · subst_vars; exact cellGet_low h.2 (by omega)
        · simp [cellGet]
      · unfold cellGet
        rw [if_neg (by assumption), if_neg (by assumption)]
        exact ih _ h.2

/-- Every other register reads as before. -/
theorem reg_regPut_other {s : State} {off v o : Nat} (h : regsFrom 0 s.regs = true) (ho : o ≠ off) :
    (s.regPut off v).reg o = s.reg o := by
  show cellGet _ o (cellPut _ off v s.regs) = cellGet _ o s.regs
  generalize s.regs = m at h
  generalize (0 : Nat) = lo at h
  induction m generalizing lo with
  | nil =>
    unfold cellPut
    split
    · rfl
    · simp only [cellGet]; rw [if_neg ho]; split <;> rfl
  | cons c m ih =>
    obtain ⟨k, w⟩ := c
    simp only [regsFrom, Bool.and_eq_true, decide_eq_true_eq] at h
    unfold cellPut
    split
    · split
      · rfl
      · rw [cellGet, if_neg ho]
        split
        · rw [cellGet, if_neg (by omega), if_pos (by omega)]
        · rfl
    · split
      · subst_vars
        split
        · rw [cellGet, if_neg ho]
          split
          · exact cellGet_low h.2 (by omega)
          · rfl
        · simp only [cellGet, if_neg ho]
      · unfold cellGet
        split
        · rfl
        · split
          · rfl
          · exact ih _ h.2

end Sys2Proof.Machine
end

