-- ==== Sys2Proof/Tests/Slice0.lean ====
section
/-! SUPPORT. The implementer's own tests: ill-formed commands are turned away, a few results that the spec's tables give, and for
every statement a state and operands that meet its hypotheses together (`meets_<statement>_<clause>`). -/

open Sys2Proof Sys2Proof.Machine

set_option Elab.async false

namespace Sys2Proof.Tests

/-- Every hypothesis of `State.Admits` as one test. -/
def admitsB (s : State) (i : Instr) (p : Pkt) : Bool :=
  p.wf && s.awake && decide ((s.qp p.qp).state = .running) && decide (p.len.toNat ≤ 4032) &&
    decide (p.index.toNat + granules p.len.toNat ≤ s.cmdSize p.qp) && s.mayReserve p.qp &&
    ((List.finRange 16).all fun q => (s.qp q).flights.all fun f => f.started) &&
    !s.holds (s.qp p.qp).flights { id := s.nextId, cmd := i, pkt := p, started := false, fetched := s.now } &&
    !s.isLate { id := s.nextId, cmd := i, pkt := p, started := true, fetched := s.now } &&
    (match opcodeOf i with | some op => decide (s.check op p true = none) && !s.forwards op p | none => true)

/-- The part of it that `State.Reaches` asks. -/
def reachesB (s : State) (i : Instr) (p : Pkt) : Bool :=
  p.wf && s.awake && decide ((s.qp p.qp).state = .running) && decide (p.len.toNat ≤ 4032) &&
    decide (p.index.toNat + granules p.len.toNat ≤ s.cmdSize p.qp) && s.mayReserve p.qp &&
    ((List.finRange 16).all fun q => (s.qp q).flights.all fun f => f.started) &&
    !s.holds (s.qp p.qp).flights { id := s.nextId, cmd := i, pkt := p, started := false, fetched := s.now } &&
    !s.isLate { id := s.nextId, cmd := i, pkt := p, started := true, fetched := s.now }

theorem reaches_of {s : State} {i : Instr} {p : Pkt} (h : reachesB s i p = true) : s.Reaches i p := by
  simp only [reachesB, Bool.and_eq_true, decide_eq_true_eq, Bool.not_eq_true', List.all_eq_true, List.mem_finRange,
    true_implies] at h
  obtain ⟨⟨⟨⟨⟨⟨⟨⟨h1, h2⟩, h3⟩, h4⟩, h5⟩, h6⟩, h7⟩, h8⟩, h9⟩ := h
  exact ⟨h1, h2, h3, h4, h5, h6, fun q f hf => h7 q f hf, h8, h9⟩

theorem admits_of {s : State} {i : Instr} {p : Pkt} (h : admitsB s i p = true) : s.Admits i p := by
  have h' := h
  simp only [admitsB, Bool.and_eq_true] at h'
  obtain ⟨h1, h2⟩ := h'
  refine ⟨reaches_of (by simp only [reachesB, Bool.and_eq_true]; exact h1), ?_, ?_⟩
  · intro op ho; rw [ho] at h2; simp at h2; exact h2.1
  · intro op ho; rw [ho] at h2; simp at h2; exact h2.2

/-- After reset, with queue pair 0 running. -/
def up : State := State.reset.modQp 0 fun q => { q with state := .running }

/-- A packet of queue pair 0 for a target, with its first parameter bytes and the first bytes of its payload; zeros follow. -/
def pk (target : Half) (ps : List Nat := []) (len : Nat := 0) (body : List Nat := []) : Pkt :=
  { qp := 0, flags := 0, tag := 1, len := BitVec.ofNat 16 len, target := target, barrier := 0, resv := 0, notBefore := 0,
    params := (ps ++ List.replicate (40 - ps.length) 0).map fun n => BitVec.ofNat 8 n,
    payload := (body ++ List.replicate (len - body.length) 0).map fun n => BitVec.ofNat 8 n, index := 0, lap := false }

/-- 16 bits as two parameter bytes, and 32 as four. -/
def h2 (n : Nat) : List Nat := [n % 256, n / 256 % 256]
def h4 (n : Nat) : List Nat := h2 n ++ h2 (n / 65536)

/-- A safety parameter block without functions that allows every role on every bridge. -/
def blk0 : List Byte :=
  List.replicate 80 0 ++ (List.replicate 8 ([0x1F, 0, 0, 0] : List Byte)).flatten ++ List.replicate 16 0

/-- `up`, commissioned with that block and every SSL line toggling. -/
def safe : State := { up with sag := { up.sag with comm := .commissioned, block := some blk0, sslRun := 0xFF } }

/-- A definition with one half-bridge leg on gate link 0. -/
def spare0 : BridgeDef :=
  { role := .spare, safe := .opened, idleSafe := false, legs := [⟨0, 0, none⟩], vdcSlot := none, preGpio := none,
    preTimeout := 100, preLevel := 1, stopRamp := 10 }

/-- The same in role CONVERT. -/
def conv0 : BridgeDef := { spare0 with role := .convert }

/-- `safe`, with bridge B0 changed. -/
def withB (f : Bridge → Bridge) : State := safe.modB 0 f

/-- The bytes of a list of 16-bit words. -/
def words (ws : List Nat) : List Nat := ws.flatMap h2

/-- A legal `GF_CONFIG` payload: the defaults of Table 02-10 for 100 kVA, 400 V, 50 Hz and 10 kHz. -/
def gf0 : List Nat :=
  h4 100 ++ words [400, 5000, 10000] ++ [0, 0, 0, 1, 2, 3, 4, 0xFF, 0xFF, 0xFF, 0xFF, 0xFF, 0xFF, 0] ++ h4 10000 ++ h4 10000
    ++ words [0, 0, 2000, 2000, 500, 500, 500, 500, 0xC000, 0x4000, 100, 500] ++ [0, 0]
    ++ words [100, 1638, 13107, 18842, 200, 328, 1638, 819, 1638] ++ [10, 5, 1, 0]
    ++ words [1638, 1638, 1638, 1638, 0, 0, 0, 0, 19661, 16384, 21299, 500, 20] ++ [50, 0]
    ++ words [1000, 1000] ++ [0, 0] ++ words [820, 500, 500, 100, 0x200, 820, 0]

def bytes (ns : List Nat) : List Byte := ns.map fun n => BitVec.ofNat 8 n

/-- A legal `LOOP_CONFIG` payload: one state, output, reference and measurement, 20 kHz, one leg. -/
def lc0 : List Nat :=
  [1, 1, 1, 0, 1, 1, 0, 1] ++ h4 20000 ++ [0, 1, 10, 0] ++ [0] ++ List.replicate 15 0xFF ++ List.replicate 16 0
    ++ [0] ++ List.replicate 15 0xFF ++ List.replicate 24 0xFF ++ [0, 0xFF, 0, 1, 1, 0, 0, 0, 0, 0, 0, 8, 0, 0, 0, 0, 0, 0, 0, 0, 1, 0, 0, 0, 1]

/-- B0 runs with loop context LC0, role CONVERT; its carrier has had one valley at instant 8, a multiple of no sample before. -/
def running : State :=
  ((safe.modB 0 fun b => { b with state := .running, defn := some conv0, lc := some 0 }).modPwm 0 fun w => { w with
    carrier := some { per := 200000, phase := 0, commit := 0, tmin := 0, legPhase := Vector.replicate 6 0 },
    perCfg := 200000, activePer := 200000, running := true, lastAt := 8, valleys := 1 }).modLc 0 fun c => { c with
      state := .running, config := bytes lc0 }

/-- The same with engine GF0, configured, in role FORM. -/
def forming : State :=
  (running.modB 0 fun b => { b with defn := some { conv0 with role := .form }, gf := some 0 }).modGf 0 fun e => { e with
    state := .forming, config := some (bytes gf0) }

/-- `forming`, with the engine changed. -/
def withG (f : GfEngine → GfEngine) : State := forming.modGf 0 f

/-- `running`, with LC0 changed. -/
def withL (f : LoopContext → LoopContext) : State := running.modLc 0 f

/-- The GPIO map in force gives pin 0 a function. -/
def mapped (s : State) (code : Nat) : State := { s with locked := true, inForce := [(0x100, code)] }

theorem meets_idleStepIsOneTick_0 : ∃ (s : State), s.pending = [] :=
  ⟨State.reset,
   by decide +kernel⟩

theorem meets_spellableCommandsAnswer_0 : ∃ (c : Instr), c.wf = true :=
  ⟨.identify (pk 0),
   by decide +kernel⟩

theorem meets_spellableCommandsAnswer_1 : ∃ (c : Instr), c.wf = false :=
  ⟨.identify { pk 0 with params := [] },
   by decide +kernel⟩

theorem meets_asleepPacketsDoNothing_0 : ∃ (s : State), ∃ (i : Instr), ∃ (p : Pkt), i.pkt = some p ∧ p.wf = true ∧ s.awake =
    false :=
  ⟨{ up with pwr := { up.pwr with state := .backup } },
   .identify (pk 0),
   pk 0,
   by decide +kernel⟩

theorem meets_failedCheckIsTheStatus_0 : ∃ (s : State), ∃ (i : Instr), ∃ (p : Pkt), ∃ (op : Nat), ∃ (st : Status), s.Reaches
    i p ∧ i.pkt = some p ∧ opcodeOf i = some op ∧ op ≠ 2 ∧ s.check op p true = some st :=
  ⟨up,
   .bridgeSafe (pk 7),
   pk 7,
   0x0108,
   .stateRefused,
   reaches_of (by decide +kernel),
   by decide +kernel⟩

theorem meets_unfittedTargetIsUnitAbsent_0 : ∃ (s : State), ∃ (i : Instr), ∃ (p : Pkt), ∃ (op : Nat), s.Reaches i p ∧ i.pkt
    = some p ∧ opcodeOf i = some op ∧ op ≠ 2 ∧ headerOk op p = true ∧ lengthOk op p = true ∧ targetOk op p.target.toNat =
    true ∧ s.fitted op p.target.toNat = false :=
  ⟨{ up with variant := .cd6310 },
   .bridgeSafe (pk 2),
   pk 2,
   0x0108,
   reaches_of (by decide +kernel),
   by decide +kernel⟩

theorem meets_identifyAnswersTheUnitMap_0 : ∃ (s : State), ∃ (p : Pkt), s.Admits (.identify p) p :=
  ⟨up,
   pk 0,
   admits_of (by decide +kernel)⟩

theorem meets_safeInSafeChangesNothing_0 : ∃ (s : State), ∃ (p : Pkt), s.Admits (.bridgeSafe p) p ∧ (s.bridge
    p.target.toNat).state = .safe :=
  ⟨withB fun b => { b with state := .safe, defn := some conv0 },
   pk 0,
   admits_of (by decide +kernel),
   by decide +kernel⟩

theorem meets_timeChangesNeedLocalSource_0 : ∃ (s : State), ∃ (p : Pkt), s.Reaches (.timeAdj p) p ∧ s.time.src ≠ 0 ∧
    headerOk 0x0B00 p = true ∧ p.len = 0 ∧ p.target = 0 :=
  ⟨{ up with time := { up.time with src := 1 } },
   pk 0,
   reaches_of (by decide +kernel),
   by decide +kernel⟩

theorem meets_timeChangesNeedLocalSource_1 : ∃ (s : State), ∃ (p : Pkt), s.Reaches (.timeStep p) p ∧ s.time.src ≠ 0 ∧
    headerOk 0x0B01 p = true ∧ p.len = 0 ∧ p.target = 0 :=
  ⟨{ up with time := { up.time with src := 2 } },
   pk 0,
   reaches_of (by decide +kernel),
   by decide +kernel⟩

theorem meets_switchNeedsAStandby_0 : ∃ (s : State), ∃ (p : Pkt), s.Admits (.dpxSwitch p) p ∧ s.dpx.noStandby = true :=
  ⟨{ up with dpx := { up.dpx with role := .active, noStandby := true } },
   pk 0,
   admits_of (by decide +kernel),
   by decide +kernel⟩

theorem meets_eventsQueueOrAreLost_0 : ∃ (s : State), ∃ (cls : Nat), (∀ w ∈ s.waits, w.2.getLsbD cls = false) ∧
    s.events.length < 32 :=
  ⟨up,
   16,
   by decide +kernel⟩

theorem meets_eventsQueueOrAreLost_3 : ∃ (s : State), ∃ (cls : Nat), (∀ w ∈ s.waits, w.2.getLsbD cls = false) ∧ 32 ≤
    s.events.length :=
  ⟨{ up with events := List.replicate 32 default },
   1,
   by decide +kernel⟩

theorem meets_eventsQueueOrAreLost_5 : ∃ (s : State), ∃ (cls : Nat), ∃ w, s.waits.find? (fun w => w.2.getLsbD cls) = some w
    :=
  ⟨{ up with waits := [(⟨0, 9⟩, 0x1)] },
   0,
   (⟨0, 9⟩, 0x1),
   by decide +kernel⟩

theorem meets_maskedVectorIsPending_0 : ∃ (s : State), ∃ (v : Fin 32), (s.reg (0x6000 + 16 * v + 12)).testBit 0 = true :=
  ⟨up,
   31,
   by decide +kernel⟩

theorem meets_maskedVectorIsPending_1 : ∃ (s : State), ∃ (v : Fin 32), (s.reg (0x6000 + 16 * v + 12)).testBit 0 = false :=
  ⟨up.regPut 0x60FC 0,
   15,
   by decide +kernel⟩

theorem meets_maskedVectorIsPending_2 : ∃ (s : State), ∃ (v : Fin 32), s.awake = true ∧ s.pba.getLsbD v = true ∧ regsFrom 0
    s.regs = true :=
  ⟨{ up with pba := 0x80000000 },
   31,
   by decide +kernel⟩

theorem meets_genUnitMapIsReadOnly : up.awake = true := by decide +kernel

theorem meets_completionEntryIsWritten : ∃ (s : State), ∃ (t : Ticket), ∃ (f : Flight), (s.qp t.qp).state = .running ∧
    (s.qp t.qp).flights.find? (·.id = t.id) = some f ∧ s.dpx.forwarded.find? (fun p => p.1 = t) = none :=
  ⟨up.begun (.identify (pk 0)) (pk 0), up.ticketOf (pk 0),
   { id := 0, cmd := .identify (pk 0), pkt := pk 0, started := true, fetched := 0 }, by decide +kernel⟩

theorem meets_reportingPacketsChangeNoUnit : ∃ (s t : State), ∃ (p : Pkt), ∃ (i : Instr), i = .identify p ∧ s.Admits i p ∧
    exec i s = .next t :=
  ⟨up, (up.arrive (.identify (pk 0)) (pk 0)), pk 0, .identify (pk 0), rfl, admits_of (by decide +kernel), rfl⟩

theorem meets_partNeverChanges : ∃ (s t : State), Sys2Proof.Machine.step s = .next t :=
  ⟨{ up with pending := [.identify (pk 0), .dbgRevoke] }, _, rfl⟩

theorem meets_opcodesNameTheirCommands : (Instr.calImport (pk 0)).pkt = some (pk 0) ∧ 0x10 < 0x1100 / 256 := by decide +kernel

theorem meets_bridgeSetupPacketsComplete_0 : ∃ (s : State), ∃ (p : Pkt), ∃ d, s.Admits (.bridgeDefine p) p ∧ parseDef
    p.payload = some d ∧ d.links.Nodup ∧ ((∀ g ∈ d.links, (s.ownerOf g = none ∨ s.ownerOf g = some p.target.toNat) ∧ g <
    s.fitLinks ∧ s.linkRetired g = false)) :=
  ⟨up,
   pk 0 [] 64 ([3, 0, 0, 1, 0, 0, 0xFF] ++ List.replicate 15 0xFF ++ [0xFF, 0xFF, 0xFF, 0, 100, 0, 1, 0, 10, 0]),
   spare0,
   admits_of (by decide +kernel),
   by decide +kernel⟩

theorem meets_bridgeSetupPacketsComplete_1 : ∃ (s : State), ∃ (p : Pkt), ∃ d, ∃ r, ∃ x, ∃ i, s.Admits (.bridgeSetRole p) p ∧
    (s.bridge p.target.toNat).setRole = none ∧ (s.bridge p.target.toNat).defn = some d ∧ parseRole (prm p 0) (prm p 1) (prm
    p 2) = some (r, x, i) ∧ prm p 3 = 0 ∧ prmZero p 7 33 = true ∧ below 24 (opt16 (prm16 p 4)) = true ∧ below 4 (opt8 (prm p
    6)) = true ∧ s.bindAbsent (opt16 (prm16 p 4)) (opt8 (prm p 6)) = false ∧ s.boundElsewhere p.target.toNat (opt16 (prm16 p
    4)) (opt8 (prm p 6)) = false ∧ s.bindingsOk p.target.toNat r d.legs.length (opt16 (prm16 p 4)) (opt8 (prm p 6))
    (s.bridge p.target.toNat).pos = true ∧ ((r = .form → s.engineSuits (opt16 (prm16 p 4)) (opt8 (prm p 6)) = true)) ∧
    s.roleAllowed p.target.toNat r x = true :=
  ⟨withB fun b => { b with state := .armed, defn := some conv0 },
   pk 0 ([3, 0, 0, 0] ++ h2 0xFFFF ++ [0xFF]),
   conv0,
   .spare,
   .opened,
   false,
   admits_of (by decide +kernel),
   by decide +kernel⟩

theorem meets_bridgeSetupPacketsComplete_2 : ∃ (s : State), ∃ (p : Pkt), s.Admits (.bridgeBind p) p ∧ prmZero p 0 4 = true ∧
    prmZero p 8 32 = true ∧ below 24 (opt16 (prm16 p 4)) = true ∧ below 4 (opt8 (prm p 6)) = true ∧ below 4 (opt8 (prm p 7))
    = true ∧ s.bindAbsent (opt16 (prm16 p 4)) (opt8 (prm p 6)) = false ∧ s.boundElsewhere p.target.toNat (opt16 (prm16 p 4))
    (opt8 (prm p 6)) = false :=
  ⟨up,
   pk 0 ([0, 0, 0, 0] ++ h2 23 ++ [3, 3]),
   admits_of (by decide +kernel),
   by decide +kernel⟩

theorem meets_bridgeSetupPacketsComplete_3 : ∃ (s : State), ∃ (p : Pkt), ∃ d, s.Admits (.bridgeArm p) p ∧ (s.bridge
    p.target.toNat).defn = some d ∧ s.bindingsOk p.target.toNat d.role d.legs.length (s.bridge p.target.toNat).lc (s.bridge
    p.target.toNat).gf (s.bridge p.target.toNat).pos = true ∧ (s.pwm p.target.toNat).carrier ≠ none ∧ ((d.role = .form →
    s.engineSuits (s.bridge p.target.toNat).lc (s.bridge p.target.toNat).gf = true)) ∧ s.framesSuit p.target.toNat = true ∧
    s.mirrorFits = true ∧ s.sourceOk p.target.toNat = true ∧ (∀ g ∈ d.links, s.linkRetired g = false) :=
  ⟨(withB fun b => { b with defn := some spare0 }).modPwm 0 fun w => { w with carrier := some { per := 4000, phase := 0, commit := 0, tmin := 0, legPhase := Vector.replicate 6 0 } },
   pk 0,
   spare0,
   admits_of (by decide +kernel),
   by decide +kernel⟩

theorem meets_bridgeSetupPacketsComplete_4 : ∃ (s : State), ∃ (p : Pkt), s.Admits (.bridgeBindImage p) p ∧ s.hasCycle = true
    ∧ prmZero p 18 22 = true ∧ ((s.cyc.image = [] ∨ spWordsOk s.cyc.image (((List.range 8).map fun k => (k, prm16 p (2 *
    k))).filter fun (w : Nat × Nat) => decide (w.2 ≠ 0xFFFF)) = true)) :=
  ⟨up,
   pk 0 ((List.replicate 9 [0xFF, 0xFF]).flatten),
   admits_of (by decide +kernel),
   by decide +kernel⟩

theorem meets_bridgeSetupPacketsComplete_5 : ∃ (s : State), ∃ (p : Pkt), s.Admits (.bridgeStatus p) p :=
  ⟨up,
   pk 7,
   admits_of (by decide +kernel)⟩

theorem meets_bridgeRunPacketsComplete_0 : ∃ (s : State), ∃ (p : Pkt), s.Admits (.bridgeDisarm p) p :=
  ⟨withB fun b => { b with state := .armed, defn := some spare0 },
   pk 0,
   admits_of (by decide +kernel)⟩

theorem meets_bridgeRunPacketsComplete_1 : ∃ (s : State), ∃ (p : Pkt), ∃ d, s.Admits (.bridgePrecharge p) p ∧ (s.bridge
    p.target.toNat).defn = some d ∧ s.startAllowed p.target.toNat = true ∧ d.role ≠ .spare ∧ ((d.preGpio ≠ none ∨ d.vdcSlot
    ≠ none)) :=
  ⟨withB fun b => { b with state := .armed, defn := some { conv0 with preGpio := some 31 } },
   pk 0,
   { conv0 with preGpio := some 31 },
   admits_of (by decide +kernel),
   by decide +kernel⟩

theorem meets_bridgeRunPacketsComplete_2 : ∃ (s : State), ∃ (p : Pkt), ∃ d, s.Admits (.bridgePrecharge p) p ∧ (s.bridge
    p.target.toNat).defn = some d ∧ s.startAllowed p.target.toNat = true ∧ d.role ≠ .spare ∧ d.preGpio = none ∧ d.vdcSlot =
    none :=
  ⟨withB fun b => { b with state := .armed, defn := some conv0 },
   pk 0,
   conv0,
   admits_of (by decide +kernel),
   by decide +kernel⟩

theorem meets_bridgeRunPacketsComplete_3 : ∃ (s : State), ∃ (p : Pkt), s.Admits (.bridgeStart p) p ∧ s.startAllowed
    p.target.toNat = true ∧ (s.bridge p.target.toNat).prechargeDone = true :=
  ⟨withB fun b => { b with state := .precharge, defn := some conv0, prechargeDone := true },
   pk 0,
   admits_of (by decide +kernel),
   by decide +kernel⟩

theorem meets_bridgeRunPacketsComplete_4 : ∃ (s : State), ∃ (p : Pkt), s.Admits (.bridgeStop p) p ∧ ((s.bridge
    p.target.toNat).state = .running ∨ (s.bridge p.target.toNat).state = .limiting) :=
  ⟨withB fun b => { b with state := .limiting, defn := some conv0 },
   pk 0,
   admits_of (by decide +kernel),
   by decide +kernel⟩

theorem meets_bridgeRunPacketsComplete_5 : ∃ (s : State), ∃ (p : Pkt), s.Admits (.bridgeStop p) p ∧ (s.bridge
    p.target.toNat).state = .precharge :=
  ⟨withB fun b => { b with state := .precharge, defn := some conv0 },
   pk 0,
   admits_of (by decide +kernel),
   by decide +kernel⟩

theorem meets_bridgeRunPacketsComplete_6 : ∃ (s : State), ∃ (p : Pkt), s.Admits (.bridgeSafe p) p :=
  ⟨withB fun b => { b with state := .running, defn := some conv0 },
   pk 0,
   admits_of (by decide +kernel)⟩

theorem meets_bridgeRunPacketsComplete_7 : ∃ (s : State), ∃ (p : Pkt), ∃ d, s.Admits (.bridgeRecover p) p ∧ (s.bridge
    p.target.toNat).defn = some d ∧ s.recoverAllowed p.target.toNat = true ∧ (s.bridge p.target.toNat).recover = none :=
  ⟨withB fun b => { b with state := .safe, defn := some conv0 },
   pk 0,
   conv0,
   admits_of (by decide +kernel),
   by decide +kernel⟩

theorem meets_bridgeEventsComplete_0 : ∃ (s : State), ∃ (b : Fin 8), ∃ w, s.awake = true ∧ (s.bridge b).arming = some w :=
  ⟨withB fun b => { b with arming := some { ticket := ⟨0, 9⟩, need := [0], deadline := 16000000 } },
   0,
   { ticket := ⟨0, 9⟩, need := [0], deadline := 16000000 },
   by decide +kernel⟩

theorem meets_bridgeEventsComplete_1 : ∃ (s : State), ∃ (b : Fin 8), ∃ w, ∃ d, ∃ t0, ∃ o, ∃ ready, ∃ later, ∃ (n : Fin 48),
    s.awake = true ∧ (s.bridge b).pre = some w ∧ (s.bridge b).defn = some d ∧ w.since = some t0 ∧ d.vdcSlot = some n.val ∧
    (s.slot n).next = (o, ready) :: later ∧ w.timed = false ∧ o.valid = true ∧ d.preLevel.toInt ≤ o.value.toInt ∧ t0 +
    msSteps 5 ≤ ready :=
  ⟨(withB fun b => { b with state := .precharge, defn := some { conv0 with vdcSlot := some 47 }, pre := some { ticket := ⟨0, 9⟩, since := some 8, deadline := 800000000, timed := false } }).modSlot 47 fun x => { x with next := [({ valid := true, value := 1 }, 40000008)] },
   0,
   { ticket := ⟨0, 9⟩, since := some 8, deadline := 800000000, timed := false },
   { conv0 with vdcSlot := some 47 },
   8,
   { valid := true, value := 1 },
   40000008,
   [],
   47,
   by decide +kernel⟩

theorem meets_bridgeEventsComplete_2 : ∃ (s : State), ∃ (b : Fin 8), ∃ w, s.awake = true ∧ (s.bridge b).pre = some w ∧
    w.timed = false :=
  ⟨withB fun b => { b with state := .precharge, defn := some conv0, pre := some { ticket := ⟨0, 9⟩, since := none, deadline := 800000000, timed := false } },
   0,
   { ticket := ⟨0, 9⟩, since := none, deadline := 800000000, timed := false },
   by decide +kernel⟩

theorem meets_bridgeEventsComplete_3 : ∃ (s : State), ∃ (b : Fin 8), ∃ w, s.awake = true ∧ (s.bridge b).pre = some w ∧
    w.timed = true :=
  ⟨withB fun b => { b with state := .precharge, defn := some conv0, pre := some { ticket := ⟨0, 9⟩, since := none, deadline := 800000000, timed := true } },
   0,
   { ticket := ⟨0, 9⟩, since := none, deadline := 800000000, timed := true },
   by decide +kernel⟩

theorem meets_bridgeEventsComplete_4 : ∃ (s : State), ∃ (b : Fin 8), ∃ w, s.awake = true ∧ (s.bridge b).stop = some w :=
  ⟨withB fun b => { b with state := .running, defn := some conv0, stop := some { start := 0, finish := 80000000, from_ := Vector.replicate 8 0, waiters := [⟨0, 9⟩] } },
   0,
   { start := 0, finish := 80000000, from_ := Vector.replicate 8 0, waiters := [⟨0, 9⟩] },
   by decide +kernel⟩

theorem meets_bridgeEventsComplete_5 : ∃ (s : State), ∃ (b : Fin 8), s.awake = true ∧ s.sslToggling b = false ∧ (s.bridge
    b).state ≠ .offline ∧ (s.bridge b).state ≠ .safe ∧ (s.bridge b).state ≠ .retired :=
  ⟨{ (safe.modB 7 fun b => { b with state := .armed, defn := some conv0 }) with sag := { safe.sag with sslRun := 0x7F } },
   7,
   by decide +kernel⟩

theorem meets_adminPacketsComplete_0 : ∃ (s : State), ∃ (p : Pkt), s.Admits (.adminNop p) p :=
  ⟨up,
   pk 0,
   admits_of (by decide +kernel)⟩

theorem meets_adminPacketsComplete_1 : ∃ (s : State), ∃ (p : Pkt), s.Admits (.identify p) p :=
  ⟨up,
   pk 0,
   admits_of (by decide +kernel)⟩

theorem meets_adminPacketsComplete_2 : ∃ (s : State), ∃ (p : Pkt), s.Admits (.adminEventWait p) p ∧ s.waits.length < 4 ∧ (∀
    e ∈ s.events, (BitVec.ofNat 32 (prm32 p 0)).getLsbD e.cls.toNat = false) :=
  ⟨{ up with events := [{ cls := 3, unit := 1, code := 2, sec := 0, ns := 0 }] },
   pk 0 (h4 0x7),
   admits_of (by decide +kernel),
   by decide +kernel⟩

theorem meets_adminPacketsComplete_3 : ∃ (s : State), ∃ (p : Pkt), ∃ e, s.Admits (.adminEventWait p) p ∧ s.events.find? (fun
    e => (BitVec.ofNat 32 (prm32 p 0)).getLsbD e.cls.toNat) = some e :=
  ⟨{ up with events := [{ cls := 3, unit := 1, code := 2, sec := 0, ns := 0 }] },
   pk 0 (h4 0x8),
   { cls := 3, unit := 1, code := 2, sec := 0, ns := 0 },
   admits_of (by decide +kernel),
   by decide +kernel⟩

theorem meets_adminPacketsComplete_4 : ∃ (s : State), ∃ (p : Pkt), ∃ (q : Fin 16), ∃ (f : Flight), s.Admits (.adminAbort p)
    p ∧ prm16 p 0 = q ∧ (((s.begun (.adminAbort p) p).qp q).flights.find? (fun g => g.unstarted ∧ g.pkt.tag.toNat = prm16 p
    2 ∧ (⟨q, g.id⟩ : Ticket) ≠ s.ticketOf p) = some f) :=
  ⟨up.modQp 1 fun q => { q with state := .running, flights := [{ id := 9, cmd := .adminEventWait (pk 0), pkt := { pk 0 with tag := 7 }, started := true, fetched := 0 }] },
   pk 0 (h2 1 ++ h2 7),
   1,
   { id := 9, cmd := .adminEventWait (pk 0), pkt := { pk 0 with tag := 7 }, started := true, fetched := 0 },
   admits_of (by decide +kernel),
   by decide +kernel⟩

theorem meets_adminPacketsComplete_5 : ∃ (s : State), ∃ (p : Pkt), s.Admits (.reinstate p) p ∧ s.chanDefined (prm p 0)
    (prm16 p 2) = true ∧ s.chanFitted (prm p 0) (prm16 p 2) = true ∧ internalKind (prm p 0) = false ∧ s.isRetired (prm p 0)
    (prm16 p 2) = true ∧ (∀ r ∈ s.reinst, r.2 ≠ (prm p 0, prm16 p 2)) :=
  ⟨up.modChan 5 1 fun c => { c with state := .retired },
   pk 0 ([5, 0] ++ h2 1),
   admits_of (by decide +kernel),
   by decide +kernel⟩

theorem meets_adminPacketsComplete_6 : ∃ (s : State), ∃ (p : Pkt), s.Admits (.fence p) p :=
  ⟨up,
   pk 0,
   admits_of (by decide +kernel)⟩

theorem meets_adminPacketsComplete_7 : ∃ (s : State), ∃ (p : Pkt), s.Admits (.barrier p) p ∧ (prm16 p 0).testBit p.qp.val =
    true ∧ 2 ≤ (bitsOf 16 (prm16 p 0)).length ∧ prm32 p 4 ≤ 10000000 ∧ vget s.barriers p.barrier.toNat = none :=
  ⟨up,
   { pk 0 (h2 0x8001 ++ [0, 0] ++ h4 10000000) with barrier := 7 },
   admits_of (by decide +kernel),
   by decide +kernel⟩

theorem meets_adminPacketsComplete_8 : ∃ (s : State), ∃ (p : Pkt), ∃ i, s.Admits (.barrier p) p ∧ (prm16 p 0).testBit
    p.qp.val = true ∧ 2 ≤ (bitsOf 16 (prm16 p 0)).length ∧ prm32 p 4 ≤ 10000000 ∧ vget s.barriers p.barrier.toNat = some i ∧
    i.mask.toNat = prm16 p 0 :=
  ⟨{ up with barriers := vset up.barriers 7 (some { mask := 3, deadline := none, members := [⟨1, 4⟩] }) },
   { pk 0 (h2 3) with barrier := 7 },
   { mask := 3, deadline := none, members := [⟨1, 4⟩] },
   admits_of (by decide +kernel),
   by decide +kernel⟩

theorem meets_adminPacketsComplete_9 : ∃ (s : State), ∃ (p : Pkt), p.wf = true ∧ s.awake = true ∧ (s.qp p.qp).state =
    .running :=
  ⟨up,
   pk 0,
   by decide +kernel⟩

theorem meets_queueAndHostEventsComplete_0 : ∃ (s : State), ∃ (q : Fin 16), ∃ (v : Word), s.awake = true ∧ (s.qp q).state ≠
    .disabled ∧ s.badTail q v.toNat = false :=
  ⟨up,
   0,
   127,
   by decide +kernel⟩

theorem meets_queueAndHostEventsComplete_1 : ∃ (s : State), ∃ (q : Fin 16), ∃ (v : Word), s.awake = true ∧ (s.qp q).state ≠
    .disabled ∧ v.toNat % 65536 < s.cplSize q ∧ ringDist (s.cplSize q) (s.qp q).head (v.toNat % 65536) ≤ (s.qp q).cpl.length
    :=
  ⟨up.modQp 0 fun q => { q with cpl := [default, default] },
   0,
   2,
   by decide +kernel⟩

theorem meets_queueAndHostEventsComplete_2 : ∃ (s : State), ∃ (q : Fin 16), s.awake = true ∧ (s.qp q).state = .halted ∧
    (((s.qp q).cause ≠ 6 ∨ s.hostUp = true)) :=
  ⟨up.modQp 0 fun q => { q with state := .halted, cause := 1 },
   0,
   by decide +kernel⟩

theorem meets_queueAndHostEventsComplete_3 : ∃ (s : State), ∃ (q : Fin 16), s.awake = true ∧ ((s.qp q).state = .running ∨
    (s.qp q).state = .halted) :=
  ⟨up,
   0,
   by decide +kernel⟩

theorem meets_queueAndHostEventsComplete_4 : ∃ (s : State), ∃ (q : Fin 16), ∃ bytes, ∃ i, s.awake = true ∧ (s.qp q).state =
    .running ∧ s.qpLocal q = false ∧ packetOf (le bytes 0 2) (parsePkt q (s.qp q).fetch (s.qp q).lap bytes) = some i ∧ le
    bytes 0 2 ≠ 2 ∧ (s.qp q).fetch + granules (le bytes 6 2) ≤ s.cmdSize q ∧ le bytes 6 2 ≤ 4032 ∧ granules (le bytes 6 2) ≤
    ringDist (s.cmdSize q) (s.qp q).fetch (s.qp q).tail :=
  ⟨up.modQp 0 fun q => { q with tail := 2 },
   0,
   [1, 0, 0, 0, 1, 0, 64, 0] ++ List.replicate 120 0,
   .identify (parsePkt 0 0 false ([1, 0, 0, 0, 1, 0, 64, 0] ++ List.replicate 120 0)),
   by decide +kernel⟩

theorem meets_queueAndHostEventsComplete_5 : ∃ (s : State), ∃ (q : Fin 16), ∃ bytes, s.awake = true ∧ (s.qp q).state =
    .running ∧ s.qpLocal q = false ∧ packetOf (le bytes 0 2) (parsePkt q (s.qp q).fetch (s.qp q).lap bytes) = none ∧ le
    bytes 0 2 ≠ 2 ∧ (s.qp q).fetch + granules (le bytes 6 2) ≤ s.cmdSize q ∧ le bytes 6 2 ≤ 4032 ∧ granules (le bytes 6 2) ≤
    ringDist (s.cmdSize q) (s.qp q).fetch (s.qp q).tail :=
  ⟨up.modQp 15 fun q => { q with state := .running, tail := 2 },
   15,
   [0xFF, 1, 0, 0, 1, 0, 64, 0] ++ List.replicate 120 0,
   by decide +kernel⟩

theorem meets_queueAndHostEventsComplete_6 : ∃ (s : State), ∃ (q : Fin 16), ∃ tag, ∃ f, s.awake = true ∧ s.waitingTag q tag
    = some f ∧ f.pkt.notBefore ≠ 0 :=
  ⟨up.modQp 15 fun q => { q with state := .running, flights := [{ id := 0, cmd := .identify (pk 0), pkt := { pk 0 with tag := 7, notBefore := 1000, flags := 0 }, started := false, fetched := 0 }] },
   15,
   7,
   { id := 0, cmd := .identify (pk 0), pkt := { pk 0 with tag := 7, notBefore := 1000, flags := 0 }, started := false, fetched := 0 },
   by decide +kernel⟩

theorem meets_queueAndHostEventsComplete_7 : ∃ (s : State), ∃ (q : Fin 16), ∃ tag, ∃ f, ∃ w, s.awake = true ∧ s.waitingTag q
    tag = some f ∧ lateSteps f.pkt = some w ∧ f.pkt.notBefore = 0 ∧ ((((s.advanceTo (f.fetched + w)).settle (s.advanceTo
    (f.fetched + w)).waiting).qp q).flights.any fun (g : Flight) => decide (g.id = f.id) && !g.started) = true :=
  ⟨up.modQp 15 fun q => { q with state := .running, flights := [{ id := 5, cmd := .fence (pk 0), pkt := pk 0, started := true, fetched := 0 }, { id := 0, cmd := .identify (pk 0), pkt := { pk 0 with tag := 7, notBefore := 0, flags := 8 }, started := false, fetched := 0 }] },
   15,
   7,
   { id := 0, cmd := .identify (pk 0), pkt := { pk 0 with tag := 7, notBefore := 0, flags := 8 }, started := false, fetched := 0 },
   800000,
   by decide +kernel⟩

theorem meets_queueAndHostEventsComplete_8 : ∃ (s : State), ∃ (q : Fin 16), ∃ first, s.awake = true ∧ (s.qp q).irqFirst =
    some first ∧ s.qpIrqEn q = true ∧ s.qpModTime q ≠ 0 :=
  ⟨{ up with inForce := [(0x8014, 0x01000200)] }.modQp 0 fun q => { q with irqFirst := some 8 },
   0,
   8,
   by decide +kernel⟩

theorem meets_queueAndHostEventsComplete_9 : ∃ (s : State), ∃ (q : Fin 16), s.awake = true ∧ (s.qp q).state = .running ∧
    s.qpLocal q = false ∧ (s.qp q).readRetry = none :=
  ⟨up,
   0,
   by decide +kernel⟩

theorem meets_queueAndHostEventsComplete_10 : ∃ (s : State), ∃ (q : Fin 16), ∃ a, ∃ at_, s.awake = true ∧ (s.qp q).state =
    .running ∧ s.qpLocal q = false ∧ (s.qp q).readRetry = some (a, at_) :=
  ⟨up.modQp 0 fun q => { q with readRetry := some (64, 80000) },
   0,
   64,
   80000,
   by decide +kernel⟩

theorem meets_queueAndHostEventsComplete_11 : ∃ (s : State), ∃ (k : Fin 8), ∃ i, ∃ d, s.awake = true ∧ vget s.barriers k =
    some i ∧ i.deadline = some d :=
  ⟨{ up with barriers := vset up.barriers 7 (some { mask := 3, deadline := some 8000, members := [⟨1, 4⟩] }) },
   7,
   { mask := 3, deadline := some 8000, members := [⟨1, 4⟩] },
   8000,
   by decide +kernel⟩

theorem meets_queueAndHostEventsComplete_12 : ∃ (s : State), s.awake = true :=
  ⟨up,
   by decide +kernel⟩

theorem meets_queueAndHostEventsComplete_13 : ∃ (s : State), s.awake = true :=
  ⟨up,
   by decide +kernel⟩

theorem meets_registerAccessesComplete_0 : ∃ (s : State), ∃ (v : Word), s.awake = true ∧ (s.writeReg 0x10 v.toNat).reg 0x10
    % 2 = 1 :=
  ⟨up,
   1,
   by decide +kernel⟩

theorem meets_registerAccessesComplete_1 : ∃ (s : State), s.awake = true ∧ s.lockWritten = true ∧ s.pwr.selfTested = true ∧
    s.locked = false :=
  ⟨{ up with lockWritten := true, pwr := { up.pwr with selfTested := true } },
   by decide +kernel⟩

theorem meets_registerAccessesComplete_2 : ∃ (s : State), ∃ rest, s.awake = true ∧ s.svcs.norQueue = .profile :: rest :=
  ⟨{ up with svcs := { up.svcs with norQueue := [.profile] } },
   [],
   by decide +kernel⟩

theorem meets_registerAccessesComplete_3 : ∃ (s : State), ∃ (off : Word), ∃ r, s.awake = true ∧ off.toNat % 4 = 0 ∧
    off.toNat < 0x100000 ∧ off.toNat ≠ 0x10 ∧ (¬ (0x16000 ≤ off.toNat ∧ off.toNat < 0x17000)) ∧ (¬ (0x6000 ≤ off.toNat ∧
    off.toNat < 0x6200 ∧ off.toNat % 16 = 12)) ∧ regSpec off.toNat = some r :=
  ⟨up,
   0x6000,
   ⟨0, 0xFFFFFFFC, 0⟩,
   by decide +kernel⟩

theorem meets_registerAccessesComplete_4 : ∃ (s : State), s.awake = true :=
  ⟨up,
   by decide +kernel⟩

theorem meets_registerAccessesComplete_5 : ∃ (s : State), s.awake = true :=
  ⟨up,
   by decide +kernel⟩

theorem meets_registerAccessesComplete_6 : ∃ (s : State), s.awake = true :=
  ⟨up,
   by decide +kernel⟩

theorem meets_debugEventsComplete_0 : ∃ (s : State), s.awake = true :=
  ⟨up,
   by decide +kernel⟩

theorem meets_debugEventsComplete_1 : ∃ (s : State), s.awake = true ∧ s.dbg.lockout = none :=
  ⟨up,
   by decide +kernel⟩

theorem meets_debugEventsComplete_2 : ∃ (s : State), s.awake = true :=
  ⟨up,
   by decide +kernel⟩

theorem meets_debugEventsComplete_3 : ∃ (s : State), ∃ a, s.awake = true ∧ s.dbg.lockout = some a :=
  ⟨{ up with dbg := { up.dbg with lockout := some 480000000000 } },
   480000000000,
   by decide +kernel⟩

theorem meets_debugEventsComplete_4 : ∃ (s : State), ∃ (v : Word), s.awake = true ∧ s.dbg.level ≠ 0 ∧ (((v.toNat &&& 0xF0F)
    % 16 = 8 → s.slotInUse (32 + (v.toNat &&& 0xF0F) / 256) = false ∧ (s.slot (32 + (v.toNat &&& 0xF0F) / 256)).state ≠
    .recal)) :=
  ⟨{ up with dbg := { up.dbg with level := 1 } },
   0xF08,
   by decide +kernel⟩

theorem meets_debugEventsComplete_5 : ∃ (s : State), ∃ (dr : BitVec 40), s.awake = true ∧ dr.getLsbD 39 = true :=
  ⟨up,
   0x8000000000,
   by decide +kernel⟩

theorem meets_debugEventsComplete_6 : ∃ (s : State), s.awake = true ∧ s.dbg.level = 3 ∧ (∀ b ∈ s.bridges.toList, b.state =
    .offline) :=
  ⟨{ up with dbg := { up.dbg with level := 3 } },
   by decide +kernel⟩

theorem meets_debugEventsComplete_7 : ∃ (s : State), s.awake = true ∧ s.dbg.extest = true :=
  ⟨{ up with dbg := { up.dbg with extest := true } },
   by decide +kernel⟩

theorem meets_debugEventsComplete_8 : ∃ (s : State), s.awake = true ∧ s.dbg.level = 3 ∧ s.pwr.stage = 0 ∧ s.pwr.ready =
    false :=
  ⟨{ up with dbg := { up.dbg with level := 3 } },
   by decide +kernel⟩

theorem meets_debugEventsComplete_9 : ∃ (s : State), s.awake = true :=
  ⟨up,
   by decide +kernel⟩

theorem meets_debugEventsComplete_10 : ∃ (s : State), s.awake = true :=
  ⟨up,
   by decide +kernel⟩

theorem meets_debugEventsComplete_11 : ∃ (s : State), s.awake = true :=
  ⟨up,
   by decide +kernel⟩

theorem meets_supplyEventsComplete_0 : ∃ (s : State), ∃ vfb, (s.feed (bit vfb)).ok = true :=
  ⟨{ up with pwr := { up.pwr with feeds := Vector.replicate 2 { level := 100, ok := true, on := true } } },
   true,
   by decide +kernel⟩

theorem meets_supplyEventsComplete_1 : ∃ (s : State), ∃ vfb, ∃ level, (s.feed (bit vfb)).ok = false ∧ inWindow level = true
    ∧ s.pwr.state ≠ .backup :=
  ⟨up,
   true,
   61,
   by decide +kernel⟩

theorem meets_supplyEventsComplete_2 : ∃ (s : State), ∃ vfb, ∃ level, (s.feed (bit vfb)).ok = false ∧ inWindow level = true
    ∧ s.pwr.state = .backup ∧ s.pwr.failing = none :=
  ⟨{ up with pwr := { up.pwr with state := .backup } },
   true,
   61,
   by decide +kernel⟩

theorem meets_supplyEventsComplete_3 : ∃ (s : State), s.carried = false ∧ s.pwr.failing = none ∧ s.pwr.state ≠ .backup :=
  ⟨up,
   by decide +kernel⟩

theorem meets_supplyEventsComplete_4 : ∃ (s : State), s.pwr.failing ≠ none ∧ s.fed = true :=
  ⟨{ up with pwr := { up.pwr with feeds := Vector.replicate 2 { level := 100, ok := true, on := true }, failing := some 0 } },
   by decide +kernel⟩

theorem meets_supplyEventsComplete_5 : ∃ (s : State), s.pwr.failing ≠ none ∧ s.fed = false :=
  ⟨{ up with pwr := { up.pwr with failing := some 0 } },
   by decide +kernel⟩

theorem meets_supplyEventsComplete_6 : ∃ (s : State), ∃ (vfa : Byte), ∃ (vfb : Byte), s.fed = false ∧ s.pwr.failing = none ∧
    ((inWindow vfa = true ∨ inWindow vfb = true)) :=
  ⟨{ up with pwr := { up.pwr with state := .backup } },
   150,
   0,
   by decide +kernel⟩

theorem meets_supplyEventsComplete_7 : ∃ (s : State), s.resetN = true ∧ s.asleep = false ∧ s.pwr.state ≠ .backup :=
  ⟨up,
   by decide +kernel⟩

theorem meets_supplyEventsComplete_8 : ∃ (s : State), s.resetN = true ∧ s.asleep = true :=
  ⟨{ up with pwr := { up.pwr with state := .keep } },
   by decide +kernel⟩

theorem meets_supplyEventsComplete_9 : ∃ (s : State), s.resetN = false ∧ s.pwr.state ≠ .backup ∧ s.asleep = false :=
  ⟨{ up with resetN := false },
   by decide +kernel⟩

theorem meets_supplyEventsComplete_10 : ∃ (s : State), s.resetN = false ∧ s.pwr.state ≠ .backup ∧ s.asleep = true :=
  ⟨{ up with resetN := false, pwr := { up.pwr with state := .watch } },
   by decide +kernel⟩

theorem meets_sleepAndWakeEventsComplete_0 : ∃ (s : State), ∃ a, s.awake = true ∧ s.pwr.needEnd = some a ∧ s.pwr.state =
    .run ∧ s.runNeed = false :=
  ⟨{ up with pwr := { up.pwr with state := .run, needEnd := some 8 } },
   8,
   by decide +kernel⟩

theorem meets_sleepAndWakeEventsComplete_1 : ∃ (s : State), ∃ a, s.awake = true ∧ s.pwr.sleepSince = some a ∧ s.mayRest =
    true ∧ s.pwr.failing = none :=
  ⟨{ up with inForce := [(0x1000, 0xA01)], pwr := { up.pwr with ready := true, sleepSince := some 8 } },
   8,
   by decide +kernel⟩

theorem meets_sleepAndWakeEventsComplete_2 : ∃ (s : State), s.asleep = true :=
  ⟨{ up with pwr := { up.pwr with state := .keep } },
   by decide +kernel⟩

theorem meets_sleepAndWakeEventsComplete_3 : ∃ (s : State), s.asleep = false ∧ s.pwr.wokeAt = some s.aonCycle ∧ 1 <
    s.pwr.wakeCause.toNat :=
  ⟨{ up with pwr := { up.pwr with wokeAt := some 0, wakeCause := 3 } },
   by decide +kernel⟩

theorem meets_sleepAndWakeEventsComplete_4 : ∃ (s : State), s.asleep = true ∧ field (s.inUse 0x1000) 23 16 ≠ 0 :=
  ⟨{ up with inForce := [(0x1000, 0x10A02)], pwr := { up.pwr with state := .watch } },
   by decide +kernel⟩

theorem meets_sleepAndWakeEventsComplete_5 : ∃ (s : State), ∃ (code : Half), s.pwr.state = .watch ∧ ((s.slot (32 + field
    (s.inUse 0x1000) 27 24)).calibrate s.now code.toInt).natAbs < field (s.inUse 0x1004) 15 0 :=
  ⟨{ up with inForce := [(0x1000, 0xA02), (0x1004, 0x08FFFF)], pwr := { up.pwr with state := .watch } },
   0,
   by decide +kernel⟩

theorem meets_sleepAndWakeEventsComplete_6 : ∃ (s : State), ∃ (code : Half), s.pwr.state = .watch ∧ field (s.inUse 0x1004)
    15 0 ≤ ((s.slot (32 + field (s.inUse 0x1000) 27 24)).calibrate s.now code.toInt).natAbs ∧ field (s.inUse 0x1004) 23 16 ≤
    s.pwr.watchCount + 1 :=
  ⟨{ up with inForce := [(0x1000, 0xA02), (0x1004, 0x080000)], pwr := { up.pwr with state := .watch, watchCount := 7 } },
   0x7FFF,
   by decide +kernel⟩

theorem meets_bootAndClockEventsComplete_0 : ∃ (s : State), ∃ (fails : List ChanRef), s.awake = true ∧ s.pwr.ready = false ∧
    s.pwr.noBank = false ∧ s.pwr.failing = none ∧ (fails.foldl State.selfTestFail s).svcs.profile = none :=
  ⟨up,
   [],
   by decide +kernel⟩

theorem meets_bootAndClockEventsComplete_1 : ∃ (s : State), ∃ (n : Fin 5), s.awake = true ∧ (s.pll n).locked = true ∧ n.val
    < 3 :=
  ⟨up.modPll 2 fun p => { p with locked := true },
   2,
   by decide +kernel⟩

theorem meets_bootAndClockEventsComplete_2 : ∃ (s : State), ∃ (n : Fin 5), s.awake = true ∧ (s.pll n).locked = true ∧ 3 ≤
    n.val :=
  ⟨up.modPll 3 fun p => { p with locked := true },
   3,
   by decide +kernel⟩

theorem meets_bootAndClockEventsComplete_3 : ∃ (s : State), ∃ (n : Fin 5), s.awake = true ∧ (s.pll n).holdover = true ∧
    (s.pll n).relock = false ∧ s.isRetired 11 n = false ∧ n.val < 3 ∧ s.allIdle = true :=
  ⟨up.modPll 2 fun p => { p with holdover := true },
   2,
   by decide +kernel⟩

theorem meets_bootAndClockEventsComplete_4 : ∃ (s : State), ∃ (n : Fin 5), s.awake = true ∧ (s.pll n).relock = true :=
  ⟨up.modPll 4 fun p => { p with relock := true },
   4,
   by decide +kernel⟩

theorem meets_bootAndClockEventsComplete_5 : ∃ (s : State), ∃ (n : Fin 5), ∃ a, s.awake = true ∧ (s.pll n).relock = true ∧
    (s.pll n).relockAt = some a :=
  ⟨up.modPll 0 fun p => { p with relock := true, relockAt := some 8 },
   0,
   8,
   by decide +kernel⟩

theorem meets_bootAndClockEventsComplete_6 : ∃ (s : State), ∃ a, ∃ n, s.awake = true ∧ s.waitingPll = some (a, n) ∧
    (s.bridges.toList.any fun b => b.state.beyondArmed) = true :=
  ⟨(safe.modB 0 fun b => { b with state := .running, defn := some conv0 }).modPll 0 fun p => { p with holdover := true, lossAt := some 8 },
   8,
   0,
   by decide +kernel⟩

theorem meets_bootAndClockEventsComplete_7 : ∃ (s : State), s.awake = true ∧ (s.inUse 0x2000).testBit 0 = true ∧
    s.ring.inserted = true ∧ s.pwr.refRing = false :=
  ⟨{ up with inForce := [(0x2000, 1)], ring := { up.ring with state := .ring } },
   by decide +kernel⟩

theorem meets_bootAndClockEventsComplete_8 : ∃ (s : State), s.awake = true ∧ s.pwr.refRing = true :=
  ⟨{ up with pwr := { up.pwr with refRing := true } },
   by decide +kernel⟩

/-- A fold whose values are computed one after the other. -/
def foldRun (f : Nat → Byte → Nat) : List Byte → Nat → Nat
  | [], c => c
  | b :: l, c => match f c b with
    | 0 => foldRun f l 0
    | m + 1 => foldRun f l (m + 1)

theorem foldl_eq_foldRun (f : Nat → Byte → Nat) : ∀ (l : List Byte) (c : Nat), l.foldl f c = foldRun f l c
  | [], _ => rfl
  | b :: l, c => by
    rw [List.foldl_cons, foldl_eq_foldRun f l, foldRun]
    cases f c b <;> rfl

theorem bank_crc : bankCrc 1336 [(0x528, 0x8001), (0x530, 0x7FFF)] = 1971157661 := by
  rw [bankCrc, crc32c, foldl_eq_foldRun]
  decide +kernel

theorem table_crc : bankCrc 1024 [] = 2760475471 := by
  rw [bankCrc, crc32c, foldl_eq_foldRun]
  decide +kernel

theorem meets_gfPacketsComplete_0 : ∃ (s : State), ∃ (p : Pkt), s.Admits (.gfConfig p) p ∧ gfChecks p.payload = true ∧
    gfBudgetOk p.payload 0 = true ∧ (gfSlots p.payload).any s.slotRetired = false :=
  ⟨up,
   pk 3 [] 128 gf0,
   admits_of (by decide +kernel),
   by decide +kernel⟩

theorem meets_gfPacketsComplete_1 : ∃ (s : State), ∃ (p : Pkt), s.Admits (.gfTune p) p ∧ zeros p.payload 144 48 = true ∧
    maskOk (slice p.payload 128 16) = true ∧ (s.gf p.target.toNat).config ≠ none ∧ gfChecks (tuned (s.gf
    p.target.toNat).pendingConfig (slice p.payload 0 128) (slice p.payload 128 16)) = true ∧ gfBudgetOk (tuned (s.gf
    p.target.toNat).pendingConfig (slice p.payload 0 128) (slice p.payload 128 16)) ((s.gf p.target.toNat).fading ||| (s.gf
    p.target.toNat).pathsInUse) = true ∧ (((s.gf p.target.toNat).state = .limiting → ([96, 98, 100, 102, 107].any
    (maskSelects (slice p.payload 128 16))) = false)) ∧ (((s.gf p.target.toNat).state = .starting → ((List.range 14).any fun
    k => maskSelects (slice p.payload 128 16) (112 + k)) = false)) :=
  ⟨forming,
   pk 0 [] 192 (gf0 ++ List.replicate 4 0 ++ [0x30]),
   admits_of (by decide +kernel),
   by decide +kernel⟩

theorem meets_gfPacketsComplete_2 : ∃ (s : State), ∃ (p : Pkt), s.Admits (.gfSetpoint p) p ∧ prm p 1 = 0 ∧ prmZero p 18 22 =
    true ∧ ((∀ v ∈ spValues p, ((s.gf p.target.toNat).spRange v.1).1 ≤ v.2.toInt ∧ v.2.toInt ≤ ((s.gf
    p.target.toNat).spRange v.1).2)) ∧ ((∀ b, s.bridgeOfGf p.target.toNat = some b → ∀ v ∈ spValues p, vget (s.bridge
    b).spOfs v.1 = 0xFFFF)) :=
  ⟨forming,
   pk 0 ([1, 0] ++ h2 0x4000),
   admits_of (by decide +kernel),
   by decide +kernel⟩

theorem meets_gfPacketsComplete_3 : ∃ (s : State), ∃ (p : Pkt), s.Admits (.gfSecondary p) p ∧ -8192 ≤ (prmQ p 0).toInt ∧
    (prmQ p 0).toInt ≤ 8192 ∧ -1638 ≤ (prmQ p 2).toInt ∧ (prmQ p 2).toInt ≤ 1638 ∧ 10 ≤ prm16 p 4 ∧ prm16 p 4 ≤ 60000 ∧
    prmZero p 6 34 = true :=
  ⟨forming,
   pk 0 (words [0x2000, 0xF99A, 60000]),
   admits_of (by decide +kernel),
   by decide +kernel⟩

theorem meets_gfPacketsComplete_4 : ∃ (s : State), ∃ (p : Pkt), s.Admits (.gfStatus p) p ∧ prm p 0 ≤ 2 :=
  ⟨up,
   pk 0 [2],
   admits_of (by decide +kernel),
   by decide +kernel⟩

theorem meets_gfEventsComplete_0 : ∃ (s : State), ∃ (g : Fin 4), ∃ tn, ((∀ b, s.bridgeOfGf g = some b → s.frozenBridge b =
    false)) ∧ s.awake = true ∧ s.outerDue g = some tn ∧ (s.gf g).config ≠ none :=
  ⟨withG fun e => { e with due := some 8 },
   0,
   8,
   fun b h => Option.some.inj ((show (withG fun e => { e with due := some 8 }).bridgeOfGf 0 = some 0 by decide +kernel).symm.trans h) ▸ by decide +kernel,
   by decide +kernel⟩

theorem meets_gfEventsComplete_1 : ∃ (s : State), ∃ (g : Fin 4), ∃ t0, s.awake = true ∧ (s.gf g).belowSince = some t0 ∧
    (s.gf g).state = .limiting :=
  ⟨withG fun e => { e with state := .limiting, belowSince := some 8 },
   0,
   8,
   by decide +kernel⟩

theorem meets_gfEventsComplete_2 : ∃ (s : State), ∃ (g : Fin 4), s.awake = true ∧ (s.gf g).state = .limiting ∧ (s.gf
    g).belowSince = none :=
  ⟨withG fun e => { e with state := .limiting },
   0,
   by decide +kernel⟩

theorem meets_gfEventsComplete_3 : ∃ (s : State), ∃ (g : Fin 4), ∃ t0, s.awake = true ∧ (s.gf g).clampSince = some t0 ∧
    (((s.gf g).state = .starting ∨ (s.gf g).state = .forming ∨ (s.gf g).state = .limiting)) :=
  ⟨withG fun e => { e with state := .limiting, clampSince := some 8 },
   0,
   8,
   by decide +kernel⟩

theorem meets_gfEventsComplete_4 : ∃ (s : State), ∃ (g : Fin 4), ∃ t0, s.awake = true ∧ (s.gf g).secUntil = some t0 :=
  ⟨withG fun e => { e with secUntil := some 8 },
   0,
   8,
   by decide +kernel⟩

theorem meets_gfEventsComplete_5 : ∃ (s : State), ∃ (g : Fin 4), ∃ t0, s.awake = true ∧ (s.gf g).deadSince = some t0 ∧ (s.gf
    g).deadBus = false ∧ (((s.gf g).state = .tracking ∨ (s.gf g).state = .starting)) :=
  ⟨withG fun e => { e with state := .tracking, deadSince := some 8 },
   0,
   8,
   by decide +kernel⟩

theorem meets_gfEventsComplete_6 : ∃ (s : State), ∃ (g : Fin 4), s.awake = true ∧ (s.gf g).phase = .holdoff :=
  ⟨withG fun e => { e with phase := .holdoff },
   0,
   by decide +kernel⟩

theorem meets_gfEventsComplete_7 : ∃ (s : State), ∃ (g : Fin 4), ∃ t0, s.awake = true ∧ (s.gf g).okSince = some t0 ∧ (s.gf
    g).phase = .waitLive :=
  ⟨withG fun e => { e with phase := .waitLive, okSince := some 8 },
   0,
   8,
   by decide +kernel⟩

theorem meets_gfEventsComplete_8 : ∃ (s : State), ∃ (g : Fin 4), ∃ t0, s.awake = true ∧ (s.gf g).okSince = some t0 ∧ (s.gf
    g).phase = .presync :=
  ⟨withG fun e => { e with phase := .presync, okSince := some 8 },
   0,
   8,
   by decide +kernel⟩

theorem meets_gfEventsComplete_9 : ∃ (s : State), ∃ (g : Fin 4), s.awake = true ∧ (s.gf g).phase = .retryWait :=
  ⟨withG fun e => { e with phase := .retryWait },
   0,
   by decide +kernel⟩

theorem meets_gfEventsComplete_10 : ∃ (s : State), ∃ (g : Fin 4), s.awake = true ∧ s.fbMapped g = true ∧ (s.gf g).state =
    .starting ∧ (s.gf g).phase = .closeDead :=
  ⟨mapped (withG fun e => { e with state := .starting, phase := .closeDead }) 0x14,
   0,
   by decide +kernel⟩

theorem meets_gfEventsComplete_11 : ∃ (s : State), ∃ (g : Fin 4), s.awake = true ∧ s.fbMapped g = true ∧ (s.gf g).state =
    .starting ∧ (s.gf g).phase = .closeLive :=
  ⟨mapped (withG fun e => { e with state := .starting, phase := .closeLive }) 0x14,
   0,
   by decide +kernel⟩

theorem meets_gfEventsComplete_12 : ∃ (s : State), ∃ (g : Fin 4), s.awake = true ∧ s.fbMapped g = true ∧ (s.gf g).state =
    .starting ∧ (s.gf g).phase = .ramp ∧ (s.gf g).hasBus = true :=
  ⟨mapped (withG fun e => { e with state := .starting, phase := .ramp, config := some (bytes (gf0.take 21 ++ [5, 6] ++ gf0.drop 23)) }) 0x14,
   0,
   by decide +kernel⟩

theorem meets_gfEventsComplete_13 : ∃ (s : State), ∃ (g : Fin 4), s.awake = true ∧ s.fbMapped g = true ∧ (s.gf g).state =
    .forming ∧ (s.gf g).hasBus = true :=
  ⟨mapped (withG fun e => { e with config := some (bytes (gf0.take 21 ++ [5, 6] ++ gf0.drop 23)) }) 0x14,
   0,
   by decide +kernel⟩

theorem meets_gfEventsComplete_14 : ∃ (s : State), ∃ (g : Fin 4), s.awake = true ∧ (s.gf g).joinReq = true ∧ s.fbMapped g =
    false ∧ (((s.gf g).phase = .closeDead ∨ (s.gf g).phase = .closeLive)) :=
  ⟨withG fun e => { e with phase := .closeLive, joinReq := true },
   0,
   by decide +kernel⟩

theorem meets_gfEventsComplete_15 : ∃ (s : State), ∃ (g : Fin 4), s.awake = true ∧ (s.gf g).joinReq = true ∧ s.gfClosed g =
    false ∧ (((s.gf g).phase = .closeDead ∨ (s.gf g).phase = .closeLive)) :=
  ⟨withG fun e => { e with phase := .closeDead, joinReq := true, config := some (bytes (gf0.take 21 ++ [5, 6] ++ gf0.drop 23)) },
   0,
   by decide +kernel⟩

theorem meets_gfEventsComplete_16 : ∃ (s : State), ∃ (g : Fin 4), ∃ t0, s.awake = true ∧ (s.gf g).awaySince = some t0 ∧
    (s.gf g).hasBus = true ∧ s.fbMapped g = false ∧ (((s.gf g).state = .forming ∨ (s.gf g).state = .limiting)) :=
  ⟨withG fun e => { e with awaySince := some 8, config := some (bytes (gf0.take 21 ++ [5, 6] ++ gf0.drop 23)) },
   0,
   8,
   by decide +kernel⟩

theorem meets_loopSetupPacketsComplete_0 : ∃ (s : State), ∃ (p : Pkt), ∃ (c : LoopContext), s.Admits (.loopConfig p) p ∧ c =
    { state := .loaded, host := (s.lc p.target.toNat).host, config := p.payload, r := (s.lc p.target.toNat).r, spNext := (s.lc p.target.toNat).spNext, satCount := (s.lc p.target.toNat).satCount, overruns := (s.lc p.target.toNat).overruns, cycMost := (s.lc p.target.toNat).cycMost }
    ∧ c.configOk = true ∧ s.engineLoad (s.lc p.target.toNat).host (some p.target.toNat) + s.lcLoad p.target.toNat c ≤
    loopBudget ∧ (∀ i < 16, s.srcRetired (c.msrc i) = false) :=
  ⟨up,
   pk 0 [] 128 lc0,
   { state := .loaded, config := bytes (lc0 ++ List.replicate (128 - lc0.length) 0) },
   admits_of (by decide +kernel),
   by decide +kernel⟩

theorem meets_loopSetupPacketsComplete_1 : ∃ (s : State), ∃ (p : Pkt), s.Admits (.loopCoefLoad p) p ∧ prm16 p 2 ≠ 0 ∧ prm16
    p 0 + prm16 p 2 ≤ 1336 ∧ prmZero p 4 36 = true ∧ p.len.toNat = pad64 (2 * prm16 p 2) ∧ (s.lc p.target.toNat).coefSwap =
    none :=
  ⟨running,
   pk 0 (words [1335, 1]) 64,
   admits_of (by decide +kernel),
   by decide +kernel⟩

theorem meets_loopSetupPacketsComplete_2 : ∃ (s : State), ∃ (p : Pkt), s.Admits (.loopCoefSwap p) p ∧ prm32 p 4 = bankCrc
    1336 (vget (s.lc p.target.toNat).bank (other (s.lc p.target.toNat).active)) ∧ (s.lc p.target.toNat).coefSwap = none ∧
    prm p 0 ≤ 1 ∧ prmZero p 1 3 = true ∧ prmZero p 8 32 = true ∧ (s.lc p.target.toNat).limitsOk (other (s.lc
    p.target.toNat).active) = true ∧ (s.lc p.target.toNat).state = .running :=
  ⟨withL fun c => { c with bank := Vector.replicate 2 [(0x528, 0x8001), (0x530, 0x7FFF)] },
   pk 0 ([1, 0, 0, 0] ++ h4 1971157661),
   admits_of (by decide +kernel),
   .trans (b := 1971157661) (by decide +kernel)
    (bank_crc.symm.trans (congrArg (bankCrc 1336) (by decide +kernel))),
   by decide +kernel⟩

theorem meets_loopSetupPacketsComplete_3 : ∃ (s : State), ∃ (p : Pkt), s.Admits (.loopCoefSwap p) p ∧ prm32 p 4 = bankCrc
    1336 (vget (s.lc p.target.toNat).bank (other (s.lc p.target.toNat).active)) ∧ (s.lc p.target.toNat).coefSwap = none ∧
    prm p 0 ≤ 1 ∧ prmZero p 1 3 = true ∧ prmZero p 8 32 = true ∧ (s.lc p.target.toNat).limitsOk (other (s.lc
    p.target.toNat).active) = true ∧ (s.lc p.target.toNat).state ≠ .running :=
  ⟨withL fun c => { c with state := .loaded, bank := Vector.replicate 2 [(0x528, 0x8001), (0x530, 0x7FFF)] },
   pk 0 ([0, 0, 0, 0] ++ h4 1971157661),
   admits_of (by decide +kernel),
   .trans (b := 1971157661) (by decide +kernel)
    (bank_crc.symm.trans (congrArg (bankCrc 1336) (by decide +kernel))),
   by decide +kernel⟩

theorem meets_loopSetupPacketsComplete_4 : ∃ (s : State), ∃ (p : Pkt), s.Admits (.loopTableLoad p) p ∧ prm p 0 ≤ 1 ∧ prm p 1
    = 0 ∧ prm16 p 4 ≠ 0 ∧ prm16 p 2 + prm16 p 4 ≤ 1024 ∧ prmZero p 6 34 = true ∧ p.len.toNat = pad64 (2 * prm16 p 4) ∧ (s.lc
    p.target.toNat).tabSwap = [] :=
  ⟨running,
   pk 0 ([1, 0] ++ words [0, 1024]) 2048,
   admits_of (by decide +kernel),
   by decide +kernel⟩

theorem meets_loopSetupPacketsComplete_5 : ∃ (s : State), ∃ (p : Pkt), s.Admits (.loopTableSwap p) p ∧ (((prm p 0).testBit 0
    = true → prm32 p 4 = bankCrc 1024 (vget (s.lc p.target.toNat).fric (other (s.lc p.target.toNat).fricAct)))) ∧ (((prm p
    0).testBit 1 = true → prm32 p 8 = bankCrc 1024 (vget (s.lc p.target.toNat).cogg (other (s.lc p.target.toNat).coggAct))))
    ∧ prm p 0 ≤ 3 ∧ prmZero p 1 3 = true ∧ prmZero p 12 28 = true ∧ (∀ w ∈ (s.lc p.target.toNat).tabSwap, w.2 &&& prm p 0 =
    0) ∧ (s.lc p.target.toNat).state = .running :=
  ⟨running,
   pk 0 ([3, 0, 0, 0] ++ h4 2760475471 ++ h4 2760475471),
   admits_of (by decide +kernel),
   fun _ => .trans (b := 2760475471) (by decide +kernel)
    (table_crc.symm.trans (congrArg (bankCrc 1024) (by decide +kernel))),
   fun _ => .trans (b := 2760475471) (by decide +kernel)
    (table_crc.symm.trans (congrArg (bankCrc 1024) (by decide +kernel))),
   by decide +kernel⟩

theorem meets_loopSetupPacketsComplete_6 : ∃ (s : State), ∃ (p : Pkt), s.Admits (.loopStateSet p) p ∧ zeros p.payload 48 16
    = true :=
  ⟨withL fun c => { c with state := .held },
   pk 0 [] 64,
   admits_of (by decide +kernel),
   by decide +kernel⟩

theorem meets_loopRunPacketsComplete_0 : ∃ (s : State), ∃ (p : Pkt), s.Admits (.loopSetpoint p) p ∧ prm p 1 = 0 ∧ prmZero p
    18 22 = true ∧ ((∀ b, s.bridgeOfLc p.target.toNat = some b → s.role b ≠ some .form ∧ ∀ v ∈ spValues p, vget (s.bridge
    b).spOfs v.1 = 0xFFFF)) :=
  ⟨running,
   pk 0 ([3, 0] ++ words [0x8000, 0x7FFF]),
   admits_of (by decide +kernel),
   by decide +kernel⟩

theorem meets_loopRunPacketsComplete_1 : ∃ (s : State), ∃ (p : Pkt), s.Admits (.loopSubst p) p ∧ prm p 0 < (s.lc
    p.target.toNat).nm ∧ msrcOk (prm p 1) = true ∧ prmZero p 2 38 = true ∧ s.srcRetired (prm p 1) = false ∧ p.target.toNat <
    24 ∧ (s.lc p.target.toNat).state = .running :=
  ⟨running,
   pk 0 [0, 0x83],
   admits_of (by decide +kernel),
   by decide +kernel⟩

theorem meets_loopRunPacketsComplete_2 : ∃ (s : State), ∃ (p : Pkt), s.Admits (.loopInject p) p ∧ (s.lc
    p.target.toNat).injEn = true ∧ (s.lc p.target.toNat).inj = none ∧ injectOk p (s.lc p.target.toNat) = true :=
  ⟨running,
   pk 0 ([0, 0, 0, 7] ++ words [1, 64] ++ h4 1000 ++ h4 8000000 ++ h4 1),
   admits_of (by decide +kernel),
   by decide +kernel⟩

theorem meets_loopRunPacketsComplete_3 : ∃ (s : State), ∃ (p : Pkt), ∃ j, s.Admits (.loopInjectStop p) p ∧ (s.lc
    p.target.toNat).inj = some j :=
  ⟨withL fun c => { c with inj := some { ticket := ⟨0, 9⟩, kind := 0, point := 0, entry := 0, order := 7, ampl := 1, chip := 1, f0 := 0, f1 := 0, length := 1, lfsr := 1, k := 127, first := none, from_ := 0 } },
   pk 0,
   { ticket := ⟨0, 9⟩, kind := 0, point := 0, entry := 0, order := 7, ampl := 1, chip := 1, f0 := 0, f1 := 0, length := 1, lfsr := 1, k := 127, first := none, from_ := 0 },
   admits_of (by decide +kernel),
   by decide +kernel⟩

theorem meets_loopRunPacketsComplete_4 : ∃ (s : State), ∃ (p : Pkt), s.Admits (.loopStatus p) p ∧ prm p 0 = 0 ∧ prmZero p 1
    39 = true :=
  ⟨running,
   pk 0,
   admits_of (by decide +kernel),
   by decide +kernel⟩

theorem meets_loopRunPacketsComplete_5 : ∃ (s : State), ∃ (p : Pkt), s.Admits (.loopStatus p) p ∧ (prm p 0 = 1 ∨ prm p 0 =
    2) ∧ prmZero p 1 39 = true :=
  ⟨running,
   pk 0 [2],
   admits_of (by decide +kernel),
   by decide +kernel⟩

theorem meets_loopRunPacketsComplete_6 : ∃ (s : State), ∃ (p : Pkt), s.Admits (.loopUnload p) p :=
  ⟨(withL fun c => { c with state := .loaded }).modB 0 fun b => { b with state := .offline },
   pk 0,
   admits_of (by decide +kernel)⟩

theorem meets_loopAndPwmEventsComplete_0 : ∃ (s : State), ∃ (k : Fin 24), ∃ b, ∃ d, s.awake = true ∧ s.sampleDue k = some
    (b, d) ∧ s.now ≤ s.deadline b d ∧ s.role b ≠ some .form ∧ (s.boundary k b d.ns).role b ≠ some .form ∧ ((s.boundary k b
    d.ns).lc k).state = .running :=
  ⟨withL fun c => { c with due := [{ at_ := 8 }] },
   0,
   0,
   { at_ := 8 },
   by decide +kernel⟩

theorem meets_loopAndPwmEventsComplete_1 : ∃ (s : State), ∃ (k : Fin 24), ∃ b, ∃ d, s.awake = true ∧ s.sampleDue k = some
    (b, d) ∧ s.deadline b d < s.now :=
  ⟨{ (withL fun c => { c with due := [{ at_ := 8 }] }) with now := 400000 },
   0,
   0,
   { at_ := 8 },
   by decide +kernel⟩

theorem meets_loopAndPwmEventsComplete_2 : ∃ (s : State), ∃ (k : Fin 24), ∃ b, ∃ d, s.awake = true ∧ s.sampleDue k = some
    (b, d) :=
  ⟨withL fun c => { c with due := [{ at_ := 8 }] },
   0,
   0,
   { at_ := 8 },
   by decide +kernel⟩

theorem meets_loopAndPwmEventsComplete_3 : ∃ (s : State), ∃ (k : Fin 24), ∃ t0, ∃ b, s.awake = true ∧ (s.lc k).substSince =
    some t0 ∧ s.bridgeOfLc k = some b ∧ (s.lc k).state = .running :=
  ⟨withL fun c => { c with substSince := some 8 },
   0,
   8,
   0,
   by decide +kernel⟩

theorem meets_loopAndPwmEventsComplete_4 : ∃ (s : State), ∃ (k : Fin 24), ∃ j, s.awake = true ∧ (s.lc k).inj = some j ∧
    j.total (s.lc k).fs ≤ j.k :=
  ⟨withL fun c => { c with inj := some { ticket := ⟨0, 9⟩, kind := 0, point := 0, entry := 0, order := 7, ampl := 1, chip := 1, f0 := 0, f1 := 0, length := 1, lfsr := 1, k := 127, first := none, from_ := 0 } },
   0,
   { ticket := ⟨0, 9⟩, kind := 0, point := 0, entry := 0, order := 7, ampl := 1, chip := 1, f0 := 0, f1 := 0, length := 1, lfsr := 1, k := 127, first := none, from_ := 0 },
   by decide +kernel⟩

theorem meets_loopAndPwmEventsComplete_5 : ∃ (s : State), ∃ (b : Fin 8), s.awake = true ∧ (s.pwm b).running = true ∧
    ((s.expireSamples b).pwm b).running = true :=
  ⟨running,
   0,
   by decide +kernel⟩

theorem meets_loopAndPwmEventsComplete_6 : ∃ (s : State), ∃ (src : Fin 16), s.awake = true ∧ src.val < 8 :=
  ⟨up,
   7,
   by decide +kernel⟩

theorem meets_loopAndPwmEventsComplete_7 : ∃ (s : State), ∃ (src : Fin 16), s.awake = true ∧ 8 ≤ src.val ∧ s.tripMet src =
    true :=
  ⟨up.modTrip 8 fun t => { t with filt := 3, count := 3 },
   8,
   by decide +kernel⟩

theorem meets_pwmPacketsComplete_0 : ∃ (s : State), ∃ (p : Pkt), ∃ c, s.Admits (.pwmCarrier p) p ∧ parseCarrier p.payload
    (s.legCount p.target.toNat) = some c ∧ pulsesFit c.tmin (s.pwm p.target.toNat).dt1 (s.pwm p.target.toNat).dt2 (s.linksOf
    p.target.toNat).length (2 * c.per) = true ∧ bootFits (s.pwm p.target.toNat).bootMask.toNat (s.pwm p.target.toNat).bootW
    (s.pwm p.target.toNat).dt1 (s.pwm p.target.toNat).dt2 (2 * c.per) = true ∧ ((
     let s1 := (s.begun (.pwmCarrier p) p).modPwm p.target.toNat fun w => { w with perCfg := c.per }
     s1.sourceOk p.target.toNat = true ∧ s1.mirrorFits = true ∧ s1.pugFits = true)) ∧ (s.bridge p.target.toNat).state =
     .offline :=
  ⟨(withB fun b => { b with defn := some conv0 }).modPwm 0 fun w => { w with dt1 := Vector.replicate 12 0, dt2 := Vector.replicate 12 0 },
   pk 0 [] 64 (h4 40000 ++ [0, 0, 2, 0]),
   { per := 40000, phase := 0, commit := 2, tmin := 0, legPhase := Vector.replicate 6 0 },
   admits_of (by decide +kernel),
   by decide +kernel⟩

theorem meets_pwmPacketsComplete_1 : ∃ (s : State), ∃ (p : Pkt), ∃ c, s.Admits (.pwmCarrier p) p ∧ parseCarrier p.payload
    (s.legCount p.target.toNat) = some c ∧ pulsesFit c.tmin (s.pwm p.target.toNat).dt1 (s.pwm p.target.toNat).dt2 (s.linksOf
    p.target.toNat).length (2 * c.per) = true ∧ bootFits (s.pwm p.target.toNat).bootMask.toNat (s.pwm p.target.toNat).bootW
    (s.pwm p.target.toNat).dt1 (s.pwm p.target.toNat).dt2 (2 * c.per) = true ∧ ((
     let s1 := (s.begun (.pwmCarrier p) p).modPwm p.target.toNat fun w => { w with perCfg := c.per }
     s1.sourceOk p.target.toNat = true ∧ s1.mirrorFits = true ∧ s1.pugFits = true ∧ s1.rateKept p.target.toNat = true)) ∧
     (s.bridge p.target.toNat).state = .armed :=
  ⟨(withB fun b => { b with state := .armed, defn := some conv0 }).modPwm 0 fun w => { w with dt1 := Vector.replicate 12 0, dt2 := Vector.replicate 12 0 },
   pk 0 [] 64 (h4 40000 ++ [0, 0, 2, 0]),
   { per := 40000, phase := 0, commit := 2, tmin := 0, legPhase := Vector.replicate 6 0 },
   admits_of (by decide +kernel),
   by decide +kernel⟩

theorem meets_pwmPacketsComplete_2 : ∃ (s : State), ∃ (p : Pkt), ∃ (dt1 : Vector Nat 12), ∃ (dt2 : Vector Nat 12), ∃ (fall1
    : Vector Nat 12), ∃ (fall2 : Vector Nat 12), s.Admits (.pwmEdges p) p ∧ dt1 = Vector.ofFn (fun g : Fin 12 => le
    p.payload (8 * g.val) 2) ∧ dt2 = Vector.ofFn (fun g : Fin 12 => le p.payload (8 * g.val + 2) 2) ∧ fall1 = Vector.ofFn
    (fun g : Fin 12 => le p.payload (8 * g.val + 4) 2) ∧ fall2 = Vector.ofFn (fun g : Fin 12 => le p.payload (8 * g.val + 6)
    2) ∧ ((∀ g < 12, if g < (s.linksOf p.target.toNat).length then vget dt1 g ≤ 64000 ∧ vget dt2 g ≤ 64000 ∧ vget fall1 g ≤
    8000 ∧ vget fall2 g ≤ 8000 else zeros p.payload (8 * g) 8 = true)) ∧ zeros p.payload 96 32 = true ∧ ((∀ c, (s.pwm
    p.target.toNat).carrier = some c → pulsesFit c.tmin dt1 dt2 (s.linksOf p.target.toNat).length (s.carrierT
    p.target.toNat) = true ∧ bootFits (s.pwm p.target.toNat).bootMask.toNat (s.pwm p.target.toNat).bootW dt1 dt2 (s.carrierT
    p.target.toNat) = true)) :=
  ⟨(withB fun b => { b with defn := some conv0 }).modPwm 0 fun w => { w with dt1 := Vector.replicate 12 0, dt2 := Vector.replicate 12 0 },
   pk 0 [] 128 (words [64000, 64000, 8000, 8000]),
   Vector.ofFn (fun g : Fin 12 => if g = 0 then 64000 else 0),
   Vector.ofFn (fun g : Fin 12 => if g = 0 then 64000 else 0),
   Vector.ofFn (fun g : Fin 12 => if g = 0 then 8000 else 0),
   Vector.ofFn (fun g : Fin 12 => if g = 0 then 8000 else 0),
   admits_of (by decide +kernel),
   by decide +kernel⟩

theorem meets_pwmPacketsComplete_3 : ∃ (s : State), ∃ (p : Pkt), s.Admits (.pwmPeriod p) p ∧ (s.pwm p.target.toNat).perCfg ≤
    prm32 p 0 ∧ prm32 p 0 ≤ 4000000 ∧ prm p 4 = 0 ∧ prmZero p 5 35 = true ∧ s.role p.target.toNat ≠ some .form :=
  ⟨running,
   pk 0 (h4 4000000),
   admits_of (by decide +kernel),
   by decide +kernel⟩

theorem meets_pwmPacketsComplete_4 : ∃ (s : State), ∃ (p : Pkt), s.Admits (.pwmPeriod p) p ∧ (s.pwm p.target.toNat).perCfg ≤
    prm32 p 0 ∧ prm32 p 0 ≤ 4000000 ∧ prm p 4 = 1 ∧ prmZero p 5 35 = true ∧ s.role p.target.toNat ≠ some .form :=
  ⟨running,
   pk 0 (h4 200000 ++ [1]),
   admits_of (by decide +kernel),
   by decide +kernel⟩

theorem meets_pwmPacketsComplete_5 : ∃ (s : State), ∃ (p : Pkt), s.Admits (.pwmBoot p) p ∧ prm p 3 = 0 ∧ prmZero p 8 32 =
    true ∧ ((prm16 p 0 = 0 ∨ (1 ≤ prm p 2 ∧ prm p 2 ≤ 64 ∧ ((s.pwm p.target.toNat).carrier.map (·.tmin)).getD 0 ≤ prm32 p 4
    ∧ prm32 p 4 ≤ 80000 ∧ prm16 p 0 < 2 ^ (s.linksOf p.target.toNat).length ∧ (∀ g ∈ (s.linksOf p.target.toNat).zipIdx,
    (prm16 p 0).testBit g.2 = true → ∀ l, s.legOf p.target.toNat g.1 = some l → l.kind = 0) ∧ ((s.pwm
    p.target.toNat).carrier = none ∨ bootFits (prm16 p 0) (prm32 p 4) (s.pwm p.target.toNat).dt1 (s.pwm p.target.toNat).dt2
    (s.carrierT p.target.toNat) = true)))) :=
  ⟨(withB fun b => { b with defn := some conv0 }).modPwm 0 fun w => { w with dt1 := Vector.replicate 12 0, dt2 := Vector.replicate 12 0 },
   pk 0 (h2 1 ++ [64, 0] ++ h4 80000),
   admits_of (by decide +kernel),
   by decide +kernel⟩

theorem meets_pwmPacketsComplete_6 : ∃ (s : State), ∃ (p : Pkt), s.Admits (.pwmTripConfig p) p ∧ prm p 0 = 0 ∧ prmZero p 10
    30 = true ∧ p.target.toNat < 8 ∧ prm p 1 ≤ 1 ∧ prmZero p 4 6 = true ∧ prm p 3 < 2 ^ s.fitBridges ∧ ((∀ b < s.fitBridges,
    ((s.trip p.target.toNat).bmask.getLsbD b = true ∨ (prm p 3).testBit b = true) → (s.bridge b).state = .offline ∨
    (s.bridge b).state = .armed)) :=
  ⟨up,
   pk 7 [0, 1, 1, 0xFF],
   admits_of (by decide +kernel),
   by decide +kernel⟩

theorem meets_pwmPacketsComplete_7 : ∃ (s : State), ∃ (p : Pkt), s.Admits (.pwmTripConfig p) p ∧ prm p 0 = 1 ∧ prmZero p 10
    30 = true ∧ 8 ≤ p.target.toNat ∧ p.target.toNat < 16 ∧ prm p 1 = 0 ∧ 1 ≤ prm p 2 ∧ prm p 2 ≤ 8 ∧ prm16 p 4 < 48 ∧ (prmQ
    p 8).toInt < (prmQ p 6).toInt ∧ prm p 3 < 2 ^ s.fitBridges ∧ s.slotRetired (prm16 p 4) = false ∧ ((∀ b < s.fitBridges,
    ((s.trip p.target.toNat).bmask.getLsbD b = true ∨ (prm p 3).testBit b = true) → (s.bridge b).state = .offline ∨
    (s.bridge b).state = .armed)) :=
  ⟨up,
   pk 8 ([1, 0, 8, 0xFF] ++ words [47, 0x7FFF, 0x7FFE]),
   admits_of (by decide +kernel),
   by decide +kernel⟩

theorem meets_pwmPacketsComplete_8 : ∃ (s : State), ∃ (p : Pkt), s.Admits (.pwmStatus p) p ∧ prm p 0 = 0 :=
  ⟨up,
   pk 7,
   admits_of (by decide +kernel),
   by decide +kernel⟩

theorem meets_pwmPacketsComplete_9 : ∃ (s : State), ∃ (p : Pkt), s.Admits (.pwmStatus p) p ∧ prm p 0 = 1 :=
  ⟨up,
   pk 7 [1],
   admits_of (by decide +kernel),
   by decide +kernel⟩

/-- `safe` with B0 defined, and gate link 0 changed. -/
def withK (f : GateLink → GateLink) : State := (safe.modB 0 fun b => { b with defn := some spare0 }).modLink 0 f

theorem meets_gatePacketsComplete_0 : ∃ (s : State), ∃ (p : Pkt), ∃ f, s.Admits (.gateProfile p) p ∧ parseProfile p = some f
    ∧ s.ownerState p.target.toNat = .armed :=
  ⟨withB fun b => { b with defn := some spare0, state := .armed },
   pk 0 (words [511, 2047, 0, 0, 0, 0, 0, 0] ++ [5, 5, 50]),
   { pre := Vector.ofFn (fun k => if k.val = 0 then 511 else 0), mil := Vector.ofFn (fun k => if k.val = 0 then 2047 else 0), blank1 := 5, blank2 := 5, dsfilt := 50, bootTh := 0, telDiv := 0 },
   admits_of (by decide +kernel),
   by decide +kernel⟩

theorem meets_gatePacketsComplete_1 : ∃ (s : State), ∃ (p : Pkt), ∃ f, s.Admits (.gateProfile p) p ∧ parseProfile p = some f
    ∧ s.ownerState p.target.toNat = .offline :=
  ⟨withB fun b => { b with defn := some spare0 },
   pk 0 (words [511, 2047, 0, 0, 0, 0, 0, 0] ++ [5, 5, 50]),
   { pre := Vector.ofFn (fun k => if k.val = 0 then 511 else 0), mil := Vector.ofFn (fun k => if k.val = 0 then 2047 else 0), blank1 := 5, blank2 := 5, dsfilt := 50, bootTh := 0, telDiv := 0 },
   admits_of (by decide +kernel),
   by decide +kernel⟩

theorem meets_gatePacketsComplete_2 : ∃ (s : State), ∃ (p : Pkt), s.Admits (.gateAdapt p) p ∧ prm p 0 ≤ 15 ∧ 1 ≤ prm p 1 ∧
    prm p 1 ≤ 64 ∧ 1 ≤ prm16 p 2 ∧ prm16 p 2 ≤ 4095 ∧ 1 ≤ prm16 p 4 ∧ prm16 p 4 ≤ 4095 ∧ 1 ≤ prm16 p 6 ∧ prm16 p 6 ≤ 0x7FFF
    ∧ 1 ≤ prm p 8 ∧ prm p 8 ≤ 16 ∧ prm p 9 = 0 ∧ prm16 p 10 ≤ 2047 ∧ prm16 p 10 ≤ prm16 p 12 ∧ prm16 p 12 ≤ 2047 ∧ prmZero p
    14 26 = true ∧ (((s.link p.target.toNat).profile.telDiv = 0 → prm p 0 = 0)) :=
  ⟨withB fun b => { b with defn := some spare0 },
   pk 0 ([15, 64] ++ words [4095, 4095, 0x7FFF] ++ [16, 0] ++ words [2047, 2047]),
   admits_of (by decide +kernel),
   by decide +kernel⟩

theorem meets_gatePacketsComplete_3 : ∃ (s : State), ∃ (p : Pkt), s.Admits (.gateStatus p) p ∧ prm p 0 = 0 :=
  ⟨up,
   pk 23,
   admits_of (by decide +kernel),
   by decide +kernel⟩

theorem meets_gatePacketsComplete_4 : ∃ (s : State), ∃ (p : Pkt), s.Admits (.gateStatus p) p ∧ (prm p 0 = 1 ∨ prm p 0 = 2)
    :=
  ⟨up,
   pk 23 [2],
   admits_of (by decide +kernel),
   by decide +kernel⟩

theorem meets_gatePacketsComplete_5 : ∃ (s : State), ∃ (p : Pkt), ∃ st, s.Admits (.gateTelem p) p ∧ prm p 0 ≤ 3 ∧ (s.link
    p.target.toNat).status = some st :=
  ⟨(withK fun l => { l with status := some ⟨1, 2, 3, 0, false⟩ }).modB 0 fun b => { b with state := .armed },
   pk 0 [3],
   ⟨1, 2, 3, 0, false⟩,
   admits_of (by decide +kernel),
   by decide +kernel⟩

theorem meets_gatePacketsComplete_6 : ∃ (s : State), ∃ (p : Pkt), s.Admits (.gateTelem p) p ∧ prm p 0 ≤ 3 ∧ (s.link
    p.target.toNat).status = none :=
  ⟨withB fun b => { b with defn := some spare0, state := .armed },
   pk 0 [3],
   admits_of (by decide +kernel),
   by decide +kernel⟩

theorem meets_gatePacketsComplete_7 : ∃ (s : State), ∃ (p : Pkt), s.Admits (.gateBoosterRw p) p ∧ prm p 0 = 1 ∧ 0x40 ≤ prm p
    1 ∧ prm p 1 ≤ 0x7F :=
  ⟨withB fun b => { b with defn := some spare0, state := .armed },
   pk 0 [1, 0x7F],
   admits_of (by decide +kernel),
   by decide +kernel⟩

theorem meets_gatePacketsComplete_8 : ∃ (s : State), ∃ (p : Pkt), s.Admits (.gateBoosterRw p) p ∧ prm p 0 = 0 ∧ 0x40 ≤ prm p
    1 ∧ prm p 1 ≤ 0x7F :=
  ⟨withB fun b => { b with defn := some spare0, state := .armed },
   pk 0 [0, 0x40, 0xFF],
   admits_of (by decide +kernel),
   by decide +kernel⟩

theorem meets_gateProtectionEventsComplete_0 : ∃ (s : State), ∃ (g : Fin 24), ∃ b, s.awake = true ∧ s.ownerOf g = some b ∧
    (s.bridge b).state ≠ .offline ∧ (s.bridge b).state ≠ .safe :=
  ⟨withB fun b => { b with defn := some spare0, state := .running },
   0,
   0,
   by decide +kernel⟩

theorem meets_gateProtectionEventsComplete_1 : ∃ (s : State), ∃ (g : Fin 24), ∃ b, s.awake = true ∧ s.ownerOf g = some b ∧
    (s.bridge b).state = .safe :=
  ⟨withB fun b => { b with defn := some spare0, state := .safe },
   0,
   0,
   by decide +kernel⟩

theorem meets_gateProtectionEventsComplete_2 : ∃ (s : State), ∃ (g : Fin 24), ∃ (c : BitVec 5), ∃ n, ∃ t, s.awake = true ∧
    (s.link g).breakAt = some t ∧ nibbleOf c = some n ∧ 2 ≤ n ∧ n < 8 :=
  ⟨withK fun l => { l with breakAt := some 0 },
   0,
   0b01101,
   2,
   0,
   by decide +kernel⟩

theorem meets_gateProtectionEventsComplete_3 : ∃ (s : State), ∃ (g : Fin 24), ∃ t, s.awake = true ∧ (s.link g).breakAt =
    some t :=
  ⟨withK fun l => { l with breakAt := some 0 },
   0,
   0,
   by decide +kernel⟩

theorem meets_gateProtectionEventsComplete_4 : ∃ (s : State), ∃ (g : Fin 24), ∃ (c : BitVec 5), ∃ n, ∃ t, ∃ w, s.awake =
    true ∧ (s.link g).breakAt = some t ∧ nibbleOf c = some n ∧ n < 2 ∧ ((
     let s1 := ((s.advanceTo (t + 800)).linkNow g).modLink g fun l => { l with breakAt := none }
     vget (s1.link g).window n = some w ∧ s1.now < w)) :=
  ⟨withK fun l => { l with breakAt := some 0, window := Vector.replicate 2 (some 4000) },
   0,
   0b01010,
   0,
   0,
   4000,
   by decide +kernel⟩

theorem meets_gateProtectionEventsComplete_5 : ∃ (s : State), ∃ (sw : Fin 48), ∃ w, s.awake = true ∧ vget (s.link (sw.val /
    2)).window (sw.val % 2) = some w :=
  ⟨withK fun l => { l with window := Vector.replicate 2 (some 8) },
   1,
   8,
   by decide +kernel⟩

theorem meets_gateProtectionEventsComplete_6 : ∃ (s : State), ∃ (group : BitVec 5), ∃ n, s.awake = true ∧ nibbleOf group =
    some n ∧ 9 ≤ n ∧ n ≤ 11 :=
  ⟨up,
   0b11010,
   9,
   by decide +kernel⟩

theorem meets_gateProtectionEventsComplete_7 : ∃ (s : State), ∃ (g : Fin 24), s.awake = true ∧ ((s.linkNow g).closeSeries
    g).ownerOf g = none :=
  ⟨up,
   23,
   by decide +kernel⟩

theorem meets_gateProtectionEventsComplete_8 : ∃ (s : State), ∃ (g : Fin 24), ∃ b, s.awake = true ∧ ((s.linkNow
    g).closeSeries g).ownerOf g = some b ∧ ((
     let s1 := (s.linkNow g).closeSeries g
     (s1.bridge b).state.switching = true ∧ (s1.pwm b).bootMask.getLsbD (s1.linkIndex b g) = true ∧ (s1.link g).refreshEnd =
     none ∧ (s1.link g).series < 3)) :=
  ⟨((withB fun b => { b with defn := some conv0, state := .running }).modPwm 0 fun w => { w with bootMask := 1 }).modLink 0 fun l => { l with series := 2 },
   0,
   0,
   by decide +kernel⟩

theorem meets_gateProtectionEventsComplete_9 : ∃ (s : State), ∃ (g : Fin 24), ∃ e, s.awake = true ∧ (s.link g).refreshEnd =
    none ∧ (s.link g).lastRefresh = some e ∧ (s.link g).series ≠ 0 :=
  ⟨withK fun l => { l with lastRefresh := some 8, series := 1 },
   0,
   8,
   by decide +kernel⟩

theorem meets_gateUplinkEventsComplete_0 : ∃ (s : State), s.awake = true :=
  ⟨up,
   by decide +kernel⟩

theorem meets_gateUplinkEventsComplete_1 : ∃ (s : State), ∃ (g : Fin 24), ∃ second, ∃ off, ∃ (entry : BitVec 12), ∃ (exit :
    BitVec 12), s.awake = true ∧ ((((s.frameOk g false).linkNow g).link g).adapt.en.getLsbD (2 * bit second + bit off) =
    false ∨ entry = 0xFFF ∨ exit = 0xFFF ∨ (((s.frameOk g false).linkNow g).link g).edgeUnfit (2 * bit second + bit off) =
    true) :=
  ⟨up,
   23,
   true,
   false,
   0,
   0,
   by decide +kernel⟩

theorem meets_gateUplinkEventsComplete_2 : ∃ (s : State), ∃ (g : Fin 24), ∃ (addr : Byte), (∀ a ∈ ((s.frameOk g false).link
    g).acks, ∀ t, a.1 ≠ .read t addr) ∧ s.awake = true :=
  ⟨up,
   23,
   0,
   fun _ h => (nomatch h),
   by decide +kernel⟩

theorem meets_gateUplinkEventsComplete_3 : ∃ (s : State), ∃ (g : Fin 24), ∃ (addr : Byte), ∃ t, ∃ d, ∃ r, s.awake = true ∧
    ((s.frameOk g false).link g).acks.find? (fun a => match a.1 with | .read _ x => x = addr | _ => false) = some (.read t
    addr, d, r) :=
  ⟨withK fun l => { l with acks := [(.read ⟨0, 9⟩ 0x40, 100, false)] },
   0,
   0x40,
   ⟨0, 9⟩,
   100,
   false,
   by decide +kernel⟩

theorem meets_gateUplinkEventsComplete_4 : ∃ (s : State), ∃ (g : Fin 24), ∃ why, ∃ d, s.awake = true ∧ ((s.frameOk g
    false).link g).acks.find? (fun a => !a.1.isRead) = some (why, d, false) :=
  ⟨withK fun l => { l with acks := [(.setRole 0, 100, false)] },
   0,
   .setRole 0,
   100,
   by decide +kernel⟩

theorem meets_gateUplinkEventsComplete_5 : ∃ (s : State), ∃ (g : Fin 24), ∃ (result : Byte), ∃ why, ∃ d, ∃ r, s.awake = true
    ∧ result ≠ 0 ∧ ((s.frameOk g false).link g).acks.find? (fun a => !a.1.isRead) = some (why, d, r) :=
  ⟨withK fun l => { l with acks := [(.setRole 0, 100, true)] },
   0,
   1,
   .setRole 0,
   100,
   true,
   by decide +kernel⟩

theorem meets_gateUplinkEventsComplete_6 : ∃ (s : State), ∃ (g : Fin 24), ∃ t, ∃ addr, ∃ d, ∃ r, ∃ as, s.awake = true ∧
    (s.link g).acks = (.read t addr, d, r) :: as :=
  ⟨withK fun l => { l with acks := [(.read ⟨0, 9⟩ 0x40, 100, false)] },
   0,
   ⟨0, 9⟩,
   0x40,
   100,
   false,
   [],
   by decide +kernel⟩

theorem meets_gateUplinkEventsComplete_7 : ∃ (s : State), ∃ (g : Fin 24), ∃ why, ∃ d, ∃ r, ∃ as, s.awake = true ∧ (s.link
    g).acks = (why, d, r) :: as ∧ why.isRead = false :=
  ⟨withK fun l => { l with acks := [(.setRole 0, 100, false)] },
   0,
   .setRole 0,
   100,
   false,
   [],
   by decide +kernel⟩

theorem meets_gateUplinkEventsComplete_8 : ∃ (s : State), ∃ (g : Fin 24), ∃ groups, s.awake = true ∧ (s.link g).state ≠
    .retired ∧ uplinkFrame groups = none :=
  ⟨up,
   23,
   [0b01110, 0b01010],
   by decide +kernel⟩

theorem meets_gateUplinkEventsComplete_9 : ∃ (s : State), ∃ groups, s.awake = true ∧ (uplinkFrame groups).isSome = true :=
  ⟨up,
   frameGroups (frameBytes 0 8 [1, 2, 3]),
   by decide +kernel⟩

theorem meets_gateUplinkEventsComplete_10 : ∃ (s : State), ∃ (g : Fin 24), s.awake = true ∧ (s.link g).state = .live :=
  ⟨withK fun l => { l with state := .live },
   0,
   by decide +kernel⟩

theorem meets_gateUplinkEventsComplete_11 : ∃ (s : State), ∃ (g : Fin 24), ∃ b, ∃ w, ∃ (ident : Byte), s.awake = true ∧
    s.ownerOf g = some b ∧ (s.link g).state = .training ∧ ident.toNat / 16 = 1 ∧ ((
     let s0 := s.trainFrames g ident
     (s0.bridge b).arming = some w ∧ (s0.link g).state = .training ∧ s0.duplexed b = false)) :=
  ⟨(withB fun b => { b with defn := some spare0, arming := some { ticket := ⟨0, 9⟩, need := [0], deadline := 100 } }).modLink 0 fun l => { l with state := .training },
   0,
   0,
   { ticket := ⟨0, 9⟩, need := [0], deadline := 100 },
   0x1F,
   by decide +kernel⟩

/-- `up`, with converter slot n changed. -/
def withS (n : Nat) (f : PugSlot → PugSlot) : State := up.modSlot n f

theorem meets_pugSetupPacketsComplete_0 : ∃ (s : State), ∃ (p : Pkt), ∃ c, s.Admits (.pugSlotConfig p) p ∧ s.slotInUse
    p.target.toNat = false ∧ parseSlot p p.target.toNat = some c ∧ (¬ (s.fitBridges ≤ c.src ∧ c.src < 8)) ∧ s.slotTimesOk
    p.target.toNat c = true ∧ s.slotClockOk p.target.toNat c = true ∧ ((s.begun (.pugSlotConfig p) p).modSlot p.target.toNat
    fun x =>
    { x with cfg := c, state := .stopped, bank := Vector.replicate 2 {}, g := 0, next := [], recent := [], hist := [], fresh := 0, retry := false, swap := none, out := { x.out with valid := false } }).pugFits
    = true :=
  ⟨up,
   pk 32 [0, 0, 1, 0, 1, 0],
   { src := 0, ev := 0, div := 1, d := 1, osr := 0, clk := 0, edge := 0, nclk := 0 },
   admits_of (by decide +kernel),
   by decide +kernel⟩

theorem meets_pugSetupPacketsComplete_1 : ∃ (s : State), ∃ (p : Pkt), s.Admits (.pugFirLoad p) p ∧ 1 ≤ prm16 p 2 ∧ prm16 p 0
    + prm16 p 2 ≤ 512 ∧ prmZero p 4 36 = true ∧ p.len.toNat = pad64 (2 * prm16 p 2) ∧ (s.slot p.target.toNat).swap = none :=
  ⟨withS 47 fun c => { c with state := .stopped },
   pk 47 (words [511, 1]) 64,
   admits_of (by decide +kernel),
   by decide +kernel⟩

theorem meets_pugSetupPacketsComplete_2 : ∃ (s : State), ∃ (p : Pkt), s.Admits (.pugFirSwap p) p ∧ 1 ≤ prm16 p 0 ∧ prm16 p 0
    ≤ 512 ∧ prm p 2 ≤ 15 ∧ prm p 3 = 0 ∧ prmZero p 8 32 = true ∧ prm32 p 4 = bankCrc (prm16 p 0) (vget (s.slot
    p.target.toNat).bank (other (s.slot p.target.toNat).active)).h ∧ ((s.begun (.pugFirSwap p) p).modSlot p.target.toNat fun
    x => { x with swap := some (s.ticketOf p, prm16 p 0, prm p 2, 0) }).pugFits = true ∧ (s.slot p.target.toNat).swap = none
    :=
  ⟨withS 47 fun c => { c with state := .stopped },
   pk 47 (h2 1 ++ [15, 0] ++ h4 (bankCrc 1 [(0, 0x4000)])),
   admits_of (by decide +kernel),
   by decide +kernel⟩

theorem meets_pugSetupPacketsComplete_3 : ∃ (s : State), ∃ (p : Pkt), s.Admits (.pugDsmClock p) p ∧ prm p 0 ≤ 1 ∧ prm p 1 =
    0 ∧ 320 ≤ prm16 p 2 ∧ prm16 p 2 ≤ 1600 ∧ ((prm p 4 ≤ 9 ∨ prm p 4 = 0xFF)) ∧ prmZero p 5 35 = true ∧ (¬ (s.fitBridges ≤
    prm p 4 ∧ prm p 4 < 8)) ∧ ((∀ k, k < 8 → (s.slot (8 * p.target.toNat + k)).state = .sampling → (s.slot (8 *
    p.target.toNat + k)).cfg.clk ≠ 0)) :=
  ⟨up,
   pk 0 ([1, 0] ++ h2 320 ++ [0xFF]),
   admits_of (by decide +kernel),
   by decide +kernel⟩

theorem meets_pugSetupPacketsComplete_4 : ∃ (s : State), ∃ (p : Pkt), s.Admits (.pugTimer p) p ∧ s.timerInUse p.target.toNat
    = false ∧ prm p 0 = 0 ∧ prmZero p 1 3 = true ∧ prmZero p 14 26 = true :=
  ⟨up,
   pk 1,
   admits_of (by decide +kernel),
   by decide +kernel⟩

theorem meets_pugSetupPacketsComplete_5 : ∃ (s : State), ∃ (p : Pkt), s.Admits (.pugTimer p) p ∧ s.timerInUse p.target.toNat
    = false ∧ prm p 0 = 1 ∧ prmZero p 1 3 = true ∧ prmZero p 14 26 = true ∧ 8000 ≤ prm64 p 4 ∧ prm64 p 4 ≤ 8000000000 ∧
    ((let w : PugTimer :=
    { en := true, period := prm64 p 4, phase := prm16 p 12, ticks := 0, nextAt := s.now + s.localSteps (toPlacement s.dtbSteps (phaseSteps (prm16 p 12) (prm64 p 4)) (prm64 p 4)) }
    { s.begun (.pugTimer p) p with pugTimers := vset s.pugTimers p.target.toNat w }.sourceOk (8 + p.target.toNat) = true ∧
    { s.begun (.pugTimer p) p with pugTimers := vset s.pugTimers p.target.toNat w }.pugFits = true)) :=
  ⟨up,
   pk 1 ([1, 0, 0, 0] ++ h4 8000),
   admits_of (by decide +kernel),
   by decide +kernel⟩

theorem meets_pugRunPacketsComplete_0 : ∃ (s : State), ∃ (p : Pkt), ∃ c, s.Admits (.pugPosConfig p) p ∧ parsePos p = some c
    ∧ s.posBusy p.target.toNat = false ∧ ((∀ k ∈ c.claims, (s.slot k).state = .free ∨ (s.slot k).state = .stopped ∨ k ∈
    (s.position p.target.toNat).cfg.claims ∧ (s.slot k).state = .claimed)) :=
  ⟨up,
   pk 0 ([2, 0, 0, 0] ++ h4 4 ++ h2 2000 ++ [32, 33] ++ h2 0 ++ [1, 0] ++ words [0x800, 0x7FFF, 10, 1]),
   { mode := 2, dir := 0, filt := 0, zmode := 0, cpr := 4, excF := 2000, sinSlot := 32, cosSlot := 33, rphase := 0, rspeed := 1, ampLo := 0x800, ampHi := 0x7FFF, trkBw := 10, spdFs := 1, zero := 0 },
   admits_of (by decide +kernel),
   by decide +kernel⟩

theorem meets_pugRunPacketsComplete_1 : ∃ (s : State), ∃ (p : Pkt), s.Admits (.pugRecal p) p ∧ 32 ≤ p.target.toNat ∧ prmZero
    p 0 40 = true ∧ usSteps 150 + (s.slot p.target.toNat).fir.n * (s.slot p.target.toNat).tIn ≤ usSteps 2000 ∧ s.recal =
    none :=
  ⟨withS 47 fun c => { c with state := .sampling, tIn := 2000 },
   pk 47,
   admits_of (by decide +kernel),
   by decide +kernel⟩

theorem meets_pugRunPacketsComplete_2 : ∃ (s : State), ∃ (p : Pkt), s.Admits (.pugRead p) p ∧ p.target.toNat < 48 :=
  ⟨up,
   pk 47,
   admits_of (by decide +kernel),
   by decide +kernel⟩

theorem meets_pugRunPacketsComplete_3 : ∃ (s : State), ∃ (p : Pkt), s.Admits (.pugRead p) p ∧ 0x80 ≤ p.target.toNat :=
  ⟨up,
   pk 0x83,
   admits_of (by decide +kernel),
   by decide +kernel⟩

theorem meets_pugRunPacketsComplete_4 : ∃ (s : State), ∃ (p : Pkt), s.Admits (.pugStatus p) p ∧ p.target.toNat < 48 ∧ prm p
    0 = 0 :=
  ⟨up,
   pk 47,
   admits_of (by decide +kernel),
   by decide +kernel⟩

theorem meets_pugRunPacketsComplete_5 : ∃ (s : State), ∃ (p : Pkt), s.Admits (.pugStatus p) p ∧ p.target.toNat < 48 ∧ prm p
    0 = 1 :=
  ⟨up,
   pk 47 [1],
   admits_of (by decide +kernel),
   by decide +kernel⟩

theorem meets_pugRunPacketsComplete_6 : ∃ (s : State), ∃ (p : Pkt), s.Admits (.pugStatus p) p ∧ 0x80 ≤ p.target.toNat ∧ prm
    p 0 = 0 :=
  ⟨up,
   pk 0x83,
   admits_of (by decide +kernel),
   by decide +kernel⟩

theorem meets_measurementEventsComplete_0 : ∃ (s : State), ∃ (src : Fin 10), s.awake = true ∧ src.val < 8 ∧ (s.pwm
    src).running = true ∧ (s.pwm src).lastAt = s.now ∧ ((∀ n ∈ s.frameSlots src, (s.slot n).frameAt ≠ s.now ∨ (s.slot
    n).prev = none)) :=
  ⟨{ running with now := 8 },
   0,
   by decide +kernel⟩

theorem meets_measurementEventsComplete_1 : ∃ (s : State), ∃ (k : Fin 2), s.awake = true ∧ (vget s.pugTimers k).en = true :=
  ⟨{ up with pugTimers := Vector.replicate 2 { en := true, period := 8000 } },
   1,
   by decide +kernel⟩

theorem meets_measurementEventsComplete_2 : ∃ (s : State), ∃ (n : Fin 48), ∃ o, ∃ ready, ∃ later, s.awake = true ∧ (s.slot
    n).next = (o, ready) :: later ∧ s.recal = none :=
  ⟨withS 47 fun c => { c with next := [({}, 8), ({}, 16)] },
   47,
   {},
   8,
   [({}, 16)],
   by decide +kernel⟩

theorem meets_measurementEventsComplete_3 : ∃ (s : State), ∃ (n : Fin 4), s.awake = true ∧ (s.position n).cfg.mode = 2 ∧
    s.isRetired 2 n = false ∧ (s.position n).retry = false :=
  ⟨up.modPos 3 fun x => { x with cfg := { mode := 2 } },
   3,
   by decide +kernel⟩

theorem meets_measurementEventsComplete_4 : ∃ (s : State), ∃ (n : Fin 4), s.awake = true ∧ (s.position n).cfg.mode = 1 ∧
    (s.position n).cfg.zmode = 2 ∧ (s.position n).homed = false ∧ s.isRetired 2 n = false :=
  ⟨up.modPos 3 fun x => { x with cfg := { mode := 1, zmode := 2 } },
   3,
   by decide +kernel⟩

theorem meets_measurementEventsComplete_5 : ∃ (s : State), ∃ (n : Fin 4), ∃ a, ∃ b, s.awake = true ∧ (s.position n).cfg.mode
    = 1 ∧ s.isRetired 2 n = false ∧ a ≠ (s.position n).a ∧ b = (s.position n).b :=
  ⟨up.modPos 3 fun x => { x with cfg := { mode := 1 } },
   3,
   true,
   false,
   by decide +kernel⟩

theorem meets_measurementEventsComplete_6 : ∃ (s : State), ∃ (unit : Fin 48), ∃ (kind : Fin 3), s.awake = true ∧ (s.slot
    unit).state = .sampling ∧ slotKind unit = kind.val ∧ kind.val < 2 :=
  ⟨withS 47 fun c => { c with state := .sampling },
   47,
   1,
   by decide +kernel⟩

theorem meets_measurementEventsComplete_7 : ∃ (s : State), ∃ r, ∃ (gain : Half), s.awake = true ∧ s.recal = some r ∧
    r.measured = false ∧ 0x3000 ≤ gain.toNat ∧ gain.toNat ≤ 0x5000 :=
  ⟨{ withS 47 (fun c => { c with state := .recal }) with recal := some ⟨47, ⟨0, 9⟩, 0, 0, false, false⟩ },
   ⟨47, ⟨0, 9⟩, 0, 0, false, false⟩,
   0x5000,
   by decide +kernel⟩

/-- A legal `CAP_CONFIG` of unit 0: frames of timer 0, 16 samples, 2 segments, one channel from slot 0. -/
def cap0 : List Nat :=
  [0, 8, 0, 1] ++ h4 16 ++ h4 15 ++ h2 2 ++ [0, 0] ++ h2 0 ++ [3, 0] ++ h2 1 ++ List.replicate 106 0
    ++ List.replicate 16 0 ++ (List.replicate 15 ([0xFF, 0xFF] ++ List.replicate 14 0)).flatten

/-- `up`, with capture unit 0 configured so, and changed. -/
def withC (f : CapUnit → CapUnit) : State := up.modCap 0 fun _ => f { state := .idle, config := bytes cap0 }

/-- `up`, with a channel of the upset rule changed. -/
def withChan (kind unit : Nat) (f : Chan → Chan) : State := up.modChan kind unit f

theorem meets_captureCommandsComplete_0 : ∃ (s : State), ∃ (p : Pkt), ∃ (c : CapUnit), s.Admits (.capConfig p) p ∧ c =
    { state := .idle, config := p.payload, leader := p.target.toNat } ∧ byteAt p.payload 0 = p.target.toNat ∧ p.target.toNat
    < 4 ∧ leaderOk p.payload = true ∧ c.chmask ≠ 0 ∧ zeros p.payload 22 42 = true ∧ ((∀ i, i < 4 → c.tcOk i = true)) ∧ ((∀
    k, k < 16 → c.chanOk (capL p.payload) k = true)) ∧ capNseg p.payload * c.segSize (capL p.payload) + ((numbers 4 fun v =>
    !(p.target.toNat :: s.membersOf p.target.toNat).contains v).map s.capBytes).sum ≤ s.partitions.1 * 2 ^ 20 ∧ (¬ (capSrc
    p.payload < 8 ∧ s.fitBridges ≤ capSrc p.payload)) ∧ (¬ (capSrc p.payload < 8 ∧ (s.bridge (capSrc p.payload)).state =
    .retired)) ∧ ((∀ k ∈ c.chans, s.selAbsent (c.sel k) = false ∧ s.selRetired (c.sel k) = false)) :=
  ⟨up,
   pk 0 [] 384 cap0,
   { state := .idle, config := bytes cap0 },
   admits_of (by decide +kernel),
   by decide +kernel⟩

theorem meets_captureCommandsComplete_1 : ∃ (s : State), ∃ (p : Pkt), s.Admits (.capArm p) p ∧ s.maskCheck p (fun x => x =
    .idle || x = .full) = none ∧ bitsOf 16 (prm16 p 0) ≠ [] :=
  ⟨withC fun c => { c with state := .full },
   pk 0 [1],
   admits_of (by decide +kernel),
   by decide +kernel⟩

theorem meets_captureCommandsComplete_2 : ∃ (s : State), ∃ (p : Pkt), s.Admits (.capDisarm p) p ∧ s.maskCheck p (fun x => x
    = .idle || x = .armed || x = .filling || x = .full) = none :=
  ⟨withC fun c => { c with state := .armed },
   pk 0 [1],
   admits_of (by decide +kernel),
   by decide +kernel⟩

theorem meets_captureCommandsComplete_3 : ∃ (s : State), ∃ (p : Pkt), s.Admits (.capForce p) p ∧ s.maskCheck p (fun x => x =
    .armed || x = .filling) = none ∧ bitsOf 16 (prm16 p 0) ≠ [] :=
  ⟨withC fun c => { c with state := .filling },
   pk 0 [1],
   admits_of (by decide +kernel),
   by decide +kernel⟩

theorem meets_captureCommandsComplete_4 : ∃ (s : State), ∃ (p : Pkt), ∃ g, s.Admits (.capRead p) p ∧ prmZero p 2 2 = true ∧
    prmZero p 12 28 = true ∧ prm32 p 8 % 64 = 0 ∧ prm16 p 0 < capNseg (s.shape p.target.toNat) ∧ prm32 p 8 + p.len.toNat ≤
    (s.cap p.target.toNat).segSize (capL (s.shape p.target.toNat)) ∧ assocGet (prm16 p 0) (s.cap p.target.toNat).segs = some
    g ∧ g.recno.toNat = prm32 p 4 ∧ g.filling = false :=
  ⟨withC fun c => { c with state := .full, segs := [(1, ⟨7, false, []⟩)] },
   pk 0 ([1, 0, 0, 0] ++ h4 7 ++ h4 320) 64,
   ⟨7, false, []⟩,
   admits_of (by decide +kernel),
   by decide +kernel⟩

theorem meets_captureCommandsComplete_5 : ∃ (s : State), ∃ (p : Pkt), ∃ (c : _), s.Admits (.capStatus p) p ∧ s.cap
    p.target.toNat = c :=
  ⟨withC fun c => { c with newest := 1 },
   pk 0,
   { state := .idle, config := bytes cap0, newest := 1 },
   admits_of (by decide +kernel),
   by decide +kernel⟩

theorem meets_captureCommandsComplete_6 : ∃ (s : State), ∃ (p : Pkt), s.Admits (.capRelease p) p :=
  ⟨withC fun c => { c with state := .full },
   pk 0,
   admits_of (by decide +kernel)⟩

theorem meets_captureCommandsComplete_7 : ∃ (s : State), ∃ (u : Fin 4), ∃ (row : CapRow), ∃ (rows : List CapRow), s.awake =
    true ∧ (s.cap (s.cap u).leader).due = row :: rows :=
  ⟨withC fun c => { c with state := .armed, due := [⟨8, 1, []⟩] },
   0,
   ⟨8, 1, []⟩,
   [],
   by decide +kernel⟩

theorem meets_captureCommandsComplete_8 : ∃ (s : State), ∃ (n : Fin 2), s.awake = true ∧ s.gpioMapped (0x18 + n.val) = true
    :=
  ⟨mapped up 0x19,
   1,
   by decide +kernel⟩

theorem meets_captureCommandsComplete_9 : ∃ (s : State), ∃ (u : Fin 4), s.awake = true ∧ u.val < s.fitCaps :=
  ⟨up,
   3,
   by decide +kernel⟩

theorem meets_faultEventsComplete_0 : ∃ (s : State), ∃ (kind : Fin 13), ∃ (u : Word), ∃ t, s.awake = true ∧ s.chanDefined
    kind u.toNat = true ∧ s.chanFitted kind u.toNat = true ∧ s.reinst = [(t, kind.val, u.toNat)] :=
  ⟨{ up with reinst := [(⟨0, 9⟩, 3, 23)] },
   3,
   23,
   ⟨0, 9⟩,
   by decide +kernel⟩

theorem meets_faultEventsComplete_1 : ∃ (s : State), ∃ (kind : Fin 13), ∃ (u : Word), s.awake = true ∧ s.chanDefined kind
    u.toNat = true ∧ s.chanFitted kind u.toNat = true ∧ s.reinst = [] ∧ selfDetected kind = false ∧ (s.chan kind
    u.toNat).state = .retrying :=
  ⟨withChan 6 65535 fun c => { c with state := .retrying },
   6,
   65535,
   by decide +kernel⟩

theorem meets_faultEventsComplete_2 : ∃ (s : State), ∃ (kind : Fin 13), ∃ (u : Word), s.awake = true ∧ s.chanDefined kind
    u.toNat = true ∧ 0 < (s.chan kind u.toNat).bucket :=
  ⟨withChan 3 0 fun c => { c with bucket := 1 },
   3,
   0,
   by decide +kernel⟩

theorem meets_faultEventsComplete_3 : ∃ (s : State), ∃ (u : Word), s.awake = true ∧ u.toNat < s.pageCount ∧ s.isRetired 6
    u.toNat = false :=
  ⟨up,
   65535,
   by decide +kernel⟩

theorem meets_faultEventsComplete_4 : ∃ (s : State), ∃ (u : Word), s.awake = true ∧ u.toNat < s.pageCount ∧ s.isRetired 6
    u.toNat = false :=
  ⟨up,
   65535,
   by decide +kernel⟩

theorem meets_faultEventsComplete_5 : ∃ (s : State), ∃ (failed : List TestFail), s.awake = true ∧ s.flt.conesRun = true ∧ (∀
    f ∈ failed, s.runsTest f.test = false) :=
  ⟨{ up with flt := { up.flt with conesRun := true } },
   [⟨3, none⟩],
   by decide +kernel⟩

theorem meets_faultEventsComplete_6 : ∃ (s : State), ∃ (f : TestFail), ∃ (c : _), s.awake = true ∧ s.flt.conesRun = true ∧
    s.runsTest f.test = true ∧ f.chan = some c ∧ c.kind.val ≠ 6 :=
  ⟨{ up with flt := { up.flt with conesRun := true } },
   ⟨4, some ⟨3, 0⟩⟩,
   ⟨3, 0⟩,
   by decide +kernel⟩

theorem meets_faultAndDuplexPacketsComplete_0 : ∃ (s : State), ∃ (p : Pkt), s.Admits (.fltConfig p) p ∧ prm p 0 ≤ 12 ∧ 1 ≤
    prm p 1 ∧ prm p 1 ≤ 64 ∧ 1 ≤ prm16 p 2 ∧ prm16 p 2 ≤ 3600 :=
  ⟨up,
   pk 0 ([12, 64] ++ h2 3600),
   admits_of (by decide +kernel),
   by decide +kernel⟩

theorem meets_faultAndDuplexPacketsComplete_1 : ∃ (s : State), ∃ (p : Pkt), s.Admits (.fltLogRead p) p ∧ (BitVec.ofNat 32
    (prm32 p 0) - s.flt.seq).toNat < 2 ^ 31 :=
  ⟨{ up with flt := { up.flt with seq := 5 } },
   pk 0 (h4 5) 32,
   admits_of (by decide +kernel),
   by decide +kernel⟩

theorem meets_faultAndDuplexPacketsComplete_2 : ∃ (s : State), ∃ (p : Pkt), ∃ (es : List LogEntry), s.Admits (.fltLogRead p)
    p ∧ 2 ^ 31 ≤ (BitVec.ofNat 32 (prm32 p 0) - s.flt.seq).toNat ∧ (s.flt.seq - BitVec.ofNat 32 (prm32 p 0)).toNat ≤
    s.flt.log.length ∧ es = (s.flt.log.reverse.drop (BitVec.ofNat 32 (prm32 p 0) - (s.flt.seq - BitVec.ofNat 32
    s.flt.log.length)).toNat).take (p.len.toNat / 32) ∧ es ≠ [] :=
  ⟨{ up with flt := { up.flt with seq := 1, log := [⟨0, 1, 9, 3, 0, 0, 0, 0, 8⟩] } },
   pk 0 (h4 0) 32,
   [⟨0, 1, 9, 3, 0, 0, 0, 0, 8⟩],
   admits_of (by decide +kernel),
   by decide +kernel⟩

theorem meets_faultAndDuplexPacketsComplete_3 : ∃ (s : State), ∃ (p : Pkt), s.Admits (.fltStatus p) p ∧ s.chanDefined (prm p
    0) (prm16 p 2) = true ∧ s.chanFitted (prm p 0) (prm16 p 2) = true :=
  ⟨up,
   pk 0 [6, 0, 0xFF, 0xFF],
   admits_of (by decide +kernel),
   by decide +kernel⟩

theorem meets_faultAndDuplexPacketsComplete_4 : ∃ (s : State), ∃ (p : Pkt), s.Admits (.dpxReport p) p :=
  ⟨up,
   pk 0,
   admits_of (by decide +kernel)⟩

theorem meets_faultAndDuplexPacketsComplete_5 : ∃ (s : State), ∃ (p : Pkt), s.Admits (.dpxSwitch p) p ∧ s.dpx.noStandby =
    false ∧ s.dpx.handover = none :=
  ⟨{ up with dpx := { up.dpx with role := .active } },
   pk 0,
   admits_of (by decide +kernel),
   by decide +kernel⟩

theorem meets_faultAndDuplexPacketsComplete_6 : ∃ (s : State), ∃ (p : Pkt), s.Admits (.dpxHealth p) p :=
  ⟨{ up with dpx := { up.dpx with role := .standby } },
   pk 0,
   admits_of (by decide +kernel)⟩

/-- A legal safety parameter block without functions. -/
def sb : List Nat :=
  h2 1 ++ List.replicate 14 0 ++ (List.replicate 4 ([0, 0, 0, 0, 0, 0] ++ words [80, 1000, 0, 0, 0])).flatten
    ++ List.replicate 48 0

/-- `safe`, with the Saggar changed. -/
def withZ (f : Saggar → Saggar) : State := { safe with sag := f safe.sag }

theorem meets_safetyCommandsComplete_0 : ∃ (s : State), ∃ (p : Pkt), s.Admits (.safeStage p) p ∧ (s.bridgesWhere fun b =>
    b.state.beyondArmed) = [] ∧ s.safetyFault = false ∧ prmZero p 0 40 = true ∧ blockOk p.payload = true ∧ s.blockAbsent
    p.payload = false :=
  ⟨up,
   pk 0 [] 128 sb,
   admits_of (by decide +kernel),
   by decide +kernel⟩

theorem meets_safetyCommandsComplete_1 : ∃ (s : State), ∃ (p : Pkt), s.Admits (.safeConfirm p) p ∧ s.safetyFault = false ∧
    prmZero p 4 36 = true ∧ prm32 p 0 = crc32c (s.sag.staged.getD []) :=
  ⟨withZ fun z => { z with comm := .staged, staged := some (bytes sb) },
   pk 0 (h4 (crc32c (bytes sb))),
   admits_of (by decide +kernel),
   by decide +kernel⟩

theorem meets_safetyCommandsComplete_2 : ∃ (s : State), ∃ (p : Pkt), s.Admits (.safeStatus p) p :=
  ⟨safe,
   pk 0,
   admits_of (by decide +kernel)⟩

theorem meets_safetyCommandsComplete_3 : ∃ (s : State), ∃ (p : Pkt), s.Admits (.safeOutput p) p ∧ prm p 0 ≤ 3 ∧ prmZero p 1
    39 = true :=
  ⟨safe,
   pk 0 [3],
   admits_of (by decide +kernel),
   by decide +kernel⟩

theorem meets_safetyCommandsComplete_4 : ∃ (s : State), ∃ (p : Pkt), ∃ bs, s.Admits (.safeRead p) p ∧ prm p 0 ≤ 1 ∧ prmZero
    p 1 39 = true ∧ (if prm p 0 = 0 then s.sag.block else s.sag.staged) = some bs :=
  ⟨withZ fun z => { z with comm := .staged, staged := some (bytes sb) },
   pk 0 [1] 128,
   bytes sb,
   admits_of (by decide +kernel),
   by decide +kernel⟩

theorem meets_safetyCommandsComplete_5 : ∃ (s : State), ∃ (p : Pkt), s.Admits (.safeRequest p) p ∧ prm p 0 ≤ 15 ∧ prm p 1 ≤
    1 ∧ prmZero p 2 38 = true ∧ ((prm p 1 = 0 → s.safetyFault = false)) :=
  ⟨safe,
   pk 0 [15, 1],
   admits_of (by decide +kernel),
   by decide +kernel⟩

theorem meets_safetyCommandsComplete_6 : ∃ (s : State), s.awake = true :=
  ⟨safe,
   by decide +kernel⟩

theorem meets_safetyCommandsComplete_7 : ∃ (s : State), ∃ (chB : Bool), ∃ (f : Fin 4), ∃ t0, s.awake = true ∧ (s.safeFn chB
    f).discSince = some t0 :=
  ⟨withZ fun z => { z with chA := { z.chA with fn := vset z.chA.fn 3 { discSince := some 8 } } },
   false,
   3,
   8,
   by decide +kernel⟩

theorem meets_safetyCommandsComplete_8 : ∃ (s : State), ∃ (chB : Bool), ∃ (f : Fin 4), ∃ d, s.awake = true ∧ (s.safeFn chB
    f).safeAt = some d :=
  ⟨withZ fun z => { z with chA := { z.chA with fn := vset z.chA.fn 3 { safeAt := some 8 } } },
   false,
   3,
   8,
   by decide +kernel⟩

theorem meets_safetyCommandsComplete_9 : ∃ (s : State), ∃ (chB : Bool), ∃ (out : Fin 2), ∃ d, ∃ ds, s.awake = true ∧
    (s.channel chB).sbcDues out = d :: ds :=
  ⟨withZ fun z => { z with chA := { z.chA with fn := vset z.chA.fn 3 { sbcDue := Vector.replicate 2 (some 8) } } },
   false,
   1,
   8,
   [],
   by decide +kernel⟩

theorem meets_saggarEventsComplete_0 : ∃ (s : State), s.awake = true :=
  ⟨safe,
   by decide +kernel⟩

theorem meets_saggarEventsComplete_1 : ∃ (s : State), s.awake = true :=
  ⟨safe,
   by decide +kernel⟩

theorem meets_saggarEventsComplete_2 : ∃ (s : State), ∃ t, ∃ d, ∃ blk, ∃ rest, s.awake = true ∧ s.sag.confirm = some (t, d)
    ∧ s.sag.staged = some blk ∧ s.svcs.norQueue = .block :: rest ∧ s.sag.comm = .confirmed ∧ 2 ≤ s.sag.chA.toggles ∧ 2 ≤
    s.sag.chB.toggles :=
  ⟨(withZ fun z => { z with comm := .confirmed, confirm := some (⟨0, 9⟩, 100), staged := some (bytes sb), chA := { z.chA with toggles := 2 }, chB := { z.chB with toggles := 2 } }).modSvc fun v => { v with norQueue := [.block] },
   ⟨0, 9⟩,
   100,
   bytes sb,
   [],
   by decide +kernel⟩

theorem meets_saggarEventsComplete_3 : ∃ (s : State), ∃ t, ∃ d, ∃ blk, ∃ rest, s.awake = true ∧ s.sag.confirm = some (t, d)
    ∧ s.sag.staged = some blk ∧ s.svcs.norQueue = .block :: rest ∧ s.sag.comm = .confirmed ∧ 2 ≤ s.sag.chA.toggles ∧ 2 ≤
    s.sag.chB.toggles :=
  ⟨(withZ fun z => { z with comm := .confirmed, confirm := some (⟨0, 9⟩, 100), staged := some (bytes sb), chA := { z.chA with toggles := 2 }, chB := { z.chB with toggles := 2 } }).modSvc fun v => { v with norQueue := [.block] },
   ⟨0, 9⟩,
   100,
   bytes sb,
   [],
   by decide +kernel⟩

theorem meets_saggarEventsComplete_4 : ∃ (s : State), ∃ t, ∃ d, s.awake = true ∧ s.sag.confirm = some (t, d) ∧ s.sag.comm =
    .confirmed ∧ (¬ (2 ≤ s.sag.chA.toggles ∧ 2 ≤ s.sag.chB.toggles)) :=
  ⟨withZ fun z => { z with comm := .confirmed, confirm := some (⟨0, 9⟩, 100), staged := some (bytes sb), chA := { z.chA with toggles := 2 }, chB := { z.chB with toggles := 1 } },
   ⟨0, 9⟩,
   100,
   by decide +kernel⟩

theorem meets_saggarEventsComplete_5 : ∃ (s : State), s.awake = true ∧ s.sag.lockstep = false :=
  ⟨safe,
   by decide +kernel⟩

theorem meets_saggarEventsComplete_6 : ∃ (s : State), s.awake = true :=
  ⟨safe,
   by decide +kernel⟩

theorem meets_saggarEventsComplete_7 : ∃ (s : State), s.awake = true ∧ s.sag.sfault = false :=
  ⟨safe,
   by decide +kernel⟩

theorem meets_saggarEventsComplete_8 : ∃ (s : State), s.awake = true :=
  ⟨safe,
   by decide +kernel⟩

/-- A user service of 64 bytes that may use queue pair 0. -/
def svc0 : SvcSlot := { bytes := bytes (List.replicate 20 0 ++ h4 64 ++ List.replicate 20 0 ++ [1]), installed := true }

/-- `up`, with that service installed and thread 0 on pair B. -/
def threads : State :=
  ({ up with svcs := { up.svcs with svc := vset up.svcs.svc 0 svc0 } }.modWheel fun w => { w with pairB := some 4 }).modWc 4
    fun x => { x with state := .running, prio := 4 }

/-- An entry of a completion ring. -/
def entry0 : CplEntry :=
  { tag := 1, status := .done, r0 := 0, r1 := 0, index := 0, lap := false, phase := true, sec := 0, ns := 0, extra := 0, payload := [] }

/-- `threads`, with an entry in the ring of queue pair 0. -/
def polled : State := threads.modQp 0 fun q => { q with cpl := [entry0] }

/-- `up`, with context 127 changed. -/
def withW (f : WheelContext → WheelContext) : State := up.modWc 127 f

/-- A runner of the cycle engine in front of one instruction word. -/
def eicAt (w : Nat) : State :=
  up.modCyc fun c => { c with
    state := .run, image := bytes (List.replicate 32 0 ++ h4 40 ++ h4 64 ++ h4 w),
    runs := Vector.replicate 5 { active := true } }

theorem runPlain_system (s : State) (r : Nat) (h : 10 ≤ (s.insOf r).cls) : ∀ n, s.runPlain r n = s
  | 0 => rfl
  | n + 1 => by rw [State.runPlain]; simp [h]

theorem eicAt_ins (w : Nat) (n : Nat) (h : 10 ≤ ((eicAt w).insOf 0).cls) :
    ((eicAt w).runPlain 0 n).insOf 0 = (eicAt w).insOf 0 := by rw [runPlain_system _ _ h]

theorem meets_wheelCommandsComplete_0 : ∃ (s : State), ∃ (p : Pkt), s.Admits (.wheelConfig p) p ∧ 1 ≤ prm16 p 0 ∧ prm16 p 0
    ≤ 4000 :=
  ⟨up,
   pk 0 (h2 4000),
   admits_of (by decide +kernel),
   by decide +kernel⟩

theorem meets_wheelCommandsComplete_1 : ∃ (s : State), ∃ (p : Pkt), s.Admits (.wheelContext p) p ∧ prm p 0 ≤ 15 ∧ ((8 ≤
    p.target.toNat ∨ 4 ≤ prm p 0)) ∧ prm p 1 ≤ 1 ∧ s.entryOk p.target.toNat (prm16 p 2) = true :=
  ⟨threads.modWc 7 fun _ => {},
   pk 7 ([4, 1] ++ h2 0),
   admits_of (by decide +kernel),
   by decide +kernel⟩

theorem meets_wheelCommandsComplete_2 : ∃ (s : State), ∃ (p : Pkt), s.Admits (.wheelReady p) p :=
  ⟨withW fun x => { x with state := .running },
   pk 127,
   admits_of (by decide +kernel)⟩

theorem meets_wheelCommandsComplete_3 : ∃ (s : State), ∃ (p : Pkt), s.Admits (.wheelDelay p) p ∧ (s.wc p.target.toNat).tmode
    = 0 ∧ 1 ≤ prm32 p 0 ∧ prm32 p 0 ≤ 16777216 :=
  ⟨withW fun x => { x with state := .idle },
   pk 127 (h4 16777216),
   admits_of (by decide +kernel),
   by decide +kernel⟩

theorem meets_wheelCommandsComplete_4 : ∃ (s : State), ∃ (p : Pkt), s.Admits (.wheelWait p) p ∧ prm32 p 4 = 0 ∧ prm32 p 0 ≠
    0 ∧ (s.wc p.target.toNat).tmode = 0 :=
  ⟨withW fun x => { x with state := .idle },
   pk 127 (h4 1),
   admits_of (by decide +kernel),
   by decide +kernel⟩

theorem meets_wheelCommandsComplete_5 : ∃ (s : State), ∃ (p : Pkt), s.Admits (.wheelWait p) p ∧ prm32 p 4 ≠ 0 ∧ (s.wc
    p.target.toNat).tmode = 1 :=
  ⟨withW fun x => { x with state := .idle, tmode := 1 },
   pk 127 (h4 0 ++ h4 1),
   admits_of (by decide +kernel),
   by decide +kernel⟩

theorem meets_wheelCommandsComplete_6 : ∃ (s : State), ∃ (p : Pkt), s.Admits (.wheelCancel p) p :=
  ⟨withW fun x => { x with state := .ready },
   pk 127,
   admits_of (by decide +kernel)⟩

theorem meets_wheelCommandsComplete_7 : ∃ (s : State), ∃ (p : Pkt), s.Admits (.wheelSignal p) p :=
  ⟨up,
   pk 0 (h4 1),
   admits_of (by decide +kernel)⟩

theorem meets_wheelCommandsComplete_8 : ∃ (s : State), ∃ (p : Pkt), ∃ (m : Option (Byte × Option Half)), s.Admits
    (.wheelSigmap p) p ∧ prm p 0 ≤ 31 ∧ ((prm p 1 = 0xFF ∧ m = none ∨ prm p 1 ≤ 0x10 ∧ m = some (BitVec.ofNat 8 (prm p 1),
    if prm16 p 2 = 0xFFFF then none else some (BitVec.ofNat 16 (prm16 p 2))))) :=
  ⟨up,
   pk 0 [31, 0xFF],
   none,
   admits_of (by decide +kernel),
   by decide +kernel⟩

theorem meets_wheelCommandsComplete_9 : ∃ (s : State), ∃ (p : Pkt), ∃ (x : WheelContext), s.Admits (.wheelStatus p) p ∧ prm
    p 0 = 0 ∧ s.wc p.target.toNat = x :=
  ⟨withW fun x => { x with state := .ready },
   pk 127,
   { state := .ready },
   admits_of (by decide +kernel),
   by decide +kernel⟩

theorem meets_wheelCommandsComplete_10 : ∃ (s : State), ∃ (p : Pkt), ∃ (w : Wheel), s.Admits (.wheelStatus p) p ∧ prm p 0 =
    1 ∧ p.target = 0 ∧ s.wheel = w :=
  ⟨up,
   pk 0 [1],
   up.wheel,
   admits_of (by decide +kernel),
   by decide +kernel⟩

theorem meets_wheelCommandsComplete_11 : ∃ (s : State), ∃ (p : Pkt), ∃ (w : Wheel), s.Admits (.wheelStatus p) p ∧ prm p 0 =
    2 ∧ p.target = 0 ∧ s.wheel = w :=
  ⟨up,
   pk 0 [2],
   up.wheel,
   admits_of (by decide +kernel),
   by decide +kernel⟩

theorem meets_wheelCommandsComplete_12 : ∃ (s : State), ∃ (p : Pkt), s.Admits (.wheelRelease p) p :=
  ⟨withW fun x => { x with state := .idle },
   pk 127,
   admits_of (by decide +kernel)⟩

theorem meets_wheelCommandsComplete_13 : ∃ (s : State), s.awake = true :=
  ⟨up,
   by decide +kernel⟩

theorem meets_wheelCommandsComplete_14 : ∃ (s : State), ∃ d, s.awake = true ∧ s.firstDue .delayed = some d :=
  ⟨withW fun x => { x with state := .delayed, due := some 8 },
   8,
   by decide +kernel⟩

theorem meets_wheelCommandsComplete_15 : ∃ (s : State), ∃ (c : Fin 128), ∃ d, s.awake = true ∧ (s.wc c).state = .waiting ∧
    (s.wc c).due = some d :=
  ⟨withW fun x => { x with state := .waiting, due := some 8 },
   127,
   8,
   by decide +kernel⟩

theorem meets_threadCallsComplete_0 : ∃ (s : State), ∃ (c : Fin 4), s.awake = true ∧ s.threadRuns c = true :=
  ⟨threads,
   0,
   by decide +kernel⟩

theorem meets_threadCallsComplete_1 : ∃ (s : State), ∃ (c : Fin 4), ∃ (ctx : Word), s.awake = true ∧ s.threadRuns c = true ∧
    4 ≤ ctx.toNat ∧ ctx.toNat ≤ 127 :=
  ⟨threads,
   0,
   127,
   by decide +kernel⟩

theorem meets_threadCallsComplete_2 : ∃ (s : State), ∃ (c : Fin 4), s.awake = true ∧ s.threadRuns c = true :=
  ⟨threads,
   0,
   by decide +kernel⟩

theorem meets_threadCallsComplete_3 : ∃ (s : State), ∃ (c : Fin 4), ∃ (n : Word), s.awake = true ∧ s.threadRuns c = true ∧
    (s.wc (4 + c)).tmode = 0 ∧ 1 ≤ n.toNat ∧ n.toNat ≤ 16777216 :=
  ⟨threads,
   0,
   16777216,
   by decide +kernel⟩

theorem meets_threadCallsComplete_4 : ∃ (s : State), ∃ (c : Fin 4), ∃ (mask : Word), ∃ (tmo : Word), s.awake = true ∧
    s.threadRuns c = true ∧ ((tmo = 0 → mask ≠ 0)) ∧ ((s.wc (4 + c)).tmode = 1 ↔ tmo ≠ 0) :=
  ⟨threads,
   0,
   1,
   0,
   by decide +kernel⟩

theorem meets_threadCallsComplete_5 : ∃ (s : State), ∃ (c : Fin 4), ∃ (qp : Word), s.awake = true ∧ s.threadRuns c = true ∧
    s.threadQp c qp.toNat = true :=
  ⟨threads,
   0,
   0,
   by decide +kernel⟩

theorem meets_threadCallsComplete_6 : ∃ (s : State), ∃ (c : Fin 4), ∃ (qp : Word), ∃ (addr : Word), ∃ (h : qp.toNat < 16), ∃
    bs, ∃ u, s.pollRing ⟨qp.toNat, h⟩ = (some bs, u) ∧ s.awake = true ∧ s.threadRuns c = true ∧ s.threadQp c qp.toNat = true
    ∧ addr.toNat + 32 ≤ s.threadSize c :=
  ⟨polled,
   0,
   0,
   32,
   by decide,
   entry0.bytes,
   (polled.pollRing 0).2,
   rfl,
   by decide +kernel⟩

theorem meets_threadCallsComplete_7 : ∃ (s : State), ∃ (c : Fin 4), ∃ (qp : Word), ∃ (addr : Word), ∃ (h : qp.toNat < 16), ∃
    u, s.pollRing ⟨qp.toNat, h⟩ = (none, u) ∧ s.awake = true ∧ s.threadRuns c = true ∧ s.threadQp c qp.toNat = true ∧
    addr.toNat + 32 ≤ s.threadSize c :=
  ⟨threads,
   0,
   0,
   32,
   by decide,
   threads,
   rfl,
   by decide +kernel⟩

theorem meets_threadCallsComplete_8 : ∃ (s : State), ∃ (c : Fin 4), s.awake = true ∧ s.threadRuns c = true :=
  ⟨threads,
   0,
   by decide +kernel⟩

theorem meets_threadCallsComplete_9 : ∃ (s : State), ∃ (c : Fin 4), ∃ (ofs : Word), ∃ (count : Word), ∃ (addr : Word),
    s.awake = true ∧ s.threadRuns c = true ∧ s.hasCycle = true ∧ 1 ≤ count.toNat ∧ count.toNat ≤ 4096 ∧ ofs.toNat +
    count.toNat ≤ 65535 ∧ addr.toNat + 2 * count.toNat ≤ s.threadSize c :=
  ⟨threads,
   0,
   65534,
   1,
   62,
   by decide +kernel⟩

theorem meets_threadCallsComplete_10 : ∃ (s : State), ∃ (c : Fin 4), s.awake = true ∧ s.wheel.pairB = some (4 + c.val) :=
  ⟨threads,
   0,
   by decide +kernel⟩

theorem meets_eicInstructionsComplete_0 : ∃ (s u : State) (r : Fin 5) (i : EicIns), s.awake = true ∧ s.executes r = true ∧
    u = { s.runPlain r (s.fuelOf r) with freeSeed := (s.runPlain r (s.fuelOf r)).freeSeed + 1 } ∧
    i = (s.runPlain r (s.fuelOf r)).insOf r ∧ i.cls = 10 ∧ i.op = 0 :=
  ⟨eicAt 0xA0000000, _, 0, (eicAt 0xA0000000).insOf 0, by decide +kernel, by decide +kernel, rfl,
   (eicAt_ins _ _ (by decide +kernel)).symm, by decide +kernel, by decide +kernel⟩

theorem meets_eicInstructionsComplete_1 : ∃ (s u : State) (r : Fin 5) (i : EicIns), s.awake = true ∧ s.executes r = true ∧
    u = { s.runPlain r (s.fuelOf r) with freeSeed := (s.runPlain r (s.fuelOf r)).freeSeed + 1 } ∧
    i = (s.runPlain r (s.fuelOf r)).insOf r ∧ i.cls = 10 ∧ i.op = 1 :=
  ⟨eicAt 0xA1000000, _, 0, (eicAt 0xA1000000).insOf 0, by decide +kernel, by decide +kernel, rfl,
   (eicAt_ins _ _ (by decide +kernel)).symm, by decide +kernel, by decide +kernel⟩

theorem meets_eicInstructionsComplete_2 : ∃ (s u : State) (r : Fin 5) (i : EicIns), s.awake = true ∧ s.executes r = true ∧
    u = { s.runPlain r (s.fuelOf r) with freeSeed := (s.runPlain r (s.fuelOf r)).freeSeed + 1 } ∧
    i = (s.runPlain r (s.fuelOf r)).insOf r ∧ i.cls = 11 ∧ i.op = 0 :=
  ⟨eicAt 0xB0000000, _, 0, (eicAt 0xB0000000).insOf 0, by decide +kernel, by decide +kernel, rfl,
   (eicAt_ins _ _ (by decide +kernel)).symm, by decide +kernel, by decide +kernel⟩

theorem meets_eicInstructionsComplete_3 : ∃ (s u : State) (r : Fin 5) (i : EicIns), s.awake = true ∧ s.executes r = true ∧
    u = { s.runPlain r (s.fuelOf r) with freeSeed := (s.runPlain r (s.fuelOf r)).freeSeed + 1 } ∧
    i = (s.runPlain r (s.fuelOf r)).insOf r ∧ i.cls = 11 ∧ i.op = 1 :=
  ⟨eicAt 0xB1000000, _, 0, (eicAt 0xB1000000).insOf 0, by decide +kernel, by decide +kernel, rfl,
   (eicAt_ins _ _ (by decide +kernel)).symm, by decide +kernel, by decide +kernel⟩

theorem meets_eicInstructionsComplete_4 : ∃ (s u : State) (r : Fin 5) (i : EicIns), s.awake = true ∧ s.executes r = true ∧
    u = { s.runPlain r (s.fuelOf r) with freeSeed := (s.runPlain r (s.fuelOf r)).freeSeed + 1 } ∧
    i = (s.runPlain r (s.fuelOf r)).insOf r ∧ i.cls = 12 ∧ i.op = 0 :=
  ⟨eicAt 0xC0000000, _, 0, (eicAt 0xC0000000).insOf 0, by decide +kernel, by decide +kernel, rfl,
   (eicAt_ins _ _ (by decide +kernel)).symm, by decide +kernel, by decide +kernel⟩

theorem meets_eicInstructionsComplete_5 : ∃ (s u : State) (r : Fin 5) (i : EicIns), s.awake = true ∧ s.executes r = true ∧
    u = { s.runPlain r (s.fuelOf r) with freeSeed := (s.runPlain r (s.fuelOf r)).freeSeed + 1 } ∧
    i = (s.runPlain r (s.fuelOf r)).insOf r ∧ i.cls = 12 ∧ i.op = 1 ∧
    u.operand r i.ty i.c ≤ 3 :=
  ⟨eicAt 0xC1000000, _, 0, (eicAt 0xC1000000).insOf 0, by decide +kernel, by decide +kernel, rfl,
   (eicAt_ins _ _ (by decide +kernel)).symm, by decide +kernel, by decide +kernel,
   by
    show ({ (eicAt 0xC1000000).runPlain 0 ((eicAt 0xC1000000).fuelOf 0) with
      freeSeed := ((eicAt 0xC1000000).runPlain 0 ((eicAt 0xC1000000).fuelOf 0)).freeSeed + 1 } : State).operand 0 _ _ ≤ 3
    rw [runPlain_system (eicAt 0xC1000000) 0 (by decide +kernel)]
    decide +kernel⟩

theorem meets_eicInstructionsComplete_6 : ∃ (s u : State) (r : Fin 5) (i : EicIns), s.awake = true ∧ s.executes r = true ∧
    u = { s.runPlain r (s.fuelOf r) with freeSeed := (s.runPlain r (s.fuelOf r)).freeSeed + 1 } ∧
    i = (s.runPlain r (s.fuelOf r)).insOf r ∧ i.cls = 12 ∧ i.op = 2 :=
  ⟨eicAt 0xC2000000, _, 0, (eicAt 0xC2000000).insOf 0, by decide +kernel, by decide +kernel, rfl,
   (eicAt_ins _ _ (by decide +kernel)).symm, by decide +kernel, by decide +kernel⟩

/-- `up`, with the cycle engine changed. -/
def withY (f : Cycle → Cycle) : State := up.modCyc f

/-- What `CYC_CHANGE` asks of the rings holds whatever the engine's image is. -/
theorem change_admits (c : Cycle) (h : cycLegal 3 c.state = true) (hr : c.state ≠ .retired) :
    ({ up with cyc := c } : State).Admits (.cycChange (pk 0)) (pk 0) := by
  obtain ⟨r, -, f⟩ := admits_of (s := up.modCyc fun c => { c with state := .stop }) (i := .cycChange (pk 0)) (p := pk 0)
    (by decide +kernel)
  have e0 : lateSteps (pk 0) = none := by decide +kernel
  have e1 : headerOk 0x0A03 (pk 0) = true := by decide +kernel
  have e2 : lengthOk 0x0A03 (pk 0) = true := by decide +kernel
  have e3 : targetOk 0x0A03 (pk 0).target.toNat = true := by decide +kernel
  have e4 : ({ up with cyc := c } : State).hasCycle = true := (show up.hasCycle = true by decide +kernel)
  have e5 : up.dpx.role = .none := by decide +kernel
  refine ⟨⟨r.1, r.2, r.3, r.4, r.5, r.6, r.7, r.8, by simp only [State.isLate, e0]⟩, ?_, f⟩
  intro op ho
  injection ho with ho
  subst ho
  unfold State.check
  simp only [e1, e2, e3, State.fitted, State.unitServes, State.legal, State.duplexCheck, h, e4]
  simp [hr, e5]

theorem no_station : ∀ m, m < 32 → (vget up.cyc.stations m).cfg = none := by decide +kernel

/-- An image with one cyclic task. -/
def image1 : List Byte := bytes (List.replicate 6 0 ++ [1] ++ List.replicate 57 0)

theorem meets_cycleSetupPacketsComplete_0 : ∃ (s : State), ∃ (p : Pkt), s.Admits (.cycConfig p) p ∧ prm p 0 ≤ 1 ∧ prm p 1 ≤
    1 ∧ 1 ≤ prm p 2 ∧ prm p 2 ≤ 8 ∧ prm p 3 = 0 ∧ prmZero p 20 20 = true ∧ ((∀ k, k < 4 → 10 ≤ prm32 p (4 + 4 * k) ∧ prm32 p
    (4 + 4 * k) ≤ 999999)) :=
  ⟨up,
   pk 0 ([1, 1, 8, 0] ++ h4 10 ++ h4 999999 ++ h4 10 ++ h4 10),
   admits_of (by decide +kernel),
   by decide +kernel⟩

theorem meets_cycleSetupPacketsComplete_1 : ∃ (s : State), ∃ (p : Pkt), s.Admits (.cycLoad p) p ∧ s.cyc.change = none ∧
    prm32 p 0 + p.payload.length ≤ 16 * 2 ^ 20 :=
  ⟨up,
   pk 0 (h4 (16 * 2 ^ 20 - 64)) 64,
   admits_of (by decide +kernel),
   by decide +kernel⟩

theorem meets_cycleSetupPacketsComplete_2 : ∃ (s : State), ∃ (p : Pkt), ∃ (img : List Byte), s.Admits (.cycVerify p) p ∧ img
    = s.cyc.staged.getD [] :=
  ⟨withY fun c => { c with staged := some image1 },
   pk 0 [] 256,
   image1,
   admits_of (by decide +kernel),
   by decide +kernel⟩

theorem meets_cycleSetupPacketsComplete_5 : ∃ (s : State), ∃ (p : Pkt), ∃ (c : _), s.Admits (.cycStation p) p ∧ stationOf p
    = c ∧ ((∀ m d, m < 32 → m ≠ p.target.toNat → (vget s.cyc.stations m).cfg = some d → d.en = true → overlaps c.inOfs
    (c.inLen / 2) d.inOfs (d.inLen / 2) = false)) ∧ prm p 0 ≤ 2 ∧ prm p 1 ≤ 3 ∧ c.inLen ≤ 1024 ∧ c.inLen % 2 = 0 ∧ c.outLen
    ≤ 1024 ∧ c.outLen % 2 = 0 ∧ c.inOfs + c.inLen / 2 ≤ 65535 ∧ c.outOfs + c.outLen / 2 ≤ 65535 ∧ c.statOfs ≤ 65534 ∧ 1 ≤
    c.missMax ∧ c.missMax ≤ 8 ∧ prm p 20 ≤ 1 ∧ prm p 21 ≤ 1 ∧ prm p 22 ≤ 1 ∧ prmZero p 23 17 = true ∧ ((s.cyc.image ≠ [] →
    stationFits s.cyc.image c = true)) :=
  ⟨up,
   pk 31 ([2, 3, 0, 0, 0, 0, 0, 0] ++ words [1024, 1024, 65023, 65023, 65534] ++ [0, 8, 1, 1, 1]) 2048,
   stationOf (pk 31 ([2, 3, 0, 0, 0, 0, 0, 0] ++ words [1024, 1024, 65023, 65023, 65534] ++ [0, 8, 1, 1, 1]) 2048),
   admits_of (by decide +kernel),
   rfl,
   fun m d hm _ h _ => (nomatch h.symm.trans (no_station m hm)),
   by decide +kernel⟩

theorem meets_cycleSetupPacketsComplete_6 : ∃ (s : State), ∃ (p : Pkt), s.Admits (.cycStore p) p :=
  ⟨withY fun c => { c with state := .stop },
   pk 0,
   admits_of (by decide +kernel)⟩

theorem meets_cycleSetupPacketsComplete_7 : ∃ (s : State), ∃ (p : Pkt), s.Admits (.cycDiscard p) p ∧ s.cyc.staged = none :=
  ⟨up,
   pk 0,
   admits_of (by decide +kernel),
   by decide +kernel⟩

theorem meets_cycleSetupPacketsComplete_8 : ∃ (s : State), ∃ (p : Pkt), s.Admits (.cycDiscard p) p ∧ s.cyc.staged ≠ none :=
  ⟨withY fun c => { c with staged := some image1 },
   pk 0,
   admits_of (by decide +kernel),
   by decide +kernel⟩

theorem meets_cycleRunPacketsComplete_0 : ∃ (s : State), ∃ (p : Pkt), s.Admits (.cycMode p) p ∧ prm p 0 = 1 ∧ prm p 1 = 0 ∧
    prmZero p 2 38 = true ∧ s.cyc.state = .stop :=
  ⟨withY fun c => { c with state := .stop },
   pk 0 [1],
   admits_of (by decide +kernel),
   by decide +kernel⟩

theorem meets_cycleRunPacketsComplete_1 : ∃ (s : State), ∃ (p : Pkt), s.Admits (.cycMode p) p ∧ prm p 0 = 0 ∧ prm p 1 = 0 ∧
    prmZero p 2 38 = true ∧ s.cyc.state = .run ∧ s.cyc.stopping = false :=
  ⟨withY fun c => { c with state := .run },
   pk 0,
   admits_of (by decide +kernel),
   by decide +kernel⟩

theorem meets_cycleRunPacketsComplete_2 : ∃ (s : State), ∃ (p : Pkt), s.Admits (.cycMode p) p ∧ prm p 0 = 2 ∧ prm p 1 = 0 ∧
    prmZero p 2 38 = true ∧ s.cyc.state = .stop ∧ 2 ≤ s.dbg.level ∧ s.boundRunning = false :=
  ⟨{ (withY fun c => { c with state := .stop }) with dbg := { up.dbg with level := 2 } },
   pk 0 [2],
   admits_of (by decide +kernel),
   by decide +kernel⟩

theorem meets_cycleRunPacketsComplete_3 : ∃ (s : State), ∃ (p : Pkt), ∃ (v : _), s.Admits (.cycForce p) p ∧ prm p 4 = 1 ∧
    s.cyc.change = none ∧ v = symOf s.cyc.image (prm32 p 0) :=
  ⟨withY fun c => { c with state := .run, image := image1 },
   pk 0 (h4 7 ++ [1]),
   symOf (withY fun c => { c with state := .run, image := image1 }).cyc.image (prm32 (pk 0 (h4 7 ++ [1])) 0),
   admits_of (by decide +kernel),
   by decide +kernel,
   by decide +kernel,
   rfl⟩

theorem meets_cycleRunPacketsComplete_4 : ∃ (s : State), ∃ (p : Pkt), s.Admits (.cycRead p) p ∧ prm32 p 0 = 0xFFFFFFFF ∧
    prm32 p 8 * 16 ≤ p.payload.length ∧ 1 ≤ prm32 p 8 ∧ prm32 p 4 + prm32 p 8 ≤ 256 ∧ prmZero p 12 28 = true :=
  ⟨withY fun c => { c with state := .stop },
   pk 0 (h4 0xFFFFFFFF ++ h4 252 ++ h4 4) 64,
   admits_of (by decide +kernel),
   by decide +kernel⟩

theorem meets_cycleRunPacketsComplete_5 : ∃ (s : State), ∃ (p : Pkt), s.Admits (.cycRead p) p ∧ prm32 p 0 ≠ 0xFFFFFFFF :=
  ⟨withY fun c => { c with state := .stop },
   pk 0 (h4 0xFFFFFFFE) 64,
   admits_of (by decide +kernel),
   by decide +kernel⟩

theorem meets_cycleRunPacketsComplete_6 : ∃ (s : State), ∃ (p : Pkt), s.Admits (.cycWrite p) p ∧ prm32 p 0 ≠ 0xFFFFFFFF :=
  ⟨withY fun c => { c with state := .stop },
   pk 0 (h4 0xFFFFFFFE) 64,
   admits_of (by decide +kernel),
   by decide +kernel⟩

theorem meets_cycleRunPacketsComplete_7 : ∃ (s : State), ∃ (p : Pkt), ∃ (r : Nat), s.Admits (.cycDebug p) p ∧ s.heldTask =
    some r ∧ prm p 0 = 0 :=
  ⟨withY fun c => { c with state := .hold, image := image1, runs := vset c.runs 0 { active := true } },
   pk 0,
   0,
   admits_of (by decide +kernel),
   by decide +kernel⟩

theorem meets_cycleRunPacketsComplete_8 : ∃ (s : State), ∃ (p : Pkt), ∃ (r : Nat), s.Admits (.cycDebug p) p ∧ s.heldTask =
    some r ∧ prm p 0 = 3 :=
  ⟨withY fun c => { c with state := .hold, image := image1, runs := vset c.runs 0 { active := true } },
   pk 0 [3],
   0,
   admits_of (by decide +kernel),
   by decide +kernel⟩

theorem meets_cycleRunPacketsComplete_9 : ∃ (s : State), ∃ (p : Pkt), s.Admits (.cycDebug p) p ∧ prm p 0 = 1 ∧ prm32 p 4 ∉
    s.cyc.breaks ∧ s.cyc.breaks.length < 8 :=
  ⟨withY fun c => { c with state := .hold, breaks := [1, 2, 3, 4, 5, 6, 7] },
   pk 0 ([1, 0, 0, 0] ++ h4 8),
   admits_of (by decide +kernel),
   by decide +kernel⟩

theorem meets_cycleRunPacketsComplete_10 : ∃ (s : State), ∃ (p : Pkt), s.Admits (.cycDebug p) p ∧ prm p 0 = 2 :=
  ⟨withY fun c => { c with state := .hold },
   pk 0 [2],
   admits_of (by decide +kernel),
   by decide +kernel⟩

theorem meets_cycleRunPacketsComplete_11 : ∃ (s : State), ∃ (p : Pkt), ∃ (c : _), ∃ (green : Nat), s.Admits (.cycStatus p) p
    ∧ s.cyc = c ∧ green = (if c.staged = none then 0 else if c.change ≠ none then 3 else if c.verified then 2 else 1) :=
  ⟨withY fun c => { c with staged := some image1 },
   pk 0,
   (withY fun c => { c with staged := some image1 }).cyc,
   1,
   admits_of (by decide +kernel),
   rfl,
   by decide +kernel⟩

theorem meets_cycleEventsComplete_0 : ∃ (s : State), ∃ (k : Fin 4), ∃ tc, s.awake = true ∧ s.pwr.failing = none ∧ k.val ∈
    s.cyclicTasks ∧ s.cyc.state = .run ∧ s.cyc.stopping = false ∧ (s.run k).active = false ∧ s.nextStart k = tc ∧ (s.run
    k).firstStart ≤ tc :=
  ⟨withY fun c => { c with state := .run, image := image1 },
   0,
   (withY fun c => { c with state := .run, image := image1 }).nextStart 0,
   by decide +kernel,
   by decide +kernel,
   by decide +kernel,
   by decide +kernel,
   by decide +kernel,
   by decide +kernel,
   rfl,
   Nat.zero_le _⟩

theorem meets_cycleEventsComplete_1 : ∃ (s : State), ∃ (k : Fin 4), ∃ tc, s.awake = true ∧ s.pwr.failing = none ∧ k.val ∈
    s.cyclicTasks ∧ s.cyc.state = .stop ∧ s.nextStart k = tc :=
  ⟨withY fun c => { c with state := .stop, image := image1 },
   0,
   (withY fun c => { c with state := .stop, image := image1 }).nextStart 0,
   by decide +kernel,
   by decide +kernel,
   by decide +kernel,
   by decide +kernel,
   rfl⟩

theorem meets_cycleEventsComplete_2 : ∃ (s : State), ∃ (k : Fin 4), s.awake = true ∧ (s.run k).active = true ∧ s.cyc.state =
    .run :=
  ⟨withY fun c => { c with state := .run, runs := vset c.runs 3 { active := true } },
   3,
   by decide +kernel⟩

theorem meets_cycleEventsComplete_3 : ∃ (s : State), s.awake = true ∧ (s.run 4).active = true :=
  ⟨withY fun c => { c with runs := vset c.runs 4 { active := true } },
   by decide +kernel⟩

theorem meets_cycleEventsComplete_4 : ∃ (s : State), ∃ (k : Fin 4), ∃ tc, s.awake = true ∧ (s.run k).phaseAt = some tc ∧
    k.val ∈ s.cyclicTasks ∧ s.cyc.state ≠ .retired :=
  ⟨withY fun c => { c with state := .run, image := image1, runs := vset c.runs 0 { phaseAt := some 8 } },
   0,
   8,
   by decide +kernel⟩

theorem meets_cycleEventsComplete_5 : ∃ (s : State), ∃ k, s.awake = true ∧ k < 4 ∧ s.cyc.state = .run ∧ s.cyc.ksLimit ≤
    (s.run k).overruns :=
  ⟨withY fun c => { c with state := .run, runs := vset c.runs 3 { overruns := 2 } },
   3,
   by decide +kernel⟩

theorem meets_cycleEventsComplete_6 : ∃ (s : State), ∃ (c : _), s.awake = true ∧ s.cyc.change = some c ∧ s.cyc.state = .run
    ∧ ((∀ r, r < 5 → (s.run r).active = false)) :=
  ⟨withY fun c => { c with state := .run, change := some ⟨⟨0, 9⟩, false, 0, 0, 0⟩ },
   ⟨⟨0, 9⟩, false, 0, 0, 0⟩,
   by decide +kernel⟩

theorem meets_cycleEventsComplete_7 : ∃ (s : State), ∃ (img : List Byte), ∃ cfg, s.awake = true ∧ s.cyc.nor = some (img,
    cfg) ∧ s.hasCycle = true ∧ s.locked = true ∧ s.cyc.state = .empty :=
  ⟨{ (withY fun c => { c with nor := some (image1, []) }) with locked := true },
   image1,
   [],
   by decide +kernel⟩

/-- Whether an image verifies rests on the layout of its task table, which the spec leaves out (`Config.eicCyclic`, log 37): any
image that does meets the hypotheses, in STOP and in RUN. -/
theorem meets_cycleSetupPacketsComplete_3 (img : List Byte)
    (h : (withY fun c => { c with state := .stop, staged := some img, verified := true }).changeOk img = true) :
    ∃ (s : State), ∃ (p : Pkt), s.Admits (.cycChange p) p ∧ s.cyc.change = none ∧
      s.changeOk (s.cyc.staged.getD []) = true ∧ s.cyc.state ≠ .run :=
  ⟨_, pk 0, change_admits _ rfl (show CycState.stop ≠ .retired by decide), rfl, h,
    show CycState.stop ≠ .run by decide⟩

theorem meets_cycleSetupPacketsComplete_4 (img : List Byte)
    (h : (withY fun c => { c with state := .run, staged := some img, verified := true }).changeOk img = true) :
    ∃ (s : State), ∃ (p : Pkt), s.Admits (.cycChange p) p ∧ s.cyc.change = none ∧
      s.changeOk (s.cyc.staged.getD []) = true ∧ s.cyc.state = .run :=
  ⟨_, pk 0, change_admits _ rfl (show CycState.run ≠ .retired by decide), rfl, h, rfl⟩

/-- `up`, with Ethernet port 0 enabled and its link up. -/
def wired : State := { up with inForce := [(0x11000, 1)] }.modPort 0 fun x => { x with link := true }

/-- A frame with its check sequence. -/
def frameOf (ns : List Nat) : List Byte :=
  bytes (ns ++ List.replicate (60 - ns.length) 0) ++ bytesOf 4 (fcs (bytes (ns ++ List.replicate (60 - ns.length) 0)))

/-- A frame of a station: VLAN tag, Ethertype 0x88B5, kind 2, version 1, station 0. -/
def stationFrame : List Byte := frameOf (List.replicate 12 0 ++ [0x81, 0, 0xE0, 0, 0x88, 0xB5, 2, 1, 0, 0])

/-- A PTP frame over Ethernet. -/
def ptpFrame : List Byte := frameOf (List.replicate 12 0 ++ [0x88, 0xF7])

/-- A station on port 0 with MAC address 0. -/
def station0 : StationCfg :=
  { port := 0, task := 0, mac := List.replicate 6 0, inLen := 0, outLen := 0, inOfs := 0, outOfs := 0, statOfs := 0, hold := 0,
    missMax := 1, rejoin := false, stopOut := false, en := true, inSub := [], outSub := [] }

/-- A PTP configuration of port 0. -/
def ptp0 : List Byte := bytes ([1, 0, 1, 0, 0, 0, 6, 0, 0, 0] ++ h2 1 ++ List.replicate 28 0)

/-- `up`, in a ring with the device as node 0. -/
def ringed (f : Ring → Ring) : State :=
  { up with inForce := [(0x12000, 1)], ring := f { up.ring with state := .ring } }

theorem meets_timeCommandsComplete_0 : ∃ (s : State), ∃ (p : Pkt), s.Admits (.timeAdj p) p ∧ incrOk (prm64 p 0) = true ∧
    prm32 p 8 ≤ 250000000 ∧ ((prm32 p 8 ≠ 0 → incrOk (prm64 p 12) = true)) :=
  ⟨up,
   pk 0 (h4 (incrMin % 2 ^ 32) ++ h4 (incrMin / 2 ^ 32) ++ h4 250000000 ++ h4 (incrMax % 2 ^ 32) ++ h4 (incrMax / 2 ^ 32)),
   admits_of (by decide +kernel),
   by decide +kernel⟩

theorem meets_timeCommandsComplete_1 : ∃ (s : State), ∃ (p : Pkt), s.Admits (.timeStep p) p ∧ prm p 0 = 0 ∧ s.stepRefused =
    false :=
  ⟨up,
   pk 0,
   admits_of (by decide +kernel),
   by decide +kernel⟩

theorem meets_timeCommandsComplete_2 : ∃ (s : State), ∃ (p : Pkt), s.Admits (.timeStep p) p ∧ prm p 0 = 1 ∧ prm32 p 16 ≤
    999999999 ∧ s.stepRefused = false :=
  ⟨up,
   pk 0 ([1] ++ List.replicate 15 0 ++ h4 999999999),
   admits_of (by decide +kernel),
   by decide +kernel⟩

theorem meets_timeCommandsComplete_3 : ∃ (s : State), ∃ (p : Pkt), s.Admits (.timeSource p) p ∧ prm p 0 ≤ 2 :=
  ⟨up,
   pk 0 [2],
   admits_of (by decide +kernel),
   by decide +kernel⟩

theorem meets_timeCommandsComplete_4 : ∃ (s : State), ∃ (p : Pkt), s.Admits (.timePtpConfig p) p ∧ ptpOk p = true :=
  ⟨up,
   pk 0 ([1, 0, 3, 127, 0, 0, 6, 1, 0xF9, 4] ++ h2 1000 ++ h4 1000000),
   admits_of (by decide +kernel),
   by decide +kernel⟩

theorem meets_timeCommandsComplete_5 : ∃ (s : State), ∃ (p : Pkt), s.Admits (.timeStatus p) p :=
  ⟨up,
   pk 0,
   admits_of (by decide +kernel)⟩

theorem meets_timeCommandsComplete_6 : ∃ (s : State), ∃ (c : _), ∃ (v : DWord), ∃ (d : Nat), ∃ (after : DWord), s.awake =
    true ∧ s.firstChange TimeMove.isIncr = some c ∧ c.move = .incr v d after :=
  ⟨{ up with time := { up.time with changes := [⟨⟨0, 9⟩, .incr 0 1 0, 32⟩] } },
   ⟨⟨0, 9⟩, .incr 0 1 0, 32⟩,
   0,
   1,
   0,
   by decide +kernel⟩

theorem meets_timeCommandsComplete_7 : ∃ (s : State), ∃ (e : Nat), ∃ (v : DWord), s.awake = true ∧ s.time.duration = some
    (e, v) :=
  ⟨{ up with time := { up.time with duration := some (32, 1) } },
   32,
   1,
   by decide +kernel⟩

theorem meets_timeCommandsComplete_8 : ∃ (s : State), ∃ (c : _), ∃ (o : DWord), s.awake = true ∧ (s.firstChange fun m =>
    !m.isIncr) = some c ∧ c.move = .offset o ∧ (((s.durationBy c.at_).advanceTo c.at_).modTime fun t =>
    { t with changes := t.changes.erase c }).stepRefused = false :=
  ⟨{ up with time := { up.time with changes := [⟨⟨0, 9⟩, .offset 1, 32⟩] } },
   ⟨⟨0, 9⟩, .offset 1, 32⟩,
   1,
   by decide +kernel⟩

theorem meets_timeCommandsComplete_9 : ∃ (s : State), ∃ (c : _), ∃ (sec : DWord), ∃ (ns : Word), s.awake = true ∧
    (s.firstChange fun m => !m.isIncr) = some c ∧ c.move = .set sec ns ∧ (((s.durationBy c.at_).advanceTo c.at_).modTime fun
    t => { t with changes := t.changes.erase c }).stepRefused = false :=
  ⟨{ up with time := { up.time with changes := [⟨⟨0, 9⟩, .set 1 1, 32⟩] } },
   ⟨⟨0, 9⟩, .set 1 1, 32⟩,
   1,
   1,
   by decide +kernel⟩

theorem meets_timeCommandsComplete_10 : ∃ (s : State), ∃ (kind : Fin 3), ∃ (c : _), s.awake = true ∧ s.time.ptp = some c ∧
    byteAt c 2 ≠ 0 ∧ ((byteAt c 7 = 1 → kind = 2)) :=
  ⟨{ up with time := { up.time with ptp := some ptp0 } },
   0,
   ptp0,
   by decide +kernel⟩

theorem meets_netPacketsComplete_0 : ∃ (s : State), ∃ (p : Pkt), s.Admits (.netTx p) p ∧ prm p 0 = p.target.toNat ∧ prm p 1
    ≤ 6 :=
  ⟨wired,
   pk 0 [0, 6] 1518,
   admits_of (by decide +kernel),
   by decide +kernel⟩

theorem meets_netPacketsComplete_1 : ∃ (s : State), ∃ (p : Pkt), s.Admits (.netRx p) p ∧ prm p 0 = p.target.toNat ∧ ((prm p
    1 < 16 ∨ prm p 1 = 0xFF)) :=
  ⟨wired,
   pk 2 [2, 0xFF] 64,
   admits_of (by decide +kernel),
   by decide +kernel⟩

theorem meets_netPacketsComplete_2 : ∃ (s : State), ∃ (p : Pkt), s.Admits (.netFilter p) p ∧ prm p 0 ≤ 1 ∧ prm p 1 ≤ 3 :=
  ⟨up,
   pk 15 [1, 3],
   admits_of (by decide +kernel),
   by decide +kernel⟩

theorem meets_netPacketsComplete_3 : ∃ (s : State), ∃ (p : Pkt), ∃ (g : Gcl), s.Admits (.netGcl p) p ∧ gclOk p = true ∧
    (s.port p.target.toNat).gclNext = none ∧ g = { base := prm64 p 0, entries := gclEntries p } :=
  ⟨wired,
   pk 0 [] 8 ([127, 0, 0, 0] ++ h4 1000000000),
   { base := 0, entries := [(127, 1000000000)] },
   admits_of (by decide +kernel),
   by decide +kernel⟩

theorem meets_netPacketsComplete_4 : ∃ (s : State), ∃ (p : Pkt), ∃ (x : _), s.Admits (.netStatus p) p ∧ s.port
    p.target.toNat = x :=
  ⟨wired,
   pk 0,
   wired.port 0,
   admits_of (by decide +kernel),
   by decide +kernel⟩

theorem meets_netEventsComplete_0 : ∃ (s : State), ∃ (port : Fin 2), ∃ (t : Ticket), ∃ (g : Gcl), ∃ (at_ : Nat), s.awake =
    true ∧ (s.port port).gclNext = some (t, g, at_) :=
  ⟨wired.modPort 0 fun x => { x with gclNext := some (⟨0, 9⟩, ⟨0, [(1, 1000)]⟩, 8) },
   0,
   ⟨0, 9⟩,
   ⟨0, [(1, 1000)]⟩,
   8,
   by decide +kernel⟩

theorem meets_netEventsComplete_1 : ∃ (s : State), ∃ (port : Fin 2), s.awake = true ∧ (s.port port).gcl ≠ none :=
  ⟨wired.modPort 0 fun x => { x with gcl := some ⟨0, [(1, 1000)]⟩ },
   0,
   by decide +kernel⟩

theorem meets_netEventsComplete_7 : ∃ (s : State), ∃ (port : Fin 2), ∃ (w : TxWait), ∃ (ns : Word), s.awake = true ∧
    ns.toNat < 1000000000 ∧ s.portState port = .up ∧ s.nextTx port = some w :=
  ⟨wired.modPort 0 fun x => { x with txq := [⟨⟨0, 9⟩, 6, true, 60, List.replicate 60 0, 100⟩] },
   0,
   ⟨⟨0, 9⟩, 6, true, 60, List.replicate 60 0, 100⟩,
   999999999,
   by decide +kernel⟩

theorem meets_netEventsComplete_8 : ∃ (s : State), ∃ (port : Fin 2), ∃ (w : TxWait), ∃ (rest : List TxWait), s.awake = true
    ∧ (s.port port).txq = w :: rest :=
  ⟨wired.modPort 0 fun x => { x with txq := [⟨⟨0, 9⟩, 6, true, 60, List.replicate 60 0, 100⟩] },
   0,
   ⟨⟨0, 9⟩, 6, true, 60, List.replicate 60 0, 100⟩,
   [],
   by decide +kernel⟩

theorem meets_netEventsComplete_9 : ∃ (s : State), ∃ (port : Fin 2), s.awake = true ∧ s.portEn port = true :=
  ⟨wired,
   0,
   by decide +kernel⟩

theorem meets_netEventsComplete_10 : ∃ (s : State), ∃ (port : Fin 2), s.awake = true ∧ s.portState port = .up :=
  ⟨wired,
   0,
   by decide +kernel⟩

theorem meets_ringPacketsComplete_0 : ∃ (s : State), ∃ (p : Pkt), s.Admits (.nrPublish p) p :=
  ⟨ringed id,
   pk 0 [1],
   admits_of (by decide +kernel)⟩

theorem meets_ringPacketsComplete_1 : ∃ (s : State), ∃ (p : Pkt), s.Admits (.nrTelemRead p) p ∧ p.target.toNat = s.nodeId :=
  ⟨ringed id,
   pk 0 [] 32,
   admits_of (by decide +kernel),
   by decide +kernel⟩

theorem meets_ringPacketsComplete_2 : ∃ (s : State), ∃ (p : Pkt), s.Admits (.nrTelemRead p) p ∧ p.target.toNat ≠ s.nodeId ∧
    (s.node p.target.toNat).heard = true :=
  ⟨(ringed id).modNode 15 fun x => { x with heard := true },
   pk 15 [] 32,
   admits_of (by decide +kernel),
   by decide +kernel⟩

theorem meets_ringPacketsComplete_3 : ∃ (s : State), ∃ (p : Pkt), ∃ (lost : Bool), s.Admits (.nrSend p) p ∧ ((prm p 0 < 16 ∨
    prm p 0 = 0xFF)) ∧ (lost = decide (prm p 0 < 16 ∧ (s.node (prm p 0)).known = true ∧ (s.node (prm p 0)).heard = false))
    :=
  ⟨(ringed id).modNode 15 fun x => { x with known := true },
   pk 0 [15] 1024,
   true,
   admits_of (by decide +kernel),
   by decide +kernel⟩

theorem meets_ringPacketsComplete_4 : ∃ (s : State), ∃ (p : Pkt), s.Admits (.nrRecv p) p :=
  ⟨ringed id,
   pk 0 [] 1024,
   admits_of (by decide +kernel)⟩

theorem meets_ringPacketsComplete_5 : ∃ (s : State), ∃ (p : Pkt), ∃ (r : _), ∃ (mask : Nat), s.Admits (.nrStatus p) p ∧
    s.ring = r ∧ mask = (numbers 16 fun n => (s.node n).heard).foldl (fun a n => a + 2 ^ n) 0 :=
  ⟨ringed id,
   pk 0,
   (ringed id).ring,
   0,
   admits_of (by decide +kernel),
   by decide +kernel⟩

theorem meets_ringEventsComplete_0 : ∃ (s : State), s.awake = true ∧ s.ring.inserted = true :=
  ⟨ringed id,
   by decide +kernel⟩

theorem meets_ringEventsComplete_1 : ∃ (s : State), s.awake = true ∧ s.ring.inserted = true :=
  ⟨ringed id,
   by decide +kernel⟩

theorem meets_ringEventsComplete_2 : ∃ (s : State), ∃ (m : RingSend), ∃ (d : Nat), s.awake = true ∧ s.ring.sends = [m] ∧
    m.deadline = some d :=
  ⟨ringed fun r => { r with sends := [⟨⟨0, 9⟩, 15, 7, [1], 0, some 100⟩] },
   ⟨⟨0, 9⟩, 15, 7, [1], 0, some 100⟩,
   100,
   by decide +kernel⟩

theorem meets_ringEventsComplete_3 : ∃ (s : State), s.awake = true :=
  ⟨ringed id,
   by decide +kernel⟩

theorem meets_ringEventsComplete_4 : ∃ (s : State), ∃ (node : Fin 16), s.awake = true ∧ (s.node node).heard = true ∧
    s.ring.inserted = true :=
  ⟨(ringed id).modNode 15 fun x => { x with heard := true },
   15,
   by decide +kernel⟩

theorem meets_ringEventsComplete_5 : ∃ (s : State), ∃ (at_ : Nat), s.awake = true ∧ s.ring.noBetter = some at_ ∧
    s.ring.inserted = true ∧ s.ringPrio < 0xFF ∧ s.ring.master = false :=
  ⟨ringed fun r => { r with noBetter := some 8 },
   8,
   by decide +kernel⟩

theorem meets_ringEventsComplete_6 : ∃ (s : State), ∃ (at_ : Nat), s.awake = true ∧ s.ring.inSince = some at_ ∧
    s.ringFollower = true ∧ s.ring.aligned = false :=
  ⟨{ (ringed fun r => { r with inSince := some 8 }) with time := { up.time with src := 2 } },
   8,
   by decide +kernel⟩

theorem meets_ringEventsComplete_7 : ∃ (s : State), s.awake = true ∧ s.ring.inSince = none ∧ s.ring.aligned = true ∧ 8 *
    65536 < Int.natAbs s.ring.offset :=
  ⟨ringed fun r => { r with aligned := true, offset := -524289 },
   by decide +kernel⟩

theorem meets_ringEventsComplete_8 : ∃ (s : State), ∃ (nb : Bool), s.awake = true ∧ s.ring.state ≠ .off ∧ s.isRetired 4 (bit
    nb) = false :=
  ⟨ringed id,
   true,
   by decide +kernel⟩

theorem meets_ringEventsComplete_9 : ∃ (s : State), s.awake = true ∧ s.ring.state = .loopback ∧ s.ring.relays = false ∧
    s.ring.retryAt = none ∧ 3 ≤ s.pwr.state.code :=
  ⟨ringed fun r => { r with state := .loopback },
   by decide +kernel⟩

theorem meets_ringEventsComplete_10 : ∃ (s : State), ∃ (closed : Bool), ∃ (st : RingState), s.awake = true ∧ s.ring.relays =
    true ∧ s.ring.insertBy ≠ none ∧ (st = (if closed = true ∧ s.isRetired 4 0 = false ∧ s.isRetired 4 1 = false then
    RingState.ring else RingState.line)) :=
  ⟨ringed fun r => { r with state := .loopback, relays := true, insertBy := some 8 },
   false,
   .line,
   by decide +kernel⟩

theorem meets_ringEventsComplete_11 : ∃ (s : State), ∃ (d : Nat), s.awake = true ∧ s.ring.insertBy = some d :=
  ⟨ringed fun r => { r with insertBy := some 8 },
   8,
   by decide +kernel⟩

theorem meets_ringEventsComplete_12 : ∃ (s : State), ∃ (d : Nat), s.awake = true ∧ s.ring.retryAt = some d :=
  ⟨ringed fun r => { r with retryAt := some 8 },
   8,
   by decide +kernel⟩

theorem meets_ringFramesComplete_0 : ∃ (s : State), ∃ (nb : Bool), ∃ (at_ : Nat), s.awake = true ∧ vget s.ring.reqAt (bit
    nb) = some at_ :=
  ⟨ringed fun r => { r with reqAt := Vector.replicate 2 (some 8) },
   true,
   8,
   by decide +kernel⟩

theorem meets_ringFramesComplete_1 : ∃ (s : State), s.awake = true :=
  ⟨ringed id,
   by decide +kernel⟩

theorem meets_ringFramesComplete_2 : ∃ (s : State), ∃ (src : BitVec 4), ∃ (payload : List Byte), s.awake = true ∧
    s.ring.inserted = true ∧ src.toNat ≠ s.nodeId ∧ payload.length = 24 :=
  ⟨ringed id,
   15,
   List.replicate 24 0,
   by decide +kernel⟩

theorem meets_ringFramesComplete_3 : ∃ (s : State), ∃ (src : BitVec 4), ∃ (payload : List Byte), s.awake = true ∧
    s.ring.inserted = true ∧ src.toNat ≠ s.nodeId ∧ payload.length = 6 :=
  ⟨ringed id,
   15,
   List.replicate 6 0,
   by decide +kernel⟩

theorem meets_ringFramesComplete_4 : ∃ (s : State), ∃ (src : BitVec 4), ∃ (record : List Byte), s.awake = true ∧
    s.ring.inserted = true ∧ src.toNat ≠ s.nodeId ∧ record.length = 32 :=
  ⟨ringed id,
   15,
   List.replicate 32 0,
   by decide +kernel⟩

theorem meets_ringFramesComplete_5 : ∃ (s : State), ∃ (src : BitVec 4), ∃ (payload : List Byte), s.awake = true ∧
    s.ring.inserted = true ∧ src.toNat ≠ s.nodeId ∧ payload.length = 640 ∧ ((s.duplexInForce = false ∨ src.toNat ≠
    s.partner)) :=
  ⟨ringed id,
   15,
   List.replicate 640 0,
   by decide +kernel⟩

theorem meets_ringFramesComplete_6 : ∃ (s : State), ∃ (src : BitVec 4), ∃ (payload : List Byte), s.awake = true ∧
    s.ring.inserted = true ∧ src.toNat ≠ s.nodeId ∧ payload.length = 640 ∧ s.duplexInForce = true ∧ src.toNat = s.partner ∧
    s.ns / 5000 % 2 = 0 :=
  ⟨{ ringed id with inForce := [(0x12000, 1), (0x13000, 0x105)], dpx := { up.dpx with role := .active } },
   1,
   List.replicate 640 0,
   by decide +kernel⟩

theorem meets_ringFramesComplete_7 : ∃ (s : State), ∃ (src : BitVec 4), ∃ (payload : List Byte), s.awake = true ∧
    s.ring.inserted = true ∧ src.toNat ≠ s.nodeId ∧ payload.length = 640 ∧ s.duplexInForce = true ∧ src.toNat = s.partner ∧
    s.ns / 5000 % 2 = 1 :=
  ⟨{ ringed id with inForce := [(0x12000, 1), (0x13000, 0x105)], dpx := { up.dpx with role := .active }, dtb := 5000 * 2 ^ 32 },
   1,
   List.replicate 640 0,
   by decide +kernel⟩

theorem meets_ringFramesComplete_8 : ∃ (s : State), ∃ (src : BitVec 4), ∃ (payload : List Byte), s.awake = true ∧
    s.ring.inserted = true ∧ src.toNat ≠ s.nodeId ∧ 7 ≤ payload.length ∧ payload.length ≤ 262 ∧ byteAt payload 0 ≠ s.nodeId
    ∧ byteAt payload 0 ≠ 0xFF :=
  ⟨ringed id,
   15,
   bytes [14, 0, 0, 0, 0, 0, 0],
   by decide +kernel⟩

theorem meets_ringFramesComplete_9 : ∃ (s : State), ∃ (src : BitVec 4), ∃ (payload : List Byte), s.awake = true ∧
    s.ring.inserted = true ∧ src.toNat ≠ s.nodeId ∧ 7 ≤ payload.length ∧ payload.length ≤ 262 ∧ byteAt payload 0 = s.nodeId
    ∧ fragmentOk payload = true :=
  ⟨ringed id,
   15,
   bytes [0, 7, 0, 0, 1, 0, 0xAA],
   by decide +kernel⟩

theorem meets_ringFramesComplete_10 : ∃ (s : State), ∃ (src : BitVec 4), ∃ (payload : List Byte), s.awake = true ∧
    s.ring.inserted = true ∧ src.toNat ≠ s.nodeId ∧ 7 ≤ payload.length ∧ payload.length ≤ 262 ∧ byteAt payload 0 = 0xFF ∧
    fragmentOk payload = true :=
  ⟨ringed id,
   15,
   bytes [0xFF, 7, 0, 0, 1, 0, 0xAA],
   by decide +kernel⟩

theorem meets_ringFramesComplete_11 : ∃ (s : State), ∃ (src : BitVec 4), ∃ (dest : Byte), s.awake = true ∧ s.ring.inserted =
    true ∧ src.toNat ≠ s.nodeId ∧ dest.toNat ≠ s.nodeId :=
  ⟨ringed id,
   14,
   15,
   by decide +kernel⟩

theorem meets_ringFramesComplete_12 : ∃ (s : State), ∃ (src : BitVec 4), ∃ (dest : Byte), ∃ (msg : Byte), ∃ (m : RingSend),
    s.awake = true ∧ s.ring.inserted = true ∧ src.toNat ≠ s.nodeId ∧ dest.toNat = s.nodeId ∧ s.ring.sends = [m] ∧ m.dest =
    src.toNat ∧ m.number = msg.toNat ∧ m.deadline ≠ none :=
  ⟨ringed fun r => { r with sends := [⟨⟨0, 9⟩, 15, 7, [1], 0, some 100⟩] },
   15,
   0,
   7,
   ⟨⟨0, 9⟩, 15, 7, [1], 0, some 100⟩,
   by decide +kernel⟩

theorem meets_ringFramesComplete_13 : ∃ (s : State), s.awake = true :=
  ⟨ringed id,
   by decide +kernel⟩

theorem meets_ringFramesComplete_14 : ∃ (s : State), ∃ (target : Byte), s.resetN = true ∧ s.pwr.state = .watch ∧
    target.toNat ≠ s.nodeId ∧ target ≠ 0xFF :=
  ⟨{ up with pwr := { up.pwr with state := .watch } },
   0xFE,
   by decide +kernel⟩

theorem meets_ringFramesComplete_15 : ∃ (s : State), ∃ (target : Byte), s.resetN = true ∧ s.pwr.state = .watch ∧
    ((target.toNat = s.nodeId ∨ target = 0xFF)) :=
  ⟨{ up with pwr := { up.pwr with state := .watch } },
   0xFF,
   by decide +kernel⟩

theorem meets_netEventsComplete_2 : ∃ (s : State) (port : Fin 2) (bytes : List Byte) (ns : Word), s.awake = true ∧
    64 ≤ bytes.length ∧ bytes.length ≤ 1522 ∧ ns.toNat < 1000000000 ∧ s.portState port = .up ∧
    fcs (bytes.take (bytes.length - 4)) ≠ le bytes (bytes.length - 4) 4 :=
  ⟨wired, 0, List.replicate 64 0, 999999999, by decide +kernel⟩

theorem meets_netEventsComplete_3 : ∃ (s : State) (port : Fin 2) (bytes : List Byte) (n : Nat) (c : StationCfg), s.awake = true ∧
    64 ≤ bytes.length ∧ bytes.length ≤ 1522 ∧ s.portState port = .up ∧
    fcs (bytes.take (bytes.length - 4)) = le bytes (bytes.length - 4) 4 ∧ etypeOf (bytes.take (bytes.length - 4)) ≠ 0x8808 ∧
    s.stationOf port (bytes.take (bytes.length - 4)) = some (n, c) :=
  ⟨wired.modCyc fun c => { c with stations := vset c.stations 0 { cfg := some station0 } }, 0, stationFrame, 0, station0,
   by decide +kernel⟩

theorem meets_netEventsComplete_4 : ∃ (s : State) (port : Fin 2) (bytes : List Byte) (o : Nat), s.awake = true ∧
    64 ≤ bytes.length ∧ bytes.length ≤ 1522 ∧ s.portState port = .up ∧
    fcs (bytes.take (bytes.length - 4)) = le bytes (bytes.length - 4) 4 ∧ etypeOf (bytes.take (bytes.length - 4)) ≠ 0x8808 ∧
    s.stationOf port (bytes.take (bytes.length - 4)) = none ∧ s.ptpOf port (bytes.take (bytes.length - 4)) = some o :=
  ⟨{ wired with time := { wired.time with ptp := some ptp0 } }, 0, ptpFrame, 14, by decide +kernel⟩

theorem meets_netEventsComplete_5 : ∃ (s : State) (port : Fin 2) (bytes : List Byte) (k : Nat), s.awake = true ∧
    64 ≤ bytes.length ∧ bytes.length ≤ 1522 ∧ s.portState port = .up ∧
    fcs (bytes.take (bytes.length - 4)) = le bytes (bytes.length - 4) 4 ∧ etypeOf (bytes.take (bytes.length - 4)) ≠ 0x8808 ∧
    s.stationOf port (bytes.take (bytes.length - 4)) = none ∧ s.ptpOf port (bytes.take (bytes.length - 4)) = none ∧
    (List.range 16).find? (fun k => (vget s.filters k).matches port (bytes.take (bytes.length - 4))) = some k :=
  ⟨{ wired with filters := vset wired.filters 15 { en := true, ports := 1 } }, 0, ptpFrame, 15, by decide +kernel⟩

theorem meets_netEventsComplete_6 : ∃ (s : State) (port : Fin 2) (bytes : List Byte), s.awake = true ∧
    64 ≤ bytes.length ∧ bytes.length ≤ 1522 ∧ s.portState port = .up ∧
    fcs (bytes.take (bytes.length - 4)) = le bytes (bytes.length - 4) 4 ∧ etypeOf (bytes.take (bytes.length - 4)) ≠ 0x8808 ∧
    s.stationOf port (bytes.take (bytes.length - 4)) = none ∧ s.ptpOf port (bytes.take (bytes.length - 4)) = none ∧
    (∀ k, k < 16 → (vget s.filters k).matches port (bytes.take (bytes.length - 4)) = false) :=
  ⟨wired, 0, ptpFrame, by decide +kernel⟩

/-- `up`, as a duplex partner of node 1 with bridge B0 duplexed. -/
def duplex (f : Duplex → Duplex) : State := { up with inForce := [(0x12000, 1), (0x13000, 0x105)], dpx := f up.dpx }

/-- `up`, with service changed. -/
def withV (f : Service → Service) : State := { up with svcs := f up.svcs }

theorem meets_duplexEventsComplete_0 : ∃ (s : State), s.awake = true ∧ s.dpx.role = .pairing ∧ (¬ (s.dpx.partnerRole =
    .active ∧ s.dpx.heard = true)) ∧ s.inputB = false :=
  ⟨duplex fun d => { d with role := .pairing },
   by decide +kernel⟩

theorem meets_duplexEventsComplete_1 : ∃ (s : State), s.awake = true ∧ s.dpx.role = .pairing ∧ s.dpx.partnerRole = .active
    :=
  ⟨duplex fun d => { d with role := .pairing, partnerRole := .active },
   by decide +kernel⟩

theorem meets_duplexEventsComplete_2 : ∃ (s : State), ∃ (qp : Fin 16), ∃ (tag : Half), ∃ (h : _), s.awake = true ∧
    s.dpx.held = [h] ∧ h.1.qp = qp ∧ (s.qp qp).flights.any (fun (f : Flight) => decide (f.id = h.1.id) && decide (f.pkt.tag
    = tag)) = true :=
  ⟨(duplex fun d => { d with held := [(⟨0, 9⟩, {}, 100)] }).modQp 0 fun q => { q with flights := [{ id := 9, cmd := .adminNop (pk 0), pkt := pk 0, started := true, fetched := 0 }] },
   0,
   1,
   (⟨0, 9⟩, {}, 100),
   by decide +kernel⟩

theorem meets_duplexEventsComplete_3 : ∃ (s : State), ∃ (b : Fin 8), ∃ (h : _), s.awake = true ∧ (s.bridge b).handover =
    some h ∧ s.dpx.role = .standby ∧ h.claimed = false :=
  ⟨(duplex fun d => { d with role := .standby }).modB 0 fun b => { b with handover := some ⟨0, 8, 16, true, false⟩ },
   0,
   ⟨0, 8, 16, true, false⟩,
   by decide +kernel⟩

theorem meets_duplexEventsComplete_4 : ∃ (s : State), ∃ (b : Fin 8), ∃ (h : _), s.awake = true ∧ (s.bridge b).handover =
    some h ∧ h.claimed = true :=
  ⟨(duplex fun d => { d with role := .active }).modB 0 fun b => { b with handover := some ⟨0, 8, 16, true, true⟩ },
   0,
   ⟨0, 8, 16, true, true⟩,
   by decide +kernel⟩

theorem meets_duplexEventsComplete_5 : ∃ (s : State), ∃ (td : Nat), s.awake = true ∧ s.dpx.handover = some (td, none) ∧
    s.dpx.partnerClaims = 0 ∧ s.dpx.switchBy = none :=
  ⟨duplex fun d => { d with role := .active, handover := some (8, none) },
   8,
   by decide +kernel⟩

theorem meets_duplexEventsComplete_6 : ∃ (s : State), ∃ (td : Nat), ∃ (t : Ticket), s.awake = true ∧ s.dpx.handover = some
    (td, none) ∧ s.dpx.partnerClaims = 0 ∧ s.dpx.switchBy = some t :=
  ⟨duplex fun d => { d with role := .active, handover := some (8, none), switchBy := some ⟨0, 9⟩ },
   8,
   ⟨0, 9⟩,
   by decide +kernel⟩

theorem meets_duplexEventsComplete_7 : ∃ (s : State), ∃ (g : Fin 24), ∃ (b : Nat), ∃ (at_ : Nat), ∃ (st : BoosterStatus),
    s.awake = true ∧ s.dpx.takeoverAt = some at_ ∧ s.ownerOf g = some b ∧ s.duplexed b = true ∧ (s.link g).status = some st
    ∧ st.status.getLsbD 7 ≠ s.inputB :=
  ⟨((duplex fun d => { d with role := .active, takeoverAt := some 8 }).modB 0 fun b => { b with defn := some spare0 }).modLink 0 fun l => { l with status := some ⟨1, 2, 0x80, 0, false⟩ },
   0,
   0,
   8,
   ⟨1, 2, 0x80, 0, false⟩,
   by decide +kernel⟩

theorem meets_serviceCommandsComplete_0 : ∃ (s : State), ∃ (p : Pkt), s.Admits (.fwLoad p) p ∧ prm32 p 0 = 0 ∧ p.len.toNat ≤
    fwMax :=
  ⟨up,
   pk 0 [] 4032,
   admits_of (by decide +kernel),
   by decide +kernel⟩

theorem meets_serviceCommandsComplete_1 : ∃ (s : State), ∃ (p : Pkt), s.Admits (.fwLoad p) p ∧ prm32 p 0 ≠ 0 ∧ prm32 p 0 %
    64 = 0 ∧ prm32 p 0 + p.len.toNat ≤ fwMax ∧ (s.bank s.inactive).state = .loading :=
  ⟨withV fun v => { v with banks := vset v.banks 1 { state := .loading } },
   pk 0 (h4 (24 * 2 ^ 20 - 64)) 64,
   admits_of (by decide +kernel),
   by decide +kernel⟩

theorem meets_serviceCommandsComplete_2 : ∃ (s : State), ∃ (p : Pkt), ∃ (h : _), s.Admits (.fwVerify p) p ∧ s.loadsQueued =
    false ∧ Config.fwHeader (s.bank s.inactive).image = h :=
  ⟨withV fun v => { v with banks := vset v.banks 1 { state := .loading } },
   pk 0,
   Config.fwHeader (State.bank (withV fun v => { v with banks := vset v.banks 1 { state := .loading } }) (State.inactive (withV fun v => { v with banks := vset v.banks 1 { state := .loading } }))).image,
   admits_of (by decide +kernel),
   by decide +kernel,
   rfl⟩

theorem meets_serviceCommandsComplete_3 : ∃ (s : State), ∃ (p : Pkt), s.Admits (.fwActivate p) p ∧ prm p 0 ≤ 1 ∧ ((prm p 0 =
    1 → s.dpx.role = .standby ∨ s.dpx.role = .relinquished ∨ s.bridges.toList.any (fun b => b.state.beyondArmed) = false))
    :=
  ⟨withV fun v => { v with banks := vset v.banks 1 { state := .verified } },
   pk 0 [1],
   admits_of (by decide +kernel),
   by decide +kernel⟩

theorem meets_serviceCommandsComplete_4 : ∃ (s : State), ∃ (p : Pkt), s.Admits (.fwConfirm p) p :=
  ⟨withV fun v => { v with trial := true },
   pk 0,
   admits_of (by decide +kernel)⟩

theorem meets_serviceCommandsComplete_5 : ∃ (s : State), ∃ (p : Pkt), s.Admits (.fwStatus p) p :=
  ⟨up,
   pk 0,
   admits_of (by decide +kernel)⟩

theorem meets_serviceCommandsComplete_6 : ∃ (s : State), ∃ (p : Pkt), s.Admits (.calWrite p) p ∧ 1 ≤ prm16 p 2 ∧ prm16 p 0 +
    prm16 p 2 ≤ 152 ∧ p.len.toNat = pad64 (2 * prm16 p 2) ∧ (∀ e ∈ (wordsOf p.payload (prm16 p 2)).zipIdx, calEntryOk (prm16
    p 0 + e.2) e.1 = true) ∧ ((∀ n, n < 48 → (s.slot n).state = .recal → ¬ (prm16 p 0 ≤ n ∧ n < prm16 p 0 + prm16 p 2) ∧ ¬
    (prm16 p 0 ≤ 0x30 + n ∧ 0x30 + n < prm16 p 0 + prm16 p 2))) :=
  ⟨up,
   pk 0 (words [0, 1]) 64,
   admits_of (by decide +kernel),
   by decide +kernel⟩

theorem meets_serviceCommandsComplete_7 : ∃ (s : State), ∃ (p : Pkt), s.Admits (.calRead p) p :=
  ⟨up,
   pk 0 [] 304,
   admits_of (by decide +kernel)⟩

theorem meets_serviceCommandsComplete_8 : ∃ (s : State), ∃ (p : Pkt), s.Admits (.calExport p) p :=
  ⟨up,
   pk 0 [] 400,
   admits_of (by decide +kernel)⟩

theorem meets_serviceCommandsComplete_9 : ∃ (s : State), ∃ (p : Pkt), s.Admits (.calImport p) p :=
  ⟨up,
   pk 0 [] 400,
   admits_of (by decide +kernel)⟩

theorem meets_serviceCommandsComplete_10 : ∃ (s : State), ∃ (p : Pkt), s.Admits (.svcLoad p) p ∧ prm p 0 ≤ 3 ∧ prm p 1 ≤ 1 ∧
    prm32 p 4 + p.len.toNat ≤ 2 ^ 20 ∧ s.threadsOn (prm p 0) (fun x => x = .ready || x = .running) = [] :=
  ⟨up,
   pk 0 ([3, 1, 0, 0] ++ h4 (2 ^ 20 - 64)) 64,
   admits_of (by decide +kernel),
   by decide +kernel⟩

theorem meets_serviceCommandsComplete_11 : ∃ (s : State), ∃ (w : NorWrite), ∃ (rest : List NorWrite), (∀ t k, w ≠
    .fwActivate t k true) ∧ s.awake = true ∧ s.svcs.norQueue = w :: rest ∧ w ≠ .profile ∧ w ≠ .block :=
  ⟨withV fun v => { v with norQueue := [.fwConfirm ⟨0, 9⟩] },
   .fwConfirm ⟨0, 9⟩,
   [],
   fun _ _ h => NorWrite.noConfusion h,
   by decide +kernel⟩

theorem meets_serviceCommandsComplete_12 : ∃ (s : State), ∃ (w : NorWrite), ∃ (rest : List NorWrite), ∃ (t : Ticket),
    s.awake = true ∧ s.svcs.norQueue = w :: rest ∧ w.ticket = some t :=
  ⟨withV fun v => { v with norQueue := [.fwConfirm ⟨0, 9⟩] },
   .fwConfirm ⟨0, 9⟩,
   [],
   ⟨0, 9⟩,
   by decide +kernel⟩

theorem meets_serviceCommandsComplete_13 : ∃ (s : State), ∃ (t : Ticket), ∃ (k : Nat), ∃ (off : Nat), ∃ (bs : List Byte), ∃
    (rest : List NorWrite), s.awake = true ∧ s.svcs.norQueue = .fwLoad t k off bs :: rest :=
  ⟨withV fun v => { v with norQueue := [.fwLoad ⟨0, 9⟩ 1 64 [1]] },
   ⟨0, 9⟩,
   1,
   64,
   [1],
   [],
   by decide +kernel⟩

theorem meets_serviceCommandsComplete_14 : ∃ (s : State), ∃ (t : Ticket), ∃ (first : Nat), ∃ (es : List Half), ∃ (rest :
    List NorWrite), s.awake = true ∧ s.svcs.norQueue = .cal t first es :: rest :=
  ⟨withV fun v => { v with norQueue := [.cal ⟨0, 9⟩ 151 [1]] },
   ⟨0, 9⟩,
   151,
   [1],
   [],
   by decide +kernel⟩

/-! ### Ill-formed commands, one for each check -/

theorem ill_params : (Instr.identify { pk 0 with params := List.replicate 39 0 }).wf = false := by decide +kernel
theorem ill_payload : (Instr.netTx { pk 0 [] 64 with payload := List.replicate 63 0 }).wf = false := by decide +kernel
theorem ill_offset : (Instr.registerWrite 6 0).wf = false ∧ (Instr.registerWrite 0x100000 0).wf = false := by decide
theorem ill_ethFrame : (Instr.ethFrameReceived 0 (List.replicate 63 0) 0 0 0).wf = false ∧
    (Instr.ethFrameReceived 0 (List.replicate 64 0) 0 1000000000 0).wf = false := by decide
theorem ill_ethLong : (Instr.ethFrameReceived 0 (List.replicate 1523 0) 0 0 0).wf = false := by decide +kernel
theorem ill_stamp : (Instr.frameTransmitted 0 0 1000000000 0).wf = false := by decide
theorem ill_time : (Instr.timeFrame false 0 0 (List.replicate 23 0)).wf = false := by decide
theorem ill_heartbeat : (Instr.heartbeatFrame false 0 0 (List.replicate 5 0)).wf = false := by decide
theorem ill_telemetry : (Instr.telemetryFrame false 0 0 (List.replicate 31 0)).wf = false := by decide
theorem ill_mirror : (Instr.mirrorFrame false 0 0 (List.replicate 639 0)).wf = false := by decide +kernel
theorem ill_fragment : (Instr.fragmentFrame false 0 0 (List.replicate 6 0)).wf = false ∧
    (Instr.fragmentFrame false 0 0 (List.replicate 263 0)).wf = false := by decide +kernel

/-- An ill-formed command is refused by name. -/
theorem test_illFormed : exec (.registerWrite 6 0) up = .refused .illFormed := rfl

/-! ### Results the spec's examples give -/

/-- The write-back example after 04 R155: entry 0x6000 with e = 2 times state 0x2000 leaves 0x6000. -/
theorem test_writeBack : writeBack (0x6000 * 0x2000) 2 = 0x6000 := by decide

/-- The context of Table 04-7: six states, two measured outputs, outputs, integrators and references, five measured inputs,
two transforms, three legs, the cogging table and the clamp. -/
def lc07 : LoopContext :=
  { config := bytes ([6, 2, 2, 2, 2, 5, 0, 0] ++ List.replicate 24 0 ++ [1, 0, 0, 0, 2, 0, 0, 0] ++ List.replicate 51 0
      ++ [3, 0, 0, 1] ++ List.replicate 7 0 ++ [2] ++ List.replicate 25 0) }

/-- Table 04-7: the output section takes 180 cycles, the whole sample 325. -/
theorem test_cycles : lc07.outCycles false 0 = 180 ∧ lc07.cycles false 0 = 325 := by decide +kernel

/-- The generator of Table 05-4: 16 kHz, DT 1.0 µs, TMIN 1.0 µs. -/
def pwm54 : PwmGen :=
  { carrier := some { per := 250000, phase := 0, commit := 0, tmin := 8000, legPhase := Vector.replicate 6 0 }, activePer := 250000,
    dt1 := Vector.replicate 12 8000, dt2 := Vector.replicate 12 8000, fall1 := Vector.replicate 12 0,
    fall2 := Vector.replicate 12 0 }

/-- The half-period of that leg from a peak at 0 to the valley at 250,000, its lower switch on, at a compare. -/
def half54 (c : Nat) : HalfStep :=
  pwm54.halfStep 0 { x := 0, y := 250000, first := false, fresh := false, bootX := false, bootY := false, hold := 0,
                     gon := Vector.ofFn fun k : Fin 2 => decide (k.val = 1) } { cmp := c, side := some false }

/-- Table 05-4, fourth row: duty 0.0480. The lower switch goes off at the ideal instant, the upper on 1.0 µs later. -/
theorem test_normal : (half54 12000).changed = 0 ∧ (half54 12000).edges =
    [{ at_ := 238000, link := 0, second := true, on := false }, { at_ := 246000, link := 0, second := false, on := true }] := by
  decide

/-- Table 05-4, third row: duty 0.0272. The pulse of 0.7 µs is widened to 1.0 µs, half of it on each side. -/
theorem test_widened : (half54 6800).changed = 1 ∧ (half54 6800).run.grow = 1200 ∧ (half54 6800).edges =
    [{ at_ := 242000, link := 0, second := true, on := false }, { at_ := 250000, link := 0, second := false, on := true }] := by
  decide

/-- Table 05-4, second row: duty 0.0192. The pulse of 0.2 µs is suppressed. -/
theorem test_suppressed : (half54 4800).changed = 1 ∧ (half54 4800).edges = [] := by decide

/-- A step of the machine after reset is one tick of 4 ns (log 6). -/
theorem test_idle : Sys2Proof.Machine.step State.reset = .next (State.reset.advanceTo 32) := rfl

end Sys2Proof.Tests
end

section
/-! PROOFS. The scope of the part (00 R5 to R8): what a packet command is to `exec`, that every command keeps the part, and what
`GEN_UNIT_MAP` reads as. -/

namespace Sys2Proof.Machine

/-! ### Packet commands -/

/-- Every command that carries a packet submits that packet. -/
theorem exec_of_pkt {i : Instr} {p : Pkt} (s : State) (h : i.pkt = some p) : exec i s = packet i p s := by
  cases i <;> cases h <;> rfl

/-- ADMIN_PAD is the one command with the opcode 2. -/
theorem ne_adminPad_of_opcode {i : Instr} {op : Nat} (hop : opcodeOf i = some op) (h : op ≠ 2) (x : Pkt) :
    i ≠ .adminPad x := by
  rintro rfl
  exact h (Option.some.inj hop).symm

/-- A packet that starts at once and that a check refuses ends with the status of that check (10 R435, R436). -/
theorem exec_of_check_fails {s : State} {i : Instr} {p : Pkt} {op : Nat} {st : Status} (hp : i.pkt = some p)
    (hop : opcodeOf i = some op) (h2 : op ≠ 2) (hr : s.Reaches i p) (hc : s.check op p true = some st) :
    exec i s = .next ((s.begun i p).ends (s.ticketOf p) st).rest := by
  rw [exec_of_pkt s hp, packet, if_pos hr.wf, arrive_starts s i p op hop (ne_adminPad_of_opcode hop h2) hr, hc]

/-- Check 6 of Table 10-11a is the first to fail for a unit that is not fitted (R8). -/
theorem check_of_not_fitted {s : State} {op : Nat} {p : Pkt} (own : Bool) (hh : headerOk op p = true)
    (hl : lengthOk op p = true) (ht : targetOk op p.target.toNat = true) (hf : s.fitted op p.target.toNat = false) :
    s.check op p own = some .unitAbsent := by
  simp [State.check, hh, hl, ht, hf]

/-! ### The unit map -/

/-- Offset 4 of BAR0 reads as the unit map of the variant, whatever else the state holds (R5). -/
theorem readReg_unitMap (s : State) : s.readReg 4 = unitMap s.variant := rfl

/-- A write where software writes no register is ignored (17 R673). -/
theorem writeReg_of_no_spec (s : State) {off : Nat} (v : Nat) (h : regSpec off = none) : s.writeReg off v = s := by
  rw [State.writeReg, h]

/-- `GEN_UNIT_MAP` is read-only. -/
theorem evRegisterWrite_unitMap (s : State) (v : Word) : evRegisterWrite 4 v s = s :=
  writeReg_of_no_spec s (off := 4) v.toNat rfl

/-- The effect of IDENTIFY is its answer: DONE, the unit map and the number of the variant (R7). -/
theorem effect_identify (s : State) (t : Ticket) (p : Pkt) : s.effect t (.identify p) =
    s.answer t { status := .done, r0 := unitMap s.variant, r1 := variantNumber s.variant } := rfl

/-! ### Every command keeps the part -/

/-- An event whose operands are always well formed keeps the part if its effect does. -/
theorem event_true_fixed {f : State → State} {s t : State} (hf : (f s).fixed = s.fixed) (h : event true f s = .next t) :
    t.fixed = s.fixed := event_fixed hf h

/-- A command that answers leaves the queue it was given and the data of the part: a packet whatever its opcode, an event since
its own effect does. -/
theorem exec_fixed {i : Instr} {s t : State} (h : exec i s = .next t) : t.fixed = s.fixed := by
  cases hp : i.pkt with
  | some p =>
    rw [exec_of_pkt s hp] at h
    exact packet_fixed h
  | none =>
    cases i with
    | eicSubmit r => exact event_true_fixed (evEicSubmit_fixed r s) h
    | eicPoll r => exact event_true_fixed (evEicPoll_fixed r s) h
    | eicReady r => exact event_true_fixed (evEicReady_fixed r s) h
    | eicSignal r => exact event_true_fixed (evEicSignal_fixed r s) h
    | rdtime r => exact event_true_fixed (evRdtime_fixed r s) h
    | rdcnt r => exact event_true_fixed (evRdcnt_fixed r s) h
    | trace r => exact event_true_fixed (evTrace_fixed r s) h
    | threadEnd c => exact event_true_fixed (evThreadEnd_fixed c s) h
    | threadReady c ctx => exact event_true_fixed (evThreadReady_fixed c ctx s) h
    | threadSignal c mask => exact event_true_fixed (evThreadSignal_fixed c mask s) h
    | threadDelay c n => exact event_true_fixed (evThreadDelay_fixed c n s) h
    | threadWait c mask tmo => exact event_true_fixed (evThreadWait_fixed c mask tmo s) h
    | threadSubmit c qp bytes => exact event_true_fixed (evThreadSubmit_fixed c qp bytes s) h
    | threadPoll c qp addr => exact event_true_fixed (evThreadPoll_fixed c qp addr s) h
    | threadTime c => exact event_true_fixed (evThreadTime_fixed c s) h
    | threadImageRead c ofs count addr => exact event_true_fixed (evThreadImageRead_fixed c ofs count addr s) h
    | threadFault c => exact event_true_fixed (evThreadFault_fixed c s) h
    | commandTailWrite qp v => exact event_true_fixed (State.writeTail_fixed s qp v) h
    | completionHeadWrite qp v => exact event_true_fixed (State.writeHead_fixed s qp v) h
    | qpResume qp => exact event_true_fixed (State.writeControl_fixed s qp 1) h
    | qpReset qp => exact event_true_fixed (State.writeControl_fixed s qp 2) h
    | setupLock v => exact event_true_fixed (evSetupLock_fixed v s) h
    | setupLockEffect => exact event_true_fixed (evSetupLockEffect_fixed s) h
    | profileSave ok => exact event_true_fixed (evProfileSave_fixed ok s) h
    | registerWrite off v => exact event_fixed (evRegisterWrite_fixed off v s) h
    | timeSnapRead => exact event_true_fixed (evTimeSnapRead_fixed s) h
    | pwrAonLoRead => exact event_true_fixed (evPwrAonLoRead_fixed s) h
    | windowWord0Read cls unit => exact event_true_fixed (evWindowWord0Read_fixed cls unit s) h
    | dbgReq v => exact event_true_fixed (evDbgReq_fixed v s) h
    | dbgSubmit => exact event_true_fixed (evDbgSubmit_fixed s) h
    | dbgRevoke => exact event_true_fixed (evDbgRevoke_fixed s) h
    | dbgLockoutEnd => exact event_true_fixed (evDbgLockoutEnd_fixed s) h
    | dbgAtestWrite v => exact event_true_fixed (evDbgAtestWrite_fixed v s) h
    | dbgAuth dr => exact event_true_fixed (evDbgAuth_fixed dr s) h
    | extest => exact event_true_fixed (evExtest_fixed s) h
    | extestEnd => exact event_true_fixed (evExtestEnd_fixed s) h
    | dbgMbox bytes first last => exact event_true_fixed (evDbgMbox_fixed bytes first last s) h
    | idcode => exact event_true_fixed (evIdcode_fixed s) h
    | bypass => exact event_true_fixed (evBypass_fixed s) h
    | samplePreload => exact event_true_fixed (evSamplePreload_fixed s) h
    | packetFetch qp bytes => exact event_true_fixed (evPacketFetch_fixed qp bytes s) h
    | notBeforeReached qp tag => exact event_true_fixed (evNotBeforeReached_fixed qp tag s) h
    | lateWindowExpiry qp tag => exact event_true_fixed (evLateWindowExpiry_fixed qp tag s) h
    | irqModTime qp => exact event_true_fixed (evIrqModTime_fixed qp s) h
    | ringReadFail qp addr => exact event_true_fixed (evRingReadFail_fixed qp addr s) h
    | barrierTimeout ident => exact event_true_fixed (evBarrierTimeout_fixed ident s) h
    | hostUnavailable linkUp bme => exact event_true_fixed (evHostUnavailable_fixed linkUp bme s) h
    | carrierEvent b => exact event_true_fixed (carrierThen_fixed b s) h
    | tripSourceActive src => exact event_true_fixed (evTripSourceActive_fixed src s) h
    | tripBreak g => exact event_true_fixed (evTripBreak_fixed g s) h
    | faultCodeReceived g group => exact event_true_fixed (evFaultCodeReceived_fixed g group s) h
    | blankWindowClose sw => exact event_true_fixed (evBlankWindowClose_fixed sw s) h
    | alertSymbol g group => exact event_true_fixed (evAlertSymbol_fixed g group s) h
    | bootLow g => exact event_true_fixed (evBootLow_fixed g s) h
    | forcedRefreshEnd g => exact event_true_fixed (evForcedRefreshEnd_fixed g s) h
    | statusFrame g supply temp status =>
      
      exact event_true_fixed (by rw [State.roleChange_fixed, State.capPoll_fixed, evStatusFrame_fixed]) h
    | edgeFrame g second off entry exit => exact event_true_fixed (evEdgeFrame_fixed g second off entry exit s) h
    | readDataFrame g addr data => exact event_true_fixed (evReadDataFrame_fixed g addr data s) h
    | ackFrame g result => exact event_true_fixed (by rw [State.takeoverAcks_fixed, evAckFrame_fixed]) h
    | commitAckTimeout g => exact event_true_fixed (evCommitAckTimeout_fixed g s) h
    | uplinkFrameDiscard f => exact event_true_fixed (evUplinkFrameDiscard_fixed f s) h
    | statusTimeout g => exact event_true_fixed (evStatusTimeout_fixed g s) h
    | trainingComplete g ident caps acked => exact event_true_fixed (evTrainingComplete_fixed g ident caps acked s) h
    | armTimeout b => exact event_true_fixed (evArmTimeout_fixed b s) h
    | prechargeDone b => exact event_true_fixed (evPrechargeDone_fixed b s) h
    | prechargeTimeout b => exact event_true_fixed (evPrechargeTimeout_fixed b s) h
    | prechargeTimedDone b => exact event_true_fixed (evPrechargeTimedDone_fixed b s) h
    | stopRampEnd b => exact event_true_fixed (evStopRampEnd_fixed b s) h
    | sslLoss b => exact event_true_fixed (evSslLoss_fixed b s) h
    | loopSample c => exact event_true_fixed (by rw [State.capPoll_fixed, evLoopSample_fixed]) h
    | commitDeadlineOverrun c => exact event_true_fixed (evCommitDeadlineOverrun_fixed c s) h
    | substTimeout c => exact event_true_fixed (evSubstTimeout_fixed c s) h
    | injectionEnd c => exact event_true_fixed (evInjectionEnd_fixed c s) h
    | gfOuterStep g => exact event_true_fixed (by rw [State.capPoll_fixed, evGfOuterStep_fixed]) h
    | gfLimitRelease g => exact event_true_fixed (evGfLimitRelease_fixed g s) h
    | gfRtTimeout g => exact event_true_fixed (evGfRtTimeout_fixed g s) h
    | gfWFault g => exact event_true_fixed (evGfWFault_fixed g s) h
    | secExpired g => exact event_true_fixed (evSecExpired_fixed g s) h
    | deadBusSet g => exact event_true_fixed (evDeadBusSet_fixed g s) h
    | holdoffEnd g => exact event_true_fixed (evHoldoffEnd_fixed g s) h
    | waitLiveQualified g => exact event_true_fixed (evWaitLiveQualified_fixed g s) h
    | joinWindowsQualified g => exact event_true_fixed (evJoinWindowsQualified_fixed g s) h
    | joinFbRise g => exact event_true_fixed (evJoinFbRise_fixed g s) h
    | joinFbFall g => exact event_true_fixed (evJoinFbFall_fixed g s) h
    | contactorAssumedClosed g => exact event_true_fixed (evContactorAssumedClosed_fixed g s) h
    | contactorTimeout g => exact event_true_fixed (evContactorTimeout_fixed g s) h
    | retryWaitEnd g => exact event_true_fixed (evRetryWaitEnd_fixed g s) h
    | detachment g => exact event_true_fixed (evDetachment_fixed g s) h
    | pugFrame src inputs => exact event_true_fixed (pugFrameThen_fixed src inputs s) h
    | slotOutputReady slot => exact event_true_fixed (by rw [State.capPoll_fixed, evSlotOutputReady_fixed]) h
    | resolverPeriod n pairs => exact event_true_fixed (evResolverPeriod_fixed n pairs s) h
    | zEdge n => exact event_true_fixed (evZEdge_fixed n s) h
    | measurementUpset kind unit => exact event_true_fixed (evMeasurementUpset_fixed kind unit s) h
    | retryRunEnd kind unit ok => exact event_true_fixed (evRetryRunEnd_fixed kind unit ok s) h
    | bucketLeak kind unit => exact event_true_fixed (evBucketLeak_fixed kind unit s) h
    | eccError page corrected retryOk => exact event_true_fixed (evEccError_fixed page corrected retryOk s) h
    | recalEnd off gain => exact event_true_fixed (evRecalEnd_fixed off gain s) h
    | capSampleClose u => exact event_true_fixed (evCapSampleClose_fixed u s) h
    | capExtEdge n => exact event_true_fixed (evCapExtEdge_fixed n s) h
    | captureUpset u => exact event_true_fixed (evCaptureUpset_fixed u s) h
    | sinFilteredChange chB sin level => exact event_true_fixed (evSinFilteredChange_fixed chB sin level s) h
    | discrepancyLatch chB f => exact event_true_fixed (evDiscrepancyLatch_fixed chB f s) h
    | ss1SafeInstant chB f => exact event_true_fixed (evSs1SafeInstant_fixed chB f s) h
    | sbcDelayExpiry chB out => exact event_true_fixed (evSbcDelayExpiry_fixed chB out s) h
    | safeEnFall => exact event_true_fixed (evSafeEnFall_fixed s) h
    | safeEnToggle takenA takenB tripPins => exact event_true_fixed (evSafeEnToggle_fixed takenA takenB tripPins s) h
    | blockCommit ok => exact event_true_fixed (evBlockCommit_fixed ok s) h
    | confirmWindowExpiry => exact event_true_fixed (evConfirmWindowExpiry_fixed s) h
    | sagExchange received => exact event_true_fixed (evSagExchange_fixed received s) h
    | saggarInternalFault => exact event_true_fixed (evSaggarInternalFault_fixed s) h
    | lockstepMismatch => exact event_true_fixed (lockstepThen_fixed s) h
    | wheelCycle => exact event_true_fixed (evWheelCycle_fixed s) h
    | delayExpiry => exact event_true_fixed (evDelayExpiry_fixed s) h
    | waitTimeout c => exact event_true_fixed (evWaitTimeout_fixed c s) h
    | eventTaskEnd => exact event_true_fixed (evEventTaskEnd_fixed s) h
    | cycleStart k =>
      refine event_true_fixed (f := fun s => if s.pwr.failing.isSome then s else evCycleStart k s) ?_ h
      exact fixed_ite rfl (evCycleStart_fixed k s)
    | cycleEnd k => exact event_true_fixed (evCycleEnd_fixed k s) h
    | outputWindow k => exact event_true_fixed (evOutputWindow_fixed k s) h
    | kilnSitterTrip => exact event_true_fixed (evKilnSitterTrip_fixed s) h
    | changeSwitch => exact event_true_fixed (evChangeSwitch_fixed s) h
    | imageBootLoad => exact event_true_fixed (evImageBootLoad_fixed s) h
    | incrChange => exact event_true_fixed (evIncrChange_fixed s) h
    | durationExpiry => exact event_true_fixed (evDurationExpiry_fixed s) h
    | timeStepEffect => exact event_true_fixed (evTimeStepEffect_fixed s) h
    | gclSwitch port => exact event_true_fixed (evGclSwitch_fixed port s) h
    | ethFrameReceived port bytes sec ns sub => exact event_fixed (evEthFrameReceived_fixed port bytes sec ns sub s) h
    | frameTransmitted port sec ns sub => exact event_fixed (evFrameTransmitted_fixed port sec ns sub s) h
    | netTxTimeout port => exact event_true_fixed (evNetTxTimeout_fixed port s) h
    | ethLinkChange port up speed => exact event_true_fixed (evEthLinkChange_fixed port up speed s) h
    | ethPortUpset port => exact event_true_fixed (evEthPortUpset_fixed port s) h
    | ringCycle => exact event_true_fixed (evRingCycle_fixed s) h
    | timeFrame nb src hops payload => exact frameEvent_fixed (State.repeatFrame_fixed ..) (evTimeFrame_fixed ..) h
    | delayTimer => exact event_true_fixed (evDelayTimer_fixed s) h
    | delayFrame nb response turnaround =>
      exact frameEvent_fixed (w := true) (State.repeatDelay_fixed ..) (evDelayFrame_fixed ..) h
    | heartbeatFrame nb src hops payload => exact frameEvent_fixed (State.repeatFrame_fixed ..) (evHeartbeatFrame_fixed ..) h
    | telemetryFrame nb src hops record => exact frameEvent_fixed (State.repeatFrame_fixed ..) (evTelemetryFrame_fixed ..) h
    | mirrorFrame nb src hops payload => exact frameEvent_fixed (State.repeatFrame_fixed ..) (evMirrorFrame_fixed ..) h
    | fragmentFrame nb src hops payload => exact frameEvent_fixed (State.repeatFrame_fixed ..) (evFragmentFrame_fixed ..) h
    | ringAckFrame nb src hops dest msg result =>
      exact frameEvent_fixed (w := true) (State.repeatFrame_fixed ..) (evRingAckFrame_fixed ..) h
    | nrSendTimeout => exact event_true_fixed (evNrSendTimeout_fixed s) h
    | wakeFrame nb src hops target => exact always_fixed (evWakeFrame_fixed nb src hops target s) h
    | ringFrameDiscard nb => exact event_true_fixed (evRingFrameDiscard_fixed nb s) h
    | nodeLost node => exact event_true_fixed (evNodeLost_fixed node s) h
    | masterElection => exact event_true_fixed (evMasterElection_fixed s) h
    | alignedChange => exact event_true_fixed (evAlignedChange_fixed s) h
    | ringPortUpset nb => exact event_true_fixed (evRingPortUpset_fixed nb s) h
    | ringRelaysEnergise => exact event_true_fixed (evRingRelaysEnergise_fixed s) h
    | ringInserted closed => exact event_true_fixed (evRingInserted_fixed closed s) h
    | ringInsertTimeout => exact event_true_fixed (evRingInsertTimeout_fixed s) h
    | pairingTimeout => exact event_true_fixed (evPairingTimeout_fixed s) h
    | stateTransferDone => exact event_true_fixed (evStateTransferDone_fixed s) h
    | forwardTimeout qp tag => exact event_true_fixed (evForwardTimeout_fixed qp tag s) h
    | handoverCommit b => exact event_true_fixed (evHandoverCommit_fixed b s) h
    | handoverOwn b => exact event_true_fixed (evHandoverOwn_fixed b s) h
    | handoverAbandon => exact event_true_fixed (evHandoverAbandon_fixed s) h
    | standDown g => exact event_true_fixed (evStandDown_fixed g s) h
    | conesRound failed => exact event_true_fixed (evConesRound_fixed failed s) h
    | feedOutOfWindow vfb level => exact always_fixed (evFeedOutOfWindow_fixed vfb level s) h
    | feedReconnect vfb level => exact always_fixed (evFeedReconnect_fixed vfb level s) h
    | powerFail => exact always_fixed (evPowerFail_fixed s) h
    | powerFailEnd => exact always_fixed (evPowerFailEnd_fixed s) h
    | powerOn vfa vfb vhold vbak => exact always_fixed (evPowerOn_fixed vfa vfb vhold vbak s) h
    | resetNLow => exact always_fixed (evResetNLow_fixed s) h
    | resetNRise => exact always_fixed (evResetNRise_fixed s) h
    | bootReady selfTestFails => exact event_true_fixed (evBootReady_fixed selfTestFails s) h
    | readyReturn => exact event_true_fixed (evReadyReturn_fixed s) h
    | sleep => exact event_true_fixed (evSleep_fixed s) h
    | wakePin => exact always_fixed (evWakePin_fixed s) h
    | wakeInterval => exact always_fixed (evWakeInterval_fixed s) h
    | watchConversion code => exact always_fixed (evWatchConversion_fixed code s) h
    | pllLockLoss n => exact event_true_fixed (evPllLockLoss_fixed n s) h
    | pllRelockStart n => exact event_true_fixed (evPllRelockStart_fixed n s) h
    | pllLockDeclared n => exact event_true_fixed (evPllLockDeclared_fixed n s) h
    | pllRelockTimeout n => exact event_true_fixed (evPllRelockTimeout_fixed n s) h
    | pllHoldoverTimeout => exact event_true_fixed (evPllHoldoverTimeout_fixed s) h
    | refSwitchToRing => exact event_true_fixed (evRefSwitchToRing_fixed s) h
    | refClockLoss => exact event_true_fixed (evRefClockLoss_fixed s) h
    | norWriteDone ok => exact event_true_fixed (evNorWriteDone_fixed ok s) h
    | pcieLinkUp rate width => exact event_true_fixed (evPcieLinkUp_fixed rate width s) h
    | quadratureEdge n a b => exact event_true_fixed (evQuadratureEdge_fixed n a b s) h
    | gateControlEntry port => exact event_true_fixed (evGateControlEntry_fixed port s) h
    | ringInsertRetry => exact event_true_fixed (evRingInsertRetry_fixed s) h
    | ptpSyncInterval kind => exact event_true_fixed (evPtpSyncInterval_fixed kind s) h
    | _ => cases hp

/-- The four parts of `State.fixed`. -/
theorem fixed_eq_iff {s t : State} : t.fixed = s.fixed ↔
    t.pending = s.pending ∧ t.variant = s.variant ∧ t.serial = s.serial ∧ t.stepping = s.stepping := by
  simp only [State.fixed, Prod.mk.injEq]

/-- A step takes the front command off the queue and keeps the part. -/
theorem step_fixed {s t : State} (h : step s = .next t) : t.fixed = { s with pending := s.pending.tail }.fixed := by
  unfold step at h
  split at h
  next c rest hq =>
    rw [hq]
    exact exec_fixed h
  next hq =>
    injection h with h
    subst h
    rw [hq]
    exact (State.advanceTo_fixed s _).trans (fixed_eq_iff.mpr ⟨hq, rfl, rfl, rfl⟩)

/-! ### The statements -/

/-- Settles O17: `step_fixed` says it of the queue and the part, and the unit map follows the variant. -/
theorem partNeverChanges : Obligations.PartNeverChanges := by
  intro s t h
  obtain ⟨hpending, hvariant, hserial, hstepping⟩ := fixed_eq_iff.mp (step_fixed h)
  have hmap : t.readReg 4 = s.readReg 4 := by rw [readReg_unitMap, readReg_unitMap, hvariant]
  exact ⟨hvariant, hmap, hserial, hstepping, hpending⟩

/-- Settles O6: check 6 is the first that fails, and its status ends the packet. -/
theorem unfittedTargetIsUnitAbsent : Obligations.UnfittedTargetIsUnitAbsent := by
  intro s i p op hp hop h2 hr hheader hlength htarget hfitted
  exact exec_of_check_fails hp hop h2 hr (check_of_not_fitted true hheader hlength htarget hfitted)

/-- Settles O7: an admitted IDENTIFY has its effect, which answers with the unit map and the number of the variant. -/
theorem identifyAnswersTheUnitMap : Obligations.IdentifyAnswersTheUnitMap := by
  intro s p h
  have hpad := ne_adminPad_of_opcode (i := .identify p) (op := 1) rfl (by decide)
  rw [exec_of_pkt s rfl, packet_admitted 1 rfl hpad h, effect_identify, State.begun_variant, ← readReg_unitMap]
  rfl

/-- Settles O8: the reading is the variant's unit map, and a write at its offset finds no register. -/
theorem genUnitMapIsReadOnly : Obligations.GenUnitMapIsReadOnly := by
  refine ⟨readReg_unitMap State.reset, fun s => ⟨?_, fun hawake v => ?_⟩⟩
  · rw [readReg_unitMap]
    cases s.variant <;> rfl
  · have h := event_awake (evRegisterWrite 4 v) rfl hawake
    rwa [evRegisterWrite_unitMap] at h

/-- Settles O18: the reset state holds an empty queue and the CD-6340, and its unit map is that variant's. -/
theorem partAtReset : Obligations.PartAtReset :=
  ⟨rfl, rfl, rfl, rfl, readReg_unitMap State.reset⟩

end Sys2Proof.Machine
end

section
/-! PROOFS. The control path (01): what each packet of class BRIDGE leaves where its rule lets it act, and what the bridge's own
events leave while they apply. -/

namespace Sys2Proof.Machine

/-! ### Admitted packets and events that apply -/

/-- A packet command that is admitted answers the state its effect leaves. -/
theorem exec_admitted {s u : State} {i : Instr} {p : Pkt} {op : Nat} (hp : i.pkt = some p) (hop : opcodeOf i = some op)
    (h2 : op ≠ 2) (h : s.Admits i p) (he : (s.begun i p).effect (s.ticketOf p) i = u) : exec i s = .next u.rest := by
  rw [exec_of_pkt s hp, packet_admitted op hop (ne_adminPad_of_opcode hop h2) h, he]

/-- An event of an awake device answers the state its effect leaves, and what follows it. -/
theorem event_leaves {s u : State} {f : State → State} (h : s.awake = true) (he : f s = u) :
    event true f s = .next u.finish := by
  rw [event_awake f rfl h, he]

/-! ### The bridge an update leaves -/

theorem modB_modB (s : State) (b : Nat) (f g : Bridge → Bridge) : (s.modB b f).modB b g = s.modB b fun x => g (f x) := by
  simp only [State.modB, vmod_vmod]

/-- A field that an update of a bridge leaves as it is reads as before, whether the bridge exists or not. -/
theorem modB_keeps {α : Type} (field : Bridge → α) {f : Bridge → Bridge} (hf : ∀ x, field (f x) = field x) (s : State)
    (b : Nat) : field ((s.modB b f).bridge b) = field (s.bridge b) := by
  by_cases h : b < 8
  · rw [State.modB_bridge_same s f h, hf]
  · simp [State.bridge, vget, h]

/-- The same of a modulator. -/
theorem modPwm_keeps {α : Type} (field : PwmGen → α) {f : PwmGen → PwmGen} (hf : ∀ x, field (f x) = field x) (s : State)
    (b : Nat) : field ((s.modPwm b f).pwm b) = field (s.pwm b) := by
  by_cases h : b < 8
  · rw [State.modPwm_pwm_same s f h, hf]
  · simp [State.pwm, vget, h]

theorem modPwm_bridge (s : State) (b k : Nat) (f : PwmGen → PwmGen) : (s.modPwm b f).bridge k = s.bridge k := rfl

theorem modLc_bridge (s : State) (c k : Nat) (f : LoopContext → LoopContext) : (s.modLc c f).bridge k = s.bridge k := rfl

/-- An update of a bridge that keeps its definition keeps what its `VDC_SLOT` says of it. -/
theorem vdcReached_modB {f : Bridge → Bridge} (hf : ∀ x, (f x).defn = x.defn) (s : State) (b : Nat) :
    (s.modB b f).vdcReached b = s.vdcReached b := by
  unfold State.vdcReached
  rw [modB_keeps Bridge.defn hf]
  rfl

/-- Zeroing the set-points changes an engine or a context, no bridge. -/
theorem zeroSetpoints_bridge (s : State) (b k : Nat) : (s.zeroSetpoints b).bridge k = s.bridge k := by
  unfold State.zeroSetpoints
  split <;> rfl

/-- A bridge in SAFE does not enter it again (R31). -/
theorem enterSafe_of_safe {s : State} {b : Nat} (cause : Nat) (h : (s.bridge b).state = .safe) : s.enterSafe b cause = s := by
  simp only [State.enterSafe, State.enterSafeWith, h]

/-! ### Setting a bridge up (R19 to R33, R47, R58, R220) -/

/-- Bindings that suit are present where Table 01-3 requires them. -/
theorem bindingsShape_of_bindingsOk {s : State} {b legs : Nat} {r : Role} {lc gf pos : Option Nat}
    (h : s.bindingsOk b r legs lc gf pos = true) : bindingsShape r lc gf = true := by
  unfold State.bindingsOk at h
  cases r with
  | spare => exact h
  | form => cases lc <;> simp_all [bindingsShape]
  | drive | convert => cases lc <;> simp_all [bindingsShape]

/-- BRIDGE_DEFINE with a legal payload (R19 to R22, R220): the links of the old definition are given up, those of the new one
are down, and the modulator starts afresh. -/
theorem effBridgeDefine_legal {s : State} {p : Pkt} {d : BridgeDef} (t : Ticket) (hd : parseDef p.payload = some d)
    (hn : d.links.Nodup)
    (hl : ∀ g ∈ d.links, (s.ownerOf g = none ∨ s.ownerOf g = some p.target.toNat) ∧ g < s.fitLinks ∧
      s.linkRetired g = false) :
    effBridgeDefine t p s =
      (let s1 := s.forEach (s.linksOf p.target.toNat) fun s g => s.modLink g fun l =>
        if l.state = .retired then l else { l with state := .unassigned }
       let s2 := s1.modB p.target.toNat fun br => { br with defn := some d }
       let s3 := s2.forEach d.links fun s g => s.modLink g fun l => { l with state := .down }
       (s3.modPwm p.target.toNat fun w => { w with
          carrier := none, perCfg := 0, dt1 := Vector.replicate 12 64000, dt2 := Vector.replicate 12 64000,
          fall1 := Vector.replicate 12 0, fall2 := Vector.replicate 12 0, bootMask := 0, bootN := 0, bootW := 0 }).ends t
            .done) := by
  unfold effBridgeDefine
  simp only [hd]
  rw [if_neg, if_neg, if_neg]
  · rw [List.any_eq_true]
    rintro ⟨g, hg, hret⟩
    simp [(hl g hg).2.2] at hret
  · rw [List.any_eq_true]
    rintro ⟨g, hg, habs⟩
    exact absurd (hl g hg).2.1 (by simpa using habs)
  · rw [List.any_eq_true]
    rintro (hdup | ⟨g, hg, hown⟩)
    · exact hdup hn
    · obtain e | e := (hl g hg).1 <;> simp [e] at hown

/-- BRIDGE_SET_ROLE that no check of R25 to R29 refuses: the new role is in force, and the boosters'
acknowledgements are awaited. -/
theorem effBridgeSetRole_legal {s : State} {p : Pkt} {d : BridgeDef} {r : Role} {x : SafeState} {i : Bool} (t : Ticket)
    (hfree : (s.bridge p.target.toNat).setRole = none) (hd : (s.bridge p.target.toNat).defn = some d)
    (hr : parseRole (prm p 0) (prm p 1) (prm p 2) = some (r, x, i)) (h3 : prm p 3 = 0) (hz : prmZero p 7 33 = true)
    (hlc : below 24 (opt16 (prm16 p 4)) = true) (hgf : below 4 (opt8 (prm p 6)) = true)
    (habs : s.bindAbsent (opt16 (prm16 p 4)) (opt8 (prm p 6)) = false)
    (helse : s.boundElsewhere p.target.toNat (opt16 (prm16 p 4)) (opt8 (prm p 6)) = false)
    (hok : s.bindingsOk p.target.toNat r d.legs.length (opt16 (prm16 p 4)) (opt8 (prm p 6))
      (s.bridge p.target.toNat).pos = true)
    (hform : r = .form → s.engineSuits (opt16 (prm16 p 4)) (opt8 (prm p 6)) = true)
    (hallow : s.roleAllowed p.target.toNat r x = true) :
    effBridgeSetRole t p s =
      (s.modB p.target.toNat fun br => { br with
        defn := some { d with role := r, safe := x, idleSafe := i }, lc := opt16 (prm16 p 4), gf := opt8 (prm p 6),
        setRole := some { ticket := t, need := d.links, deadline := s.now + msSteps 1,
                          old := some (d, br.lc, br.gf) } }).download p.target.toNat x .setRole := by
  have hshape := bindingsShape_of_bindingsOk hok
  unfold effBridgeSetRole
  simp only [hd, hr]
  rw [if_neg (by simp [h3, hz, hlc, hgf, hshape]), if_neg (by simp [habs]), if_neg (by simp [hok]), if_neg (by simp [hallow]),
    if_neg (by simp [hfree]), if_neg (by simp [helse]), if_neg fun h => h.2 (hform h.1)]

/-- BRIDGE_BIND of units that are free for the bridge (R47). -/
theorem effBridgeBind_legal {s : State} {p : Pkt} (t : Ticket) (hz : prmZero p 0 4 = true) (hz' : prmZero p 8 32 = true)
    (hlc : below 24 (opt16 (prm16 p 4)) = true) (hgf : below 4 (opt8 (prm p 6)) = true)
    (hpos : below 4 (opt8 (prm p 7)) = true) (habs : s.bindAbsent (opt16 (prm16 p 4)) (opt8 (prm p 6)) = false)
    (helse : s.boundElsewhere p.target.toNat (opt16 (prm16 p 4)) (opt8 (prm p 6)) = false) :
    effBridgeBind t p s =
      ((((s.modB p.target.toNat fun br => { br with
        lc := opt16 (prm16 p 4), gf := opt8 (prm p 6), pos := opt8 (prm p 7) }).releaseOld p.target.toNat
          (s.bridge p.target.toNat).lc (s.bridge p.target.toNat).gf).bindUnits p.target.toNat).ends t .done) := by
  unfold effBridgeBind
  rw [if_neg (by simp [hz, hz', hlc, hgf, hpos]), if_neg (by simp [habs]), if_neg (by simp [helse])]

/-- BRIDGE_ARM of a bridge that meets R32, R33, R317 and R600: its links train. -/
theorem effBridgeArm_legal {s : State} {p : Pkt} {d : BridgeDef} (t : Ticket) (hd : (s.bridge p.target.toNat).defn = some d)
    (hok : s.bindingsOk p.target.toNat d.role d.legs.length (s.bridge p.target.toNat).lc (s.bridge p.target.toNat).gf
      (s.bridge p.target.toNat).pos = true)
    (hcarrier : (s.pwm p.target.toNat).carrier ≠ none)
    (hform : d.role = .form → s.engineSuits (s.bridge p.target.toNat).lc (s.bridge p.target.toNat).gf = true)
    (hframes : s.framesSuit p.target.toNat = true) (hmirror : s.mirrorFits = true) (hsource : s.sourceOk p.target.toNat = true)
    (hl : ∀ g ∈ d.links, s.linkRetired g = false) :
    effBridgeArm t p s =
      (s.modB p.target.toNat fun br => { br with
        arming := some { ticket := t, need := d.links, deadline := s.now + msSteps 2 } }).forEach d.links fun u g =>
          u.modLink g fun l => { l with state := .training, fbNext := u.fbRecord p.target.toNat g d.safe } := by
  unfold effBridgeArm
  simp only [hd]
  rw [if_neg, if_neg]
  · rw [List.any_eq_true]
    rintro ⟨g, hg, hret⟩
    simp [hl g hg] at hret
  · have hsuits : ¬ (d.role = .form ∧
        ¬ s.engineSuits (s.bridge p.target.toNat).lc (s.bridge p.target.toNat).gf = true) := fun h => h.2 (hform h.1)
    simpa [hok, hcarrier, hframes, hmirror, hsource] using hsuits

/-- BRIDGE_BIND_IMAGE with offsets that fit the image, if one is loaded (R58, R496). -/
theorem effBridgeBindImage_legal {s : State} {p : Pkt} (t : Ticket) (hcyc : s.hasCycle = true) (hz : prmZero p 18 22 = true)
    (himage : s.cyc.image = [] ∨ spWordsOk s.cyc.image
      (((List.range 8).map fun k => (k, prm16 p (2 * k))).filter fun (w : Nat × Nat) => decide (w.2 ≠ 0xFFFF)) = true) :
    effBridgeBindImage t p s =
      (s.modB p.target.toNat fun br => { br with
        spOfs := Vector.ofFn fun k => BitVec.ofNat 16 (prm16 p (2 * k.val)),
        statusOfs := BitVec.ofNat 16 (prm16 p 16) }).ends t .done := by
  unfold effBridgeBindImage
  rw [if_neg (by simp [hcyc]), if_neg]
  rintro (h | ⟨hne, hbad⟩)
  · exact h hz
  · exact himage.elim hne hbad

/-! ### Running a bridge (R31, R34 to R46) -/

/-- A precharge with a pin or a DC-link slot waits (R36, R38, R39): that the bridge enters PRECHARGE does not change what the
slot says of the voltage. -/
theorem effBridgePrecharge_waits {s : State} {p : Pkt} {d : BridgeDef} (t : Ticket)
    (hd : (s.bridge p.target.toNat).defn = some d) (hstart : s.startAllowed p.target.toNat = true) (hrole : d.role ≠ .spare)
    (hwait : d.preGpio ≠ none ∨ d.vdcSlot ≠ none) :
    effBridgePrecharge t p s =
      (let u := s.undoSetRole p.target.toNat .cancelled
       u.modB p.target.toNat fun br => { br with
        state := .precharge, preGpioOn := d.preGpio.isSome, prechargeDone := false,
        pre := some { ticket := t, since := if u.vdcReached p.target.toNat then some u.now else none,
                      deadline := u.now + msSteps d.preTimeout, timed := d.vdcSlot.isNone } }) := by
  unfold effBridgePrecharge
  simp only [hd]
  rw [if_neg (by simp [hstart]), if_neg hrole, if_neg, modB_modB, vdcReached_modB]
  · rfl
  · exact fun _ => rfl
  · rintro ⟨hpre, hvdc⟩
    exact hwait.elim (· (Option.isNone_iff_eq_none.mp hpre)) (· (Option.isNone_iff_eq_none.mp hvdc))

/-- A precharge with neither pin nor slot is over at once (R38). -/
theorem effBridgePrecharge_atOnce {s : State} {p : Pkt} {d : BridgeDef} (t : Ticket)
    (hd : (s.bridge p.target.toNat).defn = some d) (hstart : s.startAllowed p.target.toNat = true) (hrole : d.role ≠ .spare)
    (hpre : d.preGpio = none) (hvdc : d.vdcSlot = none) :
    effBridgePrecharge t p s =
      (((s.undoSetRole p.target.toNat .cancelled).modB p.target.toNat fun br => { br with
        state := .precharge, preGpioOn := false, prechargeDone := true }).ends t .done) := by
  unfold effBridgePrecharge
  simp only [hd]
  rw [if_neg (by simp [hstart]), if_neg hrole, if_pos (by simp [hpre, hvdc]), modB_modB]
  simp only [hpre, Option.isSome_none]

/-- BRIDGE_START where R34 and R40 allow it: the context and the engine that start are those that the bridge names before it. -/
theorem effBridgeStart_allowed {s : State} {p : Pkt} (t : Ticket) (hstart : s.startAllowed p.target.toNat = true)
    (hpre : (s.bridge p.target.toNat).prechargeDone = true) :
    effBridgeStart t p s =
      (let s1 := (s.modB p.target.toNat fun br => { br with
          state := .running, preGpioOn := false, prechargeDone := false, start := some t }).modPwm
            p.target.toNat fun w => { w with runPeaks := 0 }
       let s2 := match (s.bridge p.target.toNat).lc with
        | some k => s1.modLc k fun c => if c.state = LcState.ready then { c with
            state := .running, samples := 0, sampleAt := (s.pwm p.target.toNat).lastAt, consec := 0, committed := true,
            lastSeq := none, substMask := 0, substSince := none, due := [], xh := c.x0,
            z := c.z0.map fun (q : Q15) => BitVec.ofInt 32 (q.toInt * 0x8000) } else c
        | none => s1
       match (s.bridge p.target.toNat).gf with | some g => s2.enterStarting g | none => s2) := by
  unfold effBridgeStart
  rw [if_neg (by simp [hstart]), if_neg (by simp [hpre])]
  simp only [modPwm_bridge]
  rw [modB_keeps Bridge.lc, modPwm_keeps PwmGen.lastAt]
  · cases (s.bridge p.target.toNat).lc
    all_goals
      simp only [modLc_bridge, modPwm_bridge]
      rewrite [modB_keeps Bridge.gf]
      · rfl
      · exact fun _ => rfl
  all_goals exact fun _ => rfl

/-- Outside PRECHARGE a stop is a ramp (R41, R141). -/
theorem effBridgeStop_ramps {s : State} {p : Pkt} (t : Ticket) (h : (s.bridge p.target.toNat).state ≠ .precharge) :
    effBridgeStop t p s = (s.endStartPhase p.target.toNat).startRamp p.target.toNat [t] := by
  unfold effBridgeStop
  rw [if_neg h]

/-- In PRECHARGE a stop ends the precharge and completes at once (R31, R41). -/
theorem effBridgeStop_precharge {s : State} {p : Pkt} (t : Ticket) (h : (s.bridge p.target.toNat).state = .precharge) :
    effBridgeStop t p s =
      (let s1 := (s.modB p.target.toNat fun br => { br with pre := none }).stopToArmed p.target.toNat
       let s2 := match (s.bridge p.target.toNat).pre with | some w => s1.ends w.ticket .cancelled | none => s1
       s2.ends t .done) := by
  unfold effBridgeStop
  exact if_pos h

/-- BRIDGE_RECOVER where R43 allows it and no recovery is under way. -/
theorem effBridgeRecover_allowed {s : State} {p : Pkt} {d : BridgeDef} (t : Ticket)
    (hd : (s.bridge p.target.toNat).defn = some d) (hallow : s.recoverAllowed p.target.toNat = true)
    (hfree : (s.bridge p.target.toNat).recover = none) :
    effBridgeRecover t p s =
      (s.modB p.target.toNat fun br => { br with
        recover := some { ticket := t, need := d.links, deadline := s.now + msSteps 1 } }).download
          p.target.toNat d.safe .recover := by
  unfold effBridgeRecover
  simp only [hd]
  rw [if_neg (by simp [hallow]), if_neg (by simp [hfree])]

/-! ### Events (R32, R36 to R41, R384) -/

theorem failArm_of_arming {s : State} {b : Nat} {w : AckWait} (h : (s.bridge b).arming = some w) :
    s.failArm b = ((s.modB b fun br => { br with arming := none }).stopLinks b).ends w.ticket .timedOut := by
  simp only [State.failArm, h]

theorem prechargeMet_of_pre {s : State} {b : Nat} {w : PreWait} (h : (s.bridge b).pre = some w) :
    s.prechargeMet b = (s.modB b fun br => { br with pre := none, prechargeDone := true }).ends w.ticket .done := by
  simp only [State.prechargeMet, h]

theorem rampDone_of_stop {s : State} {b : Nat} {w : StopRamp} (h : (s.bridge b).stop = some w) :
    s.rampDone b =
      (let s1 := (((s.zeroSetpoints b).modB b fun br => { br with start := none }).stopToArmed b).endAll w.waiters .done
       match (s.bridge b).start with | some t => s1.ends t .cancelled | none => s1) := by
  cases hstart : (s.bridge b).start with
  | none => simp only [State.rampDone, h, hstart, zeroSetpoints_bridge]
  | some t => simp only [State.rampDone, h, hstart, zeroSetpoints_bridge]

theorem evArmTimeout_of_arming {s : State} {b : Fin 8} {w : AckWait} (h : (s.bridge b).arming = some w) :
    evArmTimeout b s =
      (((s.advanceTo w.deadline).modB b fun br => { br with arming := none }).stopLinks b).ends w.ticket .timedOut := by
  simp only [evArmTimeout, h]
  exact failArm_of_arming h

/-- The output that completes the 5 ms is the one that PRECHARGE_DONE makes ready (R36). -/
theorem evPrechargeDone_of_stood {s : State} {b : Fin 8} {n : Fin 48} {w : PreWait} {d : BridgeDef} {t0 ready : Nat}
    {o : SlotOut} {later : List (SlotOut × Nat)} (hpre : (s.bridge b).pre = some w) (hd : (s.bridge b).defn = some d)
    (hsince : w.since = some t0) (hslot : d.vdcSlot = some n.val) (hnext : (s.slot n).next = (o, ready) :: later)
    (htimed : w.timed = false) (hvalid : o.valid = true) (hlevel : d.preLevel.toInt ≤ o.value.toInt)
    (hstood : t0 + msSteps 5 ≤ ready) : evPrechargeDone b s = evSlotOutputReady n s := by
  simp only [evPrechargeDone, hpre, hd, hsince, hslot]
  rw [dif_pos n.isLt]
  simp [hnext, htimed, hvalid, hlevel, hstood]

theorem evPrechargeTimeout_of_qualifying {s : State} {b : Fin 8} {w : PreWait} (h : (s.bridge b).pre = some w)
    (htimed : w.timed = false) :
    evPrechargeTimeout b s =
      (((s.advanceTo w.deadline).modB b fun br => { br with pre := none }).stopToArmed b).ends w.ticket .timedOut := by
  simp only [evPrechargeTimeout, h]
  rw [if_neg (by simp [htimed])]

theorem evPrechargeTimedDone_of_timed {s : State} {b : Fin 8} {w : PreWait} (h : (s.bridge b).pre = some w)
    (htimed : w.timed = true) :
    evPrechargeTimedDone b s =
      ((s.advanceTo w.deadline).modB b fun br => { br with pre := none, prechargeDone := true }).ends w.ticket .done := by
  simp only [evPrechargeTimedDone, h]
  rw [if_pos htimed]
  exact prechargeMet_of_pre h

theorem evStopRampEnd_of_stop {s : State} {b : Fin 8} {w : StopRamp} (h : (s.bridge b).stop = some w) :
    evStopRampEnd b s = (s.advanceTo w.finish).rampDone b := by
  simp only [evStopRampEnd, h]

theorem evSslLoss_of_beyond {s : State} {b : Fin 8} (hssl : s.sslToggling b = false) (hoff : (s.bridge b).state ≠ .offline)
    (hsafe : (s.bridge b).state ≠ .safe) (hret : (s.bridge b).state ≠ .retired) :
    evSslLoss b s =
      (s.advanceTo (max (vget s.sag.sslEdge b) (s.bridge b).armedAt + usSteps 60)).enterSafe b 0x0810 := by
  unfold evSslLoss
  rw [if_neg (by simp [hssl])]
  split
  · exact absurd ‹_› hoff
  · exact absurd ‹_› hsafe
  · exact absurd ‹_› hret
  · rfl

/-! ### The statements -/

/-- Settles O9: the effect is an entry into SAFE, which a bridge in SAFE does not make. -/
theorem safeInSafeChangesNothing : Obligations.SafeInSafeChangesNothing := by
  intro s p h hsafe
  refine exec_admitted rfl rfl (by decide) h ?_
  exact congrArg (State.ends · (s.ticketOf p) .done) (enterSafe_of_safe 0x0100 hsafe)

/-- Settles O20: one law of the packet's effect each, read in the state in which the packet begins. -/
theorem bridgeSetupPacketsComplete : Obligations.BridgeSetupPacketsComplete := by
  intro s p
  refine ⟨?define, ?setRole, ?bind, ?arm, ?bindImage, ?status⟩
  case define =>
    intro d h hd hn hl
    exact exec_admitted rfl rfl (by decide) h (effBridgeDefine_legal _ hd hn hl)
  case setRole =>
    intro d r x i h hfree hd hr h3 hz hlc hgf habs helse hok hform hallow
    exact exec_admitted rfl rfl (by decide) h
      (effBridgeSetRole_legal _ hfree hd hr h3 hz hlc hgf habs helse hok hform hallow)
  case bind =>
    intro h hz hz' hlc hgf hpos habs helse
    exact exec_admitted rfl rfl (by decide) h (effBridgeBind_legal _ hz hz' hlc hgf hpos habs helse)
  case arm =>
    intro d h hd hok hcarrier hform hframes hmirror hsource hl
    exact exec_admitted rfl rfl (by decide) h
      (effBridgeArm_legal _ hd hok hcarrier hform hframes hmirror hsource hl)
  case bindImage =>
    intro h hcyc hz himage
    exact exec_admitted rfl rfl (by decide) h (effBridgeBindImage_legal _ hcyc hz himage)
  case status =>
    intro h
    exact exec_admitted rfl rfl (by decide) h rfl

/-- Settles O21: one law of the packet's effect each, read in the state in which the packet begins. -/
theorem bridgeRunPacketsComplete : Obligations.BridgeRunPacketsComplete := by
  intro s p
  refine ⟨?disarm, ?precharge, ?prechargeAtOnce, ?start, ?stop, ?stopPrecharge, ?safe, ?recover⟩
  case disarm =>
    intro h
    exact exec_admitted rfl rfl (by decide) h rfl
  case precharge =>
    intro d h hd hstart hrole hwait
    exact exec_admitted rfl rfl (by decide) h (effBridgePrecharge_waits _ hd hstart hrole hwait)
  case prechargeAtOnce =>
    intro d h hd hstart hrole hpre hvdc
    exact exec_admitted rfl rfl (by decide) h (effBridgePrecharge_atOnce _ hd hstart hrole hpre hvdc)
  case start =>
    intro h hstart hpre
    exact exec_admitted rfl rfl (by decide) h (effBridgeStart_allowed _ hstart hpre)
  case stop =>
    intro h hrun
    have hne : (s.bridge p.target.toNat).state ≠ .precharge := by
      obtain e | e := hrun <;> simp [e]
    exact exec_admitted rfl rfl (by decide) h (effBridgeStop_ramps _ hne)
  case stopPrecharge =>
    intro h hpre
    exact exec_admitted rfl rfl (by decide) h (effBridgeStop_precharge _ hpre)
  case safe =>
    intro h
    exact exec_admitted rfl rfl (by decide) h rfl
  case recover =>
    intro d h hd hallow hfree
    exact exec_admitted rfl rfl (by decide) h (effBridgeRecover_allowed _ hd hallow hfree)

/-- Settles O22: one law of the event's effect each; the clock has moved to the event's instant, which leaves the bridge's own
timers as they are. -/
theorem bridgeEventsComplete : Obligations.BridgeEventsComplete := by
  intro s b hawake
  refine ⟨?arm, ?done, ?timeout, ?timed, ?ramp, ?ssl⟩
  case arm =>
    intro w h
    exact event_leaves hawake (evArmTimeout_of_arming h)
  case done =>
    intro w d t0 o ready later n hpre hd hsince hslot hnext htimed hvalid hlevel hstood
    exact event_leaves hawake (evPrechargeDone_of_stood hpre hd hsince hslot hnext htimed hvalid hlevel hstood)
  case timeout =>
    intro w h htimed
    exact event_leaves hawake (evPrechargeTimeout_of_qualifying h htimed)
  case timed =>
    intro w h htimed
    exact event_leaves hawake (evPrechargeTimedDone_of_timed h htimed)
  case ramp =>
    intro w h
    exact event_leaves hawake ((evStopRampEnd_of_stop h).trans (rampDone_of_stop h))
  case ssl =>
    intro hssl hoff hsafe hret
    exact event_leaves hawake (evSslLoss_of_beyond hssl hoff hsafe hret)

end Sys2Proof.Machine
end

section
/-! PROOFS. The grid-forming engine (02, 03): what each packet of class GFE leaves where its rule lets it act, and what the
engine's timers and its contactor's events leave while they apply. -/

namespace Sys2Proof.Machine

/-! ### Packets of class GFE (02 R98 to R114) -/

/-- GF_CONFIG with a block that meets R99 within the budget of R100, on slots in service. -/
theorem effGfConfig_legal {s : State} {p : Pkt} (t : Ticket) (hchecks : gfChecks p.payload = true)
    (hbudget : gfBudgetOk p.payload 0 = true) (hslots : (gfSlots p.payload).any s.slotRetired = false) :
    effGfConfig t p s =
      (s.modGf p.target.toNat fun e => { e with
        config := some p.payload, tunes := [], moves := [], sp := gfSetpoints p.payload, spNext := [], xv := 0, pSet := 0 }).ends
          t .done := by
  unfold effGfConfig
  rw [if_neg (by simp [hchecks]), if_neg (by simp [hbudget]), if_neg (by simp [hslots])]

/-- GF_TUNE of fields that the engine's state lets change (R102 to R104): the change waits for an outer step. -/
theorem effGfTune_legal {s : State} {p : Pkt} (t : Ticket) (hz : zeros p.payload 144 48 = true)
    (hmask : maskOk (slice p.payload 128 16) = true) (hconfig : (s.gf p.target.toNat).config ≠ none)
    (hchecks : gfChecks (tuned (s.gf p.target.toNat).pendingConfig (slice p.payload 0 128) (slice p.payload 128 16)) = true)
    (hbudget : gfBudgetOk (tuned (s.gf p.target.toNat).pendingConfig (slice p.payload 0 128) (slice p.payload 128 16))
      ((s.gf p.target.toNat).fading ||| (s.gf p.target.toNat).pathsInUse) = true)
    (hlimiting : (s.gf p.target.toNat).state = .limiting →
      ([96, 98, 100, 102, 107].any (maskSelects (slice p.payload 128 16))) = false)
    (hstarting : (s.gf p.target.toNat).state = .starting →
      ((List.range 14).any fun k => maskSelects (slice p.payload 128 16) (112 + k)) = false) :
    effGfTune t p s =
      (s.modGf p.target.toNat fun e => { e with
        tunes := e.tunes ++ [(slice p.payload 0 128, slice p.payload 128 16)] }).ends t .done := by
  unfold effGfTune
  rw [if_neg (by simp [hz, hmask, hconfig, hchecks]), if_neg (by simp [hbudget]), if_neg]
  rintro (⟨hst, hany⟩ | ⟨hst, hany⟩)
  · exact absurd hany (by simp [hlimiting hst])
  · exact absurd hany (by simp [hstarting hst])

/-- GF_SETPOINT of values in the range of their channels, on channels that the cycle engine's image does not drive (R61, R93,
R112). -/
theorem effGfSetpoint_legal {s : State} {p : Pkt} (t : Ticket) (h1 : prm p 1 = 0) (hz : prmZero p 18 22 = true)
    (hrange : ∀ v ∈ spValues p,
      ((s.gf p.target.toNat).spRange v.1).1 ≤ v.2.toInt ∧ v.2.toInt ≤ ((s.gf p.target.toNat).spRange v.1).2)
    (himage : ∀ b, s.bridgeOfGf p.target.toNat = some b → ∀ v ∈ spValues p, vget (s.bridge b).spOfs v.1 = 0xFFFF) :
    effGfSetpoint t p s = (s.modGf p.target.toNat fun e => { e with spNext := e.spNext ++ spValues p }).ends t .done := by
  unfold effGfSetpoint
  rw [if_neg, if_neg]
  · rw [List.any_eq_true]
    rintro ⟨v, hv, himg⟩
    cases hb : s.bridgeOfGf p.target.toNat with
    | none => simp [hb] at himg
    | some b => simp [hb, himage b hb v hv] at himg
  · rintro (hne | hnz | hout)
    · exact hne h1
    · exact hnz hz
    · obtain ⟨v, hv, hbad⟩ := List.any_eq_true.mp hout
      obtain ⟨hlow, hhigh⟩ := hrange v hv
      simp only [Bool.or_eq_true, decide_eq_true_eq] at hbad
      omega

/-- GF_SECONDARY with both terms and the validity in their ranges (R94, R113). -/
theorem effGfSecondary_legal {s : State} {p : Pkt} (t : Ticket) (hp : -8192 ≤ (prmQ p 0).toInt)
    (hp' : (prmQ p 0).toInt ≤ 8192) (he : -1638 ≤ (prmQ p 2).toInt) (he' : (prmQ p 2).toInt ≤ 1638) (hms : 10 ≤ prm16 p 4)
    (hms' : prm16 p 4 ≤ 60000) (hz : prmZero p 6 34 = true) :
    effGfSecondary t p s =
      (s.modGf p.target.toNat fun e => { e with
        secNext := some (prmQ p 0, prmQ p 2, s.now + msSteps (prm16 p 4)), secExpired := false }).ends t .done := by
  unfold effGfSecondary
  rw [if_neg]
  simp only [not_or, not_lt]
  exact ⟨hp, hp', he, he', hms, hms', not_not_intro hz⟩

/-- GF_STATUS of a selector that exists (R114). -/
theorem effGfStatus_legal {s : State} {p : Pkt} (t : Ticket) (h : prm p 0 ≤ 2) :
    effGfStatus t p s = s.answer t
      { r0 := ((s.gf p.target.toNat).words (prm p 0)).1, r1 := ((s.gf p.target.toNat).words (prm p 0)).2 } := by
  unfold effGfStatus
  rw [if_neg (by omega)]

/-! ### Outer samples and the limits of an engine (02 R68, R73, R74, R84, R87, R94) -/

/-- The outer sample that is due runs on a configured engine, unless the handover of its bridge has frozen it (R68, R602). -/
theorem evGfOuterStep_of_due {s : State} {g : Fin 4} {tn : Nat} (hdue : s.outerDue g = some tn)
    (hconfig : (s.gf g).config ≠ none) (hthaw : ∀ b, s.bridgeOfGf g = some b → s.frozenBridge b = false) :
    evGfOuterStep g s = s.outerStep g tn := by
  simp only [evGfOuterStep, hdue]
  refine if_neg ?_
  rintro (hnone | hfrozen)
  · exact hconfig (Option.isNone_iff_eq_none.mp hnone)
  · cases hb : s.bridgeOfGf g with
    | none => simp [hb] at hfrozen
    | some b => simp [hb, hthaw b hb] at hfrozen

theorem evGfLimitRelease_of_below {s : State} {g : Fin 4} {t0 : Nat} (hbelow : (s.gf g).belowSince = some t0)
    (hlimiting : (s.gf g).state = .limiting) :
    evGfLimitRelease g s = (s.advanceTo ((s.gf g).outerAt (t0 + msSteps ((s.gf g).c16 104)))).releaseLimit g := by
  simp only [evGfLimitRelease, hbelow]
  exact if_pos hlimiting

/-- With i_pk not below its release level no release is near, so the time-out is a fault (R87). -/
theorem evGfRtTimeout_of_not_below {s : State} {g : Fin 4} (hlimiting : (s.gf g).state = .limiting)
    (hbelow : (s.gf g).belowSince = none) :
    evGfRtTimeout g s =
      (s.advanceTo ((s.gf g).outerAt ((s.gf g).limAt + msSteps ((s.gf g).c16 108)))).gfFault g 0x0202 := by
  simp only [evGfRtTimeout, hbelow]
  exact if_neg (not_not_intro hlimiting)

theorem evGfWFault_of_clamped {s : State} {g : Fin 4} {t0 : Nat} (hclamp : (s.gf g).clampSince = some t0)
    (hstate : (s.gf g).state = .starting ∨ (s.gf g).state = .forming ∨ (s.gf g).state = .limiting) :
    evGfWFault g s = (s.advanceTo (t0 + msSteps ((s.gf g).c16 110))).gfFault g 0x0203 := by
  simp only [evGfWFault, hclamp]
  exact if_pos hstate

theorem evSecExpired_of_valid {s : State} {g : Fin 4} {t0 : Nat} (h : (s.gf g).secUntil = some t0) :
    evSecExpired g s = (s.advanceTo t0).modGf g fun e => { e with secUntil := none, secExpired := true } := by
  simp only [evSecExpired, h]

/-! ### Timers of the start phases (03 R122, R130, R133, R135, R138) -/

theorem evDeadBusSet_of_dead {s : State} {g : Fin 4} {t0 : Nat} (hdead : (s.gf g).deadSince = some t0)
    (hunset : (s.gf g).deadBus = false) (hstate : (s.gf g).state = .tracking ∨ (s.gf g).state = .starting) :
    evDeadBusSet g s = (s.advanceTo (t0 + msSteps ((s.gf g).c16 116))).setDeadBus g := by
  simp only [evDeadBusSet, hdead]
  exact if_neg fun h => h.elim (by simp [hunset]) (· hstate)

theorem evHoldoffEnd_of_holdoff {s : State} {g : Fin 4} (h : (s.gf g).phase = .holdoff) :
    evHoldoffEnd g s = (s.advanceTo ((s.gf g).phaseAt + usSteps (s.gf g).holdoff.toNat)).holdoffDone g :=
  if_pos h

theorem evWaitLiveQualified_of_ok {s : State} {g : Fin 4} {t0 : Nat} (hok : (s.gf g).okSince = some t0)
    (hphase : (s.gf g).phase = .waitLive) :
    evWaitLiveQualified g s = (s.advanceTo (t0 + msSteps 20)).enterPhase g .presync := by
  simp only [evWaitLiveQualified, hok]
  exact if_pos hphase

theorem evJoinWindowsQualified_of_ok {s : State} {g : Fin 4} {t0 : Nat} (hok : (s.gf g).okSince = some t0)
    (hphase : (s.gf g).phase = .presync) :
    evJoinWindowsQualified g s = (s.advanceTo (t0 + msSteps 20)).closeLive g := by
  simp only [evJoinWindowsQualified, hok]
  exact if_pos hphase

theorem evRetryWaitEnd_of_retryWait {s : State} {g : Fin 4} (h : (s.gf g).phase = .retryWait) :
    evRetryWaitEnd g s = (s.advanceTo ((s.gf g).phaseAt + secSteps 1)).takePath g :=
  if_pos h

/-! ### The contactor of an engine (03 R121, R131, R136, R138 to R140, R144) -/

/-- The engine once its feedback is noted: state, phase and `BUSSLOT` are as they were (R116, R118). -/
theorem modGf_joinFb_keeps (s : State) (g : Fin 4) (on : Bool) :
    let e := (s.modGf g fun e => { e with joinFb := on }).gf g
    e.state = (s.gf g).state ∧ e.phase = (s.gf g).phase ∧ e.hasBus = (s.gf g).hasBus := by
  rw [State.modGf_gf_same s _ g.isLt]
  exact ⟨rfl, rfl, rfl⟩

/-- The feedback that rises in CLOSE_DEAD starts the ramp of a dead bus (R131). -/
theorem evJoinFbRise_closeDead {s : State} {g : Fin 4} (hmap : s.fbMapped g = true) (hstate : (s.gf g).state = .starting)
    (hphase : (s.gf g).phase = .closeDead) :
    evJoinFbRise g s = (s.modGf g fun e => { e with joinFb := true }).rampFromDead g := by
  obtain ⟨-, ephase, -⟩ := modGf_joinFb_keeps s g true
  unfold evJoinFbRise
  rw [if_neg (not_not_intro hmap), if_neg (by simp [hstate]), ephase, hphase]

/-- In CLOSE_LIVE the same feedback starts the ramp of a live bus (R136). -/
theorem evJoinFbRise_closeLive {s : State} {g : Fin 4} (hmap : s.fbMapped g = true) (hstate : (s.gf g).state = .starting)
    (hphase : (s.gf g).phase = .closeLive) :
    evJoinFbRise g s = (s.modGf g fun e => { e with joinFb := true }).rampFromLive g := by
  obtain ⟨-, ephase, -⟩ := modGf_joinFb_keeps s g true
  unfold evJoinFbRise
  rw [if_neg (not_not_intro hmap), if_neg (by simp [hstate]), ephase, hphase]

theorem evJoinFbFall_ramp {s : State} {g : Fin 4} (hmap : s.fbMapped g = true) (hstate : (s.gf g).state = .starting)
    (hphase : (s.gf g).phase = .ramp) (hbus : (s.gf g).hasBus = true) :
    evJoinFbFall g s = (s.modGf g fun e => { e with joinFb := false }).enterPhase g .retryWait := by
  obtain ⟨estate, ephase, ebus⟩ := modGf_joinFb_keeps s g false
  unfold evJoinFbFall
  rw [if_neg (not_not_intro hmap), if_neg (not_not_intro (ebus.trans hbus)), if_pos ⟨estate.trans hstate, ephase.trans hphase⟩]

theorem evJoinFbFall_forming {s : State} {g : Fin 4} (hmap : s.fbMapped g = true) (hstate : (s.gf g).state = .forming)
    (hbus : (s.gf g).hasBus = true) :
    evJoinFbFall g s = (s.modGf g fun e => { e with joinFb := false }).detach g := by
  obtain ⟨estate, -, ebus⟩ := modGf_joinFb_keeps s g false
  unfold evJoinFbFall
  rw [if_neg (not_not_intro hmap), if_neg (not_not_intro (ebus.trans hbus)), if_neg (by simp [hstate]),
    if_pos (.inl (estate.trans hstate))]

theorem evContactorAssumedClosed_of_requested {s : State} {g : Fin 4} (hreq : (s.gf g).joinReq = true)
    (hmap : s.fbMapped g = false) (hphase : (s.gf g).phase = .closeDead ∨ (s.gf g).phase = .closeLive) :
    evContactorAssumedClosed g s =
      ((s.advanceTo ((s.gf g).joinReqAt + msSteps 100)).modGf g fun e => { e with taken := true }).contactorClosed g :=
  if_pos ⟨hreq, by simp [hmap], hphase⟩

theorem evContactorTimeout_of_open {s : State} {g : Fin 4} (hreq : (s.gf g).joinReq = true) (hopen : s.gfClosed g = false)
    (hphase : (s.gf g).phase = .closeDead ∨ (s.gf g).phase = .closeLive) :
    evContactorTimeout g s = (s.advanceTo ((s.gf g).joinReqAt + msSteps 500)).enterPhase g .retryWait :=
  if_pos ⟨hreq, by simp [hopen], hphase⟩

theorem evDetachment_of_away {s : State} {g : Fin 4} {t0 : Nat} (haway : (s.gf g).awaySince = some t0)
    (hbus : (s.gf g).hasBus = true) (hmap : s.fbMapped g = false)
    (hstate : (s.gf g).state = .forming ∨ (s.gf g).state = .limiting) :
    evDetachment g s = (s.advanceTo (t0 + msSteps 20)).detach g := by
  simp only [evDetachment, haway]
  exact if_pos ⟨hbus, by simp [hmap], hstate⟩

/-! ### The statements -/

/-- Settles O30: one law of the packet's effect each, read in the state in which the packet begins. -/
theorem gfPacketsComplete : Obligations.GfPacketsComplete := by
  intro s p
  refine ⟨?config, ?tune, ?setpoint, ?secondary, ?status⟩
  case config =>
    intro h hchecks hbudget hslots
    exact exec_admitted rfl rfl (by decide) h (effGfConfig_legal _ hchecks hbudget hslots)
  case tune =>
    intro h hz hmask hconfig hchecks hbudget hlimiting hstarting
    exact exec_admitted rfl rfl (by decide) h
      (effGfTune_legal _ hz hmask hconfig hchecks hbudget hlimiting hstarting)
  case setpoint =>
    intro h h1 hz hrange himage
    exact exec_admitted rfl rfl (by decide) h (effGfSetpoint_legal _ h1 hz hrange himage)
  case secondary =>
    intro h hp hp' he he' hms hms' hz
    exact exec_admitted rfl rfl (by decide) h (effGfSecondary_legal _ hp hp' he he' hms hms' hz)
  case status =>
    intro h hsel
    exact exec_admitted rfl rfl (by decide) h (effGfStatus_legal _ hsel)

/-- Settles O31: one law of the event's effect each; an outer step also feeds the capture rows that wait for its values. -/
theorem gfEventsComplete : Obligations.GfEventsComplete := by
  refine ⟨fun s g hawake => ⟨?outer, ?release, ?rtTimeout, ?wFault, ?secondary, ?dead, ?holdoff, ?live, ?windows, ?retry⟩,
    fun s g hawake => ⟨?riseDead, ?riseLive, ?fallRamp, ?fallForming, ?assumed, ?contactor, ?detachment⟩⟩
  case outer =>
    intro tn hdue hconfig hthaw
    exact event_leaves hawake (congrArg State.capPoll (evGfOuterStep_of_due hdue hconfig hthaw))
  case release =>
    intro t0 hbelow hlimiting
    exact event_leaves hawake (evGfLimitRelease_of_below hbelow hlimiting)
  case rtTimeout =>
    intro hlimiting hbelow
    exact event_leaves hawake (evGfRtTimeout_of_not_below hlimiting hbelow)
  case wFault =>
    intro t0 hclamp hstate
    exact event_leaves hawake (evGfWFault_of_clamped hclamp hstate)
  case secondary =>
    intro t0 h
    exact event_leaves hawake (evSecExpired_of_valid h)
  case dead =>
    intro t0 hdead hunset hstate
    exact event_leaves hawake (evDeadBusSet_of_dead hdead hunset hstate)
  case holdoff =>
    intro h
    exact event_leaves hawake (evHoldoffEnd_of_holdoff h)
  case live =>
    intro t0 hok hphase
    exact event_leaves hawake (evWaitLiveQualified_of_ok hok hphase)
  case windows =>
    intro t0 hok hphase
    exact event_leaves hawake (evJoinWindowsQualified_of_ok hok hphase)
  case retry =>
    intro h
    exact event_leaves hawake (evRetryWaitEnd_of_retryWait h)
  case riseDead =>
    intro hmap hstate hphase
    exact event_leaves hawake (evJoinFbRise_closeDead hmap hstate hphase)
  case riseLive =>
    intro hmap hstate hphase
    exact event_leaves hawake (evJoinFbRise_closeLive hmap hstate hphase)
  case fallRamp =>
    intro hmap hstate hphase hbus
    exact event_leaves hawake (evJoinFbFall_ramp hmap hstate hphase hbus)
  case fallForming =>
    intro hmap hstate hbus
    exact event_leaves hawake (evJoinFbFall_forming hmap hstate hbus)
  case assumed =>
    intro hreq hmap hphase
    exact event_leaves hawake (evContactorAssumedClosed_of_requested hreq hmap hphase)
  case contactor =>
    intro hreq hopen hphase
    exact event_leaves hawake (evContactorTimeout_of_open hreq hopen hphase)
  case detachment =>
    intro t0 haway hbus hmap hstate
    exact event_leaves hawake (evDetachment_of_away haway hbus hmap hstate)

end Sys2Proof.Machine
end

section
/-! PROOFS. The loop engines and their modulators (04, 05): what each packet of class LOOP leaves where its rule lets it act, and
what samples, carrier events and trip sources leave while they apply. -/

namespace Sys2Proof.Machine

/-! ### A context is configured and loaded (04 R162 to R177, R206) -/

/-- The context that LOOP_CONFIG leaves (R166): the place on its engine, the set-points and the counters stay. -/
def State.configuredLc (s : State) (p : Pkt) : LoopContext :=
  let o := s.lc p.target.toNat
  { state := .loaded, host := o.host, config := p.payload, r := o.r, spNext := o.spNext, satCount := o.satCount,
    overruns := o.overruns, cycMost := o.cycMost }

/-- LOOP_CONFIG with a block that meets R165 within the budget of R185, on sources in service. -/
theorem effLoopConfig_legal {s : State} {p : Pkt} (t : Ticket) (hok : (s.configuredLc p).configOk = true)
    (hload : s.engineLoad (s.lc p.target.toNat).host (some p.target.toNat) + s.lcLoad p.target.toNat (s.configuredLc p) ≤
      loopBudget)
    (hsrc : ∀ i < 16, s.srcRetired ((s.configuredLc p).msrc i) = false) :
    effLoopConfig t p s = (s.modLc p.target.toNat fun _ => s.configuredLc p).ends t .done := by
  have hserve : ¬ ((List.range 16).any fun i => s.srcRetired ((s.configuredLc p).msrc i)) = true := by
    simpa using hsrc
  exact (if_neg (not_not_intro hok)).trans ((if_neg (not_lt.mpr hload)).trans (if_neg hserve))

/-- LOOP_COEF_LOAD of words within the bank, with no swap pending (R168). -/
theorem effLoopCoefLoad_legal {s : State} {p : Pkt} (t : Ticket) (hn : prm16 p 2 ≠ 0) (hfits : prm16 p 0 + prm16 p 2 ≤ 1336)
    (hz : prmZero p 4 36 = true) (hlen : p.len.toNat = pad64 (2 * prm16 p 2))
    (hfree : (s.lc p.target.toNat).coefSwap = none) :
    effLoopCoefLoad t p s =
      (s.modLc p.target.toNat fun c => { c with
        bank := vmod c.bank (other c.active) (cellsWrite 0 (prm16 p 0) (wordsOf p.payload (prm16 p 2))) }).ends t .done := by
  unfold effLoopCoefLoad
  dsimp only
  rw [if_neg (by simp [hn, hfits, hz]), if_neg (not_not_intro hlen), if_neg (by simp [hfree])]

/-- A LOOP_COEF_SWAP that R169 does not refuse comes to the one question whether the context runs (R170). -/
theorem effLoopCoefSwap_legal {s : State} {p : Pkt} (t : Ticket) (hfree : (s.lc p.target.toNat).coefSwap = none)
    (hmode : prm p 0 ≤ 1) (hz : prmZero p 1 3 = true) (hz' : prmZero p 8 32 = true)
    (hcrc : prm32 p 4 = bankCrc 1336 (vget (s.lc p.target.toNat).bank (other (s.lc p.target.toNat).active)))
    (hlimits : (s.lc p.target.toNat).limitsOk (other (s.lc p.target.toNat).active) = true) :
    effLoopCoefSwap t p s =
      if (s.lc p.target.toNat).state = .running then
        s.modLc p.target.toNat fun c => { c with
          coefSwap := some { ticket := t, bumpless := decide (prm p 0 = 1), armed := false } }
      else s.finishCoef p.target.toNat t false s.dtbNs := by
  unfold effLoopCoefSwap
  dsimp only
  rw [if_neg (by simp [hfree]), if_neg (by simp [hmode, hz, hz']), if_neg (not_not_intro hcrc),
    if_neg (not_not_intro hlimits)]

/-- LOOP_TABLE_LOAD of words within the table, with no swap pending (R176). -/
theorem effLoopTableLoad_legal {s : State} {p : Pkt} (t : Ticket) (htable : prm p 0 ≤ 1) (hone : prm p 1 = 0)
    (hn : prm16 p 4 ≠ 0) (hfits : prm16 p 2 + prm16 p 4 ≤ 1024) (hz : prmZero p 6 34 = true)
    (hlen : p.len.toNat = pad64 (2 * prm16 p 4)) (hfree : (s.lc p.target.toNat).tabSwap = []) :
    effLoopTableLoad t p s =
      (s.modLc p.target.toNat fun c =>
        if prm p 0 = 0 then
          { c with fric := vmod c.fric (other c.fricAct) (cellsWrite 0 (prm16 p 2) (wordsOf p.payload (prm16 p 4))) }
        else
          { c with cogg := vmod c.cogg (other c.coggAct) (cellsWrite 0 (prm16 p 2) (wordsOf p.payload (prm16 p 4))) }).ends
        t .done := by
  unfold effLoopTableLoad
  dsimp only
  rw [if_neg (by simp [htable, hone, hn, hfits, hz]), if_neg (not_not_intro hlen), if_neg (by simp [hfree])]

/-- In RUNNING a LOOP_TABLE_SWAP with the CRC of every bank it selects waits for a sample boundary (R177). -/
theorem effLoopTableSwap_running {s : State} {p : Pkt} (t : Ticket) (hmask : prm p 0 ≤ 3) (hz : prmZero p 1 3 = true)
    (hz' : prmZero p 12 28 = true)
    (hfric : (prm p 0).testBit 0 = true →
      prm32 p 4 = bankCrc 1024 (vget (s.lc p.target.toNat).fric (other (s.lc p.target.toNat).fricAct)))
    (hcogg : (prm p 0).testBit 1 = true →
      prm32 p 8 = bankCrc 1024 (vget (s.lc p.target.toNat).cogg (other (s.lc p.target.toNat).coggAct)))
    (hfree : ∀ w ∈ (s.lc p.target.toNat).tabSwap, w.2 &&& prm p 0 = 0) (hrun : (s.lc p.target.toNat).state = .running) :
    effLoopTableSwap t p s =
      s.modLc p.target.toNat fun c => { c with tabSwap := c.tabSwap ++ [(t, prm p 0)] } := by
  unfold effLoopTableSwap
  dsimp only
  rw [if_neg, if_neg, if_pos hrun]
  · rw [List.any_eq_true]
    rintro ⟨w, hw, hpending⟩
    exact of_decide_eq_true hpending (hfree w hw)
  · rintro (hwide | hnz | hnz | ⟨hbit, hne⟩ | ⟨hbit, hne⟩)
    · exact absurd hmask (not_le.mpr hwide)
    · exact hnz hz
    · exact hnz hz'
    · exact hne (hfric hbit)
    · exact hne (hcogg hbit)

/-- LOOP_STATE_SET with zeros behind its values (R206). -/
theorem effLoopStateSet_legal {s : State} {p : Pkt} (t : Ticket) (hz : zeros p.payload 48 16 = true) :
    effLoopStateSet t p s =
      (s.modLc p.target.toNat fun c => { c with
        x0 := Vector.ofFn fun i => q15At p.payload (2 * i.val),
        z0 := Vector.ofFn fun j => q15At p.payload (32 + 2 * j.val) }).ends t .done :=
  if_neg (not_not_intro hz)

/-! ### A context in use (04 R192, R197 to R210) -/

/-- LOOP_SETPOINT of a context that no FORM bridge holds, on channels that the cycle engine's image does not drive (R61,
R202). -/
theorem effLoopSetpoint_legal {s : State} {p : Pkt} (t : Ticket) (hone : prm p 1 = 0) (hz : prmZero p 18 22 = true)
    (hbridge : ∀ b, s.bridgeOfLc p.target.toNat = some b →
      s.role b ≠ some .form ∧ ∀ v ∈ spValues p, vget (s.bridge b).spOfs v.1 = 0xFFFF) :
    effLoopSetpoint t p s =
      (s.modLc p.target.toNat fun c => { c with spNext := c.spNext ++ spValues p }).ends t .done := by
  unfold effLoopSetpoint
  dsimp only
  rw [if_neg (by simp [hone, hz])]
  cases hb : s.bridgeOfLc p.target.toNat with
  | none => rfl
  | some b =>
    obtain ⟨hrole, himage⟩ := hbridge b hb
    refine if_neg ?_
    rintro (hform | hany)
    · exact hrole hform
    · obtain ⟨v, hv, hdriven⟩ := List.any_eq_true.mp hany
      exact of_decide_eq_true hdriven (himage v hv)

/-- A LOOP_SUBST in RUNNING: the source is noted for the next sample boundary, and the packet completes (R192; that it
completes at its acceptance is log 15). -/
theorem effLoopSubst_running {s : State} {p : Pkt} (t : Ticket) (hinput : prm p 0 < (s.lc p.target.toNat).nm)
    (hsrc : msrcOk (prm p 1) = true) (hz : prmZero p 2 38 = true) (hserve : s.srcRetired (prm p 1) = false)
    (hlc : p.target.toNat < 24) (hrun : (s.lc p.target.toNat).state = .running) :
    effLoopSubst t p s =
      (s.modLc p.target.toNat fun c => { c with
        substNext := c.substNext ++ [(prm p 0, BitVec.ofNat 8 (prm p 1))] }).ends t .done := by
  unfold effLoopSubst
  dsimp only
  rw [if_neg (by simp [hinput, hsrc, hz]), if_neg (by simp [hserve]), State.modLc_lc_same s _ hlc, if_pos hrun]

/-- LOOP_INJECT of a signal in the ranges of Table 04-10, where none runs (R197, R200). -/
theorem effLoopInject_legal {s : State} {p : Pkt} (t : Ticket) (hen : (s.lc p.target.toNat).injEn = true)
    (hfree : (s.lc p.target.toNat).inj = none) (hok : injectOk p (s.lc p.target.toNat) = true) :
    effLoopInject t p s =
      s.modLc p.target.toNat fun c => { c with
        inj := some { ticket := t, kind := prm p 0, point := prm p 1, entry := prm p 2, order := prm p 3, ampl := prmQ p 4,
                      chip := prm16 p 6, f0 := prm32 p 8, f1 := prm32 p 12, length := prm32 p 16, lfsr := 2 ^ prm p 3 - 1,
                      k := 0, first := none, from_ := p.notBefore.toNat } } := by
  unfold effLoopInject
  dsimp only
  rw [if_neg (not_not_intro hen), if_neg (by simp [hfree]), if_neg (not_not_intro hok)]

/-- LOOP_INJECT_STOP of an injection that runs: its own packet is cancelled (R201, R208). -/
theorem effLoopInjectStop_of_inj {s : State} {p : Pkt} {j : Injection} (t : Ticket)
    (h : (s.lc p.target.toNat).inj = some j) :
    effLoopInjectStop t p s =
      ((s.modLc p.target.toNat fun c => { c with inj := none, injVal := 0 }).ends j.ticket .cancelled).ends t .done := by
  simp only [effLoopInjectStop, h]

/-- LOOP_STATUS of a selector that exists; selector 0 also clears the sticky flags (R210). -/
theorem effLoopStatus_legal {s : State} {p : Pkt} (t : Ticket) (hsel : prm p 0 ≤ 2) (hz : prmZero p 1 39 = true) :
    effLoopStatus t p s =
      (if prm p 0 = 0 then
        s.modLc p.target.toNat fun c => { c with swapClipped := false, modSat := false, vdcLow := false }
       else s).answer t
        { r0 := (s.loopWords p.target.toNat (prm p 0)).1, r1 := (s.loopWords p.target.toNat (prm p 0)).2 } := by
  unfold effLoopStatus
  rw [if_neg (by simp [hsel, hz])]

/-! ### Samples, the substitution timer and injections (04 R159, R160, R186, R187, R190, R201) -/

/-- On a bridge of another role than FORM no hand-off record is judged: the sample is its boundary, then its run. -/
theorem sampleNow_of_not_form {s : State} {k b : Nat} {d : DueSample} (hrole : (s.boundary k b d.ns).role b ≠ some .form)
    (hrun : ((s.boundary k b d.ns).lc k).state = .running) :
    s.sampleNow k b d = (s.boundary k b d.ns).runSample k b d := by
  unfold State.sampleNow
  dsimp only
  split
  next hform _ => exact absurd hform hrole
  next => exact if_pos hrun

theorem evLoopSample_in_time {s : State} {k : Fin 24} {b : Nat} {d : DueSample} (hdue : s.sampleDue k = some (b, d))
    (htime : s.now ≤ s.deadline b d) : evLoopSample k s = s.sampleNow k b d := by
  simp only [evLoopSample, hdue]
  exact if_neg (not_lt.mpr htime)

theorem evLoopSample_late {s : State} {k : Fin 24} {b : Nat} {d : DueSample} (hdue : s.sampleDue k = some (b, d))
    (hlate : s.deadline b d < s.now) : evLoopSample k s = s.abandon k := by
  simp only [evLoopSample, hdue]
  exact if_pos hlate

/-- The oldest sample due is abandoned at its deadline, and counts as an overrun (R186, R187). -/
theorem abandon_of_due {s : State} {k b : Nat} {d : DueSample} (hdue : s.sampleDue k = some (b, d)) :
    s.abandon k =
      (let s1 := ((s.advanceTo (s.deadline b d)).boundary k b d.ns).modLc k fun c => { c with
         overruns := satCount (c.overruns + 1), consec := c.consec + 1, lastOverran := true, samples := c.samples + 1,
         sampleAt := d.at_, sampleNs := d.ns, due := c.due.tail }
       if (s1.lc k).ovrLimit ≤ (s1.lc k).consec then s1.enterSafe b 0x0301 else s1) := by
  simp only [State.abandon, hdue]

theorem evSubstTimeout_of_since {s : State} {k : Fin 24} {t0 b : Nat} (hsince : (s.lc k).substSince = some t0)
    (hbridge : s.bridgeOfLc k = some b) (hrun : (s.lc k).state = .running) :
    evSubstTimeout k s = (s.advanceTo (t0 + msSteps (s.lc k).substTime)).enterSafe b 0x0302 := by
  simp only [evSubstTimeout, hsince, hbridge]
  exact if_pos hrun

theorem evInjectionEnd_of_total {s : State} {k : Fin 24} {j : Injection} (hinj : (s.lc k).inj = some j)
    (htotal : j.total (s.lc k).fs ≤ j.k) :
    evInjectionEnd k s =
      (s.modLc k fun c => { c with inj := none, injVal := 0 }).doneAt j.ticket (j.first.getD s.dtbNs) := by
  simp only [evInjectionEnd, hinj]
  exact if_pos htotal

/-! ### Carrier events and trip sources (05 R212 to R218, R230, R239, R242) -/

/-- A carrier event of a running carrier is the modulator's, then a measurement instant of what samples on it. -/
theorem carrierThen_of_running {s : State} {b : Fin 8} (h : (s.pwm b).running = true) :
    carrierThen b s = (((evCarrierEvent b (s.expireSamples b)).latchSample b).latchOuter b).capTick b :=
  if_pos h

/-- A pin's source becomes active whatever stood before (R242). -/
theorem evTripSourceActive_pin {s : State} {src : Fin 16} (h : src.val < 8) :
    evTripSourceActive src s = (s.modTrip src fun t => { t with pin := t.pol, active := t.en }).tripActive src :=
  if_pos h

/-- A comparator's becomes active once its condition is met (R239, R242). -/
theorem evTripSourceActive_comparator {s : State} {src : Fin 16} (h : 8 ≤ src.val) (hmet : s.tripMet src = true) :
    evTripSourceActive src s = s.tripActive src :=
  (if_neg (not_lt.mpr h)).trans (if_pos hmet)

/-! ### The statements -/

/-- Settles O32: one law of the packet's effect each, read in the state in which the packet begins. -/
theorem loopSetupPacketsComplete : Obligations.LoopSetupPacketsComplete := by
  intro s p
  refine ⟨?config, ?coefLoad, ?coefSwapRunning, ?coefSwapAtOnce, ?tableLoad, ?tableSwap, ?stateSet⟩
  case config =>
    intro c h hc hok hload hsrc
    obtain rfl : c = s.configuredLc p := hc
    exact exec_admitted rfl rfl (by decide) h
      (effLoopConfig_legal _ hok hload fun i hi => (State.begun_srcRetired ..).trans (hsrc i hi))
  case coefLoad =>
    intro h hn hfits hz hlen hfree
    exact exec_admitted rfl rfl (by decide) h (effLoopCoefLoad_legal _ hn hfits hz hlen hfree)
  case coefSwapRunning =>
    intro h hfree hmode hz hz' hcrc hlimits hrun
    exact exec_admitted rfl rfl (by decide) h
      ((effLoopCoefSwap_legal (s := s.begun (.loopCoefSwap p) p) _ hfree hmode hz hz' hcrc hlimits).trans (if_pos hrun))
  case coefSwapAtOnce =>
    intro h hfree hmode hz hz' hcrc hlimits hrun
    exact exec_admitted rfl rfl (by decide) h
      ((effLoopCoefSwap_legal (s := s.begun (.loopCoefSwap p) p) _ hfree hmode hz hz' hcrc hlimits).trans (if_neg hrun))
  case tableLoad =>
    intro h htable hone hn hfits hz hlen hfree
    exact exec_admitted rfl rfl (by decide) h (effLoopTableLoad_legal _ htable hone hn hfits hz hlen hfree)
  case tableSwap =>
    intro h hmask hz hz' hfric hcogg hfree hrun
    exact exec_admitted rfl rfl (by decide) h (effLoopTableSwap_running _ hmask hz hz' hfric hcogg hfree hrun)
  case stateSet =>
    intro h hz
    exact exec_admitted rfl rfl (by decide) h (effLoopStateSet_legal _ hz)

/-- Settles O33: one law of the packet's effect each, read in the state in which the packet begins; an unload only names the
context empty, and keeps its place and its counters (log 64). -/
theorem loopRunPacketsComplete : Obligations.LoopRunPacketsComplete := by
  intro s p
  refine ⟨?setpoint, ?subst, ?inject, ?injectStop, ?statusFlags, ?status, ?unload⟩
  case setpoint =>
    intro h hone hz hbridge
    exact exec_admitted rfl rfl (by decide) h (effLoopSetpoint_legal _ hone hz hbridge)
  case subst =>
    intro h hinput hsrc hz hserve hlc hrun
    exact exec_admitted rfl rfl (by decide) h
      (effLoopSubst_running _ hinput hsrc hz ((State.begun_srcRetired ..).trans hserve) hlc hrun)
  case inject =>
    intro h hen hfree hok
    exact exec_admitted rfl rfl (by decide) h (effLoopInject_legal _ hen hfree hok)
  case injectStop =>
    intro j h hinj
    exact exec_admitted rfl rfl (by decide) h (effLoopInjectStop_of_inj _ hinj)
  case statusFlags =>
    intro h hsel hz
    refine exec_admitted rfl rfl (by decide) h ((effLoopStatus_legal _ (by omega) hz).trans ?_)
    rw [if_pos hsel, hsel, State.begun_loopWords]
  case status =>
    intro h hsel hz
    refine exec_admitted rfl rfl (by decide) h ((effLoopStatus_legal _ (by omega) hz).trans ?_)
    rw [if_neg (by omega), State.begun_loopWords]
  case unload =>
    intro h
    exact exec_admitted rfl rfl (by decide) h rfl

/-- Settles O34: one law of the event's effect each; a sample also feeds the capture rows that wait for its values, and a
carrier event is a measurement instant of what samples on it. -/
theorem loopAndPwmEventsComplete : Obligations.LoopAndPwmEventsComplete := by
  refine ⟨fun s k hawake => ⟨?sample, ?late, ?overrun, ?subst, ?injection⟩, fun s hawake => ⟨?carrier, ?pin, ?comparator⟩⟩
  case sample =>
    intro b d hdue htime _ hrole hrun
    exact event_leaves hawake
      (congrArg State.capPoll ((evLoopSample_in_time hdue htime).trans (sampleNow_of_not_form hrole hrun)))
  case late =>
    intro b d hdue hlate
    exact event_leaves hawake (congrArg State.capPoll (evLoopSample_late hdue hlate))
  case overrun =>
    intro b d hdue
    exact event_leaves hawake (abandon_of_due hdue)
  case subst =>
    intro t0 b hsince hbridge hrun
    exact event_leaves hawake (evSubstTimeout_of_since hsince hbridge hrun)
  case injection =>
    intro j hinj htotal
    exact event_leaves hawake (evInjectionEnd_of_total hinj htotal)
  case carrier =>
    intro b hrun hrun'
    refine event_leaves hawake ((carrierThen_of_running hrun).trans ?_)
    unfold evCarrierEvent
    rw [if_pos hrun']
    -- the statement writes its tests as propositions, the model as Booleans
    simp only [Bool.and_eq_true, Option.isNone_iff_eq_none, Bool.not_eq_true]
  case pin =>
    intro src h
    exact event_leaves hawake (evTripSourceActive_pin h)
  case comparator =>
    intro src h hmet
    exact event_leaves hawake (evTripSourceActive_comparator h hmet)

end Sys2Proof.Machine
end

section
/-! PROOFS. The modulators (05): what each packet of class PWM leaves where its rule lets it act. -/

namespace Sys2Proof.Machine

/-! ### Carrier, edges, period and bootstrap (05 R219 to R235, R724) -/

/-- PWM_CARRIER of legal fields, whose period suits the frames, the mirror records and the Pug budget (R219, R330, R335, R600):
in ARMED it waits for a commit, else it is in force at once (R724). -/
theorem effPwmCarrier_legal {s : State} {p : Pkt} {c : Carrier} (t : Ticket)
    (hc : parseCarrier p.payload (s.legCount p.target.toNat) = some c)
    (hpulses : pulsesFit c.tmin (s.pwm p.target.toNat).dt1 (s.pwm p.target.toNat).dt2 (s.linksOf p.target.toNat).length
      (2 * c.per) = true)
    (hboot : bootFits (s.pwm p.target.toNat).bootMask.toNat (s.pwm p.target.toNat).bootW (s.pwm p.target.toNat).dt1
      (s.pwm p.target.toNat).dt2 (2 * c.per) = true)
    (hsource : (s.modPwm p.target.toNat fun w => { w with perCfg := c.per }).sourceOk p.target.toNat = true)
    (hmirror : (s.modPwm p.target.toNat fun w => { w with perCfg := c.per }).mirrorFits = true)
    (hpug : (s.modPwm p.target.toNat fun w => { w with perCfg := c.per }).pugFits = true)
    (hrate : (s.bridge p.target.toNat).state = .armed →
      (s.modPwm p.target.toNat fun w => { w with perCfg := c.per }).rateKept p.target.toNat = true) :
    effPwmCarrier t p s =
      if (s.bridge p.target.toNat).state = .armed then
        (s.modPwm p.target.toNat fun w => { w with perCfg := c.per }).modPwm p.target.toNat fun w =>
          { w with carNext := w.carNext ++ [(t, c)], shadow := w.shadow.writePer c.per s.now }
      else (s.modPwm p.target.toNat fun w => { w with perCfg := c.per, carrier := some c }).ends t .done := by
  unfold effPwmCarrier
  simp only [hc]
  rw [if_neg (by simp [hpulses, hboot, hsource, hmirror]), if_neg (not_not_intro hpug)]
  refine ite_congr rfl (fun harmed => if_neg (not_not_intro (hrate harmed))) fun _ => ?_
  simp only [State.modPwm, vmod_vmod]

/-- PWM_EDGES of times in range for every gate link of the bridge and zeros behind them, which fit the carrier if there is one
(R224, R225). -/
theorem effPwmEdges_legal {s : State} {p : Pkt} {dt1 dt2 fall1 fall2 : Vector Nat 12} (t : Ticket)
    (hdt1 : dt1 = Vector.ofFn (fun g : Fin 12 => le p.payload (8 * g.val) 2))
    (hdt2 : dt2 = Vector.ofFn (fun g : Fin 12 => le p.payload (8 * g.val + 2) 2))
    (hfall1 : fall1 = Vector.ofFn (fun g : Fin 12 => le p.payload (8 * g.val + 4) 2))
    (hfall2 : fall2 = Vector.ofFn (fun g : Fin 12 => le p.payload (8 * g.val + 6) 2))
    (hrange : ∀ g < 12, if g < (s.linksOf p.target.toNat).length then
        vget dt1 g ≤ 64000 ∧ vget dt2 g ≤ 64000 ∧ vget fall1 g ≤ 8000 ∧ vget fall2 g ≤ 8000
      else zeros p.payload (8 * g) 8 = true)
    (hz : zeros p.payload 96 32 = true)
    (hfits : ∀ c, (s.pwm p.target.toNat).carrier = some c →
      pulsesFit c.tmin dt1 dt2 (s.linksOf p.target.toNat).length (s.carrierT p.target.toNat) = true ∧
      bootFits (s.pwm p.target.toNat).bootMask.toNat (s.pwm p.target.toNat).bootW dt1 dt2 (s.carrierT p.target.toNat) = true) :
    effPwmEdges t p s =
      (s.modPwm p.target.toNat fun w => { w with dt1 := dt1, dt2 := dt2, fall1 := fall1, fall2 := fall2 }).ends t .done := by
  subst hdt1 hdt2 hfall1 hfall2
  refine if_neg (not_not_intro ⟨List.all_eq_true.mpr fun g hg => ?range, hz, ?fits⟩)
  case range =>
    have h := hrange g (List.mem_range.mp hg)
    split at h
    next hlink =>
      rw [if_pos hlink]
      simpa [vget, List.mem_range.mp hg] using h
    next hlink => rwa [if_neg hlink]
  case fits =>
    cases hcar : (s.pwm p.target.toNat).carrier with
    | none => rfl
    | some c => exact Bool.and_eq_true_iff.mpr (hfits c hcar)

/-- PWM_PERIOD of a period in range on a bridge of another role than FORM (R232, R233): it is written into the shadow group, or
waits for the bridges that change together. -/
theorem effPwmPeriod_legal {s : State} {p : Pkt} (t : Ticket) (hlow : (s.pwm p.target.toNat).perCfg ≤ prm32 p 0)
    (hhigh : prm32 p 0 ≤ 4000000) (hsync : prm p 4 ≤ 1) (hz : prmZero p 5 35 = true)
    (hrole : s.role p.target.toNat ≠ some .form) :
    effPwmPeriod t p s =
      if prm p 4 = 0 then
        s.modPwm p.target.toNat fun w => { w with
          perNext := w.perNext ++ [(t, prm32 p 0, false)], shadow := w.shadow.writePer (prm32 p 0) s.now }
      else s.modPwm p.target.toNat fun w => { w with perSync := w.perSync ++ [(t, prm32 p 0)] } := by
  unfold effPwmPeriod
  dsimp only
  rw [if_neg (by simp [hlow, hhigh, hsync, hz]), if_neg hrole]

/-- PWM_BOOT that names no gate link, or two-level legs' links with a count and a width in range which fit the carrier if there
is one (R234, R235). -/
theorem effPwmBoot_legal {s : State} {p : Pkt} (t : Ticket) (h3 : prm p 3 = 0) (hz : prmZero p 8 32 = true)
    (hnamed : prm16 p 0 = 0 ∨ (1 ≤ prm p 2 ∧ prm p 2 ≤ 64 ∧
      ((s.pwm p.target.toNat).carrier.map (·.tmin)).getD 0 ≤ prm32 p 4 ∧ prm32 p 4 ≤ 80000 ∧
      prm16 p 0 < 2 ^ (s.linksOf p.target.toNat).length ∧
      (∀ g ∈ (s.linksOf p.target.toNat).zipIdx, (prm16 p 0).testBit g.2 = true →
        ∀ l, s.legOf p.target.toNat g.1 = some l → l.kind = 0) ∧
      ((s.pwm p.target.toNat).carrier = none ∨
        bootFits (prm16 p 0) (prm32 p 4) (s.pwm p.target.toNat).dt1 (s.pwm p.target.toNat).dt2
          (s.carrierT p.target.toNat) = true))) :
    effPwmBoot t p s =
      (s.modPwm p.target.toNat fun w => { w with
        bootMask := BitVec.ofNat 16 (prm16 p 0), bootN := prm p 2, bootW := prm32 p 4 }).ends t .done := by
  refine if_neg ?_
  rintro (hne | hnz | ⟨hmask, hbad⟩)
  · exact hne h3
  · exact hnz hz
  · obtain hnone | ⟨hlow, hhigh, hmin, hmax, hwidth, hkinds, hfits⟩ := hnamed
    · exact hmask hnone
    · refine hbad ?_
      simp only [Bool.and_eq_true, decide_eq_true_eq, Bool.or_eq_true, Option.isNone_iff_eq_none, List.all_eq_true,
        List.mem_filter]
      refine ⟨⟨⟨⟨⟨⟨hlow, hhigh⟩, hmin⟩, hmax⟩, hwidth⟩, fun g hg => ?_⟩, hfits⟩
      cases hleg : s.legOf p.target.toNat g.1 with
      | none => rfl
      | some l => exact decide_eq_true (hkinds g hg.1 hg.2 l hleg)

/-! ### Trip sources and status (05 R240 to R242, R248) -/

/-- The trip source that PWM_TRIP_CONFIG leaves (Table 05-9): its pin stays, and a comparator counts what its slot has already
shown. -/
def State.configuredTrip (s : State) (p : Pkt) (o : TripSource) : TripSource :=
  { o with
    en := decide (prm p 0 = 1), pol := decide (prm p 1 = 1), filt := prm p 2, bmask := BitVec.ofNat 8 (prm p 3),
    slot := prm16 p 4, hi := prmQ p 6, lo := prmQ p 8, active := false,
    count := if p.target.toNat < 8 then 0 else runOutside (prmQ p 6) (prmQ p 8) (s.slot (prm16 p 4)).recent }

/-- A disabled pin source. -/
theorem configuredTrip_pin_disabled {s : State} {p : Pkt} (hen : prm p 0 = 0) (hk : p.target.toNat < 8) :
    s.configuredTrip p = fun o => { o with
      en := false, pol := decide (prm p 1 = 1), filt := prm p 2, bmask := BitVec.ofNat 8 (prm p 3), slot := prm16 p 4,
      hi := prmQ p 6, lo := prmQ p 8, count := 0, active := false } := by
  funext o
  simp only [State.configuredTrip, hen, if_pos hk, zero_ne_one, decide_false]

/-- An enabled comparator. -/
theorem configuredTrip_comparator_enabled {s : State} {p : Pkt} (hen : prm p 0 = 1) (hpol : prm p 1 = 0)
    (hk : 8 ≤ p.target.toNat) :
    s.configuredTrip p = fun o => { o with
      en := true, pol := false, filt := prm p 2, bmask := BitVec.ofNat 8 (prm p 3), slot := prm16 p 4,
      hi := prmQ p 6, lo := prmQ p 8, active := false,
      count := runOutside (prmQ p 6) (prmQ p 8) (s.slot (prm16 p 4)).recent } := by
  funext o
  simp only [State.configuredTrip, hen, hpol, if_neg (not_lt.mpr hk), zero_ne_one, decide_true, decide_false]

/-- PWM_TRIP_CONFIG of fields that suit the kind of the source, while the bridges of the old mask and of the new one are OFFLINE
or ARMED (R240, R241): a source whose condition stands becomes active at once (R242). -/
theorem effPwmTripConfig_legal {s : State} {p : Pkt} (t : Ticket) (hen : prm p 0 ≤ 1) (hz : prmZero p 10 30 = true)
    (hpin : p.target.toNat < 8 → prm p 1 ≤ 1 ∧ prmZero p 4 6 = true)
    (hcomp : 8 ≤ p.target.toNat → (prm p 1 = 0 ∧ 1 ≤ prm p 2 ∧ prm p 2 ≤ 8 ∧ prm16 p 4 < 48 ∧
      (prmQ p 8).toInt < (prmQ p 6).toInt) ∧ s.slotRetired (prm16 p 4) = false)
    (hmask : prm p 3 < 2 ^ s.fitBridges)
    (hidle : ∀ b < s.fitBridges, ((s.trip p.target.toNat).bmask.getLsbD b = true ∨ (prm p 3).testBit b = true) →
      (s.bridge b).state = .offline ∨ (s.bridge b).state = .armed) :
    effPwmTripConfig t p s =
      (let s1 := (s.modTrip p.target.toNat (s.configuredTrip p)).ends t .done
       if (s1.trip p.target.toNat).en = true ∧ s1.tripMet p.target.toNat = true then s1.tripActive p.target.toNat
       else s1) := by
  unfold effPwmTripConfig
  dsimp only
  rw [if_neg, if_neg (not_le.mpr hmask), if_neg, if_neg]
  · rfl
  · rw [List.any_eq_true]
    rintro ⟨b, hb, hbusy⟩
    obtain ⟨hfit, hnamed⟩ := List.mem_filter.mp hb
    obtain e | e := hidle b (List.mem_range.mp hfit) (Bool.or_eq_true_iff.mp hnamed) <;> simp [e] at hbusy
  · rintro ⟨hk, hret⟩
    simp [(hcomp hk).2] at hret
  · rintro (hwide | hfields | hnz)
    · exact absurd hen (not_le.mpr hwide)
    · split at hfields
      next hk => simp [hpin hk] at hfields
      next hk => exact of_decide_eq_false hfields (hcomp (not_lt.mp hk)).1
    · exact hnz hz

/-- PWM_STATUS of a selector that exists; selector 0 also clears the sticky flag (R248). -/
theorem effPwmStatus_legal {s : State} {p : Pkt} (t : Ticket) (hsel : prm p 0 ≤ 1) :
    effPwmStatus t p s =
      (if prm p 0 = 0 then s.modPwm p.target.toNat fun w => { w with pdMismatch := false } else s).answer t
        { r0 := (s.pwmWords p.target.toNat (prm p 0)).1, r1 := (s.pwmWords p.target.toNat (prm p 0)).2 } :=
  if_neg (not_lt.mpr hsel)

/-! ### The statement -/

/-- Settles O35: one law of the packet's effect each, read in the state in which the packet begins. -/
theorem pwmPacketsComplete : Obligations.PwmPacketsComplete := by
  intro s p
  refine ⟨?carrier, ?carrierArmed, ?edges, ?period, ?periodSync, ?boot, ?tripPin, ?tripComparator, ?statusFlag, ?status⟩
  case carrier =>
    rintro c h hc hpulses hboot ⟨hsource, hmirror, hpug⟩ hoff
    have harmed : (s.bridge p.target.toNat).state ≠ .armed := by simp [hoff]
    exact exec_admitted rfl rfl (by decide) h
      ((effPwmCarrier_legal (s := s.begun (.pwmCarrier p) p) _ hc hpulses hboot hsource hmirror hpug
        fun e => absurd e harmed).trans (if_neg harmed))
  case carrierArmed =>
    rintro c h hc hpulses hboot ⟨hsource, hmirror, hpug, hrate⟩ harmed
    exact exec_admitted rfl rfl (by decide) h
      ((effPwmCarrier_legal (s := s.begun (.pwmCarrier p) p) _ hc hpulses hboot hsource hmirror hpug
        fun _ => hrate).trans (if_pos harmed))
  case edges =>
    intro dt1 dt2 fall1 fall2 h hdt1 hdt2 hfall1 hfall2 hrange hz hfits
    exact exec_admitted rfl rfl (by decide) h (effPwmEdges_legal _ hdt1 hdt2 hfall1 hfall2 hrange hz hfits)
  case period =>
    intro h hlow hhigh hsync hz hrole
    exact exec_admitted rfl rfl (by decide) h
      ((effPwmPeriod_legal (s := s.begun (.pwmPeriod p) p) _ hlow hhigh (by omega) hz hrole).trans (if_pos hsync))
  case periodSync =>
    intro h hlow hhigh hsync hz hrole
    exact exec_admitted rfl rfl (by decide) h
      ((effPwmPeriod_legal (s := s.begun (.pwmPeriod p) p) _ hlow hhigh (by omega) hz hrole).trans (if_neg (by omega)))
  case boot =>
    intro h h3 hz hnamed
    exact exec_admitted rfl rfl (by decide) h (effPwmBoot_legal _ h3 hz hnamed)
  case tripPin =>
    intro h hen hz hk hpol hz' hmask hidle
    have hlegal := effPwmTripConfig_legal (s := s.begun (.pwmTripConfig p) p) (s.ticketOf p) (by omega) hz
      (fun _ => ⟨hpol, hz'⟩) (fun hk' => absurd hk (not_lt.mpr hk')) hmask hidle
    rw [configuredTrip_pin_disabled hen hk] at hlegal
    exact exec_admitted rfl rfl (by decide) h hlegal
  case tripComparator =>
    intro h hen hz hk _ hpol hfilt hfilt' hslot hlevels hmask hserve hidle
    have hlegal := effPwmTripConfig_legal (s := s.begun (.pwmTripConfig p) p) (s.ticketOf p) (by omega) hz
      (fun hk' => absurd hk' (not_lt.mpr hk)) (fun _ => ⟨⟨hpol, hfilt, hfilt', hslot, hlevels⟩, hserve⟩) hmask hidle
    rw [configuredTrip_comparator_enabled hen hpol hk] at hlegal
    exact exec_admitted rfl rfl (by decide) h hlegal
  case statusFlag =>
    intro h hsel
    refine exec_admitted rfl rfl (by decide) h ((effPwmStatus_legal _ (by omega)).trans ?_)
    rw [if_pos hsel, hsel, State.begun_pwmWords]
  case status =>
    intro h hsel
    refine exec_admitted rfl rfl (by decide) h ((effPwmStatus_legal _ (by omega)).trans ?_)
    rw [if_neg (by omega), hsel, State.begun_pwmWords]

end Sys2Proof.Machine
end

section
/-! PROOFS. Gate links (06): what each packet of class GATE leaves where its rule lets it act, and what breaks, alerts, frames,
acknowledgements and trainings of a link leave while they apply. -/

namespace Sys2Proof.Machine

/-! ### Packets of class GATE (06 R255, R298, R303 to R305) -/

/-- GATE_PROFILE of fields in range: in ARMED the booster's five fields are committed first, else the profile is in force at
once (R255). -/
theorem effGateProfile_legal {s : State} {p : Pkt} {f : Profile} (t : Ticket) (hf : parseProfile p = some f) :
    effGateProfile t p s =
      if s.ownerState p.target.toNat = .armed then s.commitTo p.target.toNat f.writes (.profile t f) false
      else (s.modLink p.target.toNat fun l => { l with profile := f, milNext := Vector.replicate 4 none }).ends t .done := by
  simp only [effGateProfile, hf]

/-- The fields of a `GATE_ADAPT` are in range (R298). -/
def AdaptInRange (p : Pkt) : Prop :=
  prm p 0 ≤ 15 ∧ 1 ≤ prm p 1 ∧ prm p 1 ≤ 64 ∧ 1 ≤ prm16 p 2 ∧ prm16 p 2 ≤ 4095 ∧ 1 ≤ prm16 p 4 ∧ prm16 p 4 ≤ 4095 ∧
    1 ≤ prm16 p 6 ∧ prm16 p 6 ≤ 0x7FFF ∧ 1 ≤ prm p 8 ∧ prm p 8 ≤ 16 ∧ prm p 9 = 0 ∧ prm16 p 10 ≤ 2047 ∧
    prm16 p 10 ≤ prm16 p 12 ∧ prm16 p 12 ≤ 2047 ∧ prmZero p 14 26 = true

/-- GATE_ADAPT of fields in range, which enables no edge on a link without edge reports (R298). -/
theorem effGateAdapt_legal {s : State} {p : Pkt} (t : Ticket) (hok : AdaptInRange p)
    (htel : (s.link p.target.toNat).profile.telDiv = 0 → prm p 0 = 0) :
    effGateAdapt t p s =
      (s.modLink p.target.toNat fun l => { l with
        adapt := { en := BitVec.ofNat 4 (prm p 0), n := prm p 1, tplOn := prm16 p 2, tplOff := prm16 p 4, vref := prmQ p 6,
                   step := prm p 8, milMin := prm16 p 10, milMax := prm16 p 12 },
        plCount := Vector.replicate 4 0, plSum := Vector.replicate 4 0 }).ends t .done := by
  refine if_neg ?_
  rintro (hbad | ⟨hnone, hsome⟩)
  · exact hbad hok
  · exact hsome (htel hnone)

/-- GATE_STATUS of a selector that exists; selector 0 also clears the sticky flags (R304). -/
theorem effGateStatus_legal {s : State} {p : Pkt} (t : Ticket) (hsel : prm p 0 ≤ 2) :
    effGateStatus t p s =
      (if prm p 0 = 0 then
        s.modLink p.target.toNat fun l => { l with blankViol := false, weakMiss := false, adaptLimit := false }
       else s).answer t
        { r0 := (s.gateWords p.target.toNat (prm p 0)).1, r1 := (s.gateWords p.target.toNat (prm p 0)).2 } :=
  if_neg (not_lt.mpr hsel)

/-- GATE_TELEM of a link with a STATUS (R305). -/
theorem effGateTelem_of_status {s : State} {p : Pkt} {st : BoosterStatus} (t : Ticket) (hsel : prm p 0 ≤ 3)
    (hst : (s.link p.target.toNat).status = some st) :
    effGateTelem t p s = s.answer t
      { r0 := word [(st.supply.toNat, 0), (st.temp.toNat, 8), (satCount ((s.now - st.at_) / 8000), 16)],
        r1 := word [(satCount (vget (s.link p.target.toNat).plMean (2 * (prm p 0 % 2) + prm p 0 / 2)), 0),
                    (vget (s.link p.target.toNat).plEntry (2 * (prm p 0 % 2) + prm p 0 / 2), 16)] } := by
  simp only [effGateTelem, hst]
  exact if_neg (not_lt.mpr hsel)

/-- Without any STATUS the supply and the temperature read 0 and the age is saturated. -/
theorem effGateTelem_no_status {s : State} {p : Pkt} (t : Ticket) (hsel : prm p 0 ≤ 3)
    (hst : (s.link p.target.toNat).status = none) :
    effGateTelem t p s = s.answer t
      { r0 := word [(0, 0), (0, 8), (0xFFFF, 16)],
        r1 := word [(satCount (vget (s.link p.target.toNat).plMean (2 * (prm p 0 % 2) + prm p 0 / 2)), 0),
                    (vget (s.link p.target.toNat).plEntry (2 * (prm p 0 % 2) + prm p 0 / 2), 16)] } := by
  simp only [effGateTelem, hst]
  exact if_neg (not_lt.mpr hsel)

/-- GATE_BOOSTER_RW of an address in the maker's range (R303): a write is committed, a read awaits its READ_DATA. -/
theorem effGateBoosterRw_legal {s : State} {p : Pkt} (t : Ticket) (hdir : prm p 0 ≤ 1) (hlow : 0x40 ≤ prm p 1)
    (hhigh : prm p 1 ≤ 0x7F) :
    effGateBoosterRw t p s =
      if prm p 0 = 1 then
        s.commitTo p.target.toNat [(BitVec.ofNat 8 (prm p 1), BitVec.ofNat 8 (prm p 2))]
          (.write t (BitVec.ofNat 8 (prm p 1)) (BitVec.ofNat 8 (prm p 2))) false
      else
        (s.sendDown p.target.toNat readType [BitVec.ofNat 8 (prm p 1)]).modLink p.target.toNat fun l => { l with
          acks := l.acks ++ [(.read t (BitVec.ofNat 8 (prm p 1)), s.now + msSteps 1, false)] } := by
  refine if_neg ?_
  rintro (hwide | hbelow | habove)
  · exact absurd hdir (not_le.mpr hwide)
  · exact absurd hlow (not_le.mpr hbelow)
  · exact absurd hhigh (not_le.mpr habove)

/-! ### Breaks and fault codes (06 R263 to R266, R282, R287) -/

/-- A break on a link whose bridge is beyond OFFLINE and not in SAFE brings the bridge into SAFE; its cause is known with its
code (R266). -/
theorem evTripBreak_enters {s : State} {g : Fin 24} {b : Nat} (howner : s.ownerOf g = some b)
    (hoff : (s.bridge b).state ≠ .offline) (hsafe : (s.bridge b).state ≠ .safe) :
    evTripBreak g s =
      ((s.modLink g fun l => { l with breakAt := some s.now }).modB b fun br => { br with
        patternWait := true,
        causeBy := if (s.bridge b).state ≠ .retired then some g.val else br.causeBy }).enterSafeWith b 0 false := by
  simp only [evTripBreak, howner, hsafe, ne_eq, not_false_eq_true, true_and, if_false]

/-- A break on a link whose bridge is in SAFE opens the bridge until the code says which switches are faulted (log 78). -/
theorem evTripBreak_of_safe {s : State} {g : Fin 24} {b : Nat} (howner : s.ownerOf g = some b)
    (hsafe : (s.bridge b).state = .safe) :
    evTripBreak g s =
      ((s.modLink g fun l => { l with breakAt := some s.now }).modB b fun br => { br with
        patternWait := true }).drivePattern b .opened true safeLag := by
  simp only [evTripBreak, howner, hsafe, ne_eq, not_true_eq_false, false_and, if_false, if_true]

/-- A code below 8 is the fault code of its group (Table 06-7). -/
theorem tripCode_of_nibble {c : BitVec 5} {n : Nat} (hc : nibbleOf c = some n) (hn : n < 8) : tripCode (some c) = n := by
  simp [tripCode, hc, hn]

/-- The state in which the group after a break of the instant t has come, or 120 ns have passed without one (R264). -/
def State.breakEnded (s : State) (g : Fin 24) (t : Nat) (group : Option (BitVec 5)) : State :=
  ((s.advanceTo (t + if group.isSome then 800 else 960)).linkNow g).modLink g fun l => { l with breakAt := none }

/-- A code that is no DESAT code latches when its group has come, whatever windows are open (R264, R266). -/
theorem evFaultCodeReceived_latches {s : State} {g : Fin 24} {t : Nat} {group : Option (BitVec 5)}
    (hbreak : (s.link g).breakAt = some t) (hcode : 2 ≤ tripCode group) :
    evFaultCodeReceived g group s = (s.breakEnded g t group).latchCode g (tripCode group) := by
  simp only [evFaultCodeReceived, hbreak]
  exact if_neg fun h => absurd hcode (not_le.mpr h.1)

/-- A DESAT code into the open window of its switch is held, and counts as an upset at once (R279, R282). -/
theorem evFaultCodeReceived_held {s : State} {g : Fin 24} {t w : Nat} {group : Option (BitVec 5)}
    (hbreak : (s.link g).breakAt = some t) (hcode : tripCode group < 2)
    (hwindow : vget ((s.breakEnded g t group).link g).window (tripCode group) = some w)
    (hopen : (s.breakEnded g t group).now < w) :
    evFaultCodeReceived g group s =
      ((s.breakEnded g t group).modLink g fun l => { l with
        heldDesat := vset l.heldDesat (tripCode group) true, blankViol := true }).countUpset 3 g := by
  simp only [evFaultCodeReceived, hbreak]
  refine if_pos ⟨hcode, ?_⟩
  simp only [State.breakEnded] at hwindow hopen
  simp only [hwindow, hopen, decide_true]

/-- At the close of a window the code held in it takes effect (R282). -/
theorem evBlankWindowClose_of_window {s : State} {sw : Fin 48} {w : Nat}
    (hwindow : vget (s.link (sw.val / 2)).window (sw.val % 2) = some w) :
    evBlankWindowClose sw s =
      (let s1 := ((s.advanceTo w).linkNow (sw.val / 2)).modLink (sw.val / 2) fun l => { l with
         window := vset l.window (sw.val % 2) none, heldDesat := vset l.heldDesat (sw.val % 2) false }
       if vget (s.link (sw.val / 2)).heldDesat (sw.val % 2) = true then s1.latchCode (sw.val / 2) (sw.val % 2) else s1) := by
  simp only [evBlankWindowClose, hwindow]

/-! ### Alerts and forced refreshes (06 R263, R265, R292 to R294) -/

/-- The alerts that Table 06-7 marks "Logged". -/
theorem evAlertSymbol_logged {s : State} {g : Fin 24} {group : BitVec 5} {n : Nat} (hn : nibbleOf group = some n)
    (hlow : 9 ≤ n) (hhigh : n ≤ 11) : evAlertSymbol g group s = s.logAlert g n := by
  unfold evAlertSymbol
  rw [hn]
  split
  next h => cases h; omega
  next h => cases h; exact if_pos ⟨hlow, hhigh⟩
  next h => cases h

/-- BOOT_LOW from a link without a bridge is logged (R294). -/
theorem evBootLow_unowned {s : State} {g : Fin 24} (h : ((s.linkNow g).closeSeries g).ownerOf g = none) :
    evBootLow g s = ((s.linkNow g).closeSeries g).logAlert g 8 := by
  simp only [evBootLow, h]

/-- BOOT_LOW from a selected link of a switching bridge, with no refresh under way and fewer than three in the series, forces
a refresh (R292, R293). -/
theorem evBootLow_refreshes {s u : State} {g : Fin 24} {b : Nat} (hu : (s.linkNow g).closeSeries g = u)
    (howner : u.ownerOf g = some b) (hswitching : (u.bridge b).state.switching = true)
    (hselected : (u.pwm b).bootMask.getLsbD (u.linkIndex b g) = true) (hidle : (u.link g).refreshEnd = none)
    (hseries : (u.link g).series < 3) : evBootLow g s = u.forceRefresh b g (u.linkIndex b g) := by
  simp only [evBootLow, hu, howner]
  rw [if_pos ⟨hswitching, hselected⟩, if_neg (by simp [hidle]), if_neg (not_le.mpr hseries)]

/-- A series that no repeat follows within 50 µs of its last refresh ends, and counts as one upset (R293). -/
theorem evForcedRefreshEnd_of_series {s : State} {g : Fin 24} {e : Nat} (hidle : (s.link g).refreshEnd = none)
    (hlast : (s.link g).lastRefresh = some e) (hseries : (s.link g).series ≠ 0) :
    evForcedRefreshEnd g s =
      (((s.advanceTo (e + usSteps 50)).linkNow g).modLink g fun l => { l with series := 0 }).countUpset 3 g := by
  simp only [evForcedRefreshEnd, hidle, hlast]
  exact if_neg hseries

/-! ### Uplink frames (06 R258, R261, R262, R279, R303) -/

/-- An edge whose adaptation is off, or whose report may not enter the mean, only notes its entry (R262, R297). -/
theorem evEdgeFrame_unused {s u : State} {g : Fin 24} {second off : Bool} {entry exit : BitVec 12}
    (hu : (s.frameOk g false).linkNow g = u)
    (h : (u.link g).adapt.en.getLsbD (2 * bit second + bit off) = false ∨ entry = 0xFFF ∨ exit = 0xFFF ∨
      (u.link g).edgeUnfit (2 * bit second + bit off) = true) :
    evEdgeFrame g second off entry exit s =
      u.modLink g fun l => { l with plEntry := vset l.plEntry (2 * bit second + bit off) entry.toNat } := by
  unfold evEdgeFrame
  rw [hu]
  refine if_pos ?_
  obtain hoff | hentry | hexit | hunfit := h
  · exact .inl (Bool.eq_false_iff.mp hoff)
  · exact .inr (.inr (.inl hentry))
  · exact .inr (.inr (.inr (.inl hexit)))
  · exact .inr (.inr (.inr (.inr hunfit)))

/-- READ_DATA that no read of its address awaits is a valid frame, and no more. -/
theorem evReadDataFrame_unawaited {s : State} {g : Fin 24} {addr data : Byte}
    (h : ∀ a ∈ ((s.frameOk g false).link g).acks, ∀ t, a.1 ≠ .read t addr) :
    evReadDataFrame g addr data s = s.frameOk g false := by
  have hnone : ((s.frameOk g false).link g).acks.find? (fun a => match a.1 with | .read _ x => x = addr | _ => false) = none := by
    refine List.find?_eq_none.mpr fun a ha hmatch => ?_
    split at hmatch
    next t x hread => exact h a ha t (hread.trans (congrArg _ (of_decide_eq_true hmatch)))
    next => exact absurd hmatch Bool.false_ne_true
  unfold evReadDataFrame
  dsimp only
  split
  next hsome => exact absurd (hsome.symm.trans hnone) (Option.some_ne_none _)
  next => rfl

/-- READ_DATA answers the oldest read of its address (R303). -/
theorem evReadDataFrame_awaited {s : State} {g : Fin 24} {addr data : Byte} {t : Ticket} {d : Nat} {r : Bool}
    (h : ((s.frameOk g false).link g).acks.find? (fun a => match a.1 with | .read _ x => x = addr | _ => false) =
      some (.read t addr, d, r)) :
    evReadDataFrame g addr data s =
      ((s.frameOk g false).modLink g fun l => { l with acks := l.acks.erase (.read t addr, d, r) }).answer t
        { r0 := word [(data.toNat, 0)] } := by
  unfold evReadDataFrame
  dsimp only
  split
  next hsome =>
    cases hsome.symm.trans h
    rfl
  next hnone => exact absurd (h.symm.trans hnone) (Option.some_ne_none _)

/-- Groups that make no valid frame are discarded, and are an upset of the link (R258, R279). -/
theorem evUplinkFrameDiscard_invalid {s : State} {f : UplinkFrame} (hret : (s.link f.link.val).state ≠ .retired)
    (hinvalid : uplinkFrame f.groups = none) :
    evUplinkFrameDiscard f s =
      (s.modLink f.link.val fun l => { l with
        discarded := satCount (l.discarded + 1), retry := some ((l.retry.getD (false, 0)).1, s.now) }).detect 3 f.link.val := by
  refine if_neg ?_
  rintro (h | h)
  · exact hret h
  · simp [hinvalid] at h

theorem evUplinkFrameDiscard_valid {s : State} {f : UplinkFrame} (hvalid : (uplinkFrame f.groups).isSome = true) :
    evUplinkFrameDiscard f s = s :=
  if_pos (.inr hvalid)

/-! ### Acknowledgements and training (06 R267, R278, R279) -/

/-- An ACK of a commit that is no retry of an upset: what waited for it ends (R267). -/
theorem evAckFrame_committed {s : State} {g : Fin 24} {why : AckFor} {d : Nat}
    (h : ((s.frameOk g false).link g).acks.find? (fun a => !a.1.isRead) = some (why, d, false)) :
    evAckFrame g 0 s =
      ((s.frameOk g false).modLink g fun l => { l with acks := l.acks.erase (why, d, false) }).ackDone g why := by
  simp only [evAckFrame, h, Bool.false_eq_true, false_and, if_false, if_true]

/-- A refused commit has the outcome of a missing acknowledgement (R267). -/
theorem evAckFrame_refused {s : State} {g : Fin 24} {result : Byte} {a : AckFor × Nat × Bool} (hresult : result ≠ 0)
    (h : ((s.frameOk g false).link g).acks.find? (fun a => !a.1.isRead) = some a) :
    evAckFrame g result s =
      ((s.frameOk g false).modLink g fun l => { l with acks := l.acks.erase a }).commitFailed g a := by
  simp only [evAckFrame, h]
  exact if_neg hresult

/-- The oldest awaited answer is given up at its deadline (R267, R303). -/
theorem evCommitAckTimeout_of_oldest {s : State} {g : Fin 24} {a : AckFor × Nat × Bool} {as : List (AckFor × Nat × Bool)}
    (h : (s.link g).acks = a :: as) :
    evCommitAckTimeout g s =
      (let s1 := (s.advanceTo a.2.1).modLink g fun l => { l with acks := l.acks.erase a }
       if a.1.isRead = true then s1.ackFailed a.1 else s1.commitFailed g a) := by
  simp only [evCommitAckTimeout, h]

/-- A training within BRIDGE_ARM that succeeds: the link is live, and the arming that waits for it ends with its last link
(R278). -/
theorem evTrainingComplete_arming {s u : State} {g : Fin 24} {ident caps : Byte} {b : Nat} {w : AckWait}
    (howner : s.ownerOf g = some b) (htraining : (s.link g).state = .training) (hclass : ident.toNat / 16 = 1)
    (hu : s.trainFrames g ident = u) (harming : (u.bridge b).arming = some w) (htraining' : (u.link g).state = .training)
    (hsingle : u.duplexed b = false) :
    evTrainingComplete g ident caps true s =
      (let s1 := ((u.modLink g fun l => { l with
         state := .live, uplink := true, downlink := true, ident := ident, caps := caps }).commitRecord g).modB b fun br =>
           { br with arming := some { w with need := w.need.filter (· ≠ g.val) } }
       if w.need.filter (· ≠ g.val) = [] then s1.doneArm b else s1) := by
  simp only [evTrainingComplete, howner, htraining, if_true, hu, harming]
  rw [if_neg (not_not_intro htraining'), if_neg (by simp [hclass, hsingle])]

/-! ### The statements -/

/-- Settles O36: one law of the packet's effect each, read in the state in which the packet begins. -/
theorem gatePacketsComplete : Obligations.GatePacketsComplete := by
  intro s p
  refine ⟨?profileArmed, ?profileOffline, ?adapt, ?statusFlags, ?status, ?telem, ?telemNone, ?write, ?read⟩
  case profileArmed =>
    intro f h hf harmed
    exact exec_admitted rfl rfl (by decide) h
      ((effGateProfile_legal (s := s.begun (.gateProfile p) p) _ hf).trans (if_pos harmed))
  case profileOffline =>
    intro f h hf hoff
    have harmed : s.ownerState p.target.toNat ≠ .armed := by simp [hoff]
    exact exec_admitted rfl rfl (by decide) h
      ((effGateProfile_legal (s := s.begun (.gateProfile p) p) _ hf).trans (if_neg harmed))
  case adapt =>
    intro h hen hn hn' hon hon' hoff hoff' hv hv' hstep hstep' h9 hmin hlimits hmax hz htel
    exact exec_admitted rfl rfl (by decide) h (effGateAdapt_legal _
      ⟨hen, hn, hn', hon, hon', hoff, hoff', hv, hv', hstep, hstep', h9, hmin, hlimits, hmax, hz⟩ htel)
  case statusFlags =>
    intro h hsel
    refine exec_admitted rfl rfl (by decide) h ((effGateStatus_legal _ (by omega)).trans ?_)
    rw [if_pos hsel, hsel, State.begun_gateWords]
  case status =>
    intro h hsel
    refine exec_admitted rfl rfl (by decide) h ((effGateStatus_legal _ (by omega)).trans ?_)
    rw [if_neg (by omega), State.begun_gateWords]
  case telem =>
    intro st h hsel hst
    exact exec_admitted rfl rfl (by decide) h (effGateTelem_of_status _ hsel hst)
  case telemNone =>
    intro h hsel hst
    exact exec_admitted rfl rfl (by decide) h (effGateTelem_no_status _ hsel hst)
  case write =>
    intro h hdir hlow hhigh
    exact exec_admitted rfl rfl (by decide) h
      ((effGateBoosterRw_legal _ (by omega) hlow hhigh).trans (if_pos hdir))
  case read =>
    intro h hdir hlow hhigh
    exact exec_admitted rfl rfl (by decide) h
      ((effGateBoosterRw_legal _ (by omega) hlow hhigh).trans (if_neg (by omega)))

/-- Settles O37: one law of the event's effect each; a break that no valid code follows is the fault code 7. -/
theorem gateProtectionEventsComplete : Obligations.GateProtectionEventsComplete := by
  intro s g hawake
  refine ⟨?enters, ?safe, ?code, ?noCode, ?held, ?window, ?alert, ?bootUnowned, ?boot, ?refreshEnd⟩
  case enters =>
    intro b howner hoff hsafe
    exact event_leaves hawake (evTripBreak_enters howner hoff hsafe)
  case safe =>
    intro b howner hsafe
    exact event_leaves hawake (evTripBreak_of_safe howner hsafe)
  case code =>
    intro c n t hbreak hc hlow hhigh
    obtain rfl := tripCode_of_nibble hc hhigh
    exact event_leaves hawake (evFaultCodeReceived_latches hbreak hlow)
  case noCode =>
    intro t hbreak
    exact event_leaves hawake (evFaultCodeReceived_latches (group := none) hbreak (by decide))
  case held =>
    rintro c n t w hbreak hc hn ⟨hwindow, hopen⟩
    obtain rfl := tripCode_of_nibble hc (by omega)
    exact event_leaves hawake (evFaultCodeReceived_held hbreak hn hwindow hopen)
  case window =>
    intro sw w hwindow
    exact event_leaves hawake (evBlankWindowClose_of_window hwindow)
  case alert =>
    intro group n hn hlow hhigh
    exact event_leaves hawake (evAlertSymbol_logged hn hlow hhigh)
  case bootUnowned =>
    intro howner
    exact event_leaves hawake (evBootLow_unowned howner)
  case boot =>
    rintro b howner ⟨hswitching, hselected, hidle, hseries⟩
    exact event_leaves hawake (evBootLow_refreshes rfl howner hswitching hselected hidle hseries)
  case refreshEnd =>
    intro e hidle hlast hseries
    exact event_leaves hawake (evForcedRefreshEnd_of_series hidle hlast hseries)

/-- Settles O38: one law of the event's effect each; a STATUS also feeds the capture rows and an ACK the takeover, after the
link has taken them. -/
theorem gateUplinkEventsComplete : Obligations.GateUplinkEventsComplete := by
  intro s g hawake
  refine ⟨?status, ?edge, ?readUnawaited, ?read, ?ack, ?nak, ?readTimeout, ?commitTimeout, ?discard, ?noDiscard, ?missing,
    ?trained⟩
  case status =>
    intro supply temp status
    exact event_leaves hawake rfl
  case edge =>
    intro second off entry exit hunused
    exact event_leaves hawake (evEdgeFrame_unused rfl hunused)
  case readUnawaited =>
    intro addr data hnone
    exact event_leaves hawake (evReadDataFrame_unawaited hnone)
  case read =>
    intro addr data t d r hfind
    exact event_leaves hawake (evReadDataFrame_awaited hfind)
  case ack =>
    intro why d hfind
    exact event_leaves hawake (congrArg State.takeoverAcks (evAckFrame_committed hfind))
  case nak =>
    intro result why d r hresult hfind
    exact event_leaves hawake (congrArg State.takeoverAcks (evAckFrame_refused hresult hfind))
  case readTimeout =>
    intro t addr d r as hacks
    exact event_leaves hawake ((evCommitAckTimeout_of_oldest hacks).trans (if_pos rfl))
  case commitTimeout =>
    intro why d r as hacks hwrite
    exact event_leaves hawake ((evCommitAckTimeout_of_oldest hacks).trans (if_neg (Bool.eq_false_iff.mp hwrite)))
  case discard =>
    intro groups hret hinvalid
    exact event_leaves hawake (evUplinkFrameDiscard_invalid hret hinvalid)
  case noDiscard =>
    intro groups hvalid
    exact event_leaves hawake (evUplinkFrameDiscard_valid hvalid)
  case missing =>
    intro hlive
    exact event_leaves hawake (if_pos hlive)
  case trained =>
    rintro b w ident caps howner htraining hclass ⟨harming, htraining', hsingle⟩
    exact event_leaves hawake (evTrainingComplete_arming howner htraining hclass rfl harming htraining' hsingle)

end Sys2Proof.Machine
end

section
/-! PROOFS. The two safety channels (09): what SAFE_EN, the commissioning, the exchange between the channels and their faults
leave while they apply. -/

namespace Sys2Proof.Machine

/-! ### Commissioning (09 R406) -/

/-- The state in which the queued write of the confirmed block has ended. -/
def State.blockWritten (s : State) (rest : List NorWrite) : State :=
  ({ s with sag := { s.sag with confirm := none } }).modSvc fun v => { v with norQueue := rest }

/-- The write to NOR that two toggles in both channels brought about ends: written, the block is in force and the functions it
changes start afresh; failed, the block stays staged (log 35). -/
theorem evBlockCommit_confirmed {s : State} {ok : Bool} {t : Ticket} {d : Nat} {blk : List Byte} {rest : List NorWrite}
    (hconfirm : s.sag.confirm = some (t, d)) (hstaged : s.sag.staged = some blk) (hnor : s.svcs.norQueue = .block :: rest)
    (hcomm : s.sag.comm = .confirmed) (hA : 2 ≤ s.sag.chA.toggles) (hB : 2 ≤ s.sag.chB.toggles) :
    evBlockCommit ok s =
      if ok = true then
        (let s0 := s.blockWritten rest
         let s1 := { s0 with sag := { s0.sag with nor := some (blk, BitVec.ofNat 32 (crc32c blk)), block := some blk } }
         let s2 := s1.forEach (numbers 4 fun n => fnType blk n ≠ fnType s.blk n ∨ fnMode blk n ≠ fnMode s.blk n) fun s n =>
           (s.freshFn false n).freshFn true n
         (s2.setComm .commissioned).ends t .done)
      else ((s.blockWritten rest).setComm .staged).ends t .internalFault := by
  unfold evBlockCommit
  split
  next hconfirm' hstaged' hnor' =>
    cases hconfirm.symm.trans hconfirm'
    cases hstaged.symm.trans hstaged'
    cases hnor.symm.trans hnor'
    exact if_pos ⟨hcomm, hA, hB⟩
  next hother => exact (hother _ _ _ _ hconfirm hstaged hnor).elim

/-- The window of SAFE_CONFIRM ends without two toggles in both channels. -/
theorem evConfirmWindowExpiry_open {s : State} {t : Ticket} {d : Nat} (hconfirm : s.sag.confirm = some (t, d))
    (hcomm : s.sag.comm = .confirmed) (htoggles : ¬ (2 ≤ s.sag.chA.toggles ∧ 2 ≤ s.sag.chB.toggles)) :
    evConfirmWindowExpiry s =
      (let s1 := s.advanceTo d
       (({ s1 with sag := { s1.sag with confirm := none } }).setComm .staged).ends t .timedOut) := by
  simp only [evConfirmWindowExpiry, hconfirm]
  exact if_pos ⟨hcomm, htoggles⟩

/-! ### The statement -/

/-- Settles O46: one law of the event's effect each; the edges of SAFE_EN and a lockstep mismatch act in every state, and what
they leave is their definition. -/
theorem saggarEventsComplete : Obligations.SaggarEventsComplete := by
  intro s hawake
  refine ⟨?fall, ?toggle, ?commit, ?expiry, ?exchange, ?missed, ?internal, ?lockstep⟩
  case fall => exact event_leaves hawake rfl
  case toggle =>
    intro mayA mayB pins
    exact event_leaves hawake rfl
  case commit =>
    intro t d blk rest hconfirm hstaged hnor hcomm hA hB
    exact ⟨event_leaves hawake ((evBlockCommit_confirmed hconfirm hstaged hnor hcomm hA hB).trans (if_pos rfl)),
      event_leaves hawake
        ((evBlockCommit_confirmed hconfirm hstaged hnor hcomm hA hB).trans (if_neg Bool.false_ne_true))⟩
  case expiry =>
    intro t d hconfirm hcomm htoggles
    exact event_leaves hawake (evConfirmWindowExpiry_open hconfirm hcomm htoggles)
  case exchange =>
    intro hlockstep
    exact event_leaves hawake (if_pos ⟨rfl, Bool.eq_false_iff.mp hlockstep⟩)
  case missed => exact event_leaves hawake (if_neg fun h => Bool.false_ne_true h.1)
  case internal =>
    intro hfault
    exact event_leaves hawake (if_neg (Bool.eq_false_iff.mp hfault))
  case lockstep => exact event_leaves hawake rfl

end Sys2Proof.Machine
end

section
/-! PROOFS. The Pug (07): what each packet of class PUG leaves where its rule lets it act, and what frames, outputs, position
inputs and recalibrations leave while they apply. -/

namespace Sys2Proof.Machine

/-! ### Slots (07 R323, R329, R335) -/

/-- A slot as PUG_SLOT_CONFIG leaves it: stopped, with the filter of R323 and without inputs or outputs from before; its sticky
flags, its frame count and its calibration stay. -/
def PugSlot.configured (c : SlotCfg) (x : PugSlot) : PugSlot :=
  { x with
    cfg := c, state := .stopped, bank := Vector.replicate 2 {}, g := 0, next := [], recent := [], hist := [], fresh := 0,
    retry := false, swap := none, out := { x.out with valid := false } }

/-- PUG_SLOT_CONFIG of a slot that nothing uses, with a fitted source, times and clock that meet R335, and within the budget of
R329: a pending swap is cancelled, and the slot starts if its source runs. -/
theorem effPugSlotConfig_legal {s : State} {p : Pkt} {c : SlotCfg} (t : Ticket) (hfree : s.slotInUse p.target.toNat = false)
    (hc : parseSlot p p.target.toNat = some c) (hfit : ¬ (s.fitBridges ≤ c.src ∧ c.src < 8))
    (htimes : s.slotTimesOk p.target.toNat c = true) (hclock : s.slotClockOk p.target.toNat c = true)
    (hpug : (s.modSlot p.target.toNat (PugSlot.configured c)).pugFits = true) :
    effPugSlotConfig t p s =
      (let s2 := (s.dropFir p.target.toNat).modSlot p.target.toNat fun _ =>
        (s.modSlot p.target.toNat (PugSlot.configured c)).slot p.target.toNat
       (if s2.srcRuns c.src = true then s2.startSlot p.target.toNat else s2).ends t .done) := by
  refine (if_neg (Bool.eq_false_iff.mp hfree)).trans ?_
  simp only [hc]
  rw [if_neg hfit, if_neg (by simp [htimes, hclock])]
  exact if_neg (not_not_intro hpug)

/-! ### Filters (07 R321, R322, R324, R330) -/

/-- PUG_FIR_LOAD of words within the bank, with no swap pending (R321). -/
theorem effPugFirLoad_legal {s : State} {p : Pkt} (t : Ticket) (hn : 1 ≤ prm16 p 2) (hfits : prm16 p 0 + prm16 p 2 ≤ 512)
    (hz : prmZero p 4 36 = true) (hlen : p.len.toNat = pad64 (2 * prm16 p 2)) (hfree : (s.slot p.target.toNat).swap = none) :
    effPugFirLoad t p s =
      (s.modSlot p.target.toNat fun x => { x with bank := vmod x.bank (other x.active) fun b =>
        { b with h := cellsWrite 0 (prm16 p 0) (wordsOf p.payload (prm16 p 2)) b.h } }).ends t .done := by
  unfold effPugFirLoad
  dsimp only
  rw [if_neg (by simp [Nat.ne_of_gt hn, hfits, hz]), if_neg (not_not_intro hlen), if_neg (by simp [hfree])]

/-- PUG_FIR_SWAP with the CRC of the other bank and within the budget of R329, with no swap pending: a slot that samples swaps at
a later frame (R322), any other at once. -/
theorem effPugFirSwap_legal {s : State} {p : Pkt} (t : Ticket) (hn : 1 ≤ prm16 p 0) (hn' : prm16 p 0 ≤ 512)
    (he : prm p 2 ≤ 15) (h3 : prm p 3 = 0) (hz : prmZero p 8 32 = true)
    (hcrc : prm32 p 4 = bankCrc (prm16 p 0) (vget (s.slot p.target.toNat).bank (other (s.slot p.target.toNat).active)).h)
    (hpug : (s.modSlot p.target.toNat fun x => { x with swap := some (t, prm16 p 0, prm p 2, 0) }).pugFits = true)
    (hfree : (s.slot p.target.toNat).swap = none) :
    effPugFirSwap t p s =
      (let b := vget (s.slot p.target.toNat).bank (other (s.slot p.target.toNat).active)
       let s1 := s.modSlot p.target.toNat fun x => { x with
         swap := some (t, prm16 p 0, prm p 2, b.centroid (prm16 p 0) (prm p 2)), swapAt := s.now }
       if (s.slot p.target.toNat).state = .sampling then s1 else s1.finishFir p.target.toNat s1.dtbNs) := by
  unfold effPugFirSwap
  dsimp only
  rw [if_neg (by simp [Nat.ne_of_gt hn, hn', he, h3, hz, hcrc]), if_neg (not_not_intro hpug), if_neg (by simp [hfree])]

/-! ### Group clocks and timers (07 R309, R312, R330, R335) -/

/-- PUG_DSM_CLOCK of a period in range and a fitted source of alignment, while no slot of the group samples on the clock
(R309). -/
theorem effPugDsmClock_legal {s : State} {p : Pkt} (t : Ticket) (hen : prm p 0 ≤ 1) (h1 : prm p 1 = 0)
    (hlow : 320 ≤ prm16 p 2) (hhigh : prm16 p 2 ≤ 1600) (halign : prm p 4 ≤ 9 ∨ prm p 4 = 0xFF) (hz : prmZero p 5 35 = true)
    (hfit : ¬ (s.fitBridges ≤ prm p 4 ∧ prm p 4 < 8))
    (hidle : ∀ k, k < 8 → (s.slot (8 * p.target.toNat + k)).state = .sampling →
      (s.slot (8 * p.target.toNat + k)).cfg.clk ≠ 0) :
    effPugDsmClock t p s =
      ({ s with
          dsm := vset s.dsm p.target.toNat
            { en := decide (prm p 0 = 1), period := prm16 p 2, align := prm p 4, edgeAt := s.now } }).ends t .done := by
  unfold effPugDsmClock
  dsimp only
  rw [if_neg, if_neg hfit, if_neg]
  · rw [List.any_eq_true]
    rintro ⟨k, hk, hbusy⟩
    obtain ⟨hstate, hclk⟩ := Bool.and_eq_true_iff.mp hbusy
    exact hidle k (List.mem_range.mp hk) (of_decide_eq_true hstate) (of_decide_eq_true hclk)
  · rintro (h | h | h | h | ⟨h, h'⟩ | h)
    · exact absurd hen (not_le.mpr h)
    · exact h h1
    · exact absurd hlow (not_le.mpr h)
    · exact absurd hhigh (not_le.mpr h)
    · exact halign.elim (not_le.mpr h) h'
    · exact h hz

/-- PUG_TIMER that disables a timer which frames no slot in use: its slots stop, and its settings stay (R312). -/
theorem effPugTimer_disables {s : State} {p : Pkt} (t : Ticket) (hfree : s.timerInUse p.target.toNat = false)
    (hen : prm p 0 = 0) (hz : prmZero p 1 3 = true) (hz' : prmZero p 14 26 = true) :
    effPugTimer t p s =
      (({ s with
          pugTimers := vset s.pugTimers p.target.toNat { (vget s.pugTimers p.target.toNat) with en := false } }).slotsStop
        (8 + p.target.toNat)).ends t .done := by
  have hoff : decide (prm p 0 = 1) = false := by simp [hen]
  unfold effPugTimer
  simp only [hoff, hfree, Bool.false_eq_true, if_false, false_and, or_false]
  exact if_neg (by simp [hen, hz, hz'])

/-- The timer that an enabling PUG_TIMER leaves: its first tick is the next instant of its phase on the DTB (R312). -/
def State.enabledTimer (s : State) (p : Pkt) : PugTimer :=
  { en := true, period := prm64 p 4, phase := prm16 p 12, ticks := 0,
    nextAt := s.now + s.localSteps (toPlacement s.dtbSteps (phaseSteps (prm16 p 12) (prm64 p 4)) (prm64 p 4)) }

/-- PUG_TIMER that enables a timer with a period which suits its slots and the budget of R329: they stop, and start anew. -/
theorem effPugTimer_enables {s : State} {p : Pkt} (t : Ticket) (hfree : s.timerInUse p.target.toNat = false)
    (hen : prm p 0 = 1) (hz : prmZero p 1 3 = true) (hz' : prmZero p 14 26 = true) (hlow : 8000 ≤ prm64 p 4)
    (hhigh : prm64 p 4 ≤ 8000000000)
    (hsource : { s with pugTimers := vset s.pugTimers p.target.toNat (s.enabledTimer p) }.sourceOk (8 + p.target.toNat) = true)
    (hpug : { s with pugTimers := vset s.pugTimers p.target.toNat (s.enabledTimer p) }.pugFits = true) :
    effPugTimer t p s =
      ((({ s with pugTimers := vset s.pugTimers p.target.toNat (s.enabledTimer p) }).slotsStop
        (8 + p.target.toNat)).slotsStart (8 + p.target.toNat)).ends t .done := by
  have hon : decide (prm p 0 = 1) = true := decide_eq_true hen
  unfold effPugTimer
  simp only [hon, hfree, Bool.false_eq_true, if_false, if_true, true_and]
  rw [if_neg (by simp [hen, hz, hz', hlow, hhigh])]
  exact (if_neg (not_not_intro hsource)).trans (if_neg (not_not_intro hpug))

/-! ### Position inputs are configured (07 R334) -/

/-- A position input as PUG_POS_CONFIG leaves it at an instant: it counts from 0 at `ZERO`, and only an encoder is valid at
once; the levels of A and B and the sticky flag stay. -/
def PosInput.configured (c : PosCfg) (now : Nat) (x : PosInput) : PosInput :=
  { x with
    cfg := c, count := 0, homed := false, valid := decide (c.mode = 1), retry := false, retryPeriods := 0, goodPeriods := 0,
    angle := c.zero, speed := 0, elec := 0, turns := 0, seen := false, trk := { angle := turnsOf c.zero }, trkAt := now,
    amplitude := 0, zError := 0, at_ := now }

/-- PUG_POS_CONFIG of an input whose bridge rests, claiming slots that are free, stopped or its own already: the slots it no
longer claims are freed (R334). -/
theorem effPugPosConfig_legal {s : State} {p : Pkt} {c : PosCfg} (t : Ticket) (hc : parsePos p = some c)
    (hrest : s.posBusy p.target.toNat = false)
    (hclaims : ∀ k ∈ c.claims, (s.slot k).state = .free ∨ (s.slot k).state = .stopped ∨
      k ∈ (s.position p.target.toNat).cfg.claims ∧ (s.slot k).state = .claimed) :
    effPugPosConfig t p s =
      (let s1 := s.forEach ((s.position p.target.toNat).cfg.claims.filter fun k => !c.claims.contains k) fun s k =>
         s.modSlot k fun x => if x.state = .claimed then { x with state := .free } else x
       let s2 := s1.forEach c.claims fun s k => s.modSlot k fun x => { x with state := .claimed }
       (s2.modPos p.target.toNat (PosInput.configured c s2.now)).ends t .done) := by
  unfold effPugPosConfig
  simp only [hc]
  refine if_neg ?_
  rintro (hbusy | htaken)
  · exact Bool.eq_false_iff.mp hrest hbusy
  · obtain ⟨k, hk, hbad⟩ := List.any_eq_true.mp htaken
    obtain hfree | hstopped | ⟨hown, hclaimed⟩ := hclaims k hk
    · simp [hfree] at hbad
    · simp [hstopped] at hbad
    · simp [hown, hclaimed] at hbad

/-! ### Recalibration (07 R339, R340) -/

/-- PUG_RECAL of a SAR slot whose filter refills within 2 ms, while no other recalibration runs: a pending swap is done at once,
and no output of the slot is valid (R339). -/
theorem effPugRecal_legal {s : State} {p : Pkt} (t : Ticket) (hsar : 32 ≤ p.target.toNat) (hz : prmZero p 0 40 = true)
    (hfill : usSteps 150 + (s.slot p.target.toNat).fir.n * (s.slot p.target.toNat).tIn ≤ usSteps 2000)
    (hfree : s.recal = none) :
    effPugRecal t p s =
      { (s.modSlot p.target.toNat fun x => { x with
            state := .recal, out := { x.out with valid := false },
            next := x.next.map fun (o : SlotOut × Nat) => ({ o.1 with valid := false, recal := true }, o.2) }).finishFir
          p.target.toNat s.dtbNs with
        recal := some { slot := p.target.toNat, ticket := t, oldO := (s.slot p.target.toNat).calO,
                        oldG := (s.slot p.target.toNat).calG } } := by
  unfold effPugRecal
  dsimp only
  rw [if_neg, if_neg (by simp [hfree])]
  rintro (h | h | h)
  · exact absurd hsar (not_le.mpr h)
  · exact h hz
  · exact absurd hfill (not_le.mpr h)

/-- RECAL_END with a gain in range while the two points are awaited: they are in force, and the window fills anew (R339, R340). -/
theorem evRecalEnd_in_range {s : State} {r : Recal} {off gain : Half} (hrecal : s.recal = some r)
    (hmeasured : r.measured = false) (hlow : 0x3000 ≤ gain.toNat) (hhigh : gain.toNat ≤ 0x5000) :
    evRecalEnd off gain s =
      ({ (s.modSlot r.slot fun x => { x with fresh := 0, hist := [] }) with
         recal := some { r with measured := true } }).modSlot r.slot fun x => x.setCal s.now off gain := by
  simp only [evRecalEnd, hrecal]
  exact (if_neg (Bool.eq_false_iff.mp hmeasured)).trans (if_pos ⟨hlow, hhigh⟩)

/-! ### Reading (07 R343, R344) -/

/-- The record that PUG_READ answers of a slot: the newest output and its stamp (R343). -/
theorem effPugRead_slot {s : State} {p : Pkt} (t : Ticket) (hslot : p.target.toNat < 48) :
    effPugRead t p s =
      (let o := (s.slot p.target.toNat).out
       let ns : DWord := BitVec.ofNat 64 (o.stamp / 65536)
       s.answer t { r0 := lo32 ns, r1 := hi32 ns,
                    extra := word [(o.value.toNat, 0), (bit o.valid, 16), (bit o.sat, 17), (bit o.slip, 18),
                                   (bit o.recal, 19)] }) :=
  if_pos hslot

/-- PUG_READ of a position input: it is brought to the present instant first (R343). -/
theorem effPugRead_position {s : State} {p : Pkt} (t : Ticket) (hpos : 0x80 ≤ p.target.toNat) :
    effPugRead t p s =
      (let s1 := s.posUpTo (p.target.toNat - 0x80)
       let a := s1.posNow (p.target.toNat - 0x80)
       let x := s1.position (p.target.toNat - 0x80)
       s1.answer t { r0 := word [(a.1.toNat, 0), (a.2.toNat, 16)], r1 := word [(bit x.valid, 0), (bit x.spdSat, 1)] }) :=
  if_neg (by omega)

/-- PUG_STATUS of a slot with a selector that exists; selector 0 also clears the sticky flags (R344). -/
theorem effPugStatus_slot {s : State} {p : Pkt} (t : Ticket) (hslot : p.target.toNat < 48) (hsel : prm p 0 ≤ 1) :
    effPugStatus t p s =
      (if prm p 0 = 0 then s.modSlot p.target.toNat fun x => { x with sat := false, slip := false } else s).answer t
        { r0 := (s.slotWords p.target.toNat (prm p 0)).1, r1 := (s.slotWords p.target.toNat (prm p 0)).2 } :=
  (if_pos hslot).trans (if_neg (not_lt.mpr hsel))

/-- PUG_STATUS of a position input: it is brought to the present instant, and its sticky flag cleared (R344). -/
theorem effPugStatus_position {s : State} {p : Pkt} (t : Ticket) (hpos : 0x80 ≤ p.target.toNat) (hsel : prm p 0 = 0) :
    effPugStatus t p s =
      (let s1 := s.posUpTo (p.target.toNat - 0x80)
       (s1.modPos (p.target.toNat - 0x80) fun x => { x with spdSat := false }).answer t
         { r0 := (s1.posWords (p.target.toNat - 0x80)).1, r1 := (s1.posWords (p.target.toNat - 0x80)).2 }) :=
  (if_neg (by omega)).trans (if_neg (not_not_intro hsel))

/-! ### Frames and outputs (07 R312, R313, R325, R340) -/

/-- A frame of a bridge at its last carrier event, which no slot has had yet (R313). -/
theorem pugFrameThen_bridge {s : State} {src : Fin 10} {inputs : List SlotInput} (hsrc : src.val < 8)
    (hrun : (s.pwm src).running = true) (hnow : (s.pwm src).lastAt = s.now)
    (hnew : ∀ n ∈ s.frameSlots src, (s.slot n).frameAt ≠ s.now ∨ (s.slot n).prev = none) :
    pugFrameThen src inputs s = s.frame src inputs := by
  have hall : ((s.frameSlots src).all fun n => (s.slot n).frameAt ≠ s.now || (s.slot n).prev.isNone) = true := by
    simpa using hnew
  refine (if_neg fun h => absurd hsrc (not_lt.mpr h.1)).trans ?_
  exact (if_pos hsrc).trans (if_pos ⟨hrun, hnow, hall⟩)

/-- A tick of an enabled timer, with what follows from it: the group clocks align to it, the next tick is placed on the DTB, and
the capture groups on it have an instant (R310, R312, R313). -/
theorem pugFrameThen_timer {s : State} {src : Fin 10} {k : Nat} {inputs : List SlotInput} (hsrc : src.val = 8 + k)
    (hen : (vget s.pugTimers k).en = true) :
    pugFrameThen src inputs s =
      (let w := vget s.pugTimers k
       let s1 := (s.advanceTo w.nextAt).alignClocks (8 + k)
       let e := placeError s1.dtbSteps (phaseSteps w.phase w.period) w.period
       let w1 := { w with ticks := w.ticks + 1, lastAt := s1.now,
                           nextAt := s1.now + s1.localSteps ((w.period : Int) - e).toNat }
       let s2 := { s1 with pugTimers := vset s1.pugTimers k w1 }
       (s2.frame (8 + k) inputs).capTick (8 + k)) := by
  have hk : src.val - 8 = k := by omega
  unfold pugFrameThen evPugFrame
  rw [hk, hsrc, if_neg (show ¬ 8 + k < 8 by omega)]
  exact (if_pos ⟨Nat.le_add_right 8 k, hen⟩).trans (congrArg (State.capTick · (8 + k)) (if_pos hen))

/-- A slot's oldest output becomes its newest record, and a valid one ends the slot's recalibration (R325, R340). -/
def PugSlot.outputReady (o : SlotOut) (later : List (SlotOut × Nat)) (x : PugSlot) : PugSlot :=
  { x with
    out := o, next := later, recent := if o.valid then (o.value :: x.recent).take 8 else x.recent,
    state := if x.state = .recal ∧ o.valid then .sampling else x.state }

/-- An output becomes ready while no recalibration runs: the readers of the slot see it (R325, R239, R36). -/
theorem evSlotOutputReady_of_next {s : State} {n : Fin 48} {o : SlotOut} {ready : Nat} {later : List (SlotOut × Nat)}
    (hnext : (s.slot n).next = (o, ready) :: later) (hrecal : s.recal = none) :
    evSlotOutputReady n s =
      (let s1 := (s.advanceTo ready).modSlot n (PugSlot.outputReady o later)
       let s2 := (s1.notePeak n).forEach (numbers 16 fun k => 8 ≤ k ∧ (s1.trip k).en ∧ (s1.trip k).slot = n) State.compare
       s2.forEach (numbers 8 fun b => match (s2.bridge b).defn with
          | some d => decide (d.vdcSlot = some n.val) && o.valid | none => false) State.judgePrecharge) := by
  simp only [evSlotOutputReady, hnext, State.modSlot_recal, State.advanceTo_recal, hrecal]
  rfl

/-! ### Resolvers and encoders (07 R331 to R333, Table 07-9) -/

/-- A resolver period outside a retry: an amplitude in limits moves the angle on, any other is an upset (R332, R336). That the
demodulated pair is normalised to the amplitude of the winding is log 21. -/
theorem evResolverPeriod_in_service {s : State} {n : Fin 4} {pairs : Vector (Half × Half) 16}
    (hmode : (s.position n).cfg.mode = 2) (hserve : s.isRetired 2 n = false) (hretry : (s.position n).retry = false) :
    evResolverPeriod n pairs s =
      (let x := s.position n
       let s1 := s.advanceTo (s.excEnd x.cfg.excF)
       let sn := demodulate 40 x.cfg.rphase (pairs.toList.map (·.1))
       let cs := demodulate 41 x.cfg.rphase (pairs.toList.map (·.2))
       let amp := satTo 0x7FFF (roundR (ratSqrt (sn * sn + cs * cs))).toNat
       let s2 := s1.modPos n fun x => { x with amplitude := BitVec.ofNat 16 amp, at_ := s1.now }
       if x.cfg.ampLo.toNat ≤ amp ∧ amp ≤ x.cfg.ampHi.toNat then
         s2.modPos n fun x => ({ x with valid := true }).follow s2.now sn cs
       else s2.posUpset n) := by
  unfold evResolverPeriod
  dsimp only
  rw [if_neg (by simp [hmode, hserve]), if_neg (by simp [hretry])]
  simp only [decide_eq_true_eq]

/-- The first Z of an encoder that homes on it: the count starts from 0 there (R331). -/
theorem evZEdge_homes {s : State} {n : Fin 4} (hmode : (s.position n).cfg.mode = 1) (hz : (s.position n).cfg.zmode = 2)
    (hhomed : (s.position n).homed = false) (hserve : s.isRetired 2 n = false) :
    evZEdge n s =
      (s.posUpTo n).modPos n fun x => { x with homed := true, count := 0, angle := x.cfg.mech 0, zError := 0 } :=
  (if_neg (by simp [hmode, hz, hserve])).trans (if_pos ⟨hz, by simp [hhomed]⟩)

/-- An edge of A alone moves the count by one (R331); that A ahead of B counts up is log 22. -/
theorem evQuadratureEdge_of_a {s : State} {n : Fin 4} {a b : Bool} (hmode : (s.position n).cfg.mode = 1)
    (hserve : s.isRetired 2 n = false) (ha : a ≠ (s.position n).a) (hb : b = (s.position n).b) :
    evQuadratureEdge n a b s =
      (s.posUpTo n).modPos n fun x =>
        let c := x.count + (if a ≠ (s.position n).b then 1 else -1 : Int)
        { x with a := a, b := b, count := c, angle := x.cfg.mech c } := by
  refine (if_neg (by simp [hmode, hserve])).trans ?_
  exact (if_neg fun h => h.2 hb).trans (if_neg fun h => ha h.1)

/-! ### Upsets of slots (07 R336) -/

/-- An upset of a slot that samples, of the kind its converter has, starts its retry (R336). -/
theorem evMeasurementUpset_sampling {s : State} {unit : Fin 48} {kind : Fin 3} (hstate : (s.slot unit).state = .sampling)
    (hkind : slotKind unit = kind.val) (hslot : kind.val < 2) :
    evMeasurementUpset kind unit s = (s.detect kind unit).modSlot unit fun x => { x with retry := true } := by
  have hnot : kind ≠ 2 := fun h => absurd hslot (by simp [h])
  exact (if_neg hnot).trans (if_neg (by simp [hkind, hstate]))

/-! ### The statements -/

/-- Settles O39: one law of the packet's effect each, read in the state in which the packet begins. -/
theorem pugSetupPacketsComplete : Obligations.PugSetupPacketsComplete := by
  intro s p
  refine ⟨?slot, ?load, ?swap, ?clock, ?timerOff, ?timerOn⟩
  case slot =>
    intro c h hfree hc hfit htimes hclock hpug
    exact exec_admitted rfl rfl (by decide) h
      (effPugSlotConfig_legal (s := s.begun (.pugSlotConfig p) p) _ hfree hc hfit htimes hclock hpug)
  case load =>
    intro h hn hfits hz hlen hfree
    exact exec_admitted rfl rfl (by decide) h (effPugFirLoad_legal _ hn hfits hz hlen hfree)
  case swap =>
    intro h hn hn' he h3 hz hcrc hpug hfree
    exact exec_admitted rfl rfl (by decide) h (effPugFirSwap_legal _ hn hn' he h3 hz hcrc hpug hfree)
  case clock =>
    intro h hen h1 hlow hhigh halign hz hfit hidle
    exact exec_admitted rfl rfl (by decide) h (effPugDsmClock_legal _ hen h1 hlow hhigh halign hz hfit hidle)
  case timerOff =>
    intro h hfree hen hz hz'
    exact exec_admitted rfl rfl (by decide) h (effPugTimer_disables (s := s.begun (.pugTimer p) p) _ hfree hen hz hz')
  case timerOn =>
    rintro h hfree hen hz hz' hlow hhigh ⟨hsource, hpug⟩
    exact exec_admitted rfl rfl (by decide) h
      (effPugTimer_enables (s := s.begun (.pugTimer p) p) _ hfree hen hz hz' hlow hhigh hsource hpug)

/-- Settles O40: one law of the packet's effect each, read in the state in which the packet begins. -/
theorem pugRunPacketsComplete : Obligations.PugRunPacketsComplete := by
  intro s p
  refine ⟨?position, ?recal, ?readSlot, ?readPosition, ?statusFlags, ?status, ?statusPosition⟩
  case position =>
    intro c h hc hrest hclaims
    exact exec_admitted rfl rfl (by decide) h
      (effPugPosConfig_legal (s := s.begun (.pugPosConfig p) p) _ hc hrest hclaims)
  case recal =>
    intro h hsar hz hfill hfree
    exact exec_admitted rfl rfl (by decide) h
      (effPugRecal_legal (s := s.begun (.pugRecal p) p) _ hsar hz hfill hfree)
  case readSlot =>
    intro h hslot
    exact exec_admitted rfl rfl (by decide) h (effPugRead_slot _ hslot)
  case readPosition =>
    intro h hpos
    exact exec_admitted rfl rfl (by decide) h (effPugRead_position _ hpos)
  case statusFlags =>
    intro h hslot hsel
    refine exec_admitted rfl rfl (by decide) h ((effPugStatus_slot _ hslot (by omega)).trans ?_)
    rw [if_pos hsel, hsel, State.begun_slotWords]
  case status =>
    intro h hslot hsel
    refine exec_admitted rfl rfl (by decide) h ((effPugStatus_slot _ hslot (by omega)).trans ?_)
    rw [if_neg (by omega), hsel, State.begun_slotWords]
  case statusPosition =>
    intro h hpos hsel
    exact exec_admitted rfl rfl (by decide) h (effPugStatus_position _ hpos hsel)

/-- Settles O41: one law of the event's effect each; a frame of a timer also gives the capture groups on it an instant, and an
output feeds the capture rows that wait for its value. -/
theorem measurementEventsComplete : Obligations.MeasurementEventsComplete := by
  intro s hawake
  refine ⟨?frame, ?tick, ?output, ?resolver, ?home, ?edge, ?upset, ?recalEnd⟩
  case frame =>
    intro src inputs hsrc hrun hnow hnew
    exact event_leaves hawake (pugFrameThen_bridge hsrc hrun hnow hnew)
  case tick =>
    intro k inputs hen
    exact event_leaves hawake (pugFrameThen_timer rfl hen)
  case output =>
    intro n o ready later hnext hrecal
    exact event_leaves hawake (congrArg State.capPoll (evSlotOutputReady_of_next hnext hrecal))
  case resolver =>
    intro n pairs hmode hserve hretry
    exact event_leaves hawake (evResolverPeriod_in_service hmode hserve hretry)
  case home =>
    intro n hmode hz hhomed hserve
    exact event_leaves hawake (evZEdge_homes hmode hz hhomed hserve)
  case edge =>
    intro n a b hmode hserve ha hb
    exact event_leaves hawake (evQuadratureEdge_of_a hmode hserve ha hb)
  case upset =>
    intro unit hstate kind hkind hslot
    exact event_leaves hawake (evMeasurementUpset_sampling hstate hkind hslot)
  case recalEnd =>
    intro r off gain hrecal hmeasured hlow hhigh
    exact event_leaves hawake (evRecalEnd_in_range hrecal hmeasured hlow hhigh)

end Sys2Proof.Machine
end

section
/-! PROOFS. Capture units (08): what each packet of class CAPTURE leaves where its rule lets it act, and what samples, external
edges and upsets leave while they apply. -/

namespace Sys2Proof.Machine

/-! ### Configuration (08 R362 to R364) -/

/-- CAP_CONFIG of a unit that leads its own group, with a legal block, room for its segments, and a source and signals that are
fitted and in service: the members of its old group are freed, and what waited for that group ends with CANCELLED (log 24). -/
theorem effCapConfig_leader {s : State} {p : Pkt} {c : CapUnit} (t : Ticket)
    (hc : c = { state := .idle, config := p.payload, leader := p.target.toNat }) (hown : byteAt p.payload 0 = p.target.toNat)
    (hunit : p.target.toNat < 4) (hleader : leaderOk p.payload = true) (hmask : c.chmask ≠ 0)
    (hz : zeros p.payload 22 42 = true) (htc : ∀ i, i < 4 → c.tcOk i = true)
    (hchan : ∀ k, k < 16 → c.chanOk (capL p.payload) k = true)
    (hroom : capNseg p.payload * c.segSize (capL p.payload) + ((numbers 4 fun v =>
      !(p.target.toNat :: s.membersOf p.target.toNat).contains v).map s.capBytes).sum ≤ s.partitions.1 * 2 ^ 20)
    (hfit : ¬ (capSrc p.payload < 8 ∧ s.fitBridges ≤ capSrc p.payload))
    (hserve : ¬ (capSrc p.payload < 8 ∧ (s.bridge (capSrc p.payload)).state = .retired))
    (hsel : ∀ k ∈ c.chans, s.selAbsent (c.sel k) = false ∧ s.selRetired (c.sel k) = false) :
    effCapConfig t p s =
      (((s.forEach (s.membersOf p.target.toNat) State.freeUnit).dropCapWaits p.target.toNat).modCap p.target.toNat
        fun _ => c).ends t .done := by
  have habsent : ¬ (c.chans.map c.sel).any s.selAbsent = true := by simpa using fun k hk => (hsel k hk).1
  have hretired : ¬ (c.chans.map c.sel).any s.selRetired = true := by simpa using fun k hk => (hsel k hk).2
  have hle : p.target.toNat ≤ 3 := Nat.le_of_lt_succ hunit
  subst hc
  unfold effCapConfig
  simp only [hown, if_true, decide_true, true_and]
  rw [if_neg, if_neg, if_neg, if_neg]
  · exact not_or_intro hserve hretired
  · exact not_or_intro hfit habsent
  · omega
  · simpa [hle, hleader, hz] using And.intro (And.intro hmask htc) hchan

/-! ### Mask packets (08 R365 to R367) -/

/-- CAP_ARM of groups that are idle or full waits for their next samples (R365). -/
theorem effCapArm_waits {s : State} {p : Pkt} (t : Ticket)
    (hok : s.maskCheck p (fun x => x = .idle || x = .full) = none) (hnamed : bitsOf 16 (prm16 p 0) ≠ []) :
    effCapArm t p s =
      { s with
        armWaits := s.armWaits ++
          [{ ticket := t, groups := bitsOf 16 (prm16 p 0), lowest := lowestOf (prm16 p 0), first := none }] } := by
  unfold effCapArm
  simp only [hok]
  exact if_neg (mt List.isEmpty_iff.mp hnamed)

/-- CAP_FORCE of groups that run waits for a sample of each (R367). -/
theorem effCapForce_waits {s : State} {p : Pkt} (t : Ticket)
    (hok : s.maskCheck p (fun x => x = .armed || x = .filling) = none) (hnamed : bitsOf 16 (prm16 p 0) ≠ []) :
    effCapForce t p s =
      { s with
        forceWaits := s.forceWaits ++
          [{ ticket := t, groups := bitsOf 16 (prm16 p 0), lowest := lowestOf (prm16 p 0), since := s.now, recno := 0, seg := 0,
             note := false }] } := by
  unfold effCapForce
  simp only [hok]
  exact if_neg (mt List.isEmpty_iff.mp hnamed)

/-- CAP_DISARM of configured groups: each that is not idle cuts a filling record, forgets its open samples and is idle (R366); the
forces that wait for it end with CANCELLED (log 24). -/
theorem effCapDisarm_legal {s : State} {p : Pkt} (t : Ticket)
    (hok : s.maskCheck p (fun x => x = .idle || x = .armed || x = .filling || x = .full) = none) :
    effCapDisarm t p s =
      (s.forEach (bitsOf 4 (prm16 p 0)) fun u l =>
        if u.groupState l = .idle then u
        else
          let u1 := if u.groupState l = .filling then u.forEach (u.groupOf l) fun v k => v.closeUnit k true else u
          ((u1.dropForces l).modGroup l fun c => { c with due := [] }).setGroup l .idle).ends t .done := by
  simp only [effCapDisarm, hok]

/-! ### Reading (08 R369) -/

/-- CAP_READ within a segment whose closed record has the number asked for: the bytes of the record (R369). -/
theorem effCapRead_closed {s : State} {p : Pkt} {g : CapSegment} (t : Ticket) (hz : prmZero p 2 2 = true)
    (hz' : prmZero p 12 28 = true) (halign : prm32 p 8 % 64 = 0) (hseg : prm16 p 0 < capNseg (s.shape p.target.toNat))
    (hfits : prm32 p 8 + p.len.toNat ≤ (s.cap p.target.toNat).segSize (capL (s.shape p.target.toNat)))
    (hg : assocGet (prm16 p 0) (s.cap p.target.toNat).segs = some g) (hrec : g.recno.toNat = prm32 p 4)
    (hclosed : g.filling = false) :
    effCapRead t p s = s.answer t { payload := slice g.bytes (prm32 p 8) p.len.toNat } := by
  unfold effCapRead
  simp only [hg]
  rw [if_neg (by simp [hz, hz', halign, hseg, hfits]), if_neg (not_not_intro hrec), if_neg (by simp [hclosed])]

/-! ### Samples, edges and upsets (08 R346, R357, R373) -/

/-- A group closes the oldest of its open samples (R346). -/
theorem evCapSampleClose_of_due {s : State} {u : Fin 4} {row : CapRow} {rows : List CapRow}
    (hdue : (s.cap (s.cap u).leader).due = row :: rows) : evCapSampleClose u s = s.closeSample (s.cap u).leader row := by
  simp only [evCapSampleClose, hdue]

/-- An edge at the ball of a mapped input is kept by the groups that run with the input enabled; an edge that still waits for a
sample keeps its instant (R357). -/
theorem evCapExtEdge_mapped {s : State} {n : Fin 2} (hmap : s.gpioMapped (0x18 + n.val) = true) :
    evCapExtEdge n s =
      s.forEach (numbers 4 fun l => decide ((s.cap l).leader = l) && capExt (s.cap l).config n.val && s.groupRuns l) fun s l =>
        s.modCap l fun c => { c with ext := vset c.ext n.val (some ((vget c.ext n.val).getD s.now)) } :=
  if_neg (not_not_intro hmap)

/-- An upset of a fitted unit is counted by the upset rule, kind 9 (R373). -/
theorem evCaptureUpset_fitted {s : State} {u : Fin 4} (hfit : u.val < s.fitCaps) : evCaptureUpset u s = s.detect 9 u :=
  if_pos hfit

/-! ### The statement -/

/-- Settles O42: one law of the packet's effect each, read in the state in which the packet begins, and one of each event's
effect; arms and forces whose group is configured anew, released or disarmed end with CANCELLED by log 24. -/
theorem captureCommandsComplete : Obligations.CaptureCommandsComplete := by
  refine ⟨fun s p => ⟨?config, ?arm, ?disarm, ?force, ?read, ?status, ?release⟩, fun s u hawake => ⟨?close, ?edge, ?upset⟩⟩
  case config =>
    intro c h hc hown hunit hleader hmask hz htc hchan hroom hfit hserve hsel
    exact exec_admitted rfl rfl (by decide) h
      (effCapConfig_leader (s := s.begun (.capConfig p) p) _ hc hown hunit hleader hmask hz htc hchan hroom hfit hserve
        (by simpa using hsel))
  case arm =>
    intro h hok hnamed
    exact exec_admitted rfl rfl (by decide) h (effCapArm_waits _ hok hnamed)
  case disarm =>
    intro h hok
    exact exec_admitted rfl rfl (by decide) h (effCapDisarm_legal _ hok)
  case force =>
    intro h hok hnamed
    exact exec_admitted rfl rfl (by decide) h (effCapForce_waits _ hok hnamed)
  case read =>
    intro g h hz hz' halign hseg hfits hg hrec hclosed
    exact exec_admitted rfl rfl (by decide) h (effCapRead_closed _ hz hz' halign hseg hfits hg hrec hclosed)
  case status =>
    rintro c h rfl
    exact exec_admitted rfl rfl (by decide) h rfl
  case release =>
    intro h
    exact exec_admitted rfl rfl (by decide) h rfl
  case close =>
    intro row rows hdue
    exact event_leaves hawake (evCapSampleClose_of_due hdue)
  case edge =>
    intro n hmap
    exact event_leaves hawake (evCapExtEdge_mapped hmap)
  case upset =>
    intro hfit
    exact event_leaves hawake (evCaptureUpset_fitted hfit)

end Sys2Proof.Machine
end

section
/-! PROOFS. The safety functions (09): what each packet of class SAFETY leaves where its rule lets it act, and what their inputs,
latches and times leave while they apply. -/

namespace Sys2Proof.Machine

/-! ### Staging and confirming a block (09 R404, R406, R412) -/

/-- SAFE_STAGE of a block in range that names fitted bridges, while no bridge is beyond ARMED. -/
theorem effSafeStage_legal {s : State} {p : Pkt} (t : Ticket) (hrest : (s.bridgesWhere fun b => b.state.beyondArmed) = [])
    (hfault : s.safetyFault = false) (hz : prmZero p 0 40 = true) (hblock : blockOk p.payload = true)
    (hfit : s.blockAbsent p.payload = false) :
    effSafeStage t p s =
      (({ s with sag := { s.sag with staged := some p.payload } }).setComm .staged).answer t
        { r0 := BitVec.ofNat 32 (crc32c p.payload) } := by
  unfold effSafeStage
  rw [if_neg (not_not_intro hrest), if_neg (Bool.eq_false_iff.mp hfault), if_neg (by simp [hz, hblock]),
    if_neg (Bool.eq_false_iff.mp hfit)]

/-- SAFE_CONFIRM with the CRC of the staged block: both channels count their toggles from zero for 5 s. -/
theorem effSafeConfirm_matching {s : State} {p : Pkt} (t : Ticket) (hfault : s.safetyFault = false)
    (hz : prmZero p 4 36 = true) (hcrc : prm32 p 0 = crc32c (s.sag.staged.getD [])) :
    effSafeConfirm t p s =
      ({ s with sag := { s.sag with
          confirm := some (t, s.now + secSteps 5), chA := { s.sag.chA with toggles := 0 },
          chB := { s.sag.chB with toggles := 0 } } }).setComm .confirmed := by
  unfold effSafeConfirm
  dsimp only
  rw [if_neg (Bool.eq_false_iff.mp hfault), if_neg (not_not_intro hz), if_neg (not_not_intro hcrc)]

/-! ### Outputs, reads and requests (09 R409, R410, R412, R414) -/

/-- SAFE_OUTPUT of a request for the two brake outputs. -/
theorem effSafeOutput_legal {s : State} {p : Pkt} (t : Ticket) (hreq : prm p 0 ≤ 3) (hz : prmZero p 1 39 = true) :
    effSafeOutput t p s = ({ s with sag := { s.sag with sbcReq := BitVec.ofNat 2 (prm p 0) } }).ends t .done := by
  unfold effSafeOutput
  rw [if_neg (by simp [hreq, hz])]

/-- SAFE_READ of a block that is present answers its bytes. -/
theorem effSafeRead_present {s : State} {p : Pkt} {bs : List Byte} (t : Ticket) (hsel : prm p 0 ≤ 1)
    (hz : prmZero p 1 39 = true) (hblock : (if prm p 0 = 0 then s.sag.block else s.sag.staged) = some bs) :
    effSafeRead t p s = s.answer t { payload := bs } := by
  unfold effSafeRead
  dsimp only
  rw [if_neg (by simp [hsel, hz]), hblock]

/-- SAFE_REQUEST sets or withdraws the request of the named functions in channel A; a withdrawal needs channels without fault
(R412). -/
theorem effSafeRequest_legal {s : State} {p : Pkt} (t : Ticket) (hfns : prm p 0 ≤ 15) (hset : prm p 1 ≤ 1)
    (hz : prmZero p 2 38 = true) (hfault : prm p 1 = 0 → s.safetyFault = false) :
    effSafeRequest t p s =
      (s.forEach ((bitsOf 4 (prm p 0)).filter fun n => fnType s.blk n ≠ 0) fun u n =>
        (u.modFn false n fun f => { f with request := decide (prm p 1 = 1) }).judgeDemand false n).ends t .done := by
  have hclear : ¬ (prm p 1 = 0 ∧ s.safetyFault = true) := fun ⟨h0, hf⟩ => Bool.eq_false_iff.mp (hfault h0) hf
  unfold effSafeRequest
  rw [if_neg (by simp [hfns, hset, hz]), if_neg hclear]

/-! ### Latches and times (09 R387, R392, R394) -/

/-- Two inputs that have disagreed since `t0` set the discrepancy latch once DISC has passed in the channel's time (R394). -/
theorem evDiscrepancyLatch_since {s : State} {chB : Bool} {f : Fin 4} {t0 : Nat}
    (h : (s.safeFn chB f).discSince = some t0) :
    evDiscrepancyLatch chB f s =
      (let w := s.sagTime chB (msSteps (fnDisc s.blk f))
       ((w.2.advanceTo (t0 + w.1)).setDisc chB f).refreshSsl) := by
  simp only [evDiscrepancyLatch, h]

/-- At the safe instant the function's latches count, and channel A puts the function's bridges into SAFE (R387). -/
theorem evSs1SafeInstant_due {s : State} {chB : Bool} {f : Fin 4} {d : Nat} (h : (s.safeFn chB f).safeAt = some d) :
    evSs1SafeInstant chB f s =
      (let s1 := (s.advanceTo d).passSafe chB f
       (if chB then s1 else s1.forEach (s1.fnBridges f) fun s b => s.enterSafe b (0x0804 + f.val)).refreshSsl) := by
  simp only [evSs1SafeInstant, h]

/-- An instant that the clock has reached. -/
def instantPast (now : Nat) (x : Option Nat) : Bool := match x with | some t => decide (t ≤ now) | none => false

/-- A channel in which the delays of a brake output that end up to `now` have ended: the output is lost to the faults and to
the functions they belong to (R392). -/
def Channel.endSbcDelays (now : Nat) (out : Fin 2) (c : Channel) : Channel :=
  { c with
    sbcLost := if instantPast now (vget c.sbcAt out) then vset c.sbcLost out true else c.sbcLost,
    sbcAt := if instantPast now (vget c.sbcAt out) then vset c.sbcAt out none else c.sbcAt,
    fn := c.fn.map fun (f : SafeFn) =>
      if instantPast now (vget f.sbcDue out) then { f with sbcPast := vset f.sbcPast out true, sbcDue := vset f.sbcDue out none }
      else f }

/-- The clock moves to the earliest of an output's delays, and every delay that has ended by then acts (R392). -/
theorem evSbcDelayExpiry_dues {s : State} {chB : Bool} {out : Fin 2} {d : Nat} {ds : List Nat}
    (h : (s.channel chB).sbcDues out = d :: ds) :
    evSbcDelayExpiry chB out s =
      (let s1 := s.advanceTo (ds.foldl min d)
       s1.modChannel chB (Channel.endSbcDelays s1.now out)) := by
  simp only [evSbcDelayExpiry, h]
  rfl

/-! ### The statement -/

/-- Settles O45: one law of the packet's effect each, read in the state in which the packet begins, and one of each event's
effect; a status packet and a filtered input act in every state, and what they leave is their definition. -/
theorem safetyCommandsComplete : Obligations.SafetyCommandsComplete := by
  refine ⟨fun s p => ⟨?stage, ?confirm, ?status, ?output, ?read, ?request⟩,
    fun s chB hawake => ⟨?input, ?discrepancy, ?safeInstant, ?sbcDelay⟩⟩
  case stage =>
    intro h hrest hfault hz hblock hfit
    exact exec_admitted rfl rfl (by decide) h (effSafeStage_legal _ hrest hfault hz hblock hfit)
  case confirm =>
    intro h hfault hz hcrc
    exact exec_admitted rfl rfl (by decide) h (effSafeConfirm_matching _ hfault hz hcrc)
  case status =>
    intro h
    exact exec_admitted rfl rfl (by decide) h rfl
  case output =>
    intro h hreq hz
    exact exec_admitted rfl rfl (by decide) h (effSafeOutput_legal _ hreq hz)
  case read =>
    intro bs h hsel hz hblock
    exact exec_admitted rfl rfl (by decide) h (effSafeRead_present _ hsel hz hblock)
  case request =>
    intro h hfns hset hz hfault
    exact exec_admitted rfl rfl (by decide) h (effSafeRequest_legal _ hfns hset hz hfault)
  case input =>
    intro sin level
    exact event_leaves hawake rfl
  case discrepancy =>
    intro f t0 hsince
    exact event_leaves hawake (evDiscrepancyLatch_since hsince)
  case safeInstant =>
    intro f d hdue
    exact event_leaves hawake (evSs1SafeInstant_due hdue)
  case sbcDelay =>
    intro out d ds hdues
    exact event_leaves hawake (evSbcDelayExpiry_dues hdues)

end Sys2Proof.Machine
end

section
/-! PROOFS. The completion of a packet, events and interrupts (10 R426 to R436, R452): what one entry changes of its queue pair,
that it leaves everything else, where an event goes, and when a vector is sent. -/

namespace Sys2Proof.Machine

/-! ### A failed check (10 R435, R436) -/

/-- Settles O5: the packet starts at once, and the first check that refuses it ends it. -/
theorem failedCheckIsTheStatus : Obligations.FailedCheckIsTheStatus :=
  fun _ _ _ _ _ hp hop h2 hr hc => exec_of_check_fails hp hop h2 hr hc

/-! ### Vectors (10 R433) -/

theorem sendVector_of_masked {s : State} {v : Nat} (h : (s.reg (0x6000 + 16 * v + 12)).testBit 0 = true) :
    s.sendVector v = { s with pba := s.pba ||| BitVec.ofNat 32 (2 ^ v) } := by
  rw [State.sendVector, if_pos h]

theorem sendVector_of_unmasked {s : State} {v : Nat} (h : (s.reg (0x6000 + 16 * v + 12)).testBit 0 = false) :
    s.sendVector v = { s with vectors := vmod s.vectors v (· + 1) } := by
  rw [State.sendVector, if_neg (Bool.eq_false_iff.mp h)]

/-- A pending vector whose mask is clear is sent, and its pending bit cleared. -/
theorem unmask_of_pending {s : State} {v : Nat} (hp : s.pba.getLsbD v = true)
    (hm : (s.reg (0x6000 + 16 * v + 12)).testBit 0 = false) :
    s.unmask v = { s with
      pba := s.pba &&& BitVec.ofNat 32 (0xFFFFFFFF - 2 ^ v), vectors := vmod s.vectors v (· + 1) } := by
  rw [State.unmask, if_pos ⟨hp, Bool.eq_false_iff.mp hm⟩]

/-- Vector control has one bit that software writes, the mask, which is set after reset (R433, as PCI Express has it). -/
theorem regSpec_vectorControl (v : Fin 32) : regSpec (0x6000 + 16 * v + 12) = some ⟨0, 1, 1⟩ := by
  revert v; decide

/-- The MSI-X table lies above every register with a reserved code. -/
theorem normReg_of_msix {off : Nat} (h : 0x6000 ≤ off) (x : Nat) : normReg off x = x := by
  unfold normReg
  split <;> omega

/-- A write of 0 to vector control is a store that clears the mask and no other bit. -/
theorem writeReg_vectorControl_zero (s : State) (v : Fin 32) :
    s.writeReg (0x6000 + 16 * v + 12) 0 =
      s.regPut (0x6000 + 16 * v + 12) (s.reg (0x6000 + 16 * v + 12) &&& 0xFFFFFFFE) := by
  rw [State.writeReg, regSpec_vectorControl]
  simp only [ite_self]
  rw [normReg_of_msix (by omega)]
  rfl

/-- Every vector control is an aligned offset of BAR0. -/
theorem vectorControl_wf (v : Fin 32) : (decide ((BitVec.ofNat 32 (0x6000 + 16 * v + 12)).toNat % 4 = 0) &&
    decide ((BitVec.ofNat 32 (0x6000 + 16 * v + 12)).toNat < 0x100000)) = true := by
  revert v; decide

/-- A register write at a vector control is the write and, where that clears the mask, the sending of what is pending. -/
theorem evRegisterWrite_vectorControl (s : State) (v : Fin 32) (x : Word) :
    evRegisterWrite (BitVec.ofNat 32 (0x6000 + 16 * v + 12)) x s = (s.writeReg (0x6000 + 16 * v + 12) x.toNat).unmask v := by
  have hoff : (BitVec.ofNat 32 (0x6000 + 16 * v + 12)).toNat = 0x6000 + 16 * v + 12 := by simp; omega
  unfold evRegisterWrite
  simp only [hoff]
  rw [if_neg (by omega), if_neg (by omega), if_neg (by omega), if_pos (by omega)]
  congr 1
  omega

theorem evRegisterWrite_clears_mask {s : State} {v : Fin 32} (hp : s.pba.getLsbD v = true) (hr : regsFrom 0 s.regs = true) :
    evRegisterWrite (BitVec.ofNat 32 (0x6000 + 16 * v + 12)) 0 s =
      { s.writeReg (0x6000 + 16 * v + 12) 0 with
        pba := s.pba &&& BitVec.ofNat 32 (0xFFFFFFFF - 2 ^ v.val), vectors := vmod s.vectors v (· + 1) } := by
  have hclear : ((s.writeReg (0x6000 + 16 * v + 12) 0).reg (0x6000 + 16 * v + 12)).testBit 0 = false := by
    rw [writeReg_vectorControl_zero, reg_regPut_same hr, Nat.testBit_and]
    simp
  have hpba : (s.writeReg (0x6000 + 16 * v + 12) 0).pba = s.pba := by rw [writeReg_vectorControl_zero]; rfl
  have hvectors : (s.writeReg (0x6000 + 16 * v + 12) 0).vectors = s.vectors := by rw [writeReg_vectorControl_zero]; rfl
  rw [evRegisterWrite_vectorControl]
  refine (unmask_of_pending (hpba ▸ hp) hclear).trans ?_
  rw [hpba, hvectors]

/-- Settles O15: the two cases of a vector, and the write of vector control, which sends what is pending once the mask that it
stores reads clear. -/
theorem maskedVectorIsPending : Obligations.MaskedVectorIsPending := by
  intro s v
  refine ⟨sendVector_of_masked, sendVector_of_unmasked, fun hawake hp hr => ?_⟩
  exact (event_awake _ (vectorControl_wf v) hawake).trans (by rw [evRegisterWrite_clears_mask hp hr])

/-! ### What a completion may change (10 R425 to R436, 14 R595) -/

/-- `t` differs from `s` at most in what a completion writes: queue pairs with their payload areas, messages and pending bits of
vectors, and answers that wait for a standby. -/
def State.CompletesTo (s t : State) : Prop :=
  ∃ qps localRing vectors pba dpx,
    t = { s with qps := qps, localRing := localRing, vectors := vectors, pba := pba, dpx := dpx }

namespace State.CompletesTo

variable {s t u : State}

theorem refl (s : State) : s.CompletesTo s := ⟨_, _, _, _, _, rfl⟩

theorem trans (h : s.CompletesTo t) (h' : t.CompletesTo u) : s.CompletesTo u := by
  obtain ⟨_, _, _, _, _, rfl⟩ := h
  obtain ⟨_, _, _, _, _, rfl⟩ := h'
  exact ⟨_, _, _, _, _, rfl⟩

theorem ite {c : Prop} [Decidable c] (h : s.CompletesTo t) (h' : s.CompletesTo u) : s.CompletesTo (if c then t else u) := by
  split
  · exact h
  · exact h'

theorem waits (h : s.CompletesTo t) : t.waits = s.waits := by obtain ⟨_, _, _, _, _, rfl⟩ := h; rfl

theorem events (h : s.CompletesTo t) : t.events = s.events := by obtain ⟨_, _, _, _, _, rfl⟩ := h; rfl

theorem lostEvents (h : s.CompletesTo t) : t.lostEvents = s.lostEvents := by obtain ⟨_, _, _, _, _, rfl⟩ := h; rfl

end State.CompletesTo

theorem modQp_completesTo (s : State) (q : Nat) (f : QueuePair → QueuePair) : s.CompletesTo (s.modQp q f) :=
  ⟨_, _, _, _, _, rfl⟩

theorem sendVector_completesTo (s : State) (v : Nat) : s.CompletesTo (s.sendVector v) :=
  .ite ⟨_, _, _, _, _, rfl⟩ ⟨_, _, _, _, _, rfl⟩

theorem interrupt_completesTo (s : State) (q : Nat) : s.CompletesTo (s.interrupt q) :=
  (modQp_completesTo s q _).trans (.ite (.refl _) (sendVector_completesTo _ _))

theorem countEntry_completesTo (s : State) (q : Nat) (counted urgent : Bool) : s.CompletesTo (s.countEntry q counted urgent) :=
  .trans (.ite (modQp_completesTo s q _) (.refl s)) (.ite (interrupt_completesTo _ _) (.refl _))

theorem putEntry_completesTo (s : State) (q : Nat) (e : CplEntry) (counted : Bool) : s.CompletesTo (s.putEntry q e counted) :=
  (modQp_completesTo s q _).trans (countEntry_completesTo _ _ _ _)

theorem writeBack_completesTo (s : State) (q index : Nat) (bs : List Byte) : s.CompletesTo (s.writeBack q index bs) :=
  .ite ⟨_, _, _, _, _, rfl⟩ (.refl s)

theorem endReset_completesTo (s : State) (q : Nat) : s.CompletesTo (s.endReset q) :=
  .ite (modQp_completesTo s q _) (.refl s)

theorem answerNow_completesTo (s : State) (t : Ticket) (a : Answer) : s.CompletesTo (s.answerNow t a) := by
  unfold State.answerNow
  split
  · exact .refl s
  · exact ((modQp_completesTo s _ _).trans
      (.ite (.refl _) ((writeBack_completesTo _ _ _ _).trans (putEntry_completesTo _ _ _ _)))).trans (endReset_completesTo _ _)

/-- A decided status changes nothing but what a completion writes. -/
theorem answer_completesTo (s : State) (t : Ticket) (a : Answer) : s.CompletesTo (s.answer t a) := by
  unfold State.answer
  split
  · exact answerNow_completesTo s t a
  · exact ⟨_, _, _, _, _, rfl⟩
  · exact .trans ⟨_, _, _, _, _, rfl⟩ (answerNow_completesTo _ t a)

/-! ### Events (10 R452) -/

/-- An event that no packet waits for queues behind fewer than 32 others, else it is lost. -/
theorem report_of_unawaited {s : State} {cls : Nat} (unit code : Nat) (h : ∀ w ∈ s.waits, w.2.getLsbD cls = false) :
    s.report cls unit code =
      (let s := s.raiseMapped cls unit
       if s.events.length < 32 then
         { s with events := s.events ++ [{ cls := BitVec.ofNat 8 cls, unit := BitVec.ofNat 16 unit,
                                           code := BitVec.ofNat 16 code, sec := s.dtbSec, ns := s.dtbNano }] }
       else { s with lostEvents := s.lostEvents + 1 }) := by
  have hnone : (s.raiseMapped cls unit).waits.find? (fun w => w.2.getLsbD cls) = none :=
    List.find?_eq_none.mpr fun w hw => Bool.eq_false_iff.mp (h w hw)
  simp only [State.report, hnone]

/-- An event that packets wait for answers the oldest of them. -/
theorem report_of_awaited {s : State} {cls : Nat} {w : Ticket × Word} (unit code : Nat)
    (h : s.waits.find? (fun w => w.2.getLsbD cls) = some w) :
    s.report cls unit code =
      ({ s.raiseMapped cls unit with waits := s.waits.filter (·.1 ≠ w.1), lostEvents := 0 }).answer w.1
        { r0 := word [(cls % 256, 0), (unit % 65536, 16)], r1 := word [(code, 0)],
          extra := word [(sat32 s.lostEvents, 0)] } := by
  have hsome : (s.raiseMapped cls unit).waits.find? (fun w => w.2.getLsbD cls) = some w := h
  simp only [State.report, hsome]
  rfl

/-- Settles O14: the three places an event goes; raising the signals mapped to it and answering a wait touch neither the queue
nor the waits. -/
theorem eventsQueueOrAreLost : Obligations.EventsQueueOrAreLost := by
  intro s cls unit code
  refine ⟨fun hnone hroom => ?queued, fun hnone hfull => ?lost, fun w hsome => ?answered⟩
  case queued =>
    rw [report_of_unawaited unit code hnone]
    simp only [if_pos (show (s.raiseMapped cls unit).events.length < 32 from hroom)]
    exact ⟨rfl, rfl, rfl⟩
  case lost =>
    rw [report_of_unawaited unit code hnone]
    simp only [if_neg (show ¬ (s.raiseMapped cls unit).events.length < 32 from Nat.not_lt.mpr hfull)]
    exact ⟨rfl, rfl⟩
  case answered =>
    rw [report_of_awaited unit code hsome]
    have h := answer_completesTo ({ s.raiseMapped cls unit with waits := s.waits.filter (·.1 ≠ w.1), lostEvents := 0 }) w.1
      { r0 := word [(cls % 256, 0), (unit % 65536, 16)], r1 := word [(code, 0)], extra := word [(sat32 s.lostEvents, 0)] }
    exact ⟨h.events, h.lostEvents, h.waits⟩

/-! ### The queue pair that a completion leaves (10 R426, R427, R430, R434) -/

theorem sendVector_qp (s : State) (v r : Nat) : (s.sendVector v).qp r = s.qp r := by
  unfold State.sendVector
  split <;> rfl

/-- An interrupt starts the count of entries anew. -/
theorem interrupt_qp_same (s : State) (q : Fin 16) :
    (s.interrupt q).qp q = { s.qp q with irqCount := 0, irqFirst := none, irqSent := (s.qp q).irqSent + 1 } := by
  unfold State.interrupt
  dsimp only
  split
  · exact qp_modQp_same s q _
  · rw [sendVector_qp, qp_modQp_same]

theorem interrupt_qp_other (s : State) {q r : Nat} (h : r ≠ q) : (s.interrupt q).qp r = s.qp r := by
  unfold State.interrupt
  dsimp only
  split
  · exact qp_modQp_other s _ h
  · rw [sendVector_qp, qp_modQp_other s _ h]

/-- Counting an entry changes nothing of its queue pair but what R434 counts. -/
theorem countEntry_qp_same (s : State) (q : Fin 16) (counted urgent : Bool) : ∃ n first sent,
    (s.countEntry q counted urgent).qp q = { s.qp q with irqCount := n, irqFirst := first, irqSent := sent } := by
  unfold State.countEntry
  cases counted
  · simp only [Bool.false_eq_true, if_false]
    split
    · exact ⟨_, _, _, interrupt_qp_same s q⟩
    · exact ⟨_, _, _, rfl⟩
  · simp only [if_true]
    split
    · exact ⟨_, _, _, by rw [interrupt_qp_same, qp_modQp_same]⟩
    · exact ⟨_, _, _, qp_modQp_same s q _⟩

theorem countEntry_qp_other (s : State) {q r : Nat} (counted urgent : Bool) (h : r ≠ q) :
    (s.countEntry q counted urgent).qp r = s.qp r := by
  unfold State.countEntry
  cases counted
  · simp only [Bool.false_eq_true, if_false]
    split
    · exact interrupt_qp_other s h
    · rfl
  · simp only [if_true]
    split
    · rw [interrupt_qp_other _ h, qp_modQp_other s _ h]
    · exact qp_modQp_other s _ h

/-- A queue pair with one more entry, in a completion ring of `size` entries: the phase turns where the ring does (R427). -/
def QueuePair.withEntry (x : QueuePair) (size : Nat) (e : CplEntry) : QueuePair :=
  { x with cpl := x.cpl ++ [{ e with phase := x.phase }],
           cplPos := if x.cplPos + 1 = size then 0 else x.cplPos + 1,
           phase := if x.cplPos + 1 = size then !x.phase else x.phase }

/-- An entry put into a completion ring, up to what R434 counts. -/
theorem putEntry_qp_same (s : State) (q : Fin 16) (e : CplEntry) (counted : Bool) : ∃ n first sent,
    (s.putEntry q e counted).qp q =
      { (s.qp q).withEntry (s.cplSize q) e with irqCount := n, irqFirst := first, irqSent := sent } := by
  unfold State.putEntry
  obtain ⟨n, first, sent, h⟩ := countEntry_qp_same
    (s.modQp q fun x => x.withEntry (s.cplSize q) e) q counted (e.status = .internalFault)
  rw [qp_modQp_same] at h
  exact ⟨n, first, sent, h⟩

theorem putEntry_qp_other (s : State) {q r : Nat} (e : CplEntry) (counted : Bool) (h : r ≠ q) :
    (s.putEntry q e counted).qp r = s.qp r := by
  unfold State.putEntry
  dsimp only
  rw [countEntry_qp_other _ _ _ h, qp_modQp_other s _ h]

theorem writeBack_qp (s : State) (q index : Nat) (bs : List Byte) (r : Nat) : (s.writeBack q index bs).qp r = s.qp r := by
  unfold State.writeBack
  split <;> rfl

theorem writeBack_inForce (s : State) (q index : Nat) (bs : List Byte) : (s.writeBack q index bs).inForce = s.inForce := by
  unfold State.writeBack
  split <;> rfl

/-- Only a queue pair in RESETTING starts afresh. -/
theorem endReset_of_running {s : State} {q : Nat} (h : (s.qp q).state = .running) : s.endReset q = s := by
  rw [State.endReset, if_neg (by simp [h])]

/-- The entry of a packet that is answered (Table 10-10); the ring gives it its phase. -/
def State.entryOf (s : State) (f : Flight) (a : Answer) : CplEntry :=
  { tag := f.pkt.tag, status := a.status, r0 := a.r0, r1 := a.r1, index := f.pkt.index, lap := f.pkt.lap, phase := false,
    sec := (a.stamp.getD (s.dtbSec, s.dtbNano)).1, ns := (a.stamp.getD (s.dtbSec, s.dtbNano)).2, extra := a.extra,
    payload := a.payload }

/-- A packet has left the packets in flight. -/
def State.departed (s : State) (t : Ticket) : State :=
  s.modQp t.qp fun x => { x with flights := x.flights.filter (·.id ≠ t.id) }

theorem departed_qp_same (s : State) (t : Ticket) :
    (s.departed t).qp t.qp = { s.qp t.qp with flights := (s.qp t.qp).flights.filter (·.id ≠ t.id) } :=
  qp_modQp_same s t.qp _

theorem departed_qp_other (s : State) {t : Ticket} {r : Nat} (h : r ≠ t.qp) : (s.departed t).qp r = s.qp r :=
  qp_modQp_other s _ h

/-- What is left of a queue pair once a packet's entry stands in its completion ring, up to what R434 counts. -/
theorem departed_putEntry_qp_same (s : State) (t : Ticket) (index : Nat) (bs : List Byte) (e : CplEntry) (counted : Bool) :
    ∃ n first sent, (((s.departed t).writeBack t.qp index bs).putEntry t.qp e counted).qp t.qp =
      { ({ s.qp t.qp with flights := (s.qp t.qp).flights.filter (·.id ≠ t.id) }).withEntry (s.cplSize t.qp) e with
        irqCount := n, irqFirst := first, irqSent := sent } := by
  have hsize : ((s.departed t).writeBack t.qp index bs).cplSize t.qp = s.cplSize t.qp := by
    simp only [State.cplSize, State.qpReg, State.inUse, writeBack_inForce]
    rfl
  obtain ⟨n, first, sent, h⟩ := putEntry_qp_same ((s.departed t).writeBack t.qp index bs) t.qp e counted
  rw [writeBack_qp, departed_qp_same, hsize] at h
  exact ⟨n, first, sent, h⟩

/-- A packet in flight on a running queue pair completes: it leaves the packets in flight, and its entry is put into the ring. -/
theorem answerNow_of_running {s : State} {t : Ticket} {f : Flight} (a : Answer) (hrun : (s.qp t.qp).state = .running)
    (hf : (s.qp t.qp).flights.find? (·.id = t.id) = some f) :
    s.answerNow t a =
      ((s.departed t).writeBack t.qp f.pkt.index.toNat a.payload).putEntry t.qp (s.entryOf f a) (!f.pkt.flags.getLsbD 1) := by
  have hnot : ¬ (((s.departed t).qp t.qp).state = .halted ∧ ((s.departed t).qp t.qp).cause = 6) := by
    simp [departed_qp_same, hrun]
  obtain ⟨n, first, sent, hqp⟩ := departed_putEntry_qp_same s t f.pkt.index.toNat a.payload (s.entryOf f a)
    (!f.pkt.flags.getLsbD 1)
  unfold State.answerNow
  simp only [hf]
  refine (congrArg (State.endReset · t.qp) (if_neg hnot)).trans (endReset_of_running ?_)
  exact (congrArg QueuePair.state hqp).trans hrun

/-- A packet that was not forwarded to a standby is answered at once (R595). -/
theorem answer_of_not_forwarded {s : State} {t : Ticket} (a : Answer)
    (h : s.dpx.forwarded.find? (fun p => p.1 = t) = none) : s.answer t a = s.answerNow t a := by
  simp only [State.answer, h]

/-- Settles O12: the entry put into the ring behind the packet's departure, field by field; another queue pair is reached by
neither. -/
theorem completionEntryIsWritten : Obligations.CompletionEntryIsWritten := by
  intro s t a f hrun hf hforwarded
  rw [answer_of_not_forwarded a hforwarded, answerNow_of_running a hrun hf]
  obtain ⟨n, first, sent, hqp⟩ := departed_putEntry_qp_same s t f.pkt.index.toNat a.payload (s.entryOf f a)
    (!f.pkt.flags.getLsbD 1)
  rw [hqp]
  refine ⟨rfl, rfl, rfl, rfl, hrun, fun r hr => ?_⟩
  rw [putEntry_qp_other _ _ _ hr, writeBack_qp, departed_qp_other s hr]

end Sys2Proof.Machine
end

section
/-! PROOFS. Opcodes and the classes ADMIN and ORDER (10 R420, R440 to R454, 00 R7, R12, 14 R585): the opcode of every packet
command, and what each packet of these classes leaves where its rule lets it act. -/

namespace Sys2Proof.Machine

/-! ### Opcodes (10 R420, 00 R12) -/

/-- An opcode that names a command is that command's opcode, and its high byte a class of Table 00-6. -/
theorem opcodeOf_of_packetOf {op : Nat} {p : Pkt} {i : Instr} (h : packetOf op p = some i) :
    opcodeOf i = some op ∧ op / 256 ≤ 0x10 := by
  unfold packetOf at h
  split at h <;> cases h <;> exact ⟨rfl, by decide⟩

/-- Every packet command has an opcode, and it names the command. -/
theorem packetOf_of_pkt {i : Instr} {p : Pkt} (h : i.pkt = some p) :
    ∃ op, opcodeOf i = some op ∧ packetOf op p = some i := by
  cases i <;> cases h <;> exact ⟨_, rfl, rfl⟩

/-- Settles O19: the opcode names the command again, and what an opcode names has that opcode and a class. -/
theorem opcodesNameTheirCommands : Obligations.OpcodesNameTheirCommands := by
  refine ⟨fun i p hp => ?_, fun op p hop => ?_⟩
  · obtain ⟨op, hop, hi⟩ := packetOf_of_pkt hp
    exact ⟨op, hop, (opcodeOf_of_packetOf hi).2, hi⟩
  · refine Option.eq_none_iff_forall_ne_some.mpr fun i hi => ?_
    exact Nat.not_lt.mpr (opcodeOf_of_packetOf hi).2 hop

/-! ### Waits and aborts (10 R452, R454) -/

/-- ADMIN_EVENT_WAIT waits while no queued event is of a class it selects and fewer than four packets wait. -/
theorem effAdminEventWait_waits {s : State} {p : Pkt} (t : Ticket) (hroom : s.waits.length < 4)
    (hnone : ∀ e ∈ s.events, (BitVec.ofNat 32 (prm32 p 0)).getLsbD e.cls.toNat = false) :
    effAdminEventWait t p s = { s with waits := s.waits ++ [(t, BitVec.ofNat 32 (prm32 p 0))] } := by
  have hfind : s.events.find? (fun e => (BitVec.ofNat 32 (prm32 p 0)).getLsbD e.cls.toNat) = none :=
    List.find?_eq_none.mpr fun e he => Bool.eq_false_iff.mp (hnone e he)
  simp only [effAdminEventWait, hfind]
  rw [if_neg (by omega)]

/-- ADMIN_EVENT_WAIT is answered by the oldest queued event of a class it selects. -/
theorem effAdminEventWait_queued {s : State} {p : Pkt} {e : DevEvent} (t : Ticket)
    (h : s.events.find? (fun e => (BitVec.ofNat 32 (prm32 p 0)).getLsbD e.cls.toNat) = some e) :
    effAdminEventWait t p s =
      ({ s with events := s.events.erase e, lostEvents := 0 }).answer t
        { r0 := word [(e.cls.toNat, 0), (e.unit.toNat, 16)], r1 := word [(e.code.toNat, 0)],
          extra := word [(sat32 s.lostEvents, 0)], stamp := some (e.sec, e.ns) } := by
  simp only [effAdminEventWait, h]

/-- ADMIN_ABORT cancels the oldest packet of the named queue pair that bears the tag and has not started. -/
theorem effAdminAbort_found {s : State} {p : Pkt} {q : Fin 16} {f : Flight} (t : Ticket) (hq : prm16 p 0 = q)
    (hf : (s.qp q).flights.find? (fun g => g.unstarted ∧ g.pkt.tag.toNat = prm16 p 2 ∧ (⟨q, g.id⟩ : Ticket) ≠ t) = some f) :
    effAdminAbort t p s = (s.cancelFlight ⟨q, f.id⟩).answer t { r0 := word [(f.pkt.index.toNat, 0)] } := by
  have hlt : prm16 p 0 < 16 := hq ▸ q.isLt
  obtain rfl : q = ⟨prm16 p 0, hlt⟩ := Fin.ext hq.symm
  unfold effAdminAbort
  rw [dif_pos hlt]
  simp only [hf]

/-! ### Reinstatement (14 R585) -/

/-- REINSTATE of a retired external channel that no other packet reinstates. -/
theorem effReinstate_retired {s : State} {p : Pkt} (t : Ticket) (hdef : s.chanDefined (prm p 0) (prm16 p 2) = true)
    (hfit : s.chanFitted (prm p 0) (prm16 p 2) = true) (hext : internalKind (prm p 0) = false)
    (hret : s.isRetired (prm p 0) (prm16 p 2) = true) (hfree : ∀ r ∈ s.reinst, r.2 ≠ (prm p 0, prm16 p 2)) :
    effReinstate t p s = { s with reinst := s.reinst ++ [(t, prm p 0, prm16 p 2)] } := by
  have hany : ¬ s.reinst.any (fun r => decide (r.2.1 = prm p 0) && decide (r.2.2 = prm16 p 2)) = true := by
    rw [List.any_eq_true]
    rintro ⟨r, hr, h⟩
    rw [Bool.and_eq_true, decide_eq_true_eq, decide_eq_true_eq] at h
    exact hfree r hr (Prod.ext h.1 h.2)
  unfold effReinstate
  dsimp only
  rw [if_neg (not_not_intro hdef), if_neg (not_not_intro hfit), if_neg (by simp [hext, hret]), if_neg hany]

/-! ### Barriers (10 R441, R442) -/

/-- The fields of a BARRIER packet that R441 asks for: it names its own queue pair and another, and waits 10 s at most. -/
theorem barrier_fields_legal {t : Ticket} {p : Pkt} (hown : (prm16 p 0).testBit t.qp.val = true)
    (htwo : 2 ≤ (bitsOf 16 (prm16 p 0)).length) (htmo : prm32 p 4 ≤ 10000000) :
    ¬ (¬ (prm16 p 0).testBit t.qp.val ∨ (bitsOf 16 (prm16 p 0)).length < 2 ∨ 10000000 < prm32 p 4) := by
  rintro (h | h | h)
  · exact h hown
  · omega
  · omega

/-- The first BARRIER packet of an identifier opens the barrier. -/
theorem effBarrier_opens {s : State} {p : Pkt} {t : Ticket} (hown : (prm16 p 0).testBit t.qp.val = true)
    (htwo : 2 ≤ (bitsOf 16 (prm16 p 0)).length) (htmo : prm32 p 4 ≤ 10000000) (hfree : vget s.barriers p.barrier.toNat = none) :
    effBarrier t p s =
      { s with barriers := vset s.barriers p.barrier.toNat (some
          { mask := BitVec.ofNat 16 (prm16 p 0),
            deadline := if prm32 p 4 = 0 then none else some (s.now + usSteps (prm32 p 4)), members := [t] }) } := by
  unfold effBarrier
  dsimp only
  rw [if_neg (barrier_fields_legal hown htwo htmo), hfree]

/-- A later one with the same mask joins it. -/
theorem effBarrier_joins {s : State} {p : Pkt} {t : Ticket} {i : BarrierInst} (hown : (prm16 p 0).testBit t.qp.val = true)
    (htwo : 2 ≤ (bitsOf 16 (prm16 p 0)).length) (htmo : prm32 p 4 ≤ 10000000)
    (hopen : vget s.barriers p.barrier.toNat = some i) (hmask : i.mask.toNat = prm16 p 0) :
    effBarrier t p s =
      ({ s with barriers := vset s.barriers p.barrier.toNat (some { i with members := i.members ++ [t] }) }).barrierMet
        p.barrier.toNat := by
  unfold effBarrier
  dsimp only
  rw [if_neg (barrier_fields_legal hown htwo htmo), hopen]
  dsimp only
  rw [if_neg (not_not_intro hmask)]

/-! ### Pads (10 R421) -/

/-- ADMIN_PAD on a running queue pair moves the fetch position to the ring's start, and nothing more. -/
theorem fetched_adminPad {s : State} {p : Pkt} (hrun : (s.qp p.qp).state = .running) :
    s.fetched (.adminPad p) p = s.moveFetch p.qp p.index.toNat (s.cmdSize p.qp) p.lap := by
  rw [State.fetched, if_neg (not_not_intro hrun)]

/-! ### The statement -/

/-- Settles O23: one law of the packet's effect each, read in the state in which the packet begins; a pad has none, and is only
fetched. -/
theorem adminPacketsComplete : Obligations.AdminPacketsComplete := by
  intro s p
  refine ⟨?nop, ?identify, ?wait, ?queued, ?abort, ?reinstate, ?fence, ?opens, ?joins, ?pad⟩
  case nop =>
    intro h
    exact exec_admitted rfl rfl (by decide) h rfl
  case identify =>
    intro h
    exact exec_admitted rfl rfl (by decide) h rfl
  case wait =>
    intro h hroom hnone
    exact exec_admitted rfl rfl (by decide) h (effAdminEventWait_waits (s := s.begun (.adminEventWait p) p) _ hroom hnone)
  case queued =>
    intro e h he
    exact exec_admitted rfl rfl (by decide) h (effAdminEventWait_queued (s := s.begun (.adminEventWait p) p) _ he)
  case abort =>
    intro q f h hq hf
    exact exec_admitted rfl rfl (by decide) h (effAdminAbort_found _ hq hf)
  case reinstate =>
    intro h hdef hfit hext hret hfree
    exact exec_admitted rfl rfl (by decide) h
      (effReinstate_retired (s := s.begun (.reinstate p) p) _ hdef hfit hext hret hfree)
  case fence =>
    intro h
    exact exec_admitted rfl rfl (by decide) h rfl
  case opens =>
    intro h hown htwo htmo hfree
    exact exec_admitted rfl rfl (by decide) h
      (effBarrier_opens (s := s.begun (.barrier p) p) (t := s.ticketOf p) hown htwo htmo hfree)
  case joins =>
    intro i h hown htwo htmo hopen hmask
    exact exec_admitted rfl rfl (by decide) h
      (effBarrier_joins (s := s.begun (.barrier p) p) (t := s.ticketOf p) hown htwo htmo hopen hmask)
  case pad =>
    intro hwf hawake hrun
    rw [exec_of_pkt s (i := .adminPad p) rfl, packet, if_pos hwf, State.arrive, State.happen, if_pos hawake,
      fetched_adminPad hrun]

end Sys2Proof.Machine
end

section
/-! PROOFS. Queue pairs and the host link (10 R423 to R449, 15 R645): what doorbells, control words, fetches, the times of waiting
packets and the timers of queue pairs leave while they apply, and what barrier time-outs and the host link leave. -/

namespace Sys2Proof.Machine

theorem modQp_modQp (s : State) (q : Nat) (f g : QueuePair → QueuePair) :
    (s.modQp q f).modQp q g = s.modQp q fun x => g (f x) := by
  simp only [State.modQp, vmod_vmod]

/-! ### Doorbells and control words (10 R423, R424, R429, R448, R449) -/

/-- A tail in range becomes the command tail of a queue pair that is not DISABLED. -/
theorem writeTail_in_range {s : State} {q : Fin 16} {v : Word} (hen : (s.qp q).state ≠ .disabled)
    (hok : s.badTail q v.toNat = false) :
    s.writeTail q v = s.modQp q fun x => { x with tailReg := v, tail := v.toNat } := by
  unfold State.writeTail
  split
  case h_1 h => exact absurd h hen
  case h_2 => simp only [hok, Bool.false_eq_true, if_false, modQp_modQp]

/-- A head in range returns the entries before it. -/
theorem writeHead_in_range {s : State} {q : Fin 16} {v : Word} (hen : (s.qp q).state ≠ .disabled)
    (hlow : v.toNat % 65536 < s.cplSize q)
    (hok : ringDist (s.cplSize q) (s.qp q).head (v.toNat % 65536) ≤ (s.qp q).cpl.length) :
    s.writeHead q v = s.modQp q fun x => { x with
      headReg := v, head := v.toNat % 65536,
      cpl := x.cpl.drop (ringDist (s.cplSize q) (s.qp q).head (v.toNat % 65536)) } := by
  unfold State.writeHead
  split
  case h_1 h => exact absurd h hen
  case h_2 => rw [if_neg (by omega), modQp_modQp]

/-- Control word 1 resumes a HALTED queue pair, under cause 6 only while the host can be reached; the cause stays (log 17). -/
theorem writeControl_resume {s : State} {q : Fin 16} (hhalt : (s.qp q).state = .halted)
    (hhost : (s.qp q).cause ≠ 6 ∨ s.hostUp = true) :
    s.writeControl q 1 = s.modQp q fun x => { x with ctlReg := 1, state := .running, resumeWait := false } := by
  have hno : ¬ ((s.qp q).cause = 6 ∧ ¬ s.hostUp) := fun ⟨hcause, hup⟩ => hhost.elim (· hcause) hup
  unfold State.writeControl
  simp only [hhalt, if_true, State.resumeQp, qp_modQp_same]
  exact (if_neg hno).trans (modQp_modQp s q _ _)

/-- Control word 2 resets a queue pair: what has not started is cancelled, and it starts afresh once the rest has completed. -/
theorem writeControl_reset {s : State} {q : Fin 16} (h : (s.qp q).state = .running ∨ (s.qp q).state = .halted) :
    s.writeControl q 2 =
      ((s.modQp q fun x => { x with ctlReg := 2, state := .resetting, resumeWait := false, readRetry := none }).cancelUnstarted
        q).endReset q := by
  have hone : (2 : Word) ≠ 1 := by decide
  unfold State.writeControl
  split
  case h_1 hdis => simp [hdis] at h
  case h_2 => rw [if_neg hone, if_pos ⟨rfl, h⟩, modQp_modQp]

/-! ### Fetches (10 R419 to R426) -/

/-- A running queue pair takes a packet that is no pad. -/
theorem fetched_of_not_pad {s : State} {i : Instr} {p : Pkt}
    (hrun : (s.qp p.qp).state = .running) (hpad : ∀ x, i ≠ .adminPad x) :
    s.fetched i p = s.takePacket i p none := by
  unfold State.fetched
  rw [if_neg (not_not_intro hrun)]
  split
  case h_1 x => exact absurd rfl (hpad x)
  case h_2 => rfl

/-- The bytes at the fetch position of a running host ring are a packet other than a pad, whole before the tail. -/
structure State.Covers (s : State) (q : Fin 16) (bytes : List Byte) : Prop where
  running : (s.qp q).state = .running
  host : s.qpLocal q = false
  notPad : le bytes 0 2 ≠ 2
  covered : granules (le bytes 6 2) ≤ ringDist (s.cmdSize q) (s.qp q).fetch (s.qp q).tail

/-- At least its header's granule stands before the tail. -/
theorem State.Covers.ready {s : State} {q : Fin 16} {bytes : List Byte} (h : s.Covers q bytes) :
    ¬ ((s.qp q).state ≠ .running ∨ ringDist (s.cmdSize q) (s.qp q).fetch (s.qp q).tail = 0) := by
  have hcover := h.covered
  have hheader : 1 ≤ granules (le bytes 6 2) := Nat.le_add_right 1 _
  rintro (hstate | hnone)
  · exact hstate h.running
  · omega

/-- And so does its end. -/
theorem State.Covers.whole {s : State} {q : Fin 16} {bytes : List Byte} (h : s.Covers q bytes) :
    ¬ (le bytes 6 2 ≤ 4032 ∧ (s.qp q).fetch + granules (le bytes 6 2) ≤ s.cmdSize q ∧
      ringDist (s.cmdSize q) (s.qp q).fetch (s.qp q).tail < granules (le bytes 6 2)) :=
  fun hcut => Nat.not_lt.mpr h.covered hcut.2.2

/-- Such a packet is taken as the command that its opcode names. -/
theorem evPacketFetch_named {s : State} {q : Fin 16} {bytes : List Byte} {i : Instr} (h : s.Covers q bytes)
    (hi : packetOf (le bytes 0 2) (parsePkt q (s.qp q).fetch (s.qp q).lap bytes) = some i) :
    evPacketFetch q bytes s = s.takePacket i (parsePkt q (s.qp q).fetch (s.qp q).lap bytes) none := by
  unfold evPacketFetch
  simp only [h.host, Bool.false_eq_true, if_false, false_and, or_false, hi]
  rw [if_neg h.ready, if_neg h.notPad, if_neg h.whole]
  exact fetched_of_not_pad h.running (ne_adminPad_of_opcode (opcodeOf_of_packetOf hi).1 h.notPad)

/-- Where no row names its opcode, it is taken without a meaning (R435, log 49). -/
theorem evPacketFetch_undefined {s : State} {q : Fin 16} {bytes : List Byte} (h : s.Covers q bytes)
    (hi : packetOf (le bytes 0 2) (parsePkt q (s.qp q).fetch (s.qp q).lap bytes) = none) :
    evPacketFetch q bytes s =
      s.takePacket (.adminPad (parsePkt q (s.qp q).fetch (s.qp q).lap bytes)) (parsePkt q (s.qp q).fetch (s.qp q).lap bytes)
        (some (le bytes 0 2)) := by
  unfold evPacketFetch
  simp only [h.host, Bool.false_eq_true, if_false, false_and, or_false, hi]
  rw [if_neg h.ready, if_neg h.notPad, if_neg h.whole]

/-! ### Times of waiting packets (10 R437, R438) -/

/-- The clock moves to the not-before time of a waiting packet that has one. -/
theorem evNotBeforeReached_of_waiting {s : State} {q : Fin 16} {tag : Half} {f : Flight} (hf : s.waitingTag q tag = some f)
    (hnb : f.pkt.notBefore ≠ 0) : evNotBeforeReached q tag s = s.advanceToNs f.pkt.notBefore.toNat := by
  simp only [evNotBeforeReached, hf, if_neg hnb]

/-- A packet without a not-before time that still has not started at the end of its window. -/
theorem evLateWindowExpiry_of_unstarted {s : State} {q : Fin 16} {tag : Half} {f : Flight} {w : Nat}
    (hf : s.waitingTag q tag = some f) (hw : lateSteps f.pkt = some w) (hnb : f.pkt.notBefore = 0)
    (hlate : ((((s.advanceTo (f.fetched + w)).settle (s.advanceTo (f.fetched + w)).waiting).qp q).flights.any fun (g : Flight) =>
      decide (g.id = f.id) && !g.started) = true) :
    evLateWindowExpiry q tag s =
      ((s.advanceTo (f.fetched + w)).settle (s.advanceTo (f.fetched + w)).waiting).ends ⟨q, f.id⟩ .timedOut := by
  simp only [evLateWindowExpiry, hf, hw, if_pos hnb, if_pos hlate]

/-! ### Timers and failed reads (10 R434, R442, R445, R450) -/

/-- The interrupt is sent MOD_TIME, in units of 4 µs, after the first entry that none covers. -/
theorem evIrqModTime_of_first {s : State} {q : Fin 16} {first : Nat} (hfirst : (s.qp q).irqFirst = some first)
    (hen : s.qpIrqEn q = true) (hmod : s.qpModTime q ≠ 0) :
    evIrqModTime q s = (s.advanceTo (first + usSteps (4 * s.qpModTime q))).interrupt q := by
  simp only [evIrqModTime, hfirst]
  rw [if_pos ⟨hen, hmod⟩]

/-- A running host ring's first failed read is repeated. -/
theorem evRingReadFail_first {s : State} {q : Fin 16} {addr : DWord} (hrun : (s.qp q).state = .running)
    (hhost : s.qpLocal q = false) (hretry : (s.qp q).readRetry = none) :
    evRingReadFail q addr s = s.modQp q fun x => { x with readRetry := some (addr, s.now + usSteps 10) } := by
  rw [evRingReadFail, if_neg (by simp [hrun, hhost]), hretry]

/-- The second one halts it at the instant of the repeat. -/
theorem evRingReadFail_second {s : State} {q : Fin 16} {addr a : DWord} {at_ : Nat} (hrun : (s.qp q).state = .running)
    (hhost : s.qpLocal q = false) (hretry : (s.qp q).readRetry = some (a, at_)) :
    evRingReadFail q addr s =
      ((s.advanceTo at_).modQp q fun x => { x with faultAddr := addr, readRetry := none }).haltQp q 1 := by
  rw [evRingReadFail, if_neg (by simp [hrun, hhost]), hretry]

/-- A barrier with a deadline ends there, every member with TIMED_OUT. -/
theorem evBarrierTimeout_of_deadline {s : State} {k : Fin 8} {i : BarrierInst} {d : Nat} (hi : vget s.barriers k = some i)
    (hd : i.deadline = some d) :
    evBarrierTimeout k s = (({ s with barriers := vset s.barriers k none }).advanceTo d).endAll i.members .timedOut := by
  simp only [evBarrierTimeout, hi, hd]

/-! ### The host link (10 R444, 15 R645) -/

/-- Every queue pair of a host ring halts with cause 6, in the order of their numbers. -/
theorem evHostUnavailable_eq (s : State) (up bme : Bool) :
    evHostUnavailable up bme s =
      (List.finRange 16).foldl (fun (u : State) (q : Fin 16) => if u.qpLocal q then u else u.haltQp q 6)
        { s with linkUp := up, busMaster := bme } := by
  simp only [evHostUnavailable, ite_not]

/-! ### The statement -/

/-- Settles O24: one law of each event's effect. An opcode that names no row travels as ADMIN_PAD (log 49), and the cause of a
halt stays after the queue pair resumes (log 17). -/
theorem queueAndHostEventsComplete : Obligations.QueueAndHostEventsComplete := by
  refine ⟨fun s q hawake => ⟨?tail, ?head, ?resume, ?reset, ?fetch, ?undefined, ?notBefore, ?late, ?irq, ?fail, ?again⟩,
    fun s hawake => ⟨?barrier, ?lost, ?linked⟩⟩
  case tail =>
    intro v hen hok
    exact event_leaves hawake (writeTail_in_range hen hok)
  case head =>
    intro v hen hlow hok
    exact event_leaves hawake (writeHead_in_range hen hlow hok)
  case resume =>
    intro hhalt hhost
    exact event_leaves hawake (writeControl_resume hhalt hhost)
  case reset =>
    intro h
    exact event_leaves hawake (writeControl_reset h)
  case fetch =>
    intro bytes i hrun hhost hi hpad _ _ hcover
    exact event_leaves hawake (evPacketFetch_named ⟨hrun, hhost, hpad, hcover⟩ hi)
  case undefined =>
    intro bytes hrun hhost hi hpad _ _ hcover
    exact event_leaves hawake (evPacketFetch_undefined ⟨hrun, hhost, hpad, hcover⟩ hi)
  case notBefore =>
    intro tag f hf hnb
    exact event_leaves hawake (evNotBeforeReached_of_waiting hf hnb)
  case late =>
    intro tag f w hf hw hnb hlate
    exact event_leaves hawake (evLateWindowExpiry_of_unstarted hf hw hnb hlate)
  case irq =>
    intro first hfirst hen hmod
    exact event_leaves hawake (evIrqModTime_of_first hfirst hen hmod)
  case fail =>
    intro addr hrun hhost hretry
    exact event_leaves hawake (evRingReadFail_first hrun hhost hretry)
  case again =>
    intro addr a at_ hrun hhost hretry
    exact event_leaves hawake (evRingReadFail_second hrun hhost hretry)
  case barrier =>
    intro k i d hi hd
    exact event_leaves hawake (evBarrierTimeout_of_deadline hi hd)
  case lost =>
    intro up bme
    exact event_leaves hawake (evHostUnavailable_eq s up bme)
  case linked =>
    intro rate width
    exact event_leaves hawake rfl

end Sys2Proof.Machine
end

section
/-! PROOFS. The Ethernet ports (13): what gate-control lists, received and transmitted frames, links and upsets leave while they
apply. -/

namespace Sys2Proof.Machine

/-! ### Gate-control lists (13 R550, R551) -/

/-- The list that waits takes effect at its instant, and its packet completes. -/
theorem evGclSwitch_of_next {s : State} {port : Fin 2} {t : Ticket} {g : Gcl} {at_ : Nat}
    (h : (s.port port).gclNext = some (t, g, at_)) :
    evGclSwitch port s =
      (let s1 := s.advanceToNs at_
       (s1.modPort port fun x => ({ x with gcl := some g, gclNext := none }).place s1.ns).ends t .done) := by
  simp only [evGclSwitch, h]

/-- The list in force moves on where its entry ends. -/
theorem evGateControlEntry_of_gcl {s : State} {port : Fin 2} (h : (s.port port).gcl ≠ none) :
    evGateControlEntry port s =
      (let s1 := s.advanceToNs (s.port port).entryEnd
       s1.modPort port fun x => x.place s1.ns) := by
  rw [evGateControlEntry, if_pos (Option.isSome_iff_ne_none.mpr h)]

/-! ### Received frames (13 R544 to R548, R554) -/

/-- The frame in received bytes, without its FCS. -/
def frameOf (bytes : List Byte) : List Byte := bytes.take (bytes.length - 4)

/-- The stamp of a frame at the medium (R545). -/
def State.rxStamp (s : State) (port : Fin 2) (sec : DWord) (ns : Word) (sub : Half) : Nat :=
  stampValue sec ns sub - latValue (s.rxLat port)

/-- A frame that the FCS refuses is only counted. -/
theorem evEthFrameReceived_badFcs {s : State} {port : Fin 2} {bytes : List Byte} {sec : DWord} {ns : Word} {sub : Half}
    (hup : s.portState port = .up) (hbad : fcs (frameOf bytes) ≠ le bytes (bytes.length - 4) 4) :
    evEthFrameReceived port bytes sec ns sub s = s.modPort port fun x => { x with badFcs := x.badFcs + 1 } := by
  unfold evEthFrameReceived
  rw [if_neg (not_not_intro hup)]
  exact if_pos hbad

/-- A frame on a port that is up, with the FCS right, and no MAC control frame. -/
structure State.Receives (s : State) (port : Fin 2) (bytes : List Byte) : Prop where
  up : s.portState port = .up
  good : fcs (frameOf bytes) = le bytes (bytes.length - 4) 4
  data : etypeOf (frameOf bytes) ≠ 0x8808

/-- Where a good frame goes: the station copier, PTP, the first filter that matches, or nowhere (R546). -/
def State.offered (s : State) (port : Nat) (f : List Byte) (stamp : Nat) : State :=
  match s.stationOf port f with
  | some (n, c) => s.copyStation n c f (stamp / 65536)
  | none =>
    match s.ptpOf port f with
    | some o => s.takePtp f o
    | none =>
      match (List.range 16).find? fun k => (vget s.filters k).matches port f with
      | some k => s.deliver port k f stamp
      | none => s.discardFrame port

theorem evEthFrameReceived_of_receives {s : State} {port : Fin 2} {bytes : List Byte} {sec : DWord} {ns : Word} {sub : Half}
    (h : s.Receives port bytes) :
    evEthFrameReceived port bytes sec ns sub s = s.offered port (frameOf bytes) (s.rxStamp port sec ns sub) := by
  unfold evEthFrameReceived
  rw [if_neg (not_not_intro h.up)]
  exact (if_neg (not_not_intro h.good)).trans (if_neg h.data)

section
variable {s : State} {port : Nat} {f : List Byte} {stamp : Nat}

theorem offered_station {n : Nat} {c : StationCfg} (hst : s.stationOf port f = some (n, c)) :
    s.offered port f stamp = s.copyStation n c f (stamp / 65536) := by
  simp only [State.offered, hst]

theorem offered_ptp {o : Nat} (hst : s.stationOf port f = none) (hptp : s.ptpOf port f = some o) :
    s.offered port f stamp = s.takePtp f o := by
  simp only [State.offered, hst, hptp]

theorem offered_filter {k : Nat} (hst : s.stationOf port f = none) (hptp : s.ptpOf port f = none)
    (hk : (List.range 16).find? (fun k => (vget s.filters k).matches port f) = some k) :
    s.offered port f stamp = s.deliver port k f stamp := by
  simp only [State.offered, hst, hptp, hk]

theorem offered_unclaimed (hst : s.stationOf port f = none) (hptp : s.ptpOf port f = none)
    (hnone : ∀ k, k < 16 → (vget s.filters k).matches port f = false) : s.offered port f stamp = s.discardFrame port := by
  have hk : (List.range 16).find? (fun k => (vget s.filters k).matches port f) = none :=
    List.find?_eq_none.mpr fun k hk => Bool.eq_false_iff.mp (hnone k (List.mem_range.mp hk))
  simp only [State.offered, hst, hptp, hk]

end

/-- A received frame of a legal length at an awake device leaves its effect and what follows it. -/
theorem exec_ethFrameReceived {s u : State} {port : Fin 2} {bytes : List Byte} {sec : DWord} {ns : Word} {sub : Half}
    (hawake : s.awake = true) (h64 : 64 ≤ bytes.length) (h1522 : bytes.length ≤ 1522) (hns : ns.toNat < 1000000000)
    (he : evEthFrameReceived port bytes sec ns sub s = u) :
    exec (.ethFrameReceived port bytes sec ns sub) s = .next u.finish := by
  have hwf : (decide (64 ≤ bytes.length) && decide (bytes.length ≤ 1522) && decide (ns.toNat < 1000000000)) = true := by
    simp [h64, h1522, hns]
  exact (event_awake _ hwf hawake).trans (by rw [he])

/-! ### Frames sent (13 R455, R549) -/

/-- The frame that leaves next does, and its packet completes, with the stamp at the medium if it asks for one. -/
theorem evFrameTransmitted_of_next {s : State} {port : Fin 2} {w : TxWait} {sec : DWord} {ns : Word} {sub : Half}
    (hup : s.portState port = .up) (hw : s.nextTx port = some w) :
    evFrameTransmitted port sec ns sub s =
      (let st := stampParts (stampValue sec ns sub + latValue (s.txLat port))
       let s1 := s.modPort port fun x => { x with txq := x.txq.erase w, sent := w.bytes ++ bytesOf 4 (fcs w.bytes) }
       if w.stamp then
         s1.answer w.ticket { r0 := word [(w.length, 0)], extra := word [(st.2, 0), (port.val, 16)], stamp := some st.1 }
       else s1.answer w.ticket { r0 := word [(w.length, 0)] }) := by
  simp only [evFrameTransmitted, if_neg (not_not_intro hup), hw]

/-- The oldest frame that waits on a port ends at its deadline. -/
theorem evNetTxTimeout_of_oldest {s : State} {port : Fin 2} {w : TxWait} {rest : List TxWait} (h : (s.port port).txq = w :: rest) :
    evNetTxTimeout port s =
      ((s.advanceTo w.deadline).modPort port fun x => { x with txq := rest }).ends w.ticket .timedOut := by
  simp only [evNetTxTimeout, h]

/-! ### Links and upsets (13 R544, R574, 12 R502) -/

/-- A link change on an enabled port is reported where it is one, and stations may be lost with it. -/
theorem evEthLinkChange_enabled {s : State} {port : Fin 2} {up : Bool} {speed : BitVec 2} (hen : s.portEn port = true) :
    evEthLinkChange port up speed s =
      (let s1 := s.modPort port fun x => { x with link := up, speed := speed }
       (if (s.port port).link = up then s1 else s1.report 0x0C port (bit up)).dropStations) := by
  rw [evEthLinkChange, if_neg (not_not_intro hen)]

theorem evEthPortUpset_up {s : State} {port : Fin 2} (hup : s.portState port = .up) :
    evEthPortUpset port s = s.detect 5 port := if_pos hup

/-! ### The statement -/

/-- Settles O55: one law of each event's effect; a received frame is offered to its consumers in the order of R546. -/
theorem netEventsComplete : Obligations.NetEventsComplete := by
  intro s port hawake
  refine ⟨?gclSwitch, ?entry, ?received, ?sent, ?timeout, ?link, ?upset⟩
  case gclSwitch =>
    intro t g at_ h
    exact event_leaves hawake (evGclSwitch_of_next h)
  case entry =>
    intro h
    exact event_leaves hawake (evGateControlEntry_of_gcl h)
  case received =>
    intro bytes sec ns sub h64 h1522 hns hup
    refine ⟨fun hbad => ?badFcs, fun hgood hdata => ?good⟩
    case badFcs =>
      exact exec_ethFrameReceived hawake h64 h1522 hns (evEthFrameReceived_badFcs hup hbad)
    case good =>
      have leaves {u : State} (he : s.offered port (frameOf bytes) (s.rxStamp port sec ns sub) = u) :
          exec (.ethFrameReceived port bytes sec ns sub) s = .next u.finish :=
        exec_ethFrameReceived hawake h64 h1522 hns ((evEthFrameReceived_of_receives ⟨hup, hgood, hdata⟩).trans he)
      exact ⟨fun n c hst => leaves (offered_station hst), fun hst =>
        ⟨fun o hptp => leaves (offered_ptp hst hptp), fun hptp =>
          ⟨fun k hk => leaves (offered_filter hst hptp hk), fun hnone => leaves (offered_unclaimed hst hptp hnone)⟩⟩⟩
  case sent =>
    intro w sec ns sub hns hup hw
    have hwf : decide (ns.toNat < 1000000000) = true := decide_eq_true hns
    exact (event_awake _ hwf hawake).trans (by rw [evFrameTransmitted_of_next hup hw])
  case timeout =>
    intro w rest h
    exact event_leaves hawake (evNetTxTimeout_of_oldest h)
  case link =>
    intro up speed hen
    exact event_leaves hawake (evEthLinkChange_enabled hen)
  case upset =>
    intro hup
    exact event_leaves hawake (evEthPortUpset_up hup)

end Sys2Proof.Machine
end

section
/-! PROOFS. The Wheel (11): what each packet of class WHEEL leaves where its rule lets it act, and what the Wheel cycle and the
timers that bring it about leave. -/

namespace Sys2Proof.Machine

/-! ### Contexts (11 R461, R469, R473, R478) -/

theorem effWheelConfig_legal {s : State} {p : Pkt} (t : Ticket) (hlow : 1 ≤ prm16 p 0) (hhigh : prm16 p 0 ≤ 4000) :
    effWheelConfig t p s = (s.modWheel fun w => { w with tick := prm16 p 0 }).ends t .done := if_pos ⟨hlow, hhigh⟩

/-- WHEEL_CONTEXT of a priority that its worker has, and of a task or thread that is present (R478). -/
theorem effWheelContext_legal {s : State} {p : Pkt} (t : Ticket) (hprio : prm p 0 ≤ 15)
    (hworker : 8 ≤ p.target.toNat ∨ 4 ≤ prm p 0) (hmode : prm p 1 ≤ 1) (hentry : s.entryOk p.target.toNat (prm16 p 2) = true) :
    effWheelContext t p s =
      (let s1 := s.modWc p.target.toNat fun x => { x with
         state := .idle, prio := prm p 0, tmode := prm p 1, entry := prm16 p 2 }
       (if p.target.toNat < 8 then s1.modThread (p.target.toNat - 4) fun _ => {} else s1).ends t .done) :=
  if_pos ⟨hprio, hworker, hmode, hentry⟩

/-- WHEEL_SIGMAP: class 0xFF unmaps the signal, and unit 0xFFFF stands for every unit of a class (R473). -/
theorem effWheelSigmap_legal {s : State} {p : Pkt} {m : Option (Byte × Option Half)} (t : Ticket) (hsig : prm p 0 ≤ 31)
    (hm : prm p 1 = 0xFF ∧ m = none ∨ prm p 1 ≤ 0x10 ∧
      m = some (BitVec.ofNat 8 (prm p 1), if prm16 p 2 = 0xFFFF then none else some (BitVec.ofNat 16 (prm16 p 2)))) :
    effWheelSigmap t p s = (s.modWheel fun w => { w with map := vset w.map (prm p 0) m }).ends t .done := by
  unfold effWheelSigmap
  dsimp only
  rcases hm with ⟨hnone, rfl⟩ | ⟨hcls, rfl⟩
  · rw [if_pos ⟨hsig, .inr hnone⟩, if_pos hnone]
  · rw [if_pos ⟨hsig, .inl hcls⟩, if_neg (by omega)]

/-! ### Delays and waits (11 R468, R470, R471) -/

/-- WHEEL_DELAY of a context in `TMODE` 0 puts it on the delay list. -/
theorem effWheelDelay_legal {s : State} {p : Pkt} (t : Ticket) (hmode : (s.wc p.target.toNat).tmode = 0)
    (hlow : 1 ≤ prm32 p 0) (hhigh : prm32 p 0 ≤ 16777216) :
    effWheelDelay t p s = s.delayContext p.target.toNat (prm32 p 0) (some t) := by
  unfold effWheelDelay
  dsimp only
  rw [if_neg (by omega), if_pos ⟨hlow, hhigh⟩]

/-- WHEEL_WAIT without a time-out, for a context in `TMODE` 0, waits for its signals alone. -/
theorem effWheelWait_untimed {s : State} {p : Pkt} (t : Ticket) (htmo : prm32 p 4 = 0) (hmask : prm32 p 0 ≠ 0)
    (hmode : (s.wc p.target.toNat).tmode = 0) :
    effWheelWait t p s = s.modWc p.target.toNat fun x => { x with
      state := .waiting, timer := some t, mask := BitVec.ofNat 32 (prm32 p 0), due := none } := by
  unfold effWheelWait
  dsimp only
  rw [if_neg (fun h => hmask h.1), if_neg (by simp [hmode, htmo]), State.waitContext, if_pos htmo]

/-- WHEEL_WAIT with a time-out, for a context in `TMODE` 1, ends it so many microseconds after the present Wheel cycle. -/
theorem effWheelWait_timed {s : State} {p : Pkt} (t : Ticket) (htmo : prm32 p 4 ≠ 0)
    (hmode : (s.wc p.target.toNat).tmode = 1) :
    effWheelWait t p s = s.modWc p.target.toNat fun x => { x with
      state := .waiting, timer := some t, mask := BitVec.ofNat 32 (prm32 p 0),
      due := some (s.wheelStart + 1000 * prm32 p 4) } := by
  unfold effWheelWait
  dsimp only
  rw [if_neg (fun h => htmo h.2), if_neg (by simp [hmode, htmo]), State.waitContext, if_neg htmo]

/-! ### Status (11 R480, Table 11-7) -/

theorem effWheelStatus_context {s : State} {p : Pkt} (t : Ticket) (hsel : prm p 0 = 0) :
    effWheelStatus t p s =
      (let x := s.wc p.target.toNat
       s.answer t { r0 := word [(x.state.code, 0), (x.prio, 4), (x.tmode, 8), (bit x.pend, 9), (x.entry, 16)],
                    r1 := word [(x.dispatches, 0)], extra := if x.state = .waiting then x.mask else 0 }) := by
  simp only [effWheelStatus, hsel]

theorem effWheelStatus_cancels {s : State} {p : Pkt} (t : Ticket) (hsel : prm p 0 = 1) (htarget : p.target = 0) :
    effWheelStatus t p s =
      s.answer t { r0 := word [(s.wheel.cancelPre, 0), (s.wheel.cancelRdy, 16)],
                   r1 := word [(s.wheel.coalesced, 0), (s.wheel.waitTos, 16)], extra := s.wheel.pending } := by
  simp only [effWheelStatus, hsel]
  exact if_neg (not_not_intro htarget)

theorem effWheelStatus_dispatches {s : State} {p : Pkt} (t : Ticket) (hsel : prm p 0 = 2) (htarget : p.target = 0) :
    effWheelStatus t p s =
      s.answer t { r0 := word [(s.wheel.dispB, 0)], r1 := word [(s.wheel.dispL, 0)],
                   extra := word [(s.wheel.longest, 0), (s.wheel.tick, 16)] } := by
  simp only [effWheelStatus, hsel]
  exact if_neg (not_not_intro htarget)

/-! ### Timers (11 R470, R471) -/

/-- The earliest delay ends in the first Wheel cycle at or after its boundary. -/
theorem evDelayExpiry_of_due {s : State} {d : Nat} (h : s.firstDue .delayed = some d) :
    evDelayExpiry s = evWheelCycle (s.advanceToNs (40 * divUp d 40)) := by
  unfold evDelayExpiry
  rw [h]

/-- A wait runs out in the first Wheel cycle at or after the end of its time-out. -/
theorem evWaitTimeout_of_due {s : State} {c : Fin 128} {d : Nat} (hwait : (s.wc c).state = .waiting)
    (hdue : (s.wc c).due = some d) : evWaitTimeout c s = evWheelCycle (s.advanceToNs (40 * divUp d 40)) := by
  rw [evWaitTimeout, if_pos hwait, hdue]

/-! ### The statement -/

/-- Settles O47: one law of the packet's effect each, read in the state in which the packet begins, and one of each timer's; a ready
request, a cancel, a signal, a release and the Wheel cycle act in every state, and what they leave is their definition. -/
theorem wheelCommandsComplete : Obligations.WheelCommandsComplete := by
  refine ⟨fun s p => ⟨?config, ?context, ?ready, ?delay, ?waitUntimed, ?waitTimed, ?cancel, ?signal, ?sigmap, ?statusContext,
    ?statusCancels, ?statusDispatches, ?release⟩, fun s hawake => ⟨?cycle, ?delayExpiry, ?waitTimeout⟩⟩
  case config =>
    intro h hlow hhigh
    exact exec_admitted rfl rfl (by decide) h (effWheelConfig_legal _ hlow hhigh)
  case context =>
    intro h hprio hworker hmode hentry
    exact exec_admitted rfl rfl (by decide) h
      (effWheelContext_legal (s := s.begun (.wheelContext p) p) _ hprio hworker hmode hentry)
  case ready =>
    intro h
    exact exec_admitted rfl rfl (by decide) h rfl
  case delay =>
    intro h hmode hlow hhigh
    exact exec_admitted rfl rfl (by decide) h (effWheelDelay_legal (s := s.begun (.wheelDelay p) p) _ hmode hlow hhigh)
  case waitUntimed =>
    intro h htmo hmask hmode
    exact exec_admitted rfl rfl (by decide) h (effWheelWait_untimed (s := s.begun (.wheelWait p) p) _ htmo hmask hmode)
  case waitTimed =>
    intro h htmo hmode
    exact exec_admitted rfl rfl (by decide) h (effWheelWait_timed (s := s.begun (.wheelWait p) p) _ htmo hmode)
  case cancel =>
    intro h
    exact exec_admitted rfl rfl (by decide) h rfl
  case signal =>
    intro h
    exact exec_admitted rfl rfl (by decide) h rfl
  case sigmap =>
    intro m h hsig hm
    exact exec_admitted rfl rfl (by decide) h (effWheelSigmap_legal _ hsig hm)
  case statusContext =>
    rintro _ h hsel rfl
    exact exec_admitted rfl rfl (by decide) h (effWheelStatus_context _ hsel)
  case statusCancels =>
    rintro _ h hsel htarget rfl
    exact exec_admitted rfl rfl (by decide) h (effWheelStatus_cancels _ hsel htarget)
  case statusDispatches =>
    rintro _ h hsel htarget rfl
    exact exec_admitted rfl rfl (by decide) h (effWheelStatus_dispatches _ hsel htarget)
  case release =>
    intro h
    exact exec_admitted rfl rfl (by decide) h rfl
  case cycle => exact event_leaves hawake rfl
  case delayExpiry =>
    intro d hdue
    exact event_leaves hawake (evDelayExpiry_of_due hdue)
  case waitTimeout =>
    intro c d hwait hdue
    exact event_leaves hawake (evWaitTimeout_of_due hwait hdue)

end Sys2Proof.Machine
end

section
/-! PROOFS. The cycle engine (12): what starts and ends of cycles, event tasks, output windows, the Kiln sitter, changes of image
and the boot image leave while they apply. -/

namespace Sys2Proof.Machine

/-! ### The clock in DTB nanoseconds -/

/-- The clock that moves to a DTB instant leaves the engine as it is. -/
theorem advanceToNs_cyc (s : State) (t : Nat) : (s.advanceToNs t).cyc = s.cyc := by
  unfold State.advanceToNs
  cases s.slowFrom <;> rfl

theorem advanceToNs_run (s : State) (t r : Nat) : (s.advanceToNs t).run r = s.run r := by
  rw [State.run, advanceToNs_cyc, State.run]

/-! ### Cycles (12 R483, R495, R509) -/

/-- A start instant outside the power-fail sequence has its effect (log 67). -/
theorem exec_cycleStart {s u : State} {k : Fin 4} (hawake : s.awake = true) (hpower : s.pwr.failing = none)
    (he : evCycleStart k s = u) : exec (.cycleStart k) s = .next u.finish := by
  refine event_leaves (f := fun s => if s.pwr.failing.isSome then s else evCycleStart k s) hawake ?_
  exact (if_neg (by simp [hpower])).trans he

/-- A start instant of a task of the image, in an engine in service, that no running cycle makes it skip: a cycle begins, or an
input phase alone comes. -/
theorem evCycleStart_of_task {s : State} {k : Fin 4} (htask : k.val ∈ s.cyclicTasks) (hserve : s.cyc.state ≠ .retired)
    (hidle : ¬ (s.cyc.state = .run ∧ (s.run k).active = true)) :
    evCycleStart k s =
      (let s1 := s.advanceToNs (s.nextStart k)
       if s.cyc.state = .run ∧ ¬ s.cyc.stopping ∧ (s.run k).firstStart ≤ s.nextStart k then s1.beginCycle k (s.nextStart k)
       else s1.idlePhase k (s.nextStart k)) := by
  unfold evCycleStart
  dsimp only
  rw [if_pos ⟨List.contains_iff_mem.mpr htask, hserve⟩, advanceToNs_cyc, advanceToNs_run, if_neg hidle]

/-- In RUN a cycle begins at the start instant of a task whose last cycle has ended. -/
theorem evCycleStart_begins {s : State} {k : Fin 4} (htask : k.val ∈ s.cyclicTasks) (hrun : s.cyc.state = .run)
    (hgoing : s.cyc.stopping = false) (hended : (s.run k).active = false) (hfirst : (s.run k).firstStart ≤ s.nextStart k) :
    evCycleStart k s = (s.advanceToNs (s.nextStart k)).beginCycle k (s.nextStart k) := by
  rw [evCycleStart_of_task htask (by simp [hrun]) (by simp [hended])]
  exact if_pos ⟨hrun, by simp [hgoing], hfirst⟩

/-- Outside RUN an input phase alone comes at the instant, and reads take their snapshot there (log 95). -/
theorem evCycleStart_idle {s : State} {k : Fin 4} (htask : k.val ∈ s.cyclicTasks) (hrest : s.cyc.state ≠ .run)
    (hserve : s.cyc.state ≠ .retired) :
    evCycleStart k s = ((s.advanceToNs (s.nextStart k)).inputPhase k (s.nextStart k)).readsTurn (turnAt k) := by
  rw [evCycleStart_of_task htask hserve fun h => hrest h.1]
  refine (if_neg fun h => hrest h.1).trans ?_
  rw [State.idlePhase, advanceToNs_cyc, if_neg hrest]

/-- The logic of a running cycle runs to its end; a cycle in time clears the count of overruns. -/
theorem evCycleEnd_running {s : State} {k : Fin 4} (hactive : (s.run k).active = true) (hrun : s.cyc.state = .run) :
    evCycleEnd k s =
      (let s1 := s.runToEnd k (s.fuelOf k)
       let inTime := decide (s1.ns ≤ (s1.run k).start + s1.period k)
       let s2 := ((s1.endRun k).transfer k).modRun k fun x => { x with overruns := if inTime then 0 else x.overruns }
       (s2.readsTurn fun v => turnAt k v && (eventOwner v).isNone).stopIfIdle) := if_pos ⟨hactive, hrun⟩

/-- The event task on the lane runs to its end, and the lane becomes free (11 R464). -/
theorem evEventTaskEnd_running {s : State} (hactive : (s.run 4).active = true) :
    evEventTaskEnd s =
      (let s1 := s.runToEnd 4 (s.fuelOf 4)
       (((s1.endRun 4).freeLane).readsTurn fun v => eventOwner v = some (s.run 4).task).stopIfIdle) := if_pos hactive

/-! ### Output windows and the Kiln sitter (12 R501 to R503, R513, R514) -/

/-- The output frames of the phase at `tc` leave at the task's offset from it. -/
theorem evOutputWindow_of_phase {s : State} {k : Fin 4} {tc : Nat} (hphase : (s.run k).phaseAt = some tc)
    (htask : k.val ∈ s.cyclicTasks) (hserve : s.cyc.state ≠ .retired) :
    evOutputWindow k s =
      (let s1 := s.advanceToNs (tc + 1000 * vget s.cyc.outOfs k)
       s1.modCyc fun c => { c with sent := s1.windowFrames k tc }) := by
  simp only [evOutputWindow, hphase]
  exact if_pos ⟨List.contains_iff_mem.mpr htask, hserve⟩

/-- The count of overruns of one task stops the engine where it reaches its limit. -/
theorem evKilnSitterTrip_of_overruns {s : State} {k : Nat} (hk : k < 4) (hrun : s.cyc.state = .run)
    (hlimit : s.cyc.ksLimit ≤ (s.run k).overruns) : evKilnSitterTrip s = s.stopEngine 0x0A01 .stop := by
  have hany : ((List.range 4).any fun k => decide (s.cyc.ksLimit ≤ (s.run k).overruns)) = true :=
    List.any_eq_true.mpr ⟨k, List.mem_range.mpr hk, decide_eq_true hlimit⟩
  rw [evKilnSitterTrip, if_neg (not_not_intro hrun), if_pos hany]

/-! ### Images (12 R506, R512, R518, R520) -/

/-- A change switches at its instant where no cycle and no event task runs. -/
theorem evChangeSwitch_of_change {s : State} {c : CycChange} (hchange : s.cyc.change = some c) (hhold : s.cyc.state ≠ .hold)
    (hidle : ∀ r, r < 5 → (s.run r).active = false) :
    evChangeSwitch s =
      (let r := (s.advanceToNs c.at_).switchImage
       (r.1.forEach (List.range 4) fun s k => s.modRun k fun x => { x with firstStart := c.at_, overruns := 0 }).endChange
         c r.2 c.at_) := by
  have hfree : ¬ (s.cyc.state = .hold ∨ ((List.range 5).any fun r => (s.run r).active) = true) := by
    rintro (h | h)
    · exact hhold h
    · obtain ⟨r, hr, hactive⟩ := List.any_eq_true.mp h
      exact Bool.eq_false_iff.mp (hidle r (List.mem_range.mp hr)) hactive
  simp only [evChangeSwitch, hchange, advanceToNs_cyc, advanceToNs_run]
  exact if_neg hfree

/-- The stored image is loaded after the lock into an engine without one, if it verifies under its own configuration. -/
theorem evImageBootLoad_of_nor {s : State} {img cfg : List Byte} (hnor : s.cyc.nor = some (img, cfg))
    (hcycle : s.hasCycle = true) (hlocked : s.locked = true) (hempty : s.cyc.state = .empty) :
    evImageBootLoad s =
      (let s1 := s.modCyc fun c => c.withConfig cfg
       if (s1.verdict img).isSome then s
       else
         let s2 := (s1.modCyc fun c => { c with image := img, state := .stop }).restoreRetain
         if s2.cyc.autoRun then (s2.startTasks).modCyc fun c => { c with state := .run } else s2) := by
  simp only [evImageBootLoad, hnor]
  exact if_pos ⟨hcycle, hlocked, hempty⟩

/-! ### The statement -/

/-- Settles O52: one law of each event's effect; the clock that moves to the event's instant leaves the engine as it was. -/
theorem cycleEventsComplete : Obligations.CycleEventsComplete := by
  intro s hawake
  refine ⟨?begins, ?idle, ?ends, ?eventTask, ?window, ?kiln, ?change, ?boot⟩
  case begins =>
    rintro k _ hpower htask hrun hgoing hended rfl hfirst
    exact exec_cycleStart hawake hpower (evCycleStart_begins htask hrun hgoing hended hfirst)
  case idle =>
    rintro k _ hpower htask hstate rfl
    have hrest : s.cyc.state ≠ .run := by rcases hstate with h | h <;> simp [h]
    have hserve : s.cyc.state ≠ .retired := by rcases hstate with h | h <;> simp [h]
    exact exec_cycleStart hawake hpower (evCycleStart_idle htask hrest hserve)
  case ends =>
    intro k hactive hrun
    exact event_leaves hawake (evCycleEnd_running hactive hrun)
  case eventTask =>
    intro hactive
    exact event_leaves hawake (evEventTaskEnd_running hactive)
  case window =>
    intro k tc hphase htask hserve
    exact event_leaves hawake (evOutputWindow_of_phase hphase htask hserve)
  case kiln =>
    intro k hk hrun hlimit
    exact event_leaves hawake (evKilnSitterTrip_of_overruns hk hrun hlimit)
  case change =>
    intro c hchange hhold hidle
    exact event_leaves hawake (evChangeSwitch_of_change hchange hhold hidle)
  case boot =>
    intro img cfg hnor hcycle hlocked hempty
    exact event_leaves hawake (evImageBootLoad_of_nor hnor hcycle hlocked hempty)

end Sys2Proof.Machine
end
section
/-! PROOFS. The step (95) and what `exec` answers: the front command or a tick of the clock, a next state exactly where a command
can be spelled, nothing for a packet in a main die that is not awake, and the state after reset. -/

namespace Sys2Proof.Machine

/-! ### The step -/

/-- Settles O1: the step is defined by the front of the queue. -/
theorem stepRunsFrontCommand : Obligations.StepRunsFrontCommand :=
  fun _ _ _ => rfl

/-- Settles O2: an empty queue leaves one tick, and an instant ahead is where the clock then stands. -/
theorem idleStepIsOneTick : Obligations.IdleStepIsOneTick := by
  intro s hempty
  refine ⟨by rw [step, hempty], ?_⟩
  exact max_eq_right (Nat.le_add_right s.now 32)

/-! ### What a command answers -/

/-- An outcome is a next state exactly where a test of the operands holds, and turned away by name elsewhere. -/
def AnswersIff (wf : Bool) (o : Host.Outcome State Fault Refusal) : Prop :=
  (wf = true → ∃ t, o = .next t) ∧ (wf = false → o = .refused .illFormed)

theorem packet_answersIff (i : Instr) (p : Pkt) (s : State) : AnswersIff p.wf (packet i p s) :=
  ⟨fun h => ⟨_, if_pos h⟩, fun h => if_neg (Bool.eq_false_iff.mp h)⟩

theorem event_answersIff (wf : Bool) (f : State → State) (s : State) : AnswersIff wf (event wf f s) :=
  ⟨fun h => ⟨_, if_pos h⟩, fun h => if_neg (Bool.eq_false_iff.mp h)⟩

theorem frameEvent_answersIff (wf : Bool) (again f : State → State) (s : State) : AnswersIff wf (frameEvent wf again f s) :=
  ⟨fun h => ⟨_, if_pos h⟩, fun h => if_neg (Bool.eq_false_iff.mp h)⟩

/-- An event that reaches the device in any power state has no operands that could be ill formed. -/
theorem always_answersIff (f : State → State) (s : State) : AnswersIff true (always f s) :=
  ⟨fun _ => ⟨_, rfl⟩, fun h => nomatch h⟩

/-- A packet command is well formed where its packet is. -/
theorem wf_of_pkt {i : Instr} {p : Pkt} (h : i.pkt = some p) : i.wf = p.wf := by
  cases i <;> cases h <;> rfl

/-- Every command answers a next state exactly where it is well formed: a packet, a frame of the ring, an event that reaches the
device in any power state, and any other event or access. -/
theorem exec_answersIff (i : Instr) (s : State) : AnswersIff i.wf (exec i s) := by
  cases hp : i.pkt with
  | some p =>
    rw [exec_of_pkt s hp, wf_of_pkt hp]
    exact packet_answersIff i p s
  | none =>
    cases i with
    | timeFrame | delayFrame | heartbeatFrame | telemetryFrame | mirrorFrame | fragmentFrame | ringAckFrame =>
      exact frameEvent_answersIff _ _ _ s
    | wakeFrame | feedOutOfWindow | feedReconnect | powerFail | powerFailEnd | powerOn | resetNLow | resetNRise | wakePin
    | wakeInterval | watchConversion => exact always_answersIff _ s
    | ethFrameReceived | frameTransmitted | registerWrite => exact event_answersIff _ _ s
    | _ => cases hp <;> exact event_answersIff true _ s

/-- Settles O3. -/
theorem spellableCommandsAnswer : Obligations.SpellableCommandsAnswer :=
  fun s c => exec_answersIff c s

/-- Settles O4: a packet command is the submission of its packet, and a main die that is not awake takes none. -/
theorem asleepPacketsDoNothing : Obligations.AsleepPacketsDoNothing := by
  intro s i p hp hwf hasleep
  have hstays : s.arrive i p = s := if_neg (Bool.eq_false_iff.mp hasleep)
  rw [exec_of_pkt s hp, packet, if_pos hwf, hstays]

/-! ### After reset -/

/-- Settles O16: the values of `State.reset`. -/
theorem resetLeavesTheBlockIdle : Obligations.ResetLeavesTheBlockIdle :=
  ⟨rfl, rfl, rfl, rfl, rfl, rfl, rfl, by decide⟩

end Sys2Proof.Machine
end
section
/-! PROOFS. Device time (13): what each packet of class TIME leaves where its rule lets it act, when a change of it is refused, and
what changes of the rate, steps and the PTP intervals leave while they apply. -/

namespace Sys2Proof.Machine

/-! ### Changes need the source LOCAL (13 R537) -/

/-- The packets of class TIME that change the DTB or its rate carry no payload and address no unit, and are refused while the
source is not LOCAL. -/
theorem check_of_not_local {s : State} {p : Pkt} {op : Nat} (hop : op = 0x0B00 ∨ op = 0x0B01) (own : Bool)
    (hheader : headerOk op p = true) (hlen : p.len = 0) (htarget : p.target = 0) (hsrc : s.time.src ≠ 0) :
    s.check op p own = some .stateRefused := by
  have hlength : lengthOk op p = true := by rcases hop with rfl | rfl <;> simp [lengthOk, hlen]
  have hrange : targetOk op p.target.toNat = true := by rcases hop with rfl | rfl <;> simp [htarget] <;> decide
  have hfitted : s.fitted op p.target.toNat = true := by rcases hop with rfl | rfl <;> rfl
  have hserves : s.unitServes op p.target.toNat = true := by rcases hop with rfl | rfl <;> rfl
  have hlegal : s.legal op p = false := by rcases hop with rfl | rfl <;> simp [State.legal, hsrc]
  simp [State.check, hheader, hlength, hrange, hfitted, hserves, hlegal]

/-- Settles O10: check 8 is the first to fail for both opcodes. -/
theorem timeChangesNeedLocalSource : Obligations.TimeChangesNeedLocalSource := by
  refine fun s p hsrc => ⟨fun hr hheader hlen htarget => ?adj, fun hr hheader hlen htarget => ?step⟩
  case adj => exact exec_of_check_fails rfl rfl (by decide) hr (check_of_not_local (.inl rfl) true hheader hlen htarget hsrc)
  case step => exact exec_of_check_fails rfl rfl (by decide) hr (check_of_not_local (.inr rfl) true hheader hlen htarget hsrc)

/-! ### A step as its packet begins (13 R541) -/

/-- An update of one element that keeps a test keeps whether some element meets it. -/
theorem any_vmod {α : Type} {n : Nat} [Inhabited α] (v : Vector α n) (k : Nat) {f : α → α} {test : α → Bool}
    (h : test (f (vget v k)) = test (vget v k)) : (vmod v k f).toList.any test = v.toList.any test := by
  by_cases hk : k < n
  · have hmap : (v.toList.set k (f (vget v k))).map test = v.toList.map test := by
      rw [List.map_set, h, vget_lt v hk]
      conv_rhs => rw [← List.set_getElem_self (as := v.toList.map test) (i := k) (by simpa using hk)]
      simp
    have hany (l : List α) : l.any test = (l.map test).any id := by simp
    rw [vmod, vset, dif_pos hk, Vector.toList_set, hany, hmap, ← hany]
  · simp [vmod, vset, hk]

/-- A packet that begins is no packet that waits for its time, so what refuses a step is as before. -/
@[simp] theorem State.begun_stepRefused (s : State) (i : Instr) (p : Pkt) : (s.begun i p).stepRefused = s.stepRefused := by
  have hwaits : (fun q : QueuePair => q.flights.any (s.begun i p).waitsTime) = fun q => q.flights.any s.waitsTime := rfl
  have hqps : ((s.begun i p).qps.toList.any fun q => q.flights.any s.waitsTime) =
      s.qps.toList.any fun q => q.flights.any s.waitsTime :=
    any_vmod s.qps p.qp (by simp [State.waitsTime])
  unfold State.stepRefused
  rw [hwaits, hqps]
  rfl

/-! ### The packets of class TIME (13 R538 to R543, R576) -/

theorem effTimeAdj_legal {s : State} {p : Pkt} (t : Ticket) (hincr : incrOk (prm64 p 0) = true) (hdur : prm32 p 8 ≤ 250000000)
    (hafter : prm32 p 8 ≠ 0 → incrOk (prm64 p 12) = true) :
    effTimeAdj t p s =
      s.queueChange t (.incr (BitVec.ofNat 64 (prm64 p 0)) (prm32 p 8) (BitVec.ofNat 64 (prm64 p 12))) := by
  have hlegal : ¬ (¬ incrOk (prm64 p 0) ∨ 250000000 < prm32 p 8 ∨ (prm32 p 8 ≠ 0 ∧ ¬ incrOk (prm64 p 12))) := by
    rintro (h | h | ⟨hd, h⟩)
    · exact h hincr
    · exact Nat.not_lt.mpr hdur h
    · exact h (hafter hd)
  unfold effTimeAdj
  dsimp only
  rw [if_neg hlegal]

/-- The effect of TIME_ADJ by name: the bound on its `DURATION` is not to be evaluated. -/
theorem effect_timeAdj (s : State) (t : Ticket) (p : Pkt) : s.effect t (.timeAdj p) = effTimeAdj t p s := rfl

theorem effTimeStep_offset {s : State} {p : Pkt} (t : Ticket) (hmode : prm p 0 = 0) (hfree : s.stepRefused = false) :
    effTimeStep t p s = s.queueChange t (.offset (BitVec.ofNat 64 (prm64 p 8))) := by
  unfold effTimeStep
  dsimp only
  rw [if_neg (by simp [hmode]), if_neg (Bool.eq_false_iff.mp hfree), if_pos hmode]

theorem effTimeStep_set {s : State} {p : Pkt} (t : Ticket) (hmode : prm p 0 = 1) (hns : prm32 p 16 ≤ 999999999)
    (hfree : s.stepRefused = false) :
    effTimeStep t p s = s.queueChange t (.set (BitVec.ofNat 64 (prm64 p 8)) (BitVec.ofNat 32 (prm32 p 16))) := by
  unfold effTimeStep
  dsimp only
  rw [if_neg (by omega), if_neg (Bool.eq_false_iff.mp hfree), if_neg (by simp [hmode])]

theorem effTimeSource_legal {s : State} {p : Pkt} (t : Ticket) (hsrc : prm p 0 ≤ 2) :
    effTimeSource t p s = (s.takeSource (prm p 0)).ends t .done := if_neg (Nat.not_lt.mpr hsrc)

theorem effTimePtpConfig_legal {s : State} {p : Pkt} (t : Ticket) (hok : ptpOk p = true) :
    effTimePtpConfig t p s =
      ((s.modTime fun x => { x with
          ptp := some p.params, ptpInRow := 0, ptpSent := Vector.replicate 3 0,
          ptpNext := Vector.ofFn fun k => s.now + ptpInterval p.params k.val }).refreshLock).ends t .done :=
  if_neg (not_not_intro hok)

/-! ### Changes that take effect (13 R538 to R540) -/

/-- The first change of the rate takes effect at its tick, and its packet completes there. -/
theorem evIncrChange_of_first {s : State} {c : TimeChange} {v after : DWord} {d : Nat}
    (hfirst : s.firstChange TimeMove.isIncr = some c) (hmove : c.move = .incr v d after) :
    evIncrChange s =
      (let s1 := { (s.durationBy c.at_).advanceTo c.at_ with incr := v }
       (s1.modTime fun t => { t with
          changes := t.changes.erase c, duration := if d = 0 then none else some (c.at_ + 32 * d, after) }).doneAt c.ticket
            s1.dtbNs) := by
  simp only [evIncrChange, hfirst, hmove]

theorem evDurationExpiry_of_duration {s : State} {e : Nat} {v : DWord} (h : s.time.duration = some (e, v)) :
    evDurationExpiry s = ({ s.advanceTo e with incr := v }).modTime fun t => { t with duration := none } := by
  simp only [evDurationExpiry, State.durationBy, h]
  exact if_pos (Nat.le_refl e)

/-- The state in which a step takes effect: the clock stands at its tick and it no longer waits. -/
def State.atStep (s : State) (c : TimeChange) : State :=
  ((s.durationBy c.at_).advanceTo c.at_).modTime fun t => { t with changes := t.changes.erase c }

/-- The first step moves the DTB by an offset. -/
theorem evTimeStepEffect_offset {s : State} {c : TimeChange} {o : DWord}
    (hfirst : (s.firstChange fun m => !m.isIncr) = some c) (hmove : c.move = .offset o)
    (hfree : (s.atStep c).stepRefused = false) :
    evTimeStepEffect s =
      (let s1 := s.atStep c
       let s2 := s1.setDtb (((s1.ns : Int) + o.toInt) % (dtbModulus / 2 ^ 32 : Nat)).toNat
       s2.doneAt c.ticket s2.dtbNs) := by
  simp only [evTimeStepEffect, hfirst, hmove]
  exact if_neg (Bool.eq_false_iff.mp hfree)

/-- The first step sets the DTB. -/
theorem evTimeStepEffect_set {s : State} {c : TimeChange} {sec : DWord} {ns : Word}
    (hfirst : (s.firstChange fun m => !m.isIncr) = some c) (hmove : c.move = .set sec ns)
    (hfree : (s.atStep c).stepRefused = false) :
    evTimeStepEffect s =
      (let s2 := (s.atStep c).setDtb (sec.toNat * 1000000000 + ns.toNat)
       s2.doneAt c.ticket s2.dtbNs) := by
  simp only [evTimeStepEffect, hfirst, hmove]
  exact if_neg (Bool.eq_false_iff.mp hfree)

/-! ### The PTP messages (13 R543) -/

/-- A message of a kind that the device sends leaves on its ports, and its next interval begins. -/
theorem evPtpSyncInterval_sends {s : State} {kind : Fin 3} {c : List Byte} (hptp : s.time.ptp = some c)
    (hports : byteAt c 2 ≠ 0) (hslave : byteAt c 7 = 1 → kind = 2) :
    evPtpSyncInterval kind s =
      (let s1 := if kind = 2 then s else s.advanceTo (vget s.time.ptpNext kind)
       s1.modTime fun t => { t with
         ptpSent := vmod t.ptpSent kind (· + 1), ptpNext := vset t.ptpNext kind (s1.now + ptpInterval c kind) }) := by
  have hkind : kind = 2 ↔ kind.val = 2 := Fin.ext_iff
  have hsends : ¬ (byteAt c 2 = 0 ∨ (byteAt c 7 = 1 ∧ kind.val ≠ 2)) := by
    rintro (h | ⟨h, hne⟩)
    · exact hports h
    · exact hne (hkind.mp (hslave h))
  simp only [evPtpSyncInterval, hptp, if_neg hsends, hkind]

/-! ### The statement -/

/-- Settles O53: one law of the effect of each packet and each event; a status packet is its answer. -/
theorem timeCommandsComplete : Obligations.TimeCommandsComplete := by
  refine ⟨fun s p => ⟨?adj, ?offset, ?set, ?source, ?ptpConfig, ?status⟩,
    fun s hawake => ⟨?incrChange, ?duration, ?stepOffset, ?stepSet, ?ptpInterval⟩⟩
  case adj =>
    intro h hincr hdur hafter
    exact exec_admitted rfl rfl (by decide) h ((effect_timeAdj _ _ _).trans (effTimeAdj_legal _ hincr hdur hafter))
  case offset =>
    intro h hmode hfree
    exact exec_admitted rfl rfl (by decide) h (effTimeStep_offset _ hmode ((State.begun_stepRefused ..).trans hfree))
  case set =>
    intro h hmode hns hfree
    exact exec_admitted rfl rfl (by decide) h (effTimeStep_set _ hmode hns ((State.begun_stepRefused ..).trans hfree))
  case source =>
    intro h hsrc
    exact exec_admitted rfl rfl (by decide) h (effTimeSource_legal _ hsrc)
  case ptpConfig =>
    intro h hok
    exact exec_admitted rfl rfl (by decide) h (effTimePtpConfig_legal _ hok)
  case status =>
    intro h
    exact exec_admitted rfl rfl (by decide) h rfl
  case incrChange =>
    intro c v d after hfirst hmove
    exact event_leaves hawake (evIncrChange_of_first hfirst hmove)
  case duration =>
    intro e v h
    exact event_leaves hawake (evDurationExpiry_of_duration h)
  case stepOffset =>
    intro c o hfirst hmove hfree
    exact event_leaves hawake (evTimeStepEffect_offset hfirst hmove hfree)
  case stepSet =>
    intro c sec ns hfirst hmove hfree
    exact event_leaves hawake (evTimeStepEffect_set hfirst hmove hfree)
  case ptpInterval =>
    intro kind c hptp hports hslave
    exact event_leaves hawake (evPtpSyncInterval_sends hptp hports hslave)

end Sys2Proof.Machine
end
section
/-! PROOFS. Packets of the Ethernet ports and of the ring (13): what each packet of classes NET and RING leaves where its rule lets
it act. -/

namespace Sys2Proof.Machine

/-! ### Frames, filters and gate-control lists (13 R547 to R551) -/

/-- NET_TX of a class in range to the port it is addressed to waits for its gate. -/
theorem effNetTx_legal {s : State} {p : Pkt} (t : Ticket) (hport : prm p 0 = p.target.toNat) (hcls : prm p 1 ≤ 6) :
    effNetTx t p s = s.modPort p.target.toNat fun x => { x with txq := x.txq ++
      [({ ticket := t, cls := prm p 1, stamp := (prm p 2).testBit 0, length := p.len.toNat, bytes := p.payload,
          deadline := s.now + msSteps 10 } : TxWait)] } := by
  unfold effNetTx
  dsimp only
  rw [if_neg (by simp [hport, hcls])]

/-- NET_RX for a filter, or for any, is posted. -/
theorem effNetRx_legal {s : State} {p : Pkt} (t : Ticket) (hport : prm p 0 = p.target.toNat)
    (hfilter : prm p 1 < 16 ∨ prm p 1 = 0xFF) :
    effNetRx t p s = { s with netRx := s.netRx ++
      [({ ticket := t, port := prm p 0, filter := prm p 1, room := p.len.toNat } : RxWait)] } := by
  unfold effNetRx
  rw [if_neg (by simp [hport, hfilter])]

theorem effNetFilter_legal {s : State} {p : Pkt} (t : Ticket) (hen : prm p 0 ≤ 1) (hports : prm p 1 ≤ 3) :
    effNetFilter t p s =
      (let f : NetFilter := { en := decide (prm p 0 = 1), ports := prm p 1, addr := slice p.params 2 6,
                              mask := slice p.params 8 6, etype := prm16 p 14 }
       ({ s with filters := vset s.filters p.target.toNat f }).ends t .done) := by
  unfold effNetFilter
  rw [if_neg (by omega)]

/-- NET_GCL of entries in range waits for the first start of its cycle that is at least 1 ms away, while no other list waits. -/
theorem effNetGcl_legal {s : State} {p : Pkt} {g : Gcl} (t : Ticket) (hok : gclOk p = true)
    (hfree : (s.port p.target.toNat).gclNext = none) (hg : g = { base := prm64 p 0, entries := gclEntries p }) :
    effNetGcl t p s = s.modPort p.target.toNat fun x => { x with gclNext := some (t, g, g.startFrom (s.ns + 1000000)) } := by
  subst hg
  unfold effNetGcl
  dsimp only
  rw [if_neg (not_not_intro hok), if_neg (by simp [hfree])]

/-- Settles O54: one law of each packet's effect, read in the state in which the packet begins; a status packet is its answer. -/
theorem netPacketsComplete : Obligations.NetPacketsComplete := by
  refine fun s p => ⟨?tx, ?rx, ?filter, ?gcl, ?status⟩
  case tx =>
    intro h hport hcls
    exact exec_admitted rfl rfl (by decide) h (effNetTx_legal _ hport hcls)
  case rx =>
    intro h hport hfilter
    exact exec_admitted rfl rfl (by decide) h (effNetRx_legal _ hport hfilter)
  case filter =>
    intro h hen hports
    exact exec_admitted rfl rfl (by decide) h (effNetFilter_legal _ hen hports)
  case gcl =>
    intro g h hok hfree hg
    exact exec_admitted rfl rfl (by decide) h (effNetGcl_legal _ hok hfree hg)
  case status =>
    rintro _ h rfl
    exact exec_admitted rfl rfl (by decide) h rfl

/-! ### Telemetry and messages (13 R569 to R571) -/

/-- NR_TELEM_READ of this node answers its own record. -/
theorem effNrTelemRead_own {s : State} {p : Pkt} (t : Ticket) (hself : p.target.toNat = s.nodeId) :
    effNrTelemRead t p s = s.answer t { payload := s.ownRecord } := if_pos hself

/-- NR_TELEM_READ of another node that is heard answers the record it sent last. -/
theorem effNrTelemRead_heard {s : State} {p : Pkt} (t : Ticket) (hother : p.target.toNat ≠ s.nodeId)
    (hheard : (s.node p.target.toNat).heard = true) :
    effNrTelemRead t p s = s.answer t { payload := (s.node p.target.toNat).record } :=
  (if_neg hother).trans (if_pos hheard)

/-- NR_SEND to a node, or to all, joins the messages that are sent; one to a lost node asks for WAKE frames (R630). -/
theorem effNrSend_legal {s : State} {p : Pkt} {lost : Bool} (t : Ticket) (hdest : prm p 0 < 16 ∨ prm p 0 = 0xFF)
    (hlost : lost = decide (prm p 0 < 16 ∧ (s.node (prm p 0)).known = true ∧ (s.node (prm p 0)).heard = false)) :
    effNrSend t p s = s.modRing fun r => { r with
      sends := r.sends ++ [({ ticket := t, dest := prm p 0, number := r.msgNo.toNat, bytes := p.payload, next := 0,
                              deadline := none } : RingSend)],
      msgNo := r.msgNo + 1, wakes := if lost then r.wakes ++ [(prm p 0, 3)] else r.wakes } := by
  subst hlost
  unfold effNrSend
  dsimp only
  rw [if_neg (not_not_intro hdest)]
  simp only [decide_eq_true_eq, Bool.not_eq_true]
  rfl

/-- Settles O56: one law of each packet's effect; packets without fields to judge are their effect. -/
theorem ringPacketsComplete : Obligations.RingPacketsComplete := by
  refine fun s p => ⟨?publish, ?own, ?heard, ?send, ?recv, ?status⟩
  case publish =>
    intro h
    exact exec_admitted rfl rfl (by decide) h rfl
  case own =>
    intro h hself
    exact exec_admitted rfl rfl (by decide) h (effNrTelemRead_own _ hself)
  case heard =>
    intro h hother hheard
    exact exec_admitted rfl rfl (by decide) h (effNrTelemRead_heard _ hother hheard)
  case send =>
    intro lost h hdest hlost
    exact exec_admitted rfl rfl (by decide) h (effNrSend_legal _ hdest hlost)
  case recv =>
    intro h
    exact exec_admitted rfl rfl (by decide) h rfl
  case status =>
    rintro _ _ h rfl rfl
    exact exec_admitted rfl rfl (by decide) h rfl

end Sys2Proof.Machine
end
section
/-! PROOFS. The ring (13): what its cycle, its timers, relays and roles leave while they apply, and what a received frame leaves at
an awake node that is inserted and did not send it, or at one in WATCH. -/

namespace Sys2Proof.Machine

/-! ### The ring cycle and its timers (13 R556, R559, R565, R570) -/

theorem evRingCycle_inserted {s : State} (hin : s.ring.inserted = true) :
    evRingCycle s =
      (let count := if s.ring.cycle < s.ns / 5000 ∧ s.ns % 5000 = 0 then s.ns / 5000 else s.ns / 5000 + 1
       let s1 := (s.advanceToNs (5000 * count)).modRing fun r => { r with cycle := count, sent := [] }
       let s2 := if s1.ring.master then s1.sendBoth (ringFrame 1 s1.nodeId 0 (s1.timePayload count)) else s1
       let s3 := s2.sendBoth (ringFrame 3 s2.nodeId 0 (s2.beatPayload count))
       let s4 := if count % 16 = s3.nodeId then s3.sendBoth (ringFrame 4 s3.nodeId 0 s3.ownRecord) else s3
       let s5 := s4.sendMirrorFrame count
       if s5.ring.wakes ≠ [] then s5.sendOwed else s5.sendOwed.sendFragment) := if_neg (not_not_intro hin)

theorem evDelayTimer_inserted {s : State} (hin : s.ring.inserted = true) :
    evDelayTimer s =
      (let s1 := s.advanceTo s.ring.reqDue
       let s2 := s1.modRing fun r => { r with reqAt := Vector.replicate 2 (some s1.now), reqDue := s1.now + msSteps 1 }
       s2.sendBoth (delayFrameBytes s2 0 0)) := if_neg (not_not_intro hin)

/-- The one message that has a deadline ends there. -/
theorem evNrSendTimeout_of_deadline {s : State} {m : RingSend} {d : Nat} (hsends : s.ring.sends = [m])
    (hd : m.deadline = some d) :
    evNrSendTimeout s =
      ((s.advanceTo d).modRing fun r => { r with sends := r.sends.erase m }).ends m.ticket .timedOut := by
  have hfind : (s.ring.sends.find? fun (m : RingSend) => m.deadline.isSome) = some m := by simp [hsends, hd]
  simp only [evNrSendTimeout, hfind, hd]

theorem evNodeLost_heard {s : State} {node : Fin 16} (hheard : (s.node node).heard = true) (hin : s.ring.inserted = true) :
    evNodeLost node s =
      (let s1 := s.loseNode node
       if s1.duplexInForce ∧ node.val = s1.partner then
         ((s1.modDpx fun d => { d with heard := false, partnerLost := true }).judgeStandby).startTakeover
       else s1) := if_neg (by simp [hheard, hin])

/-! ### Master and alignment (13 R566, R567) -/

theorem evMasterElection_candidate {s : State} {at_ : Nat} (hbetter : s.ring.noBetter = some at_)
    (hin : s.ring.inserted = true) (hprio : s.ringPrio < 0xFF) (hmaster : s.ring.master = false) :
    evMasterElection s = (s.advanceTo (at_ + usSteps 20)).setMaster (s.advanceTo (at_ + usSteps 20)).nodeId := by
  simp only [evMasterElection, hbetter]
  exact if_pos ⟨hin, hprio, Bool.eq_false_iff.mp hmaster⟩

/-- A follower whose offset has stood within the lower bound since `at_` is aligned after 1 ms. -/
theorem evAlignedChange_aligns {s : State} {at_ : Nat} (hsince : s.ring.inSince = some at_) (hfollow : s.ringFollower = true)
    (haligned : s.ring.aligned = false) :
    evAlignedChange s = ((s.advanceTo (at_ + msSteps 1)).modRing fun r => { r with aligned := true }).refreshLock := by
  simp only [evAlignedChange, hsince]
  exact if_pos ⟨hfollow, Bool.eq_false_iff.mp haligned⟩

/-- An offset beyond the upper bound ends the alignment. -/
theorem evAlignedChange_loses {s : State} (hsince : s.ring.inSince = none) (haligned : s.ring.aligned = true)
    (hoff : 8 * 65536 < Int.natAbs s.ring.offset) :
    evAlignedChange s = (s.modRing fun r => { r with aligned := false }).refreshLock := by
  simp only [evAlignedChange, hsince]
  rw [if_pos ⟨haligned, hoff⟩]

/-! ### Ports and relays (13 R572 to R574) -/

theorem evRingPortUpset_in_service {s : State} {nb : Bool} (hon : s.ring.state ≠ .off) (hret : s.isRetired 4 (bit nb) = false) :
    evRingPortUpset nb s =
      (s.modRing fun r => { r with
        retrain := vset r.retrain (bit nb) true, state := if r.state = .ring then .line else r.state,
        nodes := r.nodes.map fun (x : RingNode) => if nb then { x with hopsB := none } else { x with hopsA := none } }).detect
          4 (bit nb) := if_neg (by simp [hon, hret])

/-- The relays are energised from LOOPBACK in an awake device. -/
theorem evRingRelaysEnergise_loopback {s : State} (hstate : s.ring.state = .loopback) (hoff : s.ring.relays = false)
    (hretry : s.ring.retryAt = none) (hpwr : 3 ≤ s.pwr.state.code) :
    evRingRelaysEnergise s = s.modRing fun r => { r with relays := true, insertBy := some (s.now + msSteps 10) } :=
  if_pos ⟨hstate, Bool.eq_false_iff.mp hoff, Option.isNone_iff_eq_none.mpr hretry, hpwr⟩

/-- The node is inserted, as part of a closed ring where both its ports serve, else of a line. -/
theorem evRingInserted_inserting {s : State} {closed : Bool} {st : RingState} (hrelays : s.ring.relays = true)
    (hby : s.ring.insertBy ≠ none)
    (hst : st = if closed = true ∧ s.isRetired 4 0 = false ∧ s.isRetired 4 1 = false then RingState.ring else RingState.line) :
    evRingInserted closed s =
      (let s1 := s.modRing fun r => { r with
         state := st, closed := closed, insertBy := none, noBetter := some s.now, reqDue := s.now,
         retrain := Vector.replicate 2 false }
       if s1.duplexInForce ∧ s.dpx.role = .none then s1.setDuplexRole .pairing else s1) := by
  subst hst
  have hinserting : ¬ (¬ s.ring.relays = true ∨ s.ring.insertBy.isNone = true) := by simp [hrelays, hby]
  unfold evRingInserted
  rw [if_neg hinserting]
  simp only [Bool.not_eq_true]
  rfl

theorem evRingInsertTimeout_of_deadline {s : State} {d : Nat} (h : s.ring.insertBy = some d) :
    evRingInsertTimeout s =
      (let s1 := (s.advanceTo d).dropRelays
       s1.modRing fun r => { r with retryAt := some (s1.now + secSteps 1) }) := by
  simp only [evRingInsertTimeout, h]

theorem evRingInsertRetry_of_retryAt {s : State} {d : Nat} (h : s.ring.retryAt = some d) :
    evRingInsertRetry s = (s.advanceTo d).modRing fun r => { r with retryAt := none } := by
  simp only [evRingInsertRetry, h]

/-- Settles O57: one law of each event's effect. -/
theorem ringEventsComplete : Obligations.RingEventsComplete := by
  intro s hawake
  refine ⟨?cycle, ?delayTimer, ?sendTimeout, ?discard, ?nodeLost, ?election, ?aligns, ?loses, ?upset, ?energise, ?inserted,
    ?insertTimeout, ?insertRetry⟩
  case cycle =>
    intro hin
    exact event_leaves hawake (evRingCycle_inserted hin)
  case delayTimer =>
    intro hin
    exact event_leaves hawake (evDelayTimer_inserted hin)
  case sendTimeout =>
    intro m d hsends hd
    exact event_leaves hawake (evNrSendTimeout_of_deadline hsends hd)
  case discard =>
    intro nb
    exact event_leaves hawake rfl
  case nodeLost =>
    intro node hheard hin
    exact event_leaves hawake (evNodeLost_heard hheard hin)
  case election =>
    intro at_ hbetter hin hprio hmaster
    exact event_leaves hawake (evMasterElection_candidate hbetter hin hprio hmaster)
  case aligns =>
    intro at_ hsince hfollow haligned
    exact event_leaves hawake (evAlignedChange_aligns hsince hfollow haligned)
  case loses =>
    intro hsince haligned hoff
    exact event_leaves hawake (evAlignedChange_loses hsince haligned hoff)
  case upset =>
    intro nb hon hret
    exact event_leaves hawake (evRingPortUpset_in_service hon hret)
  case energise =>
    intro hstate hoff hretry hpwr
    exact event_leaves hawake (evRingRelaysEnergise_loopback hstate hoff hretry hpwr)
  case inserted =>
    intro closed st hrelays hby hst
    exact event_leaves hawake (evRingInserted_inserting hrelays hby hst)
  case insertTimeout =>
    intro d h
    exact event_leaves hawake (evRingInsertTimeout_of_deadline h)
  case insertRetry =>
    intro d h
    exact event_leaves hawake (evRingInsertRetry_of_retryAt h)

end Sys2Proof.Machine
end
section
/-! PROOFS. Frames received on the ring (13, 14, 15): what each leaves at an awake node that is inserted and did not send it, and
what a WAKE frame does in WATCH. -/

namespace Sys2Proof.Machine

/-! ### Sending leaves everything but what was sent -/

/-- A frame that leaves, or does not, changes only the frames of the cycle. -/
theorem sendOn_changes_sent (s : State) (nb : Bool) (f : List Byte) :
    ∃ sent, s.sendOn nb f = s.modRing fun r => { r with sent := sent } := by
  unfold State.sendOn
  split
  · exact ⟨s.ring.sent, rfl⟩
  · exact ⟨_, rfl⟩

theorem forward_changes_sent (s : State) (nb : Bool) (type src hops : Nat) (payload : List Byte) :
    ∃ sent, s.forward nb type src hops payload = s.modRing fun r => { r with sent := sent } := by
  unfold State.forward
  split
  · exact sendOn_changes_sent s _ _
  · exact ⟨s.ring.sent, rfl⟩

@[simp] theorem forward_nodeId (s : State) (nb : Bool) (type src hops : Nat) (payload : List Byte) :
    (s.forward nb type src hops payload).nodeId = s.nodeId := by
  obtain ⟨sent, h⟩ := forward_changes_sent s nb type src hops payload
  rw [h]
  rfl

@[simp] theorem forward_node (s : State) (nb : Bool) (type src hops : Nat) (payload : List Byte) (n : Nat) :
    (s.forward nb type src hops payload).node n = s.node n := by
  obtain ⟨sent, h⟩ := forward_changes_sent s nb type src hops payload
  rw [h]
  rfl

@[simp] theorem forward_sends (s : State) (nb : Bool) (type src hops : Nat) (payload : List Byte) :
    (s.forward nb type src hops payload).ring.sends = s.ring.sends := by
  obtain ⟨sent, h⟩ := forward_changes_sent s nb type src hops payload
  rw [h]
  rfl

/-! ### Frames that reach the main die -/

/-- A frame of a legal length at an awake device leaves its effect and what follows it; only WATCH repeats it. -/
theorem frame_leaves {s u : State} {wf : Bool} {f : State → State} {nb : Bool} {type src hops : Nat} {payload : List Byte}
    (hwf : wf = true) (hawake : s.awake = true) (he : f s = u) :
    frameEvent wf (fun s => s.repeatFrame nb type src hops payload) f s = .next u.finish :=
  (frameEvent_awake f hwf (repeatFrame_awake hawake nb type src hops payload) hawake).trans (by rw [he])

/-- The same of a DELAY frame, which has no sender. -/
theorem delayFrame_leaves {s u : State} {nb response : Bool} {turn : BitVec 24} (hawake : s.awake = true)
    (he : evDelayFrame nb response turn s = u) : exec (.delayFrame nb response turn) s = .next u.finish :=
  (frameEvent_awake _ rfl (repeatDelay_awake hawake nb response turn) hawake).trans (by rw [he])

section
variable {s : State} {nb : Bool} {src hops : BitVec 4} {payload : List Byte}

/-- A frame of another node is taken where this node is inserted. -/
theorem frame_taken (hin : s.ring.inserted = true) (hother : src.toNat ≠ s.nodeId) :
    ¬ (¬ s.ring.inserted = true ∨ src.toNat = s.nodeId) := by simp [hin, hother]

/-! ### Link delays and time (13 R558, R559, R567) -/

theorem evDelayFrame_response {at_ : Nat} (turn : BitVec 24) (hreq : vget s.ring.reqAt (bit nb) = some at_) :
    evDelayFrame nb true turn s = s.modRing fun r => { r with
      delay := vset r.delay (bit nb) ((s.now - at_ - turn.toNat / 32) / 2), reqAt := vset r.reqAt (bit nb) none } := by
  simp only [evDelayFrame, hreq, if_true]

/-- The state after a TIME frame has been forwarded with the residence of this node added, and its hops noted. -/
def State.timeForwarded (s : State) (nb : Bool) (src hops : BitVec 4) (payload : List Byte) : State :=
  let d := s.draw 70 (200 * 65536 + 1)
  let link := vget s.ring.delay (bit nb) * 8192
  (d.2.forward nb 1 src.toNat hops.toNat
    (slice payload 0 16 ++ bytesOfInt 8 (signed 64 (le payload 16 8) + d.1 + link))).modNode (byteAt payload 15 % 16) fun n =>
      { n with hopsA := if nb then n.hopsA else some hops.toNat, hopsB := if nb then some hops.toNat else n.hopsB }

/-- A node that does not take time from this frame only forwards it; a follower measures its offset and closes it. -/
theorem evTimeFrame_taken (hin : s.ring.inserted = true) (hother : src.toNat ≠ s.nodeId) :
    evTimeFrame nb src hops payload s =
      (let m := byteAt payload 15 % 16
       let s2 := s.timeForwarded nb src hops payload
       if s2.ringFollower = false ∨ m ≠ s2.ring.masterId ∨ s2.byNb m ≠ nb then s2
       else
         let master : Int := ((le payload 0 8 * 1000000000 + le payload 8 4) * 65536 + le payload 12 2 : Nat)
           + signed 64 (le payload 16 8) + (vget s.ring.delay (bit nb) * 8192 : Nat)
         let off : Int := (s2.dtb / 65536 : Nat) - master
         let s3 := (s2.modRing fun r => r.judge off s2.now).modTime fun t => { t with offset := off / 65536 }
         (s3.ringServo off).refreshLock) := by
  unfold evTimeFrame
  rw [if_neg (frame_taken hin hother)]
  simp only [Bool.not_eq_true]
  rfl

/-! ### Heartbeats, telemetry and mirror frames (13 R560 to R562, 14 R599) -/

theorem evHeartbeatFrame_taken (hin : s.ring.inserted = true) (hother : src.toNat ≠ s.nodeId) :
    evHeartbeatFrame nb src hops payload s =
      (let s1 := (s.forward nb 3 src.toNat hops.toNat payload).heardBeat nb src.toNat hops.toNat payload
       if s1.duplexInForce ∧ src.toNat = s1.partner then s1.partnerBeat payload else s1) := if_neg (frame_taken hin hother)

theorem evTelemetryFrame_taken {record : List Byte} (hin : s.ring.inserted = true) (hother : src.toNat ≠ s.nodeId) :
    evTelemetryFrame nb src hops record s =
      (let s1 := s.forward nb 4 src.toNat hops.toNat record
       let s2 := s1.modNode src.toNat fun x => { x with record := record }
       if le record 8 2 ≠ le (s.node src.toNat).record 8 2 then s2.report 0x0D src.toNat 3 else s2) := by
  unfold evTelemetryFrame
  rw [if_neg (frame_taken hin hother)]
  dsimp only
  rw [forward_node]

/-- A mirror frame is only forwarded where it is not the partner's. -/
theorem evMirrorFrame_passes (hin : s.ring.inserted = true) (hother : src.toNat ≠ s.nodeId)
    (hstranger : s.duplexInForce = false ∨ src.toNat ≠ s.partner) :
    evMirrorFrame nb src hops payload s = s.forward nb 5 src.toNat hops.toNat payload := by
  have h : ¬ s.duplexInForce = true ∨ src.toNat ≠ s.partner := hstranger.imp_left Bool.eq_false_iff.mp
  unfold evMirrorFrame
  rw [if_neg (frame_taken hin hother), if_pos h]

/-- The partner's frame of an even cycle holds two records and the first half of a third. -/
theorem evMirrorFrame_even (hin : s.ring.inserted = true) (hother : src.toNat ≠ s.nodeId) (hduplex : s.duplexInForce = true)
    (hpartner : src.toNat = s.partner) (heven : s.ns / 5000 % 2 = 0) :
    evMirrorFrame nb src hops payload s =
      ((s.takeMirror (slice payload 0 256)).takeMirror (slice payload 256 256)).modDpx fun d =>
        { d with heardHalf := slice payload 512 128 } := by
  have h : ¬ (¬ s.duplexInForce = true ∨ src.toNat ≠ s.partner) := by simp [hduplex, hpartner]
  unfold evMirrorFrame
  rw [if_neg (frame_taken hin hother), if_neg h, if_pos heven]

/-- The partner's frame of an odd cycle holds the second half of the third record and two more. -/
theorem evMirrorFrame_odd (hin : s.ring.inserted = true) (hother : src.toNat ≠ s.nodeId) (hduplex : s.duplexInForce = true)
    (hpartner : src.toNat = s.partner) (hodd : s.ns / 5000 % 2 = 1) :
    evMirrorFrame nb src hops payload s =
      (let s1 := s.modDpx fun d => { d with heardHalf := [] }
       let s2 := if s.dpx.heardHalf = [] then s1 else s1.takeMirror (s.dpx.heardHalf ++ slice payload 0 128)
       (s2.takeMirror (slice payload 128 256)).takeMirror (slice payload 384 256)) := by
  have h : ¬ (¬ s.duplexInForce = true ∨ src.toNat ≠ s.partner) := by simp [hduplex, hpartner]
  unfold evMirrorFrame
  rw [if_neg (frame_taken hin hother), if_neg h, if_neg (by omega)]

/-! ### Fragments and their answers (13 R563, R570, R571) -/

/-- A fragment for another node is only forwarded. -/
theorem evFragmentFrame_passes (hin : s.ring.inserted = true) (hother : src.toNat ≠ s.nodeId)
    (hdest : byteAt payload 0 ≠ s.nodeId) (hall : byteAt payload 0 ≠ 0xFF) :
    evFragmentFrame nb src hops payload s = s.forward nb 6 src.toNat hops.toNat payload := by
  unfold evFragmentFrame
  rw [if_neg (frame_taken hin hother)]
  dsimp only
  rw [forward_nodeId, if_pos ⟨decide_eq_false hdest, hall⟩]

/-- A fragment for this node joins its message, and the message or what is missing of it is answered. -/
theorem evFragmentFrame_mine (hin : s.ring.inserted = true) (hother : src.toNat ≠ s.nodeId)
    (hdest : byteAt payload 0 = s.nodeId) (hok : fragmentOk payload = true) :
    evFragmentFrame nb src hops payload s =
      (let a := (s.forward nb 6 src.toNat hops.toNat payload).assemble src.toNat payload
       match a.2.1 with
       | some bs => (a.1.wholeMessage src.toNat bs).1.oweAck src.toNat (byteAt payload 1) (a.1.wholeMessage src.toNat bs).2
       | none => if a.2.2 then a.1.oweAck src.toNat (byteAt payload 1) 2 else a.1) := by
  unfold evFragmentFrame
  rw [if_neg (frame_taken hin hother)]
  dsimp only
  rw [forward_nodeId, decide_eq_true hdest, if_neg (by simp), if_neg (by simp [hok])]
  simp only [Bool.and_true, if_true] <;> rfl

/-- A fragment for all joins its message and is not answered. -/
theorem evFragmentFrame_all (hin : s.ring.inserted = true) (hother : src.toNat ≠ s.nodeId)
    (hdest : byteAt payload 0 = 0xFF) (hok : fragmentOk payload = true) :
    evFragmentFrame nb src hops payload s =
      (let a := (s.forward nb 6 src.toNat hops.toNat payload).assemble src.toNat payload
       match a.2.1 with
       | some bs => (a.1.wholeMessage src.toNat bs).1
       | none => a.1) := by
  have hmine : decide (byteAt payload 0 = s.nodeId) = false := by
    have : s.nodeId < 16 := Nat.mod_lt _ (by decide)
    exact decide_eq_false (by omega)
  unfold evFragmentFrame
  rw [if_neg (frame_taken hin hother)]
  dsimp only
  rw [forward_nodeId, hmine, if_neg (by simp [hdest]), if_neg (by simp [hok])]
  simp only [Bool.and_false, if_false, Bool.false_eq_true] <;> rfl

/-- An ACK for another node is only forwarded. -/
theorem evRingAckFrame_passes {dest msg result : Byte} (hin : s.ring.inserted = true) (hother : src.toNat ≠ s.nodeId)
    (hdest : dest.toNat ≠ s.nodeId) :
    evRingAckFrame nb src hops dest msg result s = s.forward nb 7 src.toNat hops.toNat [dest, msg, result] := by
  unfold evRingAckFrame
  rw [if_neg (frame_taken hin hother)]
  dsimp only
  rw [if_pos (by rwa [forward_nodeId])]

/-- An ACK for the one message that waits for it ends that message. -/
theorem evRingAckFrame_ends {dest msg result : Byte} {m : RingSend} (hin : s.ring.inserted = true)
    (hother : src.toNat ≠ s.nodeId) (hdest : dest.toNat = s.nodeId) (hsends : s.ring.sends = [m])
    (hto : m.dest = src.toNat) (hnumber : m.number = msg.toNat) (hsent : m.deadline ≠ none) :
    evRingAckFrame nb src hops dest msg result s =
      (((s.forward nb 7 src.toNat hops.toNat [dest, msg, result]).modRing fun r => { r with sends := r.sends.erase m }).ends
        m.ticket (if result = 0 then .done else .busyRetry)) := by
  have hfind : (s.ring.sends.find? fun (m : RingSend) =>
      decide (m.dest = src.toNat) && decide (m.number = msg.toNat) && m.deadline.isSome) = some m := by
    simp [hsends, hto, hnumber, Option.isSome_iff_ne_none.mpr hsent]
  unfold evRingAckFrame
  rw [if_neg (frame_taken hin hother)]
  dsimp only
  rw [if_neg (by rw [forward_nodeId]; exact not_not_intro hdest), forward_sends, hfind]

/-! ### WAKE frames (13 R564, 15 R630, R631) -/

theorem evWakeFrame_awake {target : Byte} (hawake : s.awake = true) :
    evWakeFrame nb src hops target s = s.forward nb 8 src.toNat hops.toNat [target] :=
  (if_neg (awake_not_watch hawake)).trans (if_pos hawake)

/-- WATCH repeats the frame as it is while RESET_N is high. -/
theorem repeatFrame_watch {type src hops : Nat} (hreset : s.resetN = true) (hwatch : s.pwr.state = .watch) :
    s.repeatFrame nb type src hops payload = s.sendOn (!nb) (ringFrame type src hops payload) := if_pos ⟨hwatch, hreset⟩

theorem sendOn_nodeId (s : State) (nb : Bool) (f : List Byte) : (s.sendOn nb f).nodeId = s.nodeId := by
  obtain ⟨sent, h⟩ := sendOn_changes_sent s nb f
  rw [h]
  rfl

theorem sendOn_pwr (s : State) (nb : Bool) (f : List Byte) : (s.sendOn nb f).pwr = s.pwr := by
  obtain ⟨sent, h⟩ := sendOn_changes_sent s nb f
  rw [h]
  rfl

/-- A sleeping device that a wake source reaches boots. -/
theorem wakeUp_asleep {cause : Nat} (h : s.asleep = true) :
    s.wakeUp cause = (s.boot 2 cause).modPwr fun p => { p with wokeAt := some s.aonCycle } := if_pos h

theorem evWakeFrame_watch_other {target : Byte} (hreset : s.resetN = true) (hwatch : s.pwr.state = .watch)
    (hnode : target.toNat ≠ s.nodeId) (hall : target ≠ 0xFF) :
    evWakeFrame nb src hops target s = s.sendOn (!nb) (ringFrame 8 src.toNat hops.toNat [target]) := by
  unfold evWakeFrame
  rw [if_pos hwatch, repeatFrame_watch hreset hwatch]
  exact if_neg (by rw [sendOn_nodeId]; exact not_or.mpr ⟨hnode, hall⟩)

theorem evWakeFrame_watch_named {target : Byte} (hreset : s.resetN = true) (hwatch : s.pwr.state = .watch)
    (hnamed : target.toNat = s.nodeId ∨ target = 0xFF) :
    evWakeFrame nb src hops target s =
      (let s1 := s.sendOn (!nb) (ringFrame 8 src.toNat hops.toNat [target])
       (s1.boot 2 4).modPwr fun p => { p with wokeAt := some s1.aonCycle }) := by
  have hasleep : (s.sendOn (!nb) (ringFrame 8 src.toNat hops.toNat [target])).asleep = true := by
    simp [State.asleep, sendOn_pwr, hwatch]
  unfold evWakeFrame
  rw [if_pos hwatch, repeatFrame_watch hreset hwatch]
  exact (if_pos (by rwa [sendOn_nodeId])).trans (wakeUp_asleep hasleep)

end

/-- Settles O58: one law of each frame's effect; a frame that goes two ways is split where its law is. -/
theorem ringFramesComplete : Obligations.RingFramesComplete := by
  intro s nb src hops
  refine ⟨?response, ?request, ?time, ?heartbeat, ?telemetry, ?stranger, ?even, ?odd, ?passes, ?mine, ?all, ?ackPasses, ?ackEnds,
    ?wakeAwake, ?wakeOther, ?wakeNamed⟩
  case response =>
    intro at_ turn hawake hreq
    exact delayFrame_leaves hawake (evDelayFrame_response turn hreq)
  case request =>
    intro turn hawake
    exact delayFrame_leaves hawake rfl
  case time =>
    intro payload hawake hin hother hlen
    refine (frame_leaves (decide_eq_true hlen) hawake (evTimeFrame_taken hin hother)).trans ?_
    exact congrArg Host.Outcome.next (apply_ite State.finish _ _ _)
  case heartbeat =>
    intro payload hawake hin hother hlen
    exact frame_leaves (decide_eq_true hlen) hawake (evHeartbeatFrame_taken hin hother)
  case telemetry =>
    intro record hawake hin hother hlen
    exact frame_leaves (decide_eq_true hlen) hawake (evTelemetryFrame_taken hin hother)
  case stranger =>
    intro payload hawake hin hother hlen hstranger
    exact frame_leaves (decide_eq_true hlen) hawake (evMirrorFrame_passes hin hother hstranger)
  case even =>
    intro payload hawake hin hother hlen hduplex hpartner heven
    exact frame_leaves (decide_eq_true hlen) hawake (evMirrorFrame_even hin hother hduplex hpartner heven)
  case odd =>
    intro payload hawake hin hother hlen hduplex hpartner hodd
    exact frame_leaves (decide_eq_true hlen) hawake (evMirrorFrame_odd hin hother hduplex hpartner hodd)
  case passes =>
    intro payload hawake hin hother hlow hhigh hdest hall
    exact frame_leaves (by simp [hlow, hhigh]) hawake (evFragmentFrame_passes hin hother hdest hall)
  case mine =>
    intro payload hawake hin hother hlow hhigh hdest hok
    exact frame_leaves (by simp [hlow, hhigh]) hawake (evFragmentFrame_mine hin hother hdest hok)
  case all =>
    intro payload hawake hin hother hlow hhigh hdest hok
    exact frame_leaves (by simp [hlow, hhigh]) hawake (evFragmentFrame_all hin hother hdest hok)
  case ackPasses =>
    intro dest msg result hawake hin hother hdest
    exact frame_leaves rfl hawake (evRingAckFrame_passes hin hother hdest)
  case ackEnds =>
    intro dest msg result m hawake hin hother hdest hsends hto hnumber hsent
    exact frame_leaves rfl hawake (evRingAckFrame_ends hin hother hdest hsends hto hnumber hsent)
  case wakeAwake =>
    intro target hawake
    exact congrArg (fun u : State => Host.Outcome.next u.onward) (evWakeFrame_awake hawake)
  case wakeOther =>
    intro target hreset hwatch hnode hall
    exact congrArg (fun u : State => Host.Outcome.next u.onward) (evWakeFrame_watch_other hreset hwatch hnode hall)
  case wakeNamed =>
    intro target hreset hwatch hnamed
    exact congrArg (fun u : State => Host.Outcome.next u.onward) (evWakeFrame_watch_named hreset hwatch hnamed)

end Sys2Proof.Machine
end
section
/-! PROOFS. Power, reset and the clocks (15): what the supplies and RESET_N, sleep and wakes, the boot and the PLLs leave where
their rules let them act. -/

namespace Sys2Proof.Machine

/-! ### Events in any power state -/

/-- An event that reaches the device in any power state answers the state its effect leaves, and what follows it. -/
theorem always_leaves {s u : State} {f : State → State} (he : f s = u) : always f s = .next u.onward := by
  rw [always_next, he]

/-- Nothing follows where the main die is not awake afterwards. -/
theorem onward_of_not_awake {s : State} (h : s.awake = false) : s.onward = s := if_neg (Bool.eq_false_iff.mp h)

/-! ### Feeds (15 R617 to R623, R647) -/

theorem evFeedOutOfWindow_ok {s : State} {vfb : Bool} {level : Byte} (hok : (s.feed (bit vfb)).ok = true) :
    evFeedOutOfWindow vfb level s =
      (s.modFeed (bit vfb) fun f => { f with level := level, ok := false, on := false }).detect 10 (bit vfb) := if_pos hok

section
variable {s : State} {vfb : Bool} {level : Byte} (hout : (s.feed (bit vfb)).ok = false) (hin : inWindow level = true)
include hout hin

/-- A feed that has returned to its window ends the retry run of its channel. -/
theorem evFeedReconnect_runs (hpower : s.pwr.state ≠ .backup) :
    evFeedReconnect vfb level s =
      (s.modFeed (bit vfb) fun f => { f with level := level, ok := true, on := !s.isRetired 10 (bit vfb) }).runEnds 10
        (bit vfb) true := by
  unfold evFeedReconnect
  rw [if_neg (by simp [hout, hin])]
  exact if_neg fun h => hpower h.1

/-- A feed that returns in BACKUP boots the device. -/
theorem evFeedReconnect_boots (hbackup : s.pwr.state = .backup) (hfail : s.pwr.failing = none) :
    evFeedReconnect vfb level s =
      (s.modFeed (bit vfb) fun f => { f with level := level, ok := true, on := !s.isRetired 10 (bit vfb) }).boot 0 0 := by
  unfold evFeedReconnect
  rw [if_neg (by simp [hout, hin])]
  exact if_pos ⟨hbackup, Option.isNone_iff_eq_none.mpr hfail⟩

end

/-- The power-fail sequence starts where no feed carries the common input. -/
theorem evPowerFail_starts {s : State} (hcarried : s.carried = false) (hfail : s.pwr.failing = none)
    (hpower : s.pwr.state ≠ .backup) :
    evPowerFail s =
      (let s1 := s.modPwr fun p => { p with failing := some s.now, failRecord := some (s.dtbSec, s.dtbNano) }
       evSaggarInternalFault ((if s.ring.state = .off then s1 else s1.dropRelays).allSafe 0x0010)) :=
  if_neg (by simp [hcarried, hfail, hpower])

theorem evPowerFailEnd_fed {s : State} (hfail : s.pwr.failing ≠ none) (hfed : s.fed = true) :
    evPowerFailEnd s = s.boot 3 0 := (if_neg (by simp [hfail])).trans (if_pos hfed)

theorem evPowerFailEnd_unfed {s : State} (hfail : s.pwr.failing ≠ none) (hfed : s.fed = false) :
    evPowerFailEnd s = (s.resetDies.loseBackup).modPwr fun p => { p with state := .backup } :=
  (if_neg (by simp [hfail])).trans (if_neg (Bool.eq_false_iff.mp hfed))

theorem evPowerOn_feeds {s : State} {vfa vfb : Byte} (vhold vbak : Byte) (hfed : s.fed = false) (hfail : s.pwr.failing = none)
    (hin : inWindow vfa = true ∨ inWindow vfb = true) :
    evPowerOn vfa vfb vhold vbak s =
      ((s.modPwr fun p => { p with
          feeds := #v[{ level := vfa, ok := inWindow vfa, on := inWindow vfa },
                      { level := vfb, ok := inWindow vfb, on := inWindow vfb }],
          vhold := vhold, vbak := vbak }).loseBackup).boot 0 0 := by
  unfold evPowerOn
  rw [if_neg (by simp [hfed, hfail, hin])]

/-! ### RESET_N (15 R631, R646, R647) -/

theorem evResetNLow_powered {s : State} (hhigh : s.resetN = true) (hasleep : s.asleep = false) (hpower : s.pwr.state ≠ .backup) :
    evResetNLow s = ({ s with resetN := false }).resetDies.modPwr fun p => { p with
      rstCause := 1, wakeCause := 0, failing := s.pwr.failing } := by
  unfold evResetNLow
  dsimp only
  rw [if_neg (not_not_intro hhigh), if_neg (by simp [hasleep, hpower])]

theorem evResetNLow_asleep {s : State} (hhigh : s.resetN = true) (hasleep : s.asleep = true) :
    evResetNLow s = { s with resetN := false } := by
  unfold evResetNLow
  dsimp only
  rw [if_neg (not_not_intro hhigh), if_pos (.inl hasleep)]

theorem evResetNRise_boots {s : State} (hlow : s.resetN = false) (hpower : s.pwr.state ≠ .backup) (hasleep : s.asleep = false) :
    evResetNRise s = (({ s with resetN := true }).boot 1 0).modPwr fun p => { p with failing := s.pwr.failing } := by
  unfold evResetNRise
  dsimp only
  rw [if_neg (Bool.eq_false_iff.mp hlow), if_neg hpower, if_neg (Bool.eq_false_iff.mp hasleep)]

theorem evResetNRise_wakes {s : State} (hlow : s.resetN = false) (hpower : s.pwr.state ≠ .backup) (hasleep : s.asleep = true) :
    evResetNRise s = (({ s with resetN := true }).boot 2 5).modPwr fun p => { p with wokeAt := some s.aonCycle } := by
  unfold evResetNRise
  dsimp only
  rw [if_neg (Bool.eq_false_iff.mp hlow), if_neg hpower, if_pos hasleep]
  exact wakeUp_asleep hasleep

/-- Settles O27: one law of each event's effect; a sleeping device that is held in reset is not awake. -/
theorem supplyEventsComplete : Obligations.SupplyEventsComplete := by
  intro s
  refine ⟨?out, ?returns, ?boots, ?fail, ?failEndFed, ?failEndUnfed, ?powerOn, ?low, ?lowAsleep, ?rise, ?riseAsleep⟩
  case out =>
    intro vfb level hok
    exact always_leaves (evFeedOutOfWindow_ok hok)
  case returns =>
    intro vfb level hout hin hpower
    exact always_leaves (evFeedReconnect_runs hout hin hpower)
  case boots =>
    intro vfb level hout hin hbackup hfail
    exact always_leaves (evFeedReconnect_boots hout hin hbackup hfail)
  case fail =>
    intro hcarried hfail hpower
    exact always_leaves (evPowerFail_starts hcarried hfail hpower)
  case failEndFed =>
    intro hfail hfed
    exact always_leaves (evPowerFailEnd_fed hfail hfed)
  case failEndUnfed =>
    intro hfail hfed
    exact always_leaves (evPowerFailEnd_unfed hfail hfed)
  case powerOn =>
    intro vfa vfb vhold vbak hfed hfail hin
    exact always_leaves (evPowerOn_feeds vhold vbak hfed hfail hin)
  case low =>
    intro hhigh hasleep hpower
    exact always_leaves (evResetNLow_powered hhigh hasleep hpower)
  case lowAsleep =>
    intro hhigh hasleep
    exact (always_leaves (evResetNLow_asleep hhigh hasleep)).trans (congrArg _ (onward_of_not_awake rfl))
  case rise =>
    intro hlow hpower hasleep
    exact always_leaves (evResetNRise_boots hlow hpower hasleep)
  case riseAsleep =>
    intro hlow hpower hasleep
    exact always_leaves (evResetNRise_wakes hlow hpower hasleep)

/-! ### RUN, READY and sleep (15 R627 to R630) -/

theorem evReadyReturn_rests {s : State} {a : Nat} (hend : s.pwr.needEnd = some a) (hrun : s.pwr.state = .run)
    (hneed : s.runNeed = false) :
    evReadyReturn s = (s.advanceTo (a + secSteps 1)).modPwr fun p => { p with state := .ready, needEnd := none } := by
  simp only [evReadyReturn, hend]
  exact if_pos ⟨hrun, Bool.eq_false_iff.mp hneed⟩

/-- SLEEP halts the queue pairs in host memory and powers the dies down into KEEP or WATCH. -/
theorem evSleep_rests {s : State} {a : Nat} (hsince : s.pwr.sleepSince = some a) (hrest : s.mayRest = true)
    (hfail : s.pwr.failing = none) :
    evSleep s =
      (let s1 := s.advanceTo (a + secSteps (field (s.inUse 0x1000) 15 8))
       let s2 := (List.finRange 16).foldl (fun (u : State) (q : Fin 16) => if u.qpLocal q then u else u.haltQp q 6) s1
       let watch := decide (field (s2.inUse 0x1000) 1 0 = 2)
       let s3 := if watch ∨ s2.ring.state = .off then s2 else s2.dropRelays
       s3.modPwr fun p => { p with
         state := if watch then .watch else .keep, sleepSince := none, asleepAt := s3.now, watchCount := 0 }) := by
  simp only [evSleep, hsince, ite_not]
  exact if_pos ⟨hrest, Option.isNone_iff_eq_none.mpr hfail⟩

/-! ### Wakes (15 R631) -/

/-- Of two wakes in one CK_AON cycle the lower code stands. -/
theorem wakeUp_same_cycle {s : State} {cause : Nat} (hawake : s.asleep = false) (hcycle : s.pwr.wokeAt = some s.aonCycle)
    (hlower : cause < s.pwr.wakeCause.toNat) :
    s.wakeUp cause = s.modPwr fun p => { p with wakeCause := BitVec.ofNat 3 cause } :=
  (if_neg (Bool.eq_false_iff.mp hawake)).trans (if_pos ⟨hcycle, hlower⟩)

theorem evWakeInterval_asleep {s : State} (hasleep : s.asleep = true) (hset : field (s.inUse 0x1000) 23 16 ≠ 0) :
    evWakeInterval s =
      (let u := s.advanceTo (s.pwr.asleepAt + secSteps (60 * field (s.inUse 0x1000) 23 16))
       (u.boot 2 2).modPwr fun p => { p with wokeAt := some u.aonCycle }) := by
  unfold evWakeInterval
  dsimp only
  rw [if_pos ⟨hasleep, hset⟩]
  exact wakeUp_asleep hasleep

/-- The magnitude that WATCH compares with its threshold. -/
def State.watched (s : State) (code : Half) : Nat :=
  ((s.slot (32 + field (s.inUse 0x1000) 27 24)).calibrate s.now code.toInt).natAbs

/-- In WATCH a conversion counts where it reaches the threshold, and the last of those in a row wakes. -/
theorem evWatchConversion_watch {s : State} (code : Half) (hwatch : s.pwr.state = .watch) :
    evWatchConversion code s =
      (let counted := decide (field (s.inUse 0x1004) 15 0 ≤ s.watched code)
       let n := if counted then s.pwr.watchCount + 1 else 0
       let s1 := s.modPwr fun p => { p with watchCount := n }
       if counted ∧ field (s1.inUse 0x1004) 23 16 ≤ n then s1.wakeUp 3 else s1) := if_pos hwatch

/-- A conversion below the threshold begins the count again. -/
theorem evWatchConversion_below {s : State} {code : Half} (hwatch : s.pwr.state = .watch)
    (hbelow : s.watched code < field (s.inUse 0x1004) 15 0) :
    evWatchConversion code s = s.modPwr fun p => { p with watchCount := 0 } := by
  rw [evWatchConversion_watch code hwatch, decide_eq_false (Nat.not_le.mpr hbelow)]
  exact if_neg fun h => Bool.false_ne_true h.1

/-- The last of the conversions in a row that reach the threshold wakes the device. -/
theorem evWatchConversion_reached {s : State} {code : Half} (hwatch : s.pwr.state = .watch)
    (hreached : field (s.inUse 0x1004) 15 0 ≤ s.watched code)
    (hcount : field (s.inUse 0x1004) 23 16 ≤ s.pwr.watchCount + 1) :
    evWatchConversion code s =
      ((s.modPwr fun p => { p with watchCount := s.pwr.watchCount + 1 }).boot 2 3).modPwr fun p => { p with
        wokeAt := some s.aonCycle } := by
  have hasleep : (s.modPwr fun p => { p with watchCount := s.pwr.watchCount + 1 }).asleep = true := by
    simp [State.asleep, State.modPwr, hwatch]
  rw [evWatchConversion_watch code hwatch, decide_eq_true hreached]
  exact (if_pos ⟨rfl, hcount⟩).trans (wakeUp_asleep hasleep)

theorem onward_of_watch {s : State} (h : s.pwr.state = .watch) : s.onward = s :=
  onward_of_not_awake (by simp [State.awake, h])

/-- Settles O28: one law of each event's effect; a device that stays in WATCH is not awake. -/
theorem sleepAndWakeEventsComplete : Obligations.SleepAndWakeEventsComplete := by
  intro s
  refine ⟨?returns, ?sleep, ?pinAsleep, ?pinAgain, ?interval, ?below, ?reached⟩
  case returns =>
    intro a hawake hend hrun hneed
    exact event_leaves hawake (evReadyReturn_rests hend hrun hneed)
  case sleep =>
    intro a hawake hsince hrest hfail
    exact event_leaves hawake (evSleep_rests hsince hrest hfail)
  case pinAsleep =>
    intro hasleep
    exact always_leaves (wakeUp_asleep hasleep)
  case pinAgain =>
    intro hawake hcycle hlower
    exact always_leaves (wakeUp_same_cycle hawake hcycle hlower)
  case interval =>
    intro hasleep hset
    exact always_leaves (evWakeInterval_asleep hasleep hset)
  case below =>
    intro code hwatch hbelow
    exact (always_leaves (evWatchConversion_below hwatch hbelow)).trans (congrArg _ (onward_of_watch hwatch))
  case reached =>
    intro code hwatch hreached hcount
    exact always_leaves (evWatchConversion_reached hwatch hreached hcount)

end Sys2Proof.Machine
end
section
/-! PROOFS. The boot and the clocks (15): what the end of the boot and the losses and re-locks of the PLLs leave while they apply. -/

namespace Sys2Proof.Machine

/-! ### The boot (15 R647, R648) -/

/-- The boot without a stored profile ends READY, with every PLL that serves locked. -/
theorem evBootReady_no_profile {s : State} {fails : List ChanRef} (hawake : s.awake = true) (hready : s.pwr.ready = false)
    (hbank : s.pwr.noBank = false) (hfail : s.pwr.failing = none)
    (hprofile : (fails.foldl State.selfTestFail s).svcs.profile = none) :
    evBootReady fails s =
      (let s1 := fails.foldl State.selfTestFail s
       let n := (List.range 13).foldl (fun a k => if internalKind k then a + s1.retiredOf k else a) 0
       let s2 := { s1 with flt := { s1.flt with selfTest := decide (n = 0), conesRun := true } }
       s2.modPwr fun p => { p with
         plls := Vector.ofFn fun k : Fin 5 => (vget p.plls k).booted (s2.isRetired 11 k),
         xtalOk := true, aonXtal := true, selfTested := true, fail := sat8 n, profile := false,
         ready := true, stage := if s2.locked then 6 else 5 }) := by
  unfold evBootReady
  rw [if_neg (by simp [hawake, hready, hbank, hfail])]
  simp only [State.modPwr, hprofile, Option.isSome_none]

/-! ### Loss of lock and re-lock (15 R635 to R644) -/

/-- PLL_SYS, PLL_CTL and PLL_PWM go into holdover and wait for the bridges. -/
theorem evPllLockLoss_waits {s : State} {n : Fin 5} (hlocked : (s.pll n).locked = true) (hn : n.val < 3) :
    evPllLockLoss n s =
      ((s.modPll n fun p => { p with
          locked := false, holdover := true, losses := satCount (p.losses + 1), lossAt := some s.now }).report 0x00 n
            0x0011).detect 11 n := (if_neg (not_not_intro hlocked)).trans (if_neg (Nat.not_le.mpr hn))

/-- PLL_MEM and PLL_IO re-lock at once. -/
theorem evPllLockLoss_relocks {s : State} {n : Fin 5} (hlocked : (s.pll n).locked = true) (hn : 3 ≤ n.val) :
    evPllLockLoss n s =
      (((s.modPll n fun p => { p with
          locked := false, holdover := true, losses := satCount (p.losses + 1), lossAt := some s.now }).report 0x00 n
            0x0011).detect 11 n).startRelock n := (if_neg (not_not_intro hlocked)).trans (if_pos hn)

/-- A PLL in holdover re-locks once every bridge is OFFLINE or ARMED. -/
theorem evPllRelockStart_idle {s : State} {n : Fin 5} (hholdover : (s.pll n).holdover = true) (hrelock : (s.pll n).relock = false)
    (hret : s.isRetired 11 n = false) (hn : n.val < 3) (hidle : s.allIdle = true) :
    evPllRelockStart n s = s.startRelock n :=
  (if_neg (by simp [hholdover, hrelock, hret])).trans ((if_pos hn).trans (if_pos hidle))

/-- A re-lock that succeeds gives back what it had stopped. -/
theorem evPllLockDeclared_relock {s : State} {n : Fin 5} (hrelock : (s.pll n).relock = true) :
    evPllLockDeclared n s =
      (let s1 := s.catchUp.modPll n fun x => { x with
        locked := true, holdover := false, relock := false, lossAt := none, relockAt := none }
       let s2 := if n.val = 1 then s1.forEach ((List.range 10).filter s1.srcRuns) State.slotsStart else s1
       (if n.val = 0 then s2.retrainLinks else s2).runEnds 11 n true) := by
  unfold evPllLockDeclared
  simp only [hrelock, not_true, false_and, if_false, and_true]

/-- A re-lock that fails is followed by the next, or by holdover. -/
theorem evPllRelockTimeout_relock {s : State} {n : Fin 5} {a : Nat} (hrelock : (s.pll n).relock = true)
    (hat : (s.pll n).relockAt = some a) :
    evPllRelockTimeout n s =
      (let s1 := ((s.advanceTo (a + msSteps 2)).catchUp.detect 11 n).runEnds 11 n false
       let s2 := s1.modPll n fun x => { x with holdover := true, relock := false, relockAt := some s1.now }
       if s1.isRetired 11 n ∨ n.val = 3 then s2 else s2.startRelock n) := by
  simp only [evPllRelockTimeout, hrelock, hat]

/-- The PLL longest in holdover re-locks after 1 s although bridges are beyond ARMED: they enter SAFE before. -/
theorem evPllHoldoverTimeout_waiting {s : State} {a n : Nat} (hwaits : s.waitingPll = some (a, n))
    (hbeyond : (s.bridges.toList.any fun b => b.state.beyondArmed) = true) :
    evPllHoldoverTimeout s =
      (let s1 := s.advanceTo (a + secSteps 1)
       (s1.forEach (s1.bridgesWhere fun b => b.state.beyondArmed) fun u b => u.enterSafe b 0x0011).startRelock n) := by
  simp only [evPllHoldoverTimeout, hwaits]
  exact if_pos hbeyond

/-! ### The reference (15 R633, R634) -/

theorem evRefSwitchToRing_follower {s : State} (hset : (s.inUse 0x2000).testBit 0 = true) (hfollow : s.ringFollower = true)
    (hpcie : s.pwr.refRing = false) : evRefSwitchToRing s = s.modPwr fun p => { p with refRing := true } :=
  if_pos ⟨hset, hfollow, Bool.eq_false_iff.mp hpcie⟩

theorem evRefClockLoss_ring {s : State} (hring : s.pwr.refRing = true) :
    evRefClockLoss s = (s.modPwr fun p => { p with refRing := false }).report 0x0B 0 0 := if_pos hring

/-- Settles O29: one law of each event's effect. -/
theorem bootAndClockEventsComplete : Obligations.BootAndClockEventsComplete := by
  intro s hawake
  refine ⟨?boot, ?lossWaits, ?lossRelocks, ?relockStart, ?declared, ?timeout, ?holdover, ?toRing, ?clockLoss⟩
  case boot =>
    intro fails hready hbank hfail hprofile
    exact event_leaves hawake (evBootReady_no_profile hawake hready hbank hfail hprofile)
  case lossWaits =>
    intro n hlocked hn
    exact event_leaves hawake (evPllLockLoss_waits hlocked hn)
  case lossRelocks =>
    intro n hlocked hn
    exact event_leaves hawake (evPllLockLoss_relocks hlocked hn)
  case relockStart =>
    intro n hholdover hrelock hret hn hidle
    exact event_leaves hawake (evPllRelockStart_idle hholdover hrelock hret hn hidle)
  case declared =>
    intro n hrelock
    exact event_leaves hawake (evPllLockDeclared_relock hrelock)
  case timeout =>
    intro n a hrelock hat
    exact event_leaves hawake (evPllRelockTimeout_relock hrelock hat)
  case holdover =>
    intro a n hwaits hbeyond
    exact event_leaves hawake (evPllHoldoverTimeout_waiting hwaits hbeyond)
  case toRing =>
    intro hset hfollow hpcie
    exact event_leaves hawake (evRefSwitchToRing_follower hset hfollow hpcie)
  case clockLoss =>
    intro hring
    exact event_leaves hawake (evRefClockLoss_ring hring)

end Sys2Proof.Machine
end
section
/-! PROOFS. Registers and debug access (17, 19): what set-up writes, the lock and reads with a side effect leave, and what debug
grants, ATEST and the JTAG instructions do. -/

namespace Sys2Proof.Machine

/-! ### Set-up, the lock and the profile (17 R673, R674, R682 to R684, 15 R649) -/

/-- A write of `GEN_CTRL` that sets `SETUP_LOCK` closes every RWL field. -/
theorem writeCtrl_locks {s : State} {v : Nat} (h : (s.writeReg 0x10 v).reg 0x10 % 2 = 1) :
    s.writeCtrl v = { s.writeReg 0x10 v with lockWritten := true } :=
  if_pos (by rw [Nat.testBit_zero, decide_eq_true h])

theorem evSetupLockEffect_locks {s : State} (hwritten : s.lockWritten = true) (htested : s.pwr.selfTested = true)
    (hopen : s.locked = false) : evSetupLockEffect s = s.lockEffect :=
  if_pos ⟨hwritten, htested, Bool.eq_false_iff.mp hopen⟩

theorem evProfileSave_of_turn {s : State} {ok : Bool} {rest : List NorWrite} (h : s.svcs.norQueue = .profile :: rest) :
    evProfileSave ok s =
      (s.modSvc fun v => { v with norQueue := rest, profile := if ok then some s.profileCells else v.profile }).modPwr fun w =>
        { w with saveBusy := false, saveFail := !ok } := by
  simp only [evProfileSave, h]

/-- A write of a register keeps the bits outside its mask; RWL bits are outside once the lock is written. -/
theorem writeReg_of_spec {s : State} {off : Nat} {r : RegSpec} (v : Nat) (h : regSpec off = some r) :
    s.writeReg off v = s.regPut off (normReg off
      ((s.reg off &&& ((r.rw + (if s.lockWritten then 0 else r.rwl)) ^^^ 0xFFFFFFFF))
        + (v &&& (r.rw + (if s.lockWritten then 0 else r.rwl))))) := by
  simp only [State.writeReg, h]

/-- A write outside `GEN_CTRL`, the debug block and the vector controls only writes its register. -/
theorem evRegisterWrite_plain {s : State} {off v : Word} (halign : off.toNat % 4 = 0) (hctrl : off.toNat ≠ 0x10)
    (hdbg : ¬ (0x16000 ≤ off.toNat ∧ off.toNat < 0x17000))
    (hvector : ¬ (0x6000 ≤ off.toNat ∧ off.toNat < 0x6200 ∧ off.toNat % 16 = 12)) :
    evRegisterWrite off v s = s.writeReg off.toNat v.toNat := by
  unfold evRegisterWrite
  dsimp only
  rw [if_neg (not_not_intro halign), if_neg hctrl, if_neg hdbg, if_neg hvector]

/-- Settles O25: one law of each access; a read with a side effect is its definition. -/
theorem registerAccessesComplete : Obligations.RegisterAccessesComplete := by
  intro s hawake
  refine ⟨?lock, ?lockEffect, ?save, ?write, ?timeSnap, ?aonLo, ?window⟩
  case lock =>
    intro v hset
    exact event_leaves hawake (writeCtrl_locks hset)
  case lockEffect =>
    intro hwritten htested hopen
    exact event_leaves hawake (evSetupLockEffect_locks hwritten htested hopen)
  case save =>
    intro ok rest h
    exact event_leaves hawake (evProfileSave_of_turn h)
  case write =>
    intro off v r halign hrange hctrl hdbg hvector hspec
    have hwf : (decide (off.toNat % 4 = 0) && decide (off.toNat < 0x100000)) = true := by simp [halign, hrange]
    refine (event_awake _ hwf hawake).trans ?_
    rw [evRegisterWrite_plain halign hctrl hdbg hvector, writeReg_of_spec v.toNat hspec]
  case timeSnap => exact event_leaves hawake rfl
  case aonLo => exact event_leaves hawake rfl
  case window =>
    intro cls unit
    exact event_leaves hawake rfl

/-! ### Debug grants (19 R707 to R710) -/

/-- A submission outside a lockout serves once: it earns its level or counts as a failure. -/
theorem evDbgSubmit_open {s : State} (hopen : s.dbg.lockout = none) :
    evDbgSubmit s =
      (if s.earns = true then (s.setLevel (s.reg 0x16004)).modDbg fun d => { d with live := false, fails := 0 }
       else s.modDbg fun d => { d with
        live := false, fails := d.fails + 1, lockout := if 3 ≤ d.fails + 1 then some (s.now + secSteps 60) else none }) :=
  if_neg (by simp [hopen])

theorem evDbgLockoutEnd_of_lockout {s : State} {a : Nat} (h : s.dbg.lockout = some a) :
    evDbgLockoutEnd s = (s.advanceTo a).modDbg fun d => { d with lockout := none, fails := 0 } := by
  simp only [evDbgLockoutEnd, h]

/-! ### ATEST and the JTAG instructions (19 R713 to R720) -/

/-- At a level above 0 ATEST takes a code that taps no slot, or one that is neither in use nor in RECAL. -/
theorem evDbgAtestWrite_granted {s : State} {v : Word} (hlevel : s.dbg.level ≠ 0)
    (hfree : (v.toNat &&& 0xF0F) % 16 = 8 →
      s.slotInUse (32 + (v.toNat &&& 0xF0F) / 256) = false ∧ (s.slot (32 + (v.toNat &&& 0xF0F) / 256)).state ≠ .recal) :
    evDbgAtestWrite v s = s.modDbg fun d => { d with atest := v.toNat &&& 0xF0F, atestRefused := false } := by
  have htap : ¬ ((v.toNat &&& 0xF0F) % 16 = 8 ∧
      (s.slotInUse (32 + (v.toNat &&& 0xF0F) / 256) = true ∨ (s.slot (32 + (v.toNat &&& 0xF0F) / 256)).state = .recal)) := by
    rintro ⟨htaps, h | h⟩
    · exact Bool.eq_false_iff.mp (hfree htaps).1 h
    · exact (hfree htaps).2 h
  exact (if_neg hlevel).trans (if_neg htap)

/-- DBG_AUTH with bit 39 set writes a register of the debug block. -/
theorem evDbgAuth_writes {s : State} {dr : BitVec 40} (h : dr.getLsbD 39 = true) :
    evDbgAuth dr s =
      ((evExtestEnd s).modDbg fun d => { d with ir := 9, dr := dr }).writeDbg (0x16000 + 4 * (dr.toNat / 2 ^ 32 % 128))
        (dr.toNat % 2 ^ 32) := if_pos h

/-- EXTEST takes the balls at level 3 while every bridge is OFFLINE. -/
theorem evExtest_granted {s : State} (hlevel : s.dbg.level = 3) (hoffline : ∀ b ∈ s.bridges.toList, b.state = .offline) :
    evExtest s = s.modDbg fun d => { d with extest := true, extRefused := false, ir := 0 } :=
  if_pos ⟨hlevel, List.all_eq_true.mpr fun b hb => decide_eq_true (hoffline b hb)⟩

theorem evExtestEnd_holding {s : State} (h : s.dbg.extest = true) :
    evExtestEnd s =
      (s.forEach (List.range 24) fun u g => u.modLink g fun l => { l with
          gon := Vector.replicate 2 false, gst := Vector.replicate 2 none }).modDbg fun d => { d with extest := false, ir := 1 } :=
  if_neg (not_not_intro h)

/-- The first part of an image, at level 3 before the boot ends. -/
theorem evDbgMbox_first {s : State} (bytes : List Byte) (hlevel : s.dbg.level = 3) (hstage : s.pwr.stage = 0)
    (hready : s.pwr.ready = false) :
    evDbgMbox bytes true false s =
      (s.modDbg fun d => { d with ir := 8, mbox := bytes.take fwMax }).modBank s.mboxBank fun _ => { state := .loading } :=
  if_neg (by simp [hlevel, hstage, hready])

/-- Settles O26: one law of each event's effect; a request, a revocation and the instructions without a condition are their
definitions. -/
theorem debugEventsComplete : Obligations.DebugEventsComplete := by
  intro s hawake
  refine ⟨?request, ?submit, ?revoke, ?lockoutEnd, ?atest, ?auth, ?extest, ?extestEnd, ?mbox, ?idcode, ?bypass, ?sample⟩
  case request =>
    intro v
    exact event_leaves hawake rfl
  case submit =>
    intro hopen
    exact event_leaves hawake (evDbgSubmit_open hopen)
  case revoke => exact event_leaves hawake rfl
  case lockoutEnd =>
    intro a h
    exact event_leaves hawake (evDbgLockoutEnd_of_lockout h)
  case atest =>
    intro v hlevel hfree
    exact event_leaves hawake (evDbgAtestWrite_granted hlevel hfree)
  case auth =>
    intro dr h
    exact event_leaves hawake (evDbgAuth_writes h)
  case extest =>
    intro hlevel hoffline
    exact event_leaves hawake (evExtest_granted hlevel hoffline)
  case extestEnd =>
    intro h
    exact event_leaves hawake (evExtestEnd_holding h)
  case mbox =>
    intro bytes hlevel hstage hready
    exact event_leaves hawake (evDbgMbox_first bytes hlevel hstage hready)
  case idcode => exact event_leaves hawake rfl
  case bypass => exact event_leaves hawake rfl
  case sample => exact event_leaves hawake rfl

end Sys2Proof.Machine
end
section
/-! PROOFS. Fault discipline and duplex operation (14): what retry runs, leaks, DRAM errors and rounds of the Cones leave, and what
each packet of classes FAULT and DUPLEX and each event of the pair leaves where its rule lets it act. -/

namespace Sys2Proof.Machine

/-! ### Retry runs, leaks and DRAM errors (14 R579 to R585) -/

/-- The retry run of the one channel that is being reinstated ends its packet. -/
theorem evRetryRunEnd_reinstates {s : State} {kind : Fin 13} {u : Word} {ok : Bool} {t : Ticket}
    (hdef : s.chanDefined kind u.toNat = true) (hfit : s.chanFitted kind u.toNat = true)
    (hreinst : s.reinst = [(t, kind.val, u.toNat)]) :
    evRetryRunEnd kind u ok s =
      (if ok = true then ({ s with reinst := [] }.reinstated kind u.toNat).ends t .done
       else { s with reinst := [] }.ends t .unitRetired) := by
  have hfind : (s.reinst.find? fun (r : Ticket × Nat × Nat) => decide (r.2.1 = kind.val) && decide (r.2.2 = u.toNat)) =
      some (t, kind.val, u.toNat) := by simp [hreinst]
  have herase : s.reinst.erase (t, kind.val, u.toNat) = [] := by simp [hreinst]
  unfold evRetryRunEnd
  dsimp only
  rw [if_neg (by simp [hdef, hfit]), hfind]
  dsimp only
  rw [herase]

/-- A retry run of a channel whose upset something else reports restores its unit, or fails. -/
theorem runEnds_retrying {s : State} {kind unit : Nat} {ok : Bool} (hself : selfDetected kind = false)
    (hrun : (s.chan kind unit).state = .retrying) :
    s.runEnds kind unit ok =
      (let s0 := if kind = 7 then s.chargeBlock unit else s
       let s1 := if ok = true then (s0.restored kind unit).countUpset kind unit else s0.runFailed kind unit
       if s0.isRetired kind unit = false ∧ s1.isRetired kind unit = true then s1.withdrawn kind else s1) := by
  unfold State.runEnds
  simp only [hself, Bool.false_eq_true, if_false, Bool.not_eq_true]
  exact if_pos hrun

theorem evRetryRunEnd_runs {s : State} {kind : Fin 13} {u : Word} {ok : Bool} (hdef : s.chanDefined kind u.toNat = true)
    (hfit : s.chanFitted kind u.toNat = true) (hreinst : s.reinst = []) :
    evRetryRunEnd kind u ok s = s.runEnds kind u.toNat ok := by
  unfold evRetryRunEnd
  dsimp only
  rw [if_neg (by simp [hdef, hfit]), hreinst]
  rfl

theorem evBucketLeak_filled {s : State} {kind : Fin 13} {u : Word} (hdef : s.chanDefined kind u.toNat = true)
    (hbucket : 0 < (s.chan kind u.toNat).bucket) :
    evBucketLeak kind u s = (s.advanceTo (s.chan kind u.toNat).leakAt).leak kind u.toNat := if_pos ⟨hdef, hbucket⟩

/-- A page in service or retrying that the DRAM reports: an upset where the error was corrected, else a retirement. -/
theorem evEccError_of_page {s : State} {u : Word} {corrected ok : Bool} (hpage : u.toNat < s.pageCount)
    (hret : s.isRetired 6 u.toNat = false) :
    evEccError u corrected ok s =
      if corrected then (s.detect 6 u.toNat).runEnds 6 u.toNat ok else ((s.retire 6 u.toNat).withdrawn 6).losePage :=
  if_neg (by simp [hpage, hret])

/-! ### The Cones (14 R588, R589) -/

/-- A round in which no test that runs has failed is only counted. -/
theorem evConesRound_passes {s : State} {failed : List TestFail} (hrun : s.flt.conesRun = true)
    (hpass : ∀ f ∈ failed, s.runsTest f.test = false) :
    evConesRound failed s = { s with flt := { s.flt with rounds := satCount (s.flt.rounds + 1), conesFail := false } } := by
  have hnone : (failed.filter fun (f : TestFail) => s.runsTest f.test) = [] := by simpa using hpass
  unfold evConesRound
  dsimp only
  rw [if_neg (not_not_intro hrun), hnone]
  rfl

/-- A round in which one test of a unit has failed logs it and starts an upset of the unit. -/
theorem evConesRound_fails {s : State} {f : TestFail} {c : ChanRef} (hrun : s.flt.conesRun = true)
    (htest : s.runsTest f.test = true) (hchan : f.chan = some c) (hkind : c.kind.val ≠ 6) :
    evConesRound [f] s =
      (let s1 := ({ s with flt := { s.flt with
         rounds := satCount (s.flt.rounds + 1), conesFail := true, lastFail := f.test } }).logEntry 8 c.kind c.unit.toNat 0 0 0 0
       if s1.chanDefined c.kind c.unit.toNat then s1.detect c.kind c.unit.toNat else s1) := by
  have hone : ([f].filter fun (f : TestFail) => s.runsTest f.test) = [f] := by simp [htest]
  unfold evConesRound
  dsimp only
  rw [if_neg (not_not_intro hrun), hone]
  simp only [List.foldl_cons, List.foldl_nil, hchan, if_neg hkind]
  rfl

/-- Settles O43: one law of each event's effect. -/
theorem faultEventsComplete : Obligations.FaultEventsComplete := by
  intro s hawake
  refine ⟨?reinstates, ?runs, ?leak, ?ecc, ?passes, ?fails⟩
  case reinstates =>
    intro kind u ok t hdef hfit hreinst
    exact event_leaves hawake (evRetryRunEnd_reinstates hdef hfit hreinst)
  case runs =>
    intro kind u ok hdef hfit hreinst hself hrun
    exact event_leaves hawake ((evRetryRunEnd_runs hdef hfit hreinst).trans (runEnds_retrying hself hrun))
  case leak =>
    intro kind u hdef hbucket
    exact event_leaves hawake (evBucketLeak_filled hdef hbucket)
  case ecc =>
    intro u ok hpage hret
    exact ⟨event_leaves hawake (evEccError_of_page hpage hret), event_leaves hawake (evEccError_of_page hpage hret)⟩
  case passes =>
    intro failed hrun hpass
    exact event_leaves hawake (evConesRound_passes hrun hpass)
  case fails =>
    intro f c hrun htest hchan hkind
    exact event_leaves hawake (evConesRound_fails hrun htest hchan hkind)

/-! ### Packets of class FAULT (14 R614 to R616) -/

theorem effFltConfig_legal {s : State} {p : Pkt} (t : Ticket) (hkind : prm p 0 ≤ 12) (hn : 1 ≤ prm p 1) (hn' : prm p 1 ≤ 64)
    (hw : 1 ≤ prm16 p 2) (hw' : prm16 p 2 ≤ 3600) :
    effFltConfig t p s =
      ({ s with flt := { s.flt with n := vset s.flt.n (prm p 0) (prm p 1), w := vset s.flt.w (prm p 0) (prm16 p 2) } }).ends t
        .done := by
  unfold effFltConfig
  dsimp only
  rw [if_neg (by omega)]

/-- FLT_LOG_READ from a sequence number that is ahead answers no entry. -/
theorem effFltLogRead_ahead {s : State} {p : Pkt} (t : Ticket)
    (hahead : (BitVec.ofNat 32 (prm32 p 0) - s.flt.seq).toNat < 2 ^ 31) :
    effFltLogRead t p s = s.answer t { r0 := BitVec.ofNat 32 (prm32 p 0), r1 := 0 } := by
  unfold effFltLogRead
  dsimp only
  rw [if_pos hahead]

/-- FLT_LOG_READ from a sequence number that is still kept answers the entries from there on. -/
theorem effFltLogRead_kept {s : State} {p : Pkt} {es : List LogEntry} (t : Ticket)
    (hpast : 2 ^ 31 ≤ (BitVec.ofNat 32 (prm32 p 0) - s.flt.seq).toNat)
    (hkept : (s.flt.seq - BitVec.ofNat 32 (prm32 p 0)).toNat ≤ s.flt.log.length)
    (hes : es = (s.flt.log.reverse.drop
      (BitVec.ofNat 32 (prm32 p 0) - (s.flt.seq - BitVec.ofNat 32 s.flt.log.length)).toNat).take (p.len.toNat / 32))
    (hsome : es ≠ []) :
    effFltLogRead t p s = s.answer t
      { r0 := BitVec.ofNat 32 (prm32 p 0), r1 := BitVec.ofNat 32 es.length, payload := es.flatMap LogEntry.bytes } := by
  have hlost : decide (s.flt.log.length < (s.flt.seq - BitVec.ofNat 32 (prm32 p 0)).toNat) = false :=
    decide_eq_false (Nat.not_lt.mpr hkept)
  have hempty : es.isEmpty = false := by simp [hsome]
  unfold effFltLogRead
  simp only [if_neg (Nat.not_lt.mpr hpast), hlost, Bool.false_eq_true, if_false, ← hes, hempty, BitVec.ofNat_toNat,
    BitVec.setWidth_eq]

theorem effFltStatus_fitted {s : State} {p : Pkt} (t : Ticket) (hdef : s.chanDefined (prm p 0) (prm16 p 2) = true)
    (hfit : s.chanFitted (prm p 0) (prm16 p 2) = true) :
    effFltStatus t p s = s.answer t
      { r0 := word [((s.chan (prm p 0) (prm16 p 2)).state.code, 0), (sat8 (s.chan (prm p 0) (prm16 p 2)).bucket, 8)],
        r1 := word [(sat32 (s.chan (prm p 0) (prm16 p 2)).upsets, 0)] } := by
  unfold effFltStatus
  dsimp only
  rw [if_neg (not_not_intro hdef), if_neg (not_not_intro hfit)]

/-! ### DPX_SWITCH (14 R601, R611) -/

theorem effDpxSwitch_no_standby {s : State} (t : Ticket) (p : Pkt) (h : s.dpx.noStandby = true) :
    effDpxSwitch t p s = s.ends t .stateRefused := if_pos h

theorem effDpxSwitch_starts {s : State} (t : Ticket) (p : Pkt) (hstandby : s.dpx.noStandby = false)
    (hfree : s.dpx.handover = none) :
    effDpxSwitch t p s = (s.startHandover none).modDpx fun d => { d with switchBy := some t } := by
  unfold effDpxSwitch
  rw [if_neg (Bool.eq_false_iff.mp hstandby), if_neg (by simp [hfree])]

/-- Settles O11. -/
theorem switchNeedsAStandby : Obligations.SwitchNeedsAStandby :=
  fun _ p h hno => exec_admitted rfl rfl (by decide) h (effDpxSwitch_no_standby _ p hno)

/-- Settles O44: one law of each packet's effect; the two reports are their answers. -/
theorem faultAndDuplexPacketsComplete : Obligations.FaultAndDuplexPacketsComplete := by
  refine ⟨fun s p => ⟨?config, ?ahead, ?kept, ?fltStatus⟩, fun s p => ⟨?report, ?switch, ?health⟩⟩
  case config =>
    intro h hkind hn hn' hw hw'
    exact exec_admitted rfl rfl (by decide) h (effFltConfig_legal _ hkind hn hn' hw hw')
  case ahead =>
    intro h hahead
    exact exec_admitted rfl rfl (by decide) h (effFltLogRead_ahead _ hahead)
  case kept =>
    intro es h hpast hkept hes hsome
    exact exec_admitted rfl rfl (by decide) h (effFltLogRead_kept _ hpast hkept hes hsome)
  case fltStatus =>
    intro h hdef hfit
    exact exec_admitted rfl rfl (by decide) h (effFltStatus_fitted _ hdef hfit)
  case report =>
    intro h
    exact exec_admitted rfl rfl (by decide) h rfl
  case switch =>
    intro h hstandby hfree
    exact exec_admitted rfl rfl (by decide) h (effDpxSwitch_starts _ p hstandby hfree)
  case health =>
    intro h
    exact exec_admitted rfl rfl (by decide) h rfl

/-! ### Pairing and forwarded packets (14 R592, R595) -/

/-- A device with input A that hears no active becomes the active at the end of its pairing. -/
theorem evPairingTimeout_activates {s : State} (hpairing : s.dpx.role = .pairing)
    (hnone : ¬ (s.dpx.partnerRole = .active ∧ s.dpx.heard = true)) (hinput : s.inputB = false) :
    evPairingTimeout s = ((s.advanceTo (s.dpx.pairSince + msSteps 100)).setDuplexRole .active).judgeStandby := by
  unfold evPairingTimeout
  rw [if_neg (not_not_intro hpairing)]
  exact (if_neg hnone).trans (if_pos (.inl (Bool.eq_false_iff.mp hinput)))

theorem evStateTransferDone_pairing {s : State} (hpairing : s.dpx.role = .pairing) (hactive : s.dpx.partnerRole = .active) :
    evStateTransferDone s = (s.setDuplexRole .standby).judgeStandby := if_pos ⟨hpairing, hactive⟩

/-- The one packet that is held for the standby completes with this device's status. -/
theorem evForwardTimeout_held {s : State} {qp : Fin 16} {tag : Half} {h : Ticket × Answer × Nat} (hheld : s.dpx.held = [h])
    (hqp : h.1.qp = qp)
    (hflight : (s.qp qp).flights.any (fun (f : Flight) => decide (f.id = h.1.id) && decide (f.pkt.tag = tag)) = true) :
    evForwardTimeout qp tag s =
      (let s1 := (s.advanceTo h.2.2).modDpx fun d => { d with
         held := d.held.erase h, forwarded := d.forwarded.filter fun (p : Ticket × Option Nat) => p.1 ≠ h.1, outOfStep := true }
       (s1.answerNow h.1 h.2.1).judgeStandby) := by
  have hfind : (s.dpx.held.find? fun (h : Ticket × Answer × Nat) => decide (h.1.qp = qp) &&
      (s.qp qp).flights.any fun (f : Flight) => decide (f.id = h.1.id) && decide (f.pkt.tag = tag)) = some h := by
    rw [hheld, List.find?_cons, hflight, decide_eq_true hqp]
    rfl
  simp only [evForwardTimeout, hfind]

/-! ### Handover and takeover (14 R602 to R608) -/

/-- The standby commits the frozen compares at c1 and claims the bridge. -/
theorem evHandoverCommit_claims {s : State} {b : Fin 8} {h : Handover} (hover : (s.bridge b).handover = some h)
    (hstandby : s.dpx.role = .standby) (hfree : h.claimed = false) :
    evHandoverCommit b s =
      (let s1 := (s.advanceTo h.c1).modPwm b fun w => if w.shadow.requested.isSome then w.transfer else w
       let s2 := s1.modDpx fun d => { d with claims := d.claims ||| BitVec.ofNat 8 (2 ^ b.val) }
       (s2.runMirrored b).modB b fun br => { br with
         handover := some { h with claimed := true }, dutyFrom := h.th + usSteps 2 }) := by
  simp only [evHandoverCommit, hover]
  rw [if_neg (by simp [hstandby, hfree])]

/-- The standby asserts `OWN` of a claimed bridge at t_h, and the active drops it 100 ns later. -/
theorem evHandoverOwn_claimed {s : State} {b : Fin 8} {h : Handover} (hover : (s.bridge b).handover = some h)
    (hclaimed : h.claimed = true) :
    evHandoverOwn b s =
      if s.dpx.role = .standby then (s.advanceTo h.th).modB b fun br => { br with own := true }
      else (s.advanceTo (h.th + 800)).modB b fun br => { br with own := false } := by
  simp only [evHandoverOwn, hover]
  exact if_neg (not_not_intro hclaimed)

/-- The state after a handover that nobody has claimed: no duplexed bridge is handed over and their links are free again. -/
def State.handoverDropped (s : State) (td : Nat) : State :=
  let s1 := s.advanceTo (td + msSteps 1)
  let s2 := s1.forEach s1.duplexedBridges fun u b =>
    (u.modB b fun br => { br with handover := none }).forEach (u.linksOf b) fun v g => v.modLink g fun l => { l with frozen := false }
  s2.modDpx fun d => { d with handover := none, switchBy := none }

/-- A handover that the device began itself is abandoned in silence, one of a DPX_SWITCH ends that packet. -/
theorem evHandoverAbandon_unclaimed {s : State} {td : Nat} (hover : s.dpx.handover = some (td, none))
    (hclaims : s.dpx.partnerClaims = 0) :
    evHandoverAbandon s =
      match s.dpx.switchBy with
      | some t => (s.handoverDropped td).ends t .timedOut
      | none => s.handoverDropped td := by
  simp only [evHandoverAbandon, hover]
  exact if_neg (not_not_intro hclaims)

/-- A link that still follows the partner 100 µs after a takeover makes the device stand down. -/
theorem evStandDown_other {s : State} {g : Fin 24} {b at_ : Nat} {st : BoosterStatus} (hat : s.dpx.takeoverAt = some at_)
    (howner : s.ownerOf g = some b) (hduplexed : s.duplexed b = true) (hstatus : (s.link g).status = some st)
    (hother : st.status.getLsbD 7 ≠ s.inputB) :
    evStandDown g s =
      (let s1 := s.advanceTo (at_ + usSteps 100)
       let s2 := s1.forEach s1.duplexedBridges fun u c =>
         match (u.bridge c).defn with | some d => u.drivePattern c d.safe false 0 | none => u
       let s3 := s2.modDpx fun d => { d with takeover := [], takeoverAt := none }
       (s3.setDuplexRole .pairing).logEntry 7 3 g 0 0 0 0) := by
  simp only [evStandDown, hat, howner, hstatus]
  exact if_neg (by rw [hduplexed, decide_eq_true hother]; decide)

/-- Settles O59: one law of each event's effect; the two ends of an abandoned handover are the two ends of its law. -/
theorem duplexEventsComplete : Obligations.DuplexEventsComplete := by
  intro s hawake
  refine ⟨?pairing, ?transfer, ?forward, ?commit, ?own, ?abandon, ?abandonSwitch, ?standDown⟩
  case pairing =>
    intro hpairing hnone hinput
    exact event_leaves hawake (evPairingTimeout_activates hpairing hnone hinput)
  case transfer =>
    intro hpairing hactive
    exact event_leaves hawake (evStateTransferDone_pairing hpairing hactive)
  case forward =>
    intro qp tag h hheld hqp hflight
    exact event_leaves hawake (evForwardTimeout_held hheld hqp hflight)
  case commit =>
    intro b h hover hstandby hfree
    exact event_leaves hawake (evHandoverCommit_claims hover hstandby hfree)
  case own =>
    intro b h hover hclaimed
    exact event_leaves hawake (evHandoverOwn_claimed hover hclaimed)
  case abandon =>
    intro td hover hclaims hswitch
    exact event_leaves hawake ((evHandoverAbandon_unclaimed hover hclaims).trans (by rw [hswitch]; rfl))
  case abandonSwitch =>
    intro td t hover hclaims hswitch
    exact event_leaves hawake ((evHandoverAbandon_unclaimed hover hclaims).trans (by rw [hswitch]; rfl))
  case standDown =>
    intro g b at_ st hat howner hduplexed hstatus hother
    exact event_leaves hawake (evStandDown_other hat howner hduplexed hstatus hother)

end Sys2Proof.Machine
end
section
/-! PROOFS. The cycle engine (12): what the system instructions of a program and the packets of class CYCLE leave where their rules
let them act. -/

namespace Sys2Proof.Machine

/-! ### System instructions (12 R490, R498, R499, Table 12-4a) -/

/-- The system instruction of a class and operation that a runner comes to next runs on the state that the ordinary instructions
in front of it leave. -/
theorem systemAt_next {s : State} {r cls op : Nat} {i : EicIns} (hexec : s.executes r = true)
    (hi : i = (s.runPlain r (s.fuelOf r)).insOf r) (hcls : i.cls = cls) (hop : i.op = op) :
    s.systemAt r cls op = (s.runPlain r (s.fuelOf r)).systemIns r i := by
  subst hi
  exact (if_pos hexec).trans (if_pos ⟨hcls, hop⟩)

/-- RDCNT of a counter that there is. -/
theorem rdcntIns_counter {u : State} {r : Nat} {i : EicIns} (h : u.operand r i.ty i.c ≤ 3) :
    u.rdcntIns r i = u.finishIns r i i.ty (match u.operand r i.ty i.c with
      | 0 => (u.run r).cycles | 1 => (u.run r).skips | 2 => u.wheel.dispL | _ => (u.chan 12 0).upsets) := by
  unfold State.rdcntIns
  generalize u.operand r i.ty i.c = n at h
  match n, h with
  | 0, _ => rfl
  | 1, _ => rfl
  | 2, _ => rfl
  | 3, _ => rfl

/-- Settles O49: the instruction that the runner comes to is the one of its class and operation, and it is its definition. -/
theorem eicInstructionsComplete : Obligations.EicInstructionsComplete := by
  rintro s u r i hawake hexec rfl hi
  have leaves {cls op : Nat} {v : State} (hcls : i.cls = cls) (hop : i.op = op)
      (hins : (s.runPlain r (s.fuelOf r)).systemIns r i = v) : event true (fun s => s.systemAt r cls op) s = .next v.finish :=
    event_leaves hawake ((systemAt_next hexec hi hcls hop).trans hins)
  refine ⟨?submit, ?poll, ?ready, ?signal, ?rdtime, ?rdcnt, ?trace⟩
  case submit => exact fun hcls hop => leaves hcls hop (by rw [State.systemIns, hcls, hop]; rfl)
  case poll => exact fun hcls hop => leaves hcls hop (by rw [State.systemIns, hcls, hop]; rfl)
  case ready => exact fun hcls hop => leaves hcls hop (by rw [State.systemIns, hcls, hop]; rfl)
  case signal => exact fun hcls hop => leaves hcls hop (by rw [State.systemIns, hcls, hop]; rfl)
  case rdtime => exact fun hcls hop => leaves hcls hop (by rw [State.systemIns, hcls, hop]; rfl)
  case rdcnt => exact fun hcls hop hcount => leaves hcls hop (by rw [State.systemIns, hcls, hop]; exact rdcntIns_counter hcount)
  case trace => exact fun hcls hop => leaves hcls hop (by rw [State.systemIns, hcls, hop]; rfl)

/-! ### Configuration and staging (12 R516, R517, R526) -/

theorem effCycConfig_legal {s : State} {p : Pkt} (t : Ticket) (hrestart : prm p 0 ≤ 1) (hauto : prm p 1 ≤ 1)
    (hks : 1 ≤ prm p 2) (hks' : prm p 2 ≤ 8) (h3 : prm p 3 = 0) (hz : prmZero p 20 20 = true)
    (hofs : ∀ k, k < 4 → 10 ≤ prm32 p (4 + 4 * k) ∧ prm32 p (4 + 4 * k) ≤ 999999) :
    effCycConfig t p s =
      (s.modCyc fun c => { c with
        restart := prm p 0, autoRun := decide (prm p 1 = 1), ksLimit := prm p 2,
        outOfs := Vector.ofFn fun k => prm32 p (4 + 4 * k.val) }).ends t .done := by
  have hany : ((List.range 4).any fun k =>
      decide (prm32 p (4 + 4 * k) < 10) || decide (999999 < prm32 p (4 + 4 * k))) = false := by
    refine List.any_eq_false.mpr fun k hk => ?_
    have := hofs k (List.mem_range.mp hk)
    simp only [Bool.or_eq_true, decide_eq_true_eq]
    omega
  unfold effCycConfig
  dsimp only
  rw [hany, if_neg (by simp only [hz]; simp; omega)]

/-- CYC_LOAD within the staging area, while no change waits. -/
theorem effCycLoad_legal {s : State} {p : Pkt} (t : Ticket) (hchange : s.cyc.change = none)
    (hfits : prm32 p 0 + p.payload.length ≤ 16 * 2 ^ 20) :
    effCycLoad t p s =
      (s.modCyc fun c => { c with
        staged := some (patch (if prm32 p 0 = 0 then [] else s.cyc.staged.getD []) (prm32 p 0) p.payload),
        verified := false }).ends t .done := by
  unfold effCycLoad
  dsimp only
  rw [if_neg (by simp [hchange]), if_neg (Nat.not_lt.mpr hfits)]

/-- CYC_VERIFY answers the verdict on the staged image. -/
theorem effCycVerify_verdict {s : State} {img : List Byte} (t : Ticket) (p : Pkt) (himg : img = s.cyc.staged.getD []) :
    effCycVerify t p s =
      match s.verdict img with
      | some (n, some off) => (s.modCyc fun c => { c with verified := false }).answer t
          { status := .badField, r0 := word [(n, 0)], r1 := word [(off, 0)] }
      | some (n, none) =>
        let d := (s.modCyc fun c => { c with verified := false }).draw 80 (2 ^ 32)
        d.2.answer t { status := .badField, r0 := word [(n, 0)], r1 := word [(d.1, 0)] }
      | none => (s.modCyc fun c => { c with verified := true }).answer t
          { payload := slice (Config.eicReport (((List.range (imgNcyc img)).flatMap fun k =>
              [eicC img k, eicResponse img k, carryTime s.cyc.image img k]) ++ [eicBudget img])) 0 256 } := by
  subst himg
  rfl

/-! ### Changes and stations (12 R500, R518 to R520, R531) -/

/-- CYC_CHANGE outside RUN switches at once. -/
theorem effCycChange_now {s : State} {p : Pkt} (t : Ticket) (hchange : s.cyc.change = none)
    (hok : s.changeOk (s.cyc.staged.getD []) = true) (hstate : s.cyc.state ≠ .run) :
    effCycChange t p s =
      (let r := s.switchImage
       (r.1.modCyc fun x => { x with state := .stop }).endChange
         { ticket := t, store := decide (prm p 0 ≠ 0), at_ := s.ns, moves := 0, room := p.len.toNat } r.2 s.ns) := by
  unfold effCycChange
  dsimp only
  rw [if_neg (by simp [hchange]), if_neg (not_not_intro hok), if_neg hstate]

/-- CYC_CHANGE in RUN waits for an instant at which a cycle of either image may begin. -/
theorem effCycChange_waits {s : State} {p : Pkt} (t : Ticket) (hchange : s.cyc.change = none)
    (hok : s.changeOk (s.cyc.staged.getD []) = true) (hstate : s.cyc.state = .run) :
    effCycChange t p s =
      (let longest (i : List Byte) :=
         (List.range (imgNcyc i)).foldl (fun a k => max a (1000 * (Config.eicCyclic i k).period)) 0
       let l := max (longest s.cyc.image) (longest (s.cyc.staged.getD []))
       s.modCyc fun x => { x with
         change := some { ticket := t, store := decide (prm p 0 ≠ 0), at_ := multipleFrom l (s.ns + l), moves := 0,
                          room := p.len.toNat } }) := by
  unfold effCycChange
  dsimp only
  rw [if_neg (by simp [hchange]), if_neg (not_not_intro hok), if_pos hstate]

/-- The fields of a CYC_STATION in their ranges. -/
structure StationInRange (p : Pkt) : Prop where
  port : prm p 0 ≤ 2
  task : prm p 1 ≤ 3
  inLen : (stationOf p).inLen ≤ 1024 ∧ (stationOf p).inLen % 2 = 0
  outLen : (stationOf p).outLen ≤ 1024 ∧ (stationOf p).outLen % 2 = 0
  inEnd : (stationOf p).inOfs + (stationOf p).inLen / 2 ≤ 65535
  outEnd : (stationOf p).outOfs + (stationOf p).outLen / 2 ≤ 65535
  stat : (stationOf p).statOfs ≤ 65534
  missMax : 1 ≤ (stationOf p).missMax ∧ (stationOf p).missMax ≤ 8
  flags : prm p 20 ≤ 1 ∧ prm p 21 ≤ 1 ∧ prm p 22 ≤ 1
  zero : prmZero p 23 17 = true

/-- CYC_STATION in range whose input words meet no other enabled station's, and that fits the image in force. -/
theorem effCycStation_legal {s : State} {p : Pkt} (t : Ticket) (hrange : StationInRange p)
    (happart : ∀ m d, m < 32 → m ≠ p.target.toNat → (vget s.cyc.stations m).cfg = some d → d.en = true →
      overlaps (stationOf p).inOfs ((stationOf p).inLen / 2) d.inOfs (d.inLen / 2) = false)
    (hfits : s.cyc.image ≠ [] → stationFits s.cyc.image (stationOf p) = true) :
    effCycStation t p s =
      (s.modStation p.target.toNat fun x => { cfg := some (stationOf p), absences := x.absences }).ends t .done := by
  obtain ⟨hport, htask, ⟨hin, hin2⟩, ⟨hout, hout2⟩, hinEnd, houtEnd, hstat, ⟨hmiss, hmiss'⟩, ⟨h20, h21, h22⟩, hz⟩ := hrange
  have hmeets : ((List.range 32).any fun m => decide (m ≠ p.target.toNat) &&
      match (vget s.cyc.stations m).cfg with
      | some d => d.en && overlaps (stationOf p).inOfs ((stationOf p).inLen / 2) d.inOfs (d.inLen / 2)
      | none => false) = false := by
    refine List.any_eq_false.mpr fun m hm hmeet => ?_
    simp only [Bool.and_eq_true, decide_eq_true_eq] at hmeet
    obtain ⟨hne, hmeet⟩ := hmeet
    cases hcfg : (vget s.cyc.stations m).cfg with
    | none => simp [hcfg] at hmeet
    | some d =>
      simp only [hcfg, Bool.and_eq_true] at hmeet
      exact Bool.eq_false_iff.mp (happart m d (List.mem_range.mp hm) hne hcfg hmeet.1) hmeet.2
  have hfit : ¬ (s.cyc.image ≠ [] ∧ ¬ stationFits s.cyc.image (stationOf p) = true) := fun ⟨hne, hno⟩ => hno (hfits hne)
  unfold effCycStation
  dsimp only
  refine if_neg ?_
  simp only [hz, hfit, not_true_eq_false, false_or, or_false, ← or_assoc]
  rintro (hnumber | hmeet)
  · omega
  · exact Bool.eq_false_iff.mp hmeets hmeet

theorem effCycDiscard_none {s : State} (t : Ticket) (p : Pkt) (h : s.cyc.staged = none) :
    effCycDiscard t p s = s.answer t { status := .doneNote, extra := 1 } := if_pos (Option.isNone_iff_eq_none.mpr h)

/-- CYC_DISCARD drops the staged image, and ends a change to it that waits. -/
theorem effCycDiscard_staged {s : State} (t : Ticket) (p : Pkt) (h : s.cyc.staged ≠ none) :
    effCycDiscard t p s =
      (let s1 := s.modCyc fun c => { c with staged := none, verified := false, change := none }
       (match s.cyc.change with | some c => s1.ends c.ticket .cancelled | none => s1).ends t .done) :=
  if_neg fun hnone => h (Option.isNone_iff_eq_none.mp hnone)

/-- Settles O50: one law of each packet's effect; CYC_STORE is its definition. -/
theorem cycleSetupPacketsComplete : Obligations.CycleSetupPacketsComplete := by
  refine fun s p => ⟨?config, ?load, ?verify, ?changeNow, ?changeWaits, ?station, ?store, ?discardNone, ?discard⟩
  case config =>
    intro h hrestart hauto hks hks' h3 hz hofs
    exact exec_admitted rfl rfl (by decide) h (effCycConfig_legal _ hrestart hauto hks hks' h3 hz hofs)
  case load =>
    intro h hchange hfits
    exact exec_admitted rfl rfl (by decide) h (effCycLoad_legal _ hchange hfits)
  case verify =>
    intro img h himg
    have hverdict := effCycVerify_verdict (s := s.begun (.cycVerify p) p) (s.ticketOf p) p himg
    refine (exec_admitted rfl rfl (by decide) h hverdict).trans ?_
    rw [State.begun_verdict]
    rcases s.verdict img with _ | ⟨n, _ | off⟩ <;> rfl
  case changeNow =>
    intro h hchange hok hstate
    exact exec_admitted rfl rfl (by decide) h (effCycChange_now _ hchange hok hstate)
  case changeWaits =>
    intro h hchange hok hstate
    exact exec_admitted rfl rfl (by decide) h (effCycChange_waits _ hchange hok hstate)
  case station =>
    rintro _ h rfl hport htask hin hin2 hout hout2 hinEnd houtEnd hstat hmiss hmiss' h20 h21 h22 hz happart hfits
    exact exec_admitted rfl rfl (by decide) h (effCycStation_legal _
      ⟨hport, htask, ⟨hin, hin2⟩, ⟨hout, hout2⟩, hinEnd, houtEnd, hstat, ⟨hmiss, hmiss'⟩, ⟨h20, h21, h22⟩, hz⟩ happart hfits)
  case store =>
    intro h
    exact exec_admitted rfl rfl (by decide) h rfl
  case discardNone =>
    intro h hnone
    exact exec_admitted rfl rfl (by decide) h (effCycDiscard_none _ p hnone)
  case discard =>
    intro h hstaged
    exact exec_admitted rfl rfl (by decide) h (effCycDiscard_staged _ p hstaged)

end Sys2Proof.Machine
end
section
/-! PROOFS. The cycle engine at work (12): what modes, forces, variables, debugging and status of the cycle engine leave where their
rules let them act. -/

namespace Sys2Proof.Machine

/-! ### Modes (12 R507 to R510) -/

/-- CYC_MODE to RUN from STOP, on the data as they are. -/
theorem effCycMode_run {s : State} {p : Pkt} (t : Ticket) (h0 : prm p 0 = 1) (h1 : prm p 1 = 0) (hz : prmZero p 2 38 = true)
    (hstop : s.cyc.state = .stop) :
    effCycMode t p s =
      (s.startTasks).modCyc fun c => { c with state := .run, stopping := false, modeWait := [t] } := by
  unfold effCycMode
  simp [h0, h1, hz, hstop]

/-- CYC_MODE to STOP from RUN while no stop is on its way. -/
theorem effCycMode_stop {s : State} {p : Pkt} (t : Ticket) (h0 : prm p 0 = 0) (h1 : prm p 1 = 0) (hz : prmZero p 2 38 = true)
    (hrun : s.cyc.state = .run) (hstopping : s.cyc.stopping = false) :
    effCycMode t p s =
      ((s.modCyc fun c => { c with stopping := true, modeWait := [t] }).endAll s.cyc.modeWait .cancelled).stopIfIdle := by
  unfold effCycMode
  simp [h0, h1, hz, hrun, hstopping]

/-- CYC_MODE to HOLD from STOP, at debug level 2 with no bound context running. -/
theorem effCycMode_hold {s : State} {p : Pkt} (t : Ticket) (h0 : prm p 0 = 2) (h1 : prm p 1 = 0) (hz : prmZero p 2 38 = true)
    (hstop : s.cyc.state = .stop) (hlevel : 2 ≤ s.dbg.level) (hbound : s.boundRunning = false) :
    effCycMode t p s =
      ((s.modCyc fun c => { c with state := .hold, stopping := false, modeWait := [] }).endAll s.cyc.modeWait .cancelled).ends t
        .done := by
  unfold effCycMode
  simp [h0, h1, hz, hstop, Nat.not_lt.mpr hlevel, hbound]

/-! ### Forces and variables (12 R522 to R525) -/

/-- CYC_FORCE that sets a force while no change waits. -/
theorem effCycForce_set {s : State} {p : Pkt} (t : Ticket) (h4 : prm p 4 = 1) (hchange : s.cyc.change = none) :
    effCycForce t p s =
      match symOf s.cyc.image (prm32 p 0) with
      | none => s.ends t .badField
      | some v =>
        let others := s.cyc.forces.filter fun (f : Force) => decide (f.sym.id ≠ prm32 p 0)
        if 8 < symBytes v then s.ends t .badField
        else if 64 ≤ others.length then s.ends t .busyRetry
        else (s.modCyc fun c => { c with forces := others ++
          [({ sym := v, value := BitVec.ofNat 64 (prm64 p 8), active := false, removing := false } : Force)] }).ends t .done := by
  unfold effCycForce
  dsimp only
  rw [if_neg (by omega), hchange, if_neg Bool.false_ne_true]
  cases symOf s.cyc.image (prm32 p 0) with
  | none => rfl
  | some v =>
    dsimp only
    rw [if_neg (show ¬ prm p 4 = 0 by omega)]

/-- CYC_READ of the trace ring. -/
theorem effCycRead_trace {s : State} {p : Pkt} (t : Ticket) (hid : prm32 p 0 = 0xFFFFFFFF)
    (hroom : prm32 p 8 * 16 ≤ p.payload.length) (hcount : 1 ≤ prm32 p 8) (hend : prm32 p 4 + prm32 p 8 ≤ 256)
    (hz : prmZero p 12 28 = true) :
    effCycRead t p s = s.answer t { payload := s.traceBytes (prm32 p 4) (prm32 p 8) } := by
  unfold effCycRead
  rw [if_pos hid, if_neg (Nat.not_lt.mpr hroom), if_neg]
  simp only [hz, not_true_eq_false, or_false]
  omega

/-! ### Debugging in HOLD (12 R528) -/

theorem effCycDebug_step {s : State} {p : Pkt} {r : Nat} (t : Ticket) (h0 : prm p 0 = 0) (hheld : s.heldTask = some r) :
    effCycDebug t p s = (s.stepHeld r).ends t .done := by
  unfold effCycDebug
  rw [h0, hheld]
  rfl

theorem effCycDebug_continue {s : State} {p : Pkt} {r : Nat} (t : Ticket) (h0 : prm p 0 = 3) (hheld : s.heldTask = some r) :
    effCycDebug t p s = (s.continueHeld r (s.fuelOf r)).ends t .done := by
  unfold effCycDebug
  rw [h0, hheld]
  rfl

/-- CYC_DEBUG that sets a breakpoint that is new, with room for it. -/
theorem effCycDebug_break {s : State} {p : Pkt} (t : Ticket) (h0 : prm p 0 = 1) (hnew : prm32 p 4 ∉ s.cyc.breaks)
    (hroom : s.cyc.breaks.length < 8) :
    effCycDebug t p s = (s.modCyc fun c => { c with breaks := c.breaks ++ [prm32 p 4] }).ends t .done := by
  unfold effCycDebug
  rw [h0]
  refine (if_neg ?_).trans (if_neg (Nat.not_le.mpr hroom))
  simpa using hnew

theorem effCycDebug_clear {s : State} {p : Pkt} (t : Ticket) (h0 : prm p 0 = 2) :
    effCycDebug t p s = (s.modCyc fun c => { c with breaks := c.breaks.filter (· ≠ prm32 p 4) }).ends t .done := by
  unfold effCycDebug
  rw [h0]
  rfl

/-! ### Status (12 R512, R529) -/

/-- CYC_STATUS answers the staging area's state as the four cases of R529 give it. -/
theorem effCycStatus_answer {s : State} {c : Cycle} {green : Nat} (t : Ticket) (p : Pkt) (hc : s.cyc = c)
    (hgreen : green = if c.staged = none then 0 else if c.change ≠ none then 3 else if c.verified then 2 else 1) :
    effCycStatus t p s =
      (s.modCyc fun c => { c with div0 := false, bound := false, coldNote := false }).answer t
        { status := if c.coldNote then .doneNote else .done,
          r0 := word [(c.state.code, 0), (green, 3), (bit c.div0, 5), (bit c.bound, 6), (c.cause.toNat % 256, 8),
                      (satCount (s.chan 12 0).bucket, 16)],
          r1 := word (((List.range 4).map fun k => (satTo 3 (s.run k).skips, 2 * k)) ++ [(c.retUse.val, 8)] ++
                      (List.range 16).map fun n => (bit (vget c.stations n).absent, 16 + n)),
          extra := if c.coldNote then 2 else if c.image = [] then 0 else word [(imgId c.image, 0)] } := by
  subst hc hgreen
  simp only [effCycStatus, Option.isNone_iff_eq_none, Option.isSome_iff_ne_none]

/-- Settles O51: one law of each packet's effect; the reads and writes of variables are their definitions. -/
theorem cycleRunPacketsComplete : Obligations.CycleRunPacketsComplete := by
  refine fun s p => ⟨?run, ?stop, ?hold, ?force, ?trace, ?read, ?write, ?held, ?setBreak, ?clear, ?status⟩
  case run =>
    intro h h0 h1 hz hstop
    exact exec_admitted rfl rfl (by decide) h (effCycMode_run _ h0 h1 hz hstop)
  case stop =>
    intro h h0 h1 hz hrun hstopping
    exact exec_admitted rfl rfl (by decide) h (effCycMode_stop _ h0 h1 hz hrun hstopping)
  case hold =>
    intro h h0 h1 hz hstop hlevel hbound
    exact exec_admitted rfl rfl (by decide) h (effCycMode_hold _ h0 h1 hz hstop hlevel hbound)
  case force =>
    rintro _ h h4 hchange rfl
    exact exec_admitted rfl rfl (by decide) h (effCycForce_set _ h4 hchange)
  case trace =>
    intro h hid hroom hcount hend hz
    exact exec_admitted rfl rfl (by decide) h (effCycRead_trace _ hid hroom hcount hend hz)
  case read =>
    intro h hid
    exact exec_admitted rfl rfl (by decide) h (if_neg hid)
  case write =>
    intro h hid
    exact exec_admitted rfl rfl (by decide) h (if_neg hid)
  case held =>
    exact fun r h hheld =>
      ⟨fun h0 => exec_admitted rfl rfl (by decide) h (effCycDebug_step _ h0 hheld),
       fun h0 => exec_admitted rfl rfl (by decide) h (effCycDebug_continue _ h0 hheld)⟩
  case setBreak =>
    intro h h0 hnew hroom
    exact exec_admitted rfl rfl (by decide) h (effCycDebug_break _ h0 hnew hroom)
  case clear =>
    intro h h0
    exact exec_admitted rfl rfl (by decide) h (effCycDebug_clear _ h0)
  case status =>
    intro c green h hc hgreen
    exact exec_admitted rfl rfl (by decide) h (effCycStatus_answer _ p hc hgreen)

end Sys2Proof.Machine
end
section
/-! PROOFS. The calls of a user service thread (16 R667 to R669): what each leaves while the thread runs and its arguments are
legal. -/

namespace Sys2Proof.Machine

section
variable {s : State} {c : Fin 4}

/-- A call's own text is reached when the thread runs. -/
theorem if_not_runs {α : Type} {a b : α} (hruns : s.threadRuns c = true) : (if ¬ s.threadRuns c = true then a else b) = b :=
  if_neg (not_not_intro hruns)

theorem evThreadReady_legal {ctx : Word} (hruns : s.threadRuns c = true) (hctx : 4 ≤ ctx.toNat) (hctx' : ctx.toNat ≤ 127) :
    evThreadReady c ctx s =
      (s.modThread c fun x => { x with waits := true }).modWheel fun w => { w with
        readies := w.readies ++ [(ctx.toNat, .call (4 + c))] } :=
  (if_not_runs hruns).trans (if_neg (by omega))

theorem evThreadDelay_legal {n : Word} (hruns : s.threadRuns c = true) (hmode : (s.wc (4 + c)).tmode = 0) (hn : 1 ≤ n.toNat)
    (hn' : n.toNat ≤ 16777216) : evThreadDelay c n s = (s.leaveB c).delayContext (4 + c) n.toNat none :=
  (if_not_runs hruns).trans ((if_neg (not_not_intro hmode)).trans (if_neg (by omega)))

/-- THREAD_WAIT with something to wait for, and with a time-out exactly in a context of time mode 1. -/
theorem evThreadWait_legal {mask tmo : Word} (hruns : s.threadRuns c = true) (hsome : tmo = 0 → mask ≠ 0)
    (hmode : (s.wc (4 + c)).tmode = 1 ↔ tmo ≠ 0) :
    evThreadWait c mask tmo s = (s.leaveB c).waitContext (4 + c) mask tmo.toNat none :=
  (if_not_runs hruns).trans ((if_neg fun ⟨hmask, htmo⟩ => hsome htmo hmask).trans
    (if_neg (not_not_intro (decide_eq_decide.mpr hmode))))

theorem evThreadSubmit_legal {qp : Word} (bytes : List Byte) (hruns : s.threadRuns c = true) (hqp : qp.toNat < 16)
    (hmask : s.threadQp c qp.toNat = true) :
    evThreadSubmit c qp bytes s = (s.submit ⟨qp.toNat, hqp⟩ bytes).2.callResult c (s.submit ⟨qp.toNat, hqp⟩ bytes).1 :=
  (if_not_runs hruns).trans ((dif_pos hqp).trans (if_pos hmask))

/-- THREAD_POLL of a completion ring the thread may use, into its memory. -/
theorem evThreadPoll_legal {qp addr : Word} (hruns : s.threadRuns c = true) (hqp : qp.toNat < 16)
    (hmask : s.threadQp c qp.toNat = true) (hfits : addr.toNat + 32 ≤ s.threadSize c) :
    evThreadPoll c qp addr s =
      match s.pollRing ⟨qp.toNat, hqp⟩ with
      | (some bs, u) => (u.modThread c fun x => { x with
          mem := cellsWrite 0 addr.toNat (bs.map fun (b : Byte) => b.toNat) x.mem }).callResult c 1
      | (none, u) => u.callResult c 0 :=
  (if_not_runs hruns).trans ((dif_pos hqp).trans (if_pos ⟨hmask, hfits⟩))

theorem evThreadImageRead_legal {ofs count addr : Word} (hruns : s.threadRuns c = true) (hcycle : s.hasCycle = true)
    (hcount : 1 ≤ count.toNat) (hcount' : count.toNat ≤ 4096) (hend : ofs.toNat + count.toNat ≤ 65535)
    (hfits : addr.toNat + 2 * count.toNat ≤ s.threadSize c) :
    evThreadImageRead c ofs count addr s =
      (s.modThread c fun x => { x with
        mem := cellsWrite 0 addr.toNat (cellsRead 0 (2 * ofs.toNat) (2 * count.toNat) s.cyc.inp) x.mem }).callResult c
          Status.done.code :=
  (if_not_runs hruns).trans ((if_neg (not_not_intro hcycle)).trans ((if_neg (by omega)).trans (if_neg (Nat.not_lt.mpr hfits))))

end

/-- Settles O48: one law of each call. -/
theorem threadCallsComplete : Obligations.ThreadCallsComplete := by
  refine fun s c hawake => ⟨fun hruns => ⟨?finish, ?ready, ?signal, ?delay, ?wait, ?submit, ?poll, ?pollEmpty, ?time, ?image⟩, ?fault⟩
  case finish => exact event_leaves hawake (if_pos hruns)
  case ready => exact fun ctx hctx hctx' => event_leaves hawake (evThreadReady_legal hruns hctx hctx')
  case signal => exact fun mask => event_leaves hawake (if_pos hruns)
  case delay => exact fun n hmode hn hn' => event_leaves hawake (evThreadDelay_legal hruns hmode hn hn')
  case wait => exact fun mask tmo hsome hmode => event_leaves hawake (evThreadWait_legal hruns hsome hmode)
  case submit => exact fun qp hqp bytes hmask => event_leaves hawake (evThreadSubmit_legal bytes hruns hqp hmask)
  case poll =>
    intro qp addr hqp bs u hmask hfits hring
    exact event_leaves hawake (by rw [evThreadPoll_legal hruns hqp hmask hfits, hring])
  case pollEmpty =>
    intro qp addr hqp u hmask hfits hring
    exact event_leaves hawake (by rw [evThreadPoll_legal hruns hqp hmask hfits, hring])
  case time => exact event_leaves hawake (if_pos hruns)
  case image =>
    exact fun ofs count addr hcycle hcount hcount' hend hfits =>
      event_leaves hawake (evThreadImageRead_legal hruns hcycle hcount hcount' hend hfits)
  case fault => exact fun hpair => event_leaves hawake (if_pos hpair)

end Sys2Proof.Machine
end
section
/-! PROOFS. Service (16 R651 to R666, R671): what firmware, calibration and service-image packets leave where their rules let them
act, and what the end of a write to NOR leaves. -/

namespace Sys2Proof.Machine

/-! ### Firmware banks (16 R653 to R655) -/

/-- FW_LOAD at offset 0 erases the bank that does not run and puts it in LOADING. -/
theorem effFwLoad_first {s : State} {p : Pkt} (t : Ticket) (hoff : prm32 p 0 = 0) (hfits : p.len.toNat ≤ fwMax) :
    effFwLoad t p s =
      (s.modBank s.inactive fun _ => { state := .loading }).queueNor (.fwLoad t s.inactive 0 p.payload) := by
  unfold effFwLoad
  dsimp only
  rw [hoff, if_neg (by omega), if_neg (fun h => h.1 rfl), if_pos rfl]

/-- FW_LOAD at a later offset of a bank in LOADING. -/
theorem effFwLoad_next {s : State} {p : Pkt} (t : Ticket) (hoff : prm32 p 0 ≠ 0) (hoff64 : prm32 p 0 % 64 = 0)
    (hfits : prm32 p 0 + p.len.toNat ≤ fwMax) (hloading : (s.bank s.inactive).state = .loading) :
    effFwLoad t p s = s.queueNor (.fwLoad t s.inactive (prm32 p 0) p.payload) := by
  unfold effFwLoad
  dsimp only
  rw [if_neg (by omega), if_neg (fun h => h.2 hloading), if_neg hoff]

/-- FW_VERIFY with no load on its way: the verdict on the header, the signature and the security counter. -/
theorem effFwVerify_verdict {s : State} (t : Ticket) (p : Pkt) (hloads : s.loadsQueued = false) {h : Nat × Nat × Bool}
    (hheader : Config.fwHeader (s.bank s.inactive).image = h) :
    effFwVerify t p s =
      if h.2.2 = true ∧ s.svcs.secCounter ≤ h.2.1 then
        (s.modBank s.inactive fun b => { b with state := .verified }).answer t
          { r0 := word [(h.1 % 2 ^ 32, 0)], r1 := word [(h.2.1 % 65536, 0)] }
      else (s.modBank s.inactive fun b => { b with state := .invalid }).ends t .authFailed := by
  subst hheader
  unfold effFwVerify
  dsimp only
  rw [if_neg (by simp [hloads]), ← ite_not]
  simp only [not_or, not_not, Nat.not_lt]

/-- FW_ACTIVATE in a mode that it may take now. -/
theorem effFwActivate_legal {s : State} {p : Pkt} (t : Ticket) (hmode : prm p 0 ≤ 1)
    (hlegal : prm p 0 = 1 → s.dpx.role = .standby ∨ s.dpx.role = .relinquished ∨
      s.bridges.toList.any (fun b => b.state.beyondArmed) = false) :
    effFwActivate t p s = s.queueNor (.fwActivate t s.inactive (decide (prm p 0 = 1))) := by
  unfold effFwActivate
  refine (if_neg (Nat.not_lt.mpr hmode)).trans (if_neg ?_)
  rintro ⟨hone, hnot⟩
  obtain h | h | h := hlegal hone <;> simp [h] at hnot

/-! ### Calibration (16 R659, R663) -/

theorem wordsOf_length (bs : List Byte) (n : Nat) : (wordsOf bs n).length = n := by simp [wordsOf]

/-- Entries in their ranges, none of a slot in RECAL, are queued for NOR. -/
theorem State.calWrite_legal {s : State} {first : Nat} {es : List Nat} (t : Ticket)
    (hok : ∀ e ∈ es.zipIdx, calEntryOk (first + e.2) e.1 = true)
    (hfree : ∀ n, n < 48 → (s.slot n).state = .recal →
      ¬ (first ≤ n ∧ n < first + es.length) ∧ ¬ (first ≤ 0x30 + n ∧ 0x30 + n < first + es.length)) :
    s.calWrite t first es = s.queueNor (.cal t first (es.map fun (v : Nat) => BitVec.ofNat 16 v)) := by
  unfold State.calWrite
  refine (if_neg (not_not_intro (List.all_eq_true.mpr hok))).trans (if_neg ?_)
  rw [List.any_eq_true]
  rintro ⟨n, hn, hbusy⟩
  simp only [Bool.and_eq_true, Bool.or_eq_true, decide_eq_true_eq] at hbusy
  obtain ⟨hrecal, hnames⟩ := hbusy
  obtain ⟨hofs, hgain⟩ := hfree n (List.mem_range.mp hn) hrecal
  exact hnames.elim hofs hgain

theorem effCalWrite_legal {s : State} {p : Pkt} (t : Ticket) (hcount : 1 ≤ prm16 p 2) (hend : prm16 p 0 + prm16 p 2 ≤ 152)
    (hlen : p.len.toNat = pad64 (2 * prm16 p 2))
    (hok : ∀ e ∈ (wordsOf p.payload (prm16 p 2)).zipIdx, calEntryOk (prm16 p 0 + e.2) e.1 = true)
    (hfree : ∀ n, n < 48 → (s.slot n).state = .recal →
      ¬ (prm16 p 0 ≤ n ∧ n < prm16 p 0 + prm16 p 2) ∧ ¬ (prm16 p 0 ≤ 0x30 + n ∧ 0x30 + n < prm16 p 0 + prm16 p 2)) :
    effCalWrite t p s =
      s.queueNor (.cal t (prm16 p 0) ((wordsOf p.payload (prm16 p 2)).map fun (v : Nat) => BitVec.ofNat 16 v)) := by
  unfold effCalWrite
  refine (if_neg (by omega)).trans ((if_neg (not_not_intro hlen)).trans (State.calWrite_legal t hok ?_))
  rwa [wordsOf_length]

/-- CAL_IMPORT writes the set of a blob that this device signed for itself. -/
theorem effCalImport_verdict (s : State) (t : Ticket) (p : Pkt) :
    effCalImport t p s =
      if Config.deviceVerify (slice p.payload 0 336) (slice p.payload 336 64) = true ∧ le p.payload 4 8 = s.serial.toNat then
        s.calWrite t 0 (wordsOf (slice p.payload 32 304) 152)
      else s.ends t .authFailed := by
  unfold effCalImport
  rw [← ite_not]
  simp only [not_or, not_not, ne_eq]

/-! ### Service images (16 R664, R665) -/

/-- SVC_LOAD into a slot that no thread runs or waits to run; offset 0 erases it first. -/
theorem effSvcLoad_legal {s : State} {p : Pkt} (t : Ticket) (hslot : prm p 0 ≤ 3) (hlast : prm p 1 ≤ 1)
    (hfits : prm32 p 4 + p.len.toNat ≤ 2 ^ 20)
    (hidle : s.threadsOn (prm p 0) (fun x => x = .ready || x = .running) = []) :
    effSvcLoad t p s =
      (if prm32 p 4 = 0 then s.eraseSlot (prm p 0) else s).queueNor
        (.svc t (prm p 0) (prm32 p 4) p.payload (decide (prm p 1 = 1))) := by
  unfold effSvcLoad
  exact (if_neg (by omega)).trans (if_neg (not_not_intro hidle))

/-! ### The end of a write to NOR (16 R651, R655) -/

/-- A write that is read back right, and that is no activation in mode 1, has its own effect. -/
theorem evNorWriteDone_ok {s : State} {w : NorWrite} {rest : List NorWrite} (hqueue : s.svcs.norQueue = w :: rest)
    (hprofile : w ≠ .profile) (hblock : w ≠ .block) (hreset : ∀ t k, w ≠ .fwActivate t k true) :
    evNorWriteDone true s = (s.modSvc fun v => { v with norQueue := rest }).norDone w := by
  unfold evNorWriteDone
  rw [hqueue]
  cases w with
  | profile => exact absurd rfl hprofile
  | block => exact absurd rfl hblock
  | fwActivate t k reset =>
    cases reset with
    | true => exact absurd rfl (hreset t k)
    | false => rfl
  | fwLoad | fwConfirm | cal | svc | cycStore => rfl

/-- A packet's write whose read-back fails ends the packet. -/
theorem evNorWriteDone_fails {s : State} {w : NorWrite} {rest : List NorWrite} {t : Ticket} (hqueue : s.svcs.norQueue = w :: rest)
    (hticket : w.ticket = some t) :
    evNorWriteDone false s = (s.modSvc fun v => { v with norQueue := rest }).ends t .internalFault := by
  unfold evNorWriteDone
  rw [hqueue]
  cases w with
  | profile | block => cases hticket
  | fwLoad | fwActivate | fwConfirm | cal | svc | cycStore => cases hticket; rfl

/-- Settles O60: one law of each packet's effect, and the two ends of a write; queries and FW_CONFIRM are their definitions. -/
theorem serviceCommandsComplete : Obligations.ServiceCommandsComplete := by
  refine ⟨fun s p => ⟨?loadFirst, ?loadNext, ?verify, ?activate, ?confirm, ?status, ?calWrite, ?calRead, ?calExport, ?calImport,
    ?svcLoad⟩, fun s hawake => ⟨?done, ?fails, ?firmwareDone, ?calDone⟩⟩
  case loadFirst =>
    intro h hoff hfits
    exact exec_admitted rfl rfl (by decide) h (effFwLoad_first _ hoff hfits)
  case loadNext =>
    intro h hoff hoff64 hfits hloading
    exact exec_admitted rfl rfl (by decide) h (effFwLoad_next _ hoff hoff64 hfits hloading)
  case verify =>
    intro hd h hloads hheader
    exact exec_admitted rfl rfl (by decide) h 
      (effFwVerify_verdict (s := s.begun (.fwVerify p) p) _ p hloads hheader)
  case activate =>
    intro h hmode hlegal
    exact exec_admitted rfl rfl (by decide) h (effFwActivate_legal _ hmode hlegal)
  case confirm => exact fun h => exec_admitted rfl rfl (by decide) h rfl
  case status => exact fun h => exec_admitted rfl rfl (by decide) h rfl
  case calWrite =>
    intro h hcount hend hlen hok hfree
    exact exec_admitted rfl rfl (by decide) h (effCalWrite_legal _ hcount hend hlen hok hfree)
  case calRead => exact fun h => exec_admitted rfl rfl (by decide) h rfl
  case calExport => exact fun h => exec_admitted rfl rfl (by decide) h rfl
  case calImport => exact fun h => exec_admitted rfl rfl (by decide) h (effCalImport_verdict _ _ p)
  case svcLoad =>
    intro h hslot hlast hfits hidle
    exact exec_admitted rfl rfl (by decide) h (effSvcLoad_legal _ hslot hlast hfits hidle)
  case done =>
    intro w rest hqueue hprofile hblock hreset
    exact event_leaves hawake (evNorWriteDone_ok hqueue hprofile hblock hreset)
  case fails =>
    intro w rest t hqueue hticket
    exact event_leaves hawake (evNorWriteDone_fails hqueue hticket)
  case firmwareDone =>
    intro t k off bs rest hqueue
    exact event_leaves hawake (evNorWriteDone_ok hqueue nofun nofun nofun)
  case calDone =>
    intro t first es rest hqueue
    exact event_leaves hawake (evNorWriteDone_ok hqueue nofun nofun nofun)

end Sys2Proof.Machine
end
